-- ==== Sys2Proof/Word.lean ====
section
/-! DEFINITION. The byte, the byte string, the digest and the sparse map: the plain types every other file uses. -/

namespace Sys2Proof

/-- One byte. -/
abbrev Byte := BitVec 8

/-- A byte string, first byte first (R19). -/
abbrev Bytes := List (BitVec 8)

/-- A SHA-384 digest, a 384-bit key or any other 48-byte string, its first byte in the most significant place (R19). -/
abbrev Digest := BitVec 384

/-- A sparse map: pairs of a key and a value, in one canonical form (keys strictly rising, no entry equal to the map's
default). What an unlisted key reads as is said by each reader of the map. -/
abbrev SMap (α : Type) := List (Nat × α)

end Sys2Proof
end

