-- ==== Sys2Proof/Syntax.lean ====
section
/-! DEFINITION. The commands of the block: one constructor of `Instr` per row of spec/opcode_table.json, with the row's
operands. The table gives no operands; each operand here is what the rule of the row lets the sender decide or what
the world outside the block brings with the event (a reading, a host's bytes, a peer's frame). -/

namespace Sys2Proof

/-- A function of the PCIe device: the physical function or virtual function `n` (R241). -/
inductive Fn where | pf | vf (n : BitVec 7)
  deriving DecidableEq, Repr

/-- The path an envelope arrived on (Table 08-3). A management path carries the IPv6 source address (zero over
I3C/MCTP); an SPDM path carries the session index. -/
inductive Path where
  | pf | vf (n : BitVec 7) | mgmt (src : BitVec 128) | spdm (session : BitVec 4) | twin
  deriving DecidableEq, Repr

/-- The trailer of an envelope (R172): a CRC-32C with its four reserved bytes, or a 48-byte tag. -/
inductive Trailer where | crc (v rsv : BitVec 32) | tag (t : Digest)
  deriving DecidableEq, Repr

/-- An envelope as received (Table 08-1), but for OPCODE, which the command's constructor names. `replyMax` is the
entry's REPLY_MAX on a host ring, `replyFails` says that the host refuses the reply's write (R192). -/
structure Env where
  path      : Path
  magic     : BitVec 16
  version   : BitVec 8
  flags     : BitVec 8
  target    : BitVec 8
  cred      : BitVec 8
  seq       : BitVec 64
  franking  : BitVec 64
  length    : BitVec 32
  rsv1      : BitVec 32
  bootNonce : BitVec 64
  status    : BitVec 16
  rsv2      : BitVec 16
  detail    : BitVec 32
  rsv3      : BitVec 128
  payload   : Bytes
  trailer   : Trailer
  replyMax  : BitVec 32
  replyFails : Bool
  deriving DecidableEq, Repr

/-- A bounce record as it lies in host memory (Table 10-5). -/
structure BounceRec where
  magic   : BitVec 32
  version : BitVec 8
  kind    : BitVec 8
  rsv1    : BitVec 16
  len     : BitVec 32
  rsv2    : BitVec 32
  stream  : BitVec 32
  count   : BitVec 64
  rsv3    : BitVec 32
  cipher  : Bytes
  tag     : BitVec 128
  deriving DecidableEq, Repr

/-- What HT read where it looked for a structure of 32 or 64 bytes: nothing, cleartext bytes, or a bounce record. -/
inductive HostRead where | unreadable | timeout | plain (b : Bytes) | bounce (r : BounceRec)
  deriving DecidableEq, Repr

/-- What HT read at an entry's IN_ADDR. -/
inductive HostInput where | unreadable | timeout | plain (b : Bytes) | bounce (rs : List BounceRec)
  deriving DecidableEq, Repr

/-- A link or twin frame as it arrives (Table 10-6), the payload still ciphertext. -/
structure WireFrame where
  ftype   : BitVec 8
  cls     : BitVec 8
  hops    : BitVec 8
  rsv1    : BitVec 8
  dst     : BitVec 16
  src     : BitVec 16
  counter : BitVec 64
  length  : BitVec 16
  channel : BitVec 16
  rsv2    : BitVec 96
  cipher  : Bytes
  tag     : BitVec 128
  deriving DecidableEq, Repr

/-- A scalar slot of an S-form word, but for its SOP (Table 11-6). `rsv` holds bits [b+1:b], reserved in slots 1–3. -/
structure SSlot where
  slot   : BitVec 2
  rsv    : BitVec 2
  pred   : BitVec 3
  pbit   : BitVec 6
  pneg   : Bool
  rd     : BitVec 5
  ra     : BitVec 5
  rb     : BitVec 5
  immsel : Bool
  imm    : BitVec 30
  deriving DecidableEq, Repr

/-- A C-form word, but for its COP (Table 11-6). -/
structure CWord where
  pred   : BitVec 3
  pbit   : BitVec 6
  pneg   : Bool
  ra     : BitVec 5
  rb     : BitVec 5
  rd     : BitVec 5
  cond   : BitVec 3
  target : BitVec 24
  rsv1   : BitVec 4
  imm16  : BitVec 16
  rsv2   : BitVec 176
  deriving DecidableEq, Repr

/-- An operand descriptor (Table 11-5). -/
structure Desc where
  base   : BitVec 5
  imm    : BitVec 23
  stride : BitVec 16
  space  : BitVec 2
  win    : BitVec 4
  rsv    : BitVec 2
  deriving DecidableEq, Repr

/-- A W-form word, but for its WOP (Table 11-4). -/
structure WWord where
  pred   : BitVec 3
  pneg   : Bool
  acc    : BitVec 3
  aclr   : Bool
  dtype  : BitVec 3
  nospec : Bool
  cache  : BitVec 2
  xtag   : BitVec 4
  mM1    : BitVec 6
  nM1    : BitVec 6
  kM1    : BitVec 16
  da     : Desc
  db     : Desc
  dd     : Desc
  mrow   : BitVec 3
  mcol   : BitVec 3
  smode  : BitVec 2
  shift  : BitVec 6
  sreg   : BitVec 6
  zp     : BitVec 8
  rsv    : BitVec 18
  deriving DecidableEq, Repr

/-- A rail of Table 02-8. -/
inductive Rail where | aon | hub | tile | serdes | hbmq | io | fuse
  deriving DecidableEq, Repr

/-- What the world and the parts of the device outside this model's rules decide of one boot (chapter 04): which
tests pass, which units fail, what the DRBG and the owner layer supply. `milestone` is how far the boot gets before
the next command (5 is host-ready); `stop` says that it stops there. -/
structure BootEnv where
  milestone  : BitVec 3
  romOk      : Bool            -- ROM self-digest
  katOk      : Bool            -- known-answer and entropy start-up tests
  flashOk    : Bool            -- the flash answers
  ownerReady : Bool            -- the owner layer reports ready within 50 ms
  copyBadMt  : BitVec 8        -- controllers whose MTF copy digest differs
  copyBadT   : BitVec 8        -- tiles whose TSF copy digest differs
  trainBad   : BitVec 8        -- stacks that fail training
  bistBad    : BitVec 8        -- tiles that fail BIST
  ownerEvents : List (BitVec 8 × Digest × Bytes) -- PM_5 and PM_16–PM_31 extensions
  marginBad  : Bool            -- the journal tail fails its margin blank-check (R425)
  deriving DecidableEq, Repr

/-- What the AOB senses of the fuse array at a release of internal reset (R99): cells of the canary rows that misread
at either reference and cells elsewhere whose read differs from the array. -/
structure SenseEnv where
  testSel : BitVec 2          -- TEST_SEL1, TEST_SEL0 as sampled (R35, R36)
  stuck0 : BitVec 256          -- columns whose sense line reads 0
  stuck1 : BitVec 256          -- columns whose sense line reads 1
  flips  : List (BitVec 8 × BitVec 8) -- single cells (row, column) that misread
  deriving DecidableEq, Repr

/-- A temperature sensor (R368). -/
inductive SensorId where | core (n : BitVec 7) | hub (n : BitVec 5) | stack (n : BitVec 3)
  deriving DecidableEq, Repr

/-- A memory request's requester (R226, R237, R238). -/
inductive Requester where
  | core (c : BitVec 7)       -- a tile request of core c
  | host (p : BitVec 7)       -- HT on behalf of partition p
  | engine (p : BitVec 7)     -- a digest-engine fragment of partition p
  | desk (p : BitVec 7)       -- the parcel desk, in p's shadow windows too
  | scrub (stack : BitVec 3)  -- the scrub engine's raw maintenance read (R24)
  deriving DecidableEq, Repr

/-- A memory request: requester, window, offset, length minus 1, the bytes to write (empty for a read), the kind of
slot it was issued in and the sideband errors its lines meet. -/
structure MemReq where
  who    : Requester
  win    : BitVec 4
  off    : BitVec 64
  lenM1  : BitVec 16
  write  : Option Bytes
  slot   : BitVec 2            -- 0 owner, 1 shared, 2 hub
  upset  : List (BitVec 30 × Bool) -- lines of the stack whose sideband fails; true: uncorrectable, false: corrected
  deriving DecidableEq, Repr

/-- The engines a parity fault can name (R169, Table 22-4). -/
inductive EngineId where | de (n : BitVec 3) | se | pke | drbg
  deriving DecidableEq, Repr

/-- A turnstile (R22). -/
inductive Turnstile where | mt (n : BitVec 3) | ht | lt (n : BitVec 4) | tt
  deriving DecidableEq, Repr

/-- Digest-engine START operands (Table 07-2). -/
inductive DigestAlg where | sha256 | sha384 | sha512
  deriving DecidableEq, Repr
inductive DigestMode where | plain | hmac | kdf
  deriving DecidableEq, Repr
inductive KeySource where | none | slot (n : BitVec 10) | hsb
  deriving DecidableEq, Repr
structure DeStartArgs where
  alg  : DigestAlg
  mode : DigestMode
  key  : KeySource
  l    : BitVec 10
  deriving DecidableEq, Repr

/-- Result routes (Table 07-5) with their targets. -/
inductive ResultRoute where
  | compareSram (addr : BitVec 21) | compareResult (n : BitVec 3) | compareBank (slot : BitVec 10) (target : Bool)
  | slot (n : BitVec 10) (pending : Bool) | wkr | keybus (engine : Turnstile) (p : BitVec 7)
  | postmark (i : BitVec 6) | pkeDigest | read (addr : BitVec 21)
  deriving DecidableEq, Repr

/-- Where an SE or PKE operation takes its key from: a slot on behalf of a caller. -/
structure Use where
  slot   : BitVec 10
  caller : BitVec 3            -- CALLER bit number − 16
  index  : BitVec 7
  world  : BitVec 2            -- WORLD bit number − 12
  ctx    : BitVec 4            -- the using context, for SEALED slots
  deriving DecidableEq, Repr

/-- What the read of a parcel part gave: bytes, or a failed host read. -/
inductive ParcelRead where | fail | bytes (b : Bytes)
  deriving DecidableEq, Repr

/-- A prefix of a Router Advertisement. -/
structure RaPrefix where
  pre  : BitVec 64
  len  : BitVec 8
  auto : Bool
  deriving DecidableEq, Repr

/-- Why a management frame is discarded (R436, R437, R439, R175). -/
inductive Discard where | protocol | length | rate | badTag | other
  deriving DecidableEq, Repr


/-- A reading of a plate thermistor (R55, R56). -/
inductive ThSample where | open_ | short | temp (t : BitVec 16)
  deriving DecidableEq, Repr

/-- What a frame edge brings from outside: the thermistor samples, and the bytes patrol meets damaged. -/
structure FrameEnv where
  thIn     : ThSample
  thOut    : ThSample
  reseedOk : Bool              -- the DRBG's frame reseed meets no health-test failure
  upset    : List (BitVec 3 × BitVec 30 × Bool) -- patrolled lines whose sideband fails; true: uncorrectable
  deriving DecidableEq, Repr

/-- What a domain's start brings: tests that pass, and a start that fails. -/
structure DomainEnv where
  ok : Bool
  deriving DecidableEq, Repr

/-- What a model tick measures: the traffic of each stack in GB/s and the HBM and link power. -/
structure ModelEnv where
  traffic : List (BitVec 16)
  linkMw  : BitVec 32
  deriving DecidableEq, Repr

/-- One fragment descriptor of a digest engine's DATA (Table 07-3), with the bytes that the host or the parcel desk's
fetch buffer holds there (spaces 0x2 and 0x3). -/
structure DeFrag where
  addr   : BitVec 64
  lenM1  : BitVec 24
  space  : BitVec 4
  window : BitVec 4
  part   : BitVec 7
  last   : Bool
  rsv    : BitVec 24
  data   : Bytes
  deriving DecidableEq, Repr

/-- An SE GCM operation (R160), under a slot's key or under what the WKR holds. -/
structure SeGcmOp where
  use     : Option Use
  decrypt : Bool
  iv      : BitVec 96
  aad     : Bytes
  text    : Bytes
  tag     : BitVec 128
  dst     : BitVec 21
  deriving DecidableEq, Repr

/-- An SE XTS operation (R161). -/
structure SeXtsOp where
  decrypt : Bool
  tweak   : BitVec 128
  text    : Bytes
  dst     : BitVec 21
  deriving DecidableEq, Repr

/-- What SE wraps (R162). -/
inductive KwSource where | bank (slot : BitVec 10) (pending : Bool) | record (addr : BitVec 21) (len : BitVec 10)
  deriving DecidableEq, Repr

/-- Where SE unwraps to (R162). -/
inductive KwTarget where | bank (slot : BitVec 10) (pending : Bool) | wkr
  deriving DecidableEq, Repr

/-- An SPDM request: version, Param1, Param2 and the bytes after the header; the session it arrived in, if any. -/
structure SpdmMsg where
  version : BitVec 8
  code    : BitVec 8
  param1  : BitVec 8
  param2  : BitVec 8
  body    : Bytes
  session : Option (BitVec 4)
  deriving DecidableEq, Repr

/-- The commands, in the table's order. -/
inductive Instr where
  /-- PWR_OK_FALL, R49. -/
  | pwrOkFall
  /-- BROWNOUT, R49. -/
  | brownout (r : Rail)
  /-- PWR_OK_RISE, R57. -/
  | pwrOkRise
  /-- SYS_RST_N_LOW, R50. -/
  | sysRstNLow
  /-- SYS_RST_N_RISE, R47. -/
  | sysRstNRise
  /-- INTERNAL_RESET_RELEASE, R47. -/
  | internalResetRelease (sense : SenseEnv) (boot : BootEnv)
  /-- PD3_READY, R52. -/
  | pd3Ready
  /-- PERST_N_LOW, R51. -/
  | perstNLow
  /-- PERST_N_RISE, R52. -/
  | perstNRise
  /-- CONFIG_REQUEST, R96. -/
  | configRequest (fn : Fn) (numVfs : Option (BitVec 8))
  /-- TAMPER, R75. -/
  | tamper
  /-- VDD_FUSE_UNEXPECTED, R44. -/
  | vddFuseUnexpected
  /-- VDD_FUSE_READY, R43. -/
  | vddFuseReady
  /-- VDD_FUSE_TIMEOUT, R43. -/
  | vddFuseTimeout
  /-- XT32_LOST, R68. -/
  | xt32Lost
  /-- HOSC_DISCIPLINE, R70. -/
  | hoscDiscipline (ppm : BitVec 16)
  /-- FRAME_EDGE, R69. -/
  | frameEdge (env : FrameEnv)
  /-- PERIOD_BOUNDARY, R288. -/
  | periodBoundary (p : BitVec 7)
  /-- PD1_SLEEP, R62. -/
  | pd1Sleep
  /-- DOMAIN_READY, R74. -/
  | domainReady (pd : BitVec 5) (env : DomainEnv)
  /-- TILE_IDLE_POWER_DOWN, R63. -/
  | tileIdlePowerDown (t : BitVec 3)
  /-- PD2_POWER_DOWN, R63. -/
  | pd2PowerDown
  /-- STACK_SR_HOLD, R63. -/
  | stackSrHold (n : BitVec 3)
  /-- STACK_TEMP_POLL, R368. -/
  | stackTempPoll (n : BitVec 3) (temp : BitVec 16)
  /-- PROGRAM_RELOAD, R67. -/
  | programReload (c : BitVec 7) (upset : List (BitVec 30 × Bool))
  /-- CORE_GATE, R72. -/
  | coreGate (c : BitVec 7)
  /-- CORE_WAKE, R72. -/
  | coreWake (c : BitVec 7)
  /-- SENSOR_SAMPLE, R368. -/
  | sensorSample (id : SensorId) (temp : BitVec 16) (activity : BitVec 8)
  /-- MODEL_TICK, R372. -/
  | modelTick (env : ModelEnv)
  /-- FORECAST_TICK, R374. -/
  | forecastTick
  /-- PRE_THROTTLE, R375. -/
  | preThrottle (c : BitVec 7)
  /-- FLOW_REPORT_STALE, R370. -/
  | flowReportStale
  /-- WATCHDOG_EXPIRY, R86. -/
  | watchdogExpiry
  /-- OWNER_LAYER_TIMEOUT, R98. -/
  | ownerLayerTimeout
  /-- BOOT_RESTART, R85. -/
  | bootRestart (boot : BootEnv)
  /-- LOCKSTEP_MISMATCH, R461. -/
  | lockstepMismatch
  /-- LOCKSTEP_RESUME, R461. -/
  | lockstepResume
  /-- LIVE_ACTIVATION, R433. -/
  | liveActivation
  /-- ACTIVATION_TIMEOUT, R433. -/
  | activationTimeout
  /-- ACTIVATION_END, R434. -/
  | activationEnd
  /-- LIFECYCLE_RESET, R111. -/
  | lifecycleReset
  /-- RECOVER_DEVICE_RESET, R475. -/
  | recoverDeviceReset
  /-- BANK_REPAIR, R425. -/
  | bankRepair (b : Bool)
  /-- WORK_DOORBELL, R279. -/
  | workDoorbell (fn : Fn) (ring : BitVec 6) (tail : BitVec 32)
  /-- ENV_DOORBELL, R191. -/
  | envDoorbell (fn : Fn) (tail : BitVec 32)
  /-- ENV_RING_ENABLE, R486. -/
  | envRingEnable (fn : Fn) (on : Bool)
  /-- WORK_RING_ENABLE, R486. -/
  | workRingEnable (fn : Fn) (ring : BitVec 6) (on : Bool)
  /-- COMPLETION_RING_ENABLE, R285. -/
  | completionRingEnable (fn : Fn) (on : Bool)
  /-- COMPLETION_HEAD_WRITE, R486. -/
  | completionHeadWrite (fn : Fn) (head : BitVec 32)
  /-- EVENT_CLEAR, R485. -/
  | eventClear (bits : BitVec 32)
  /-- INT_ENABLE_WRITE, R485. -/
  | intEnableWrite (v : BitVec 32)
  /-- REGISTER_WRITE, R482. -/
  | registerWrite (fn : Fn) (off : BitVec 32) (v : BitVec 64) (bytes : BitVec 4)
  /-- VF_FLR, R196. -/
  | vfFlr (n : BitVec 7)
  /-- PF_FLR, R464. -/
  | pfFlr
  /-- ENV_ENTRY_FETCH, R191. -/
  | envEntryFetch (fn : Fn) (entry env : HostRead) (replyMaxFails : Bool)
  /-- DESCRIPTOR_FETCH, R279. -/
  | descriptorFetch (fn : Fn) (ring : BitVec 6) (desc : HostRead) (input : HostInput)
  /-- ENTRY_POST, R282. -/
  | entryPost (fn : Fn) (ring : BitVec 6)
  /-- OUTPUT_COPY_DONE, R286. -/
  | outputCopyDone (fn : Fn) (hostOk : Bool)
  /-- GRID_RELEASE, R188. -/
  | gridRelease
  /-- REFUSED_RELEASE, R189. -/
  | refusedRelease
  /-- HOST_COMPLETION_TIMEOUT, R456. -/
  | hostCompletionTimeout (fn : Fn) (ring : BitVec 6)
  /-- POSTED_CREDIT_STALL, R456. -/
  | postedCreditStall
  /-- MEMORY_REQUEST, R227. -/
  | memoryRequest (r : MemReq)
  /-- TURNSTILE_ENGINE_FAULT, R27. -/
  | turnstileEngineFault (t : Turnstile)
  /-- ENGINE_PARITY, R169. -/
  | engineParity (e : EngineId) (katOk : Bool)
  /-- ENTROPY_HEALTH_FAIL, R168. -/
  | entropyHealthFail
  /-- ENTROPY_RETEST_DONE, R168. -/
  | entropyRetestDone (ok : Bool)
  /-- HSB_EXPIRY, R165. -/
  | hsbExpiry
  /-- DE_START, R149. -/
  | deStart (n : BitVec 3) (args : DeStartArgs)
  /-- DE_DATA, R151. -/
  | deData (n : BitVec 3) (frags : List DeFrag)
  /-- DE_FINISH, R153. -/
  | deFinish (n : BitVec 3)
  /-- DE_ROUTE, R155. -/
  | deRoute (n : BitVec 3) (route : ResultRoute)
  /-- DE_ABORT, R149. -/
  | deAbort (n : BitVec 3)
  /-- WKR_LOAD, R130. -/
  | wkrLoad (use : Use) (useBit : BitVec 4)
  /-- SE_GCM, R160. -/
  | seGcm (op : SeGcmOp)
  /-- SE_XTS, R161. -/
  | seXts (op : SeXtsOp)
  /-- SE_KW_WRAP, R162. -/
  | seKwWrap (src : KwSource) (dst : BitVec 21)
  /-- SE_KW_UNWRAP, R162. -/
  | seKwUnwrap (cipher : Bytes) (dst : KwTarget)
  /-- ECDSA_SIGN, R163. -/
  | ecdsaSign (use : Use) (digest : Digest)
  /-- ECDSA_VERIFY, R163. -/
  | ecdsaVerify (pub : Bytes) (digest : Digest) (sig : Bytes)
  /-- ECDH, R165. -/
  | ecdh (use : Use) (peer : Bytes)
  /-- MLDSA_KEYGEN, R163. -/
  | mldsaKeygen (seed : BitVec 256)
  /-- MLDSA_SIGN, R164. -/
  | mldsaSign (use : Use) (digest : Bytes) (ctx : Bytes)
  /-- MLDSA_VERIFY, R163. -/
  | mldsaVerify (pub msg ctx sig : Bytes)
  /-- MLKEM_KEYGEN, R163. -/
  | mlkemKeygen
  /-- MLKEM_ENCAPS, R163. -/
  | mlkemEncaps (pub : Bytes)
  /-- MLKEM_DECAPS, R165. -/
  | mlkemDecaps (use : Use) (ct : Bytes)
  /-- DRBG_GENERATE, R166. -/
  | drbgGenerate (lenM1 : BitVec 16) (reseedOk : Bool)
  /-- PKE_MARK, R304. -/
  | pkeMark
  /-- ADMISSION_START, R303. -/
  | admissionStart (hd : Digest)
  /-- CHUNK_COMPLETE, R303. -/
  | chunkComplete (lane : BitVec 3) (read : ParcelRead)
  /-- ADMISSION_RELEASE, R306. -/
  | admissionRelease (p : BitVec 7) (window : BitVec 4)
  /-- SCRUB_COMPLETE, R324. -/
  | scrubComplete (rtype : BitVec 8) (rid : BitVec 32) (ok : Bool) (durUs : BitVec 32)
  /-- SESSION_TIMEOUT, R349. -/
  | sessionTimeout (n : BitVec 4)
  /-- REPORT_EXPIRY, R353. -/
  | reportExpiry (n : BitVec 4)
  /-- MIRROR_ACK_TIMEOUT, R394. -/
  | mirrorAckTimeout
  /-- LEASE_TICK, R391. -/
  | leaseTick
  /-- LEASE_FRAME, R391. -/
  | leaseFrame (f : WireFrame)
  /-- LEASE_EXPIRY, R396. -/
  | leaseExpiry
  /-- REJOIN_HOLD_EXPIRY, R398. -/
  | rejoinHoldExpiry
  /-- TWIN_PORT_TRAINED, R398. -/
  | twinPortTrained
  /-- H0, R388. -/
  | h0 (msg : Bytes)
  /-- H1, R388. -/
  | h1 (msg : Bytes)
  /-- H2, R389. -/
  | h2 (msg : Bytes)
  /-- H3, R390. -/
  | h3 (msg : Bytes)
  /-- PAIRING_RETRY, R389. -/
  | pairingRetry
  /-- PAIRING_TIMEOUT, R390. -/
  | pairingTimeout
  /-- MIRROR_RECORD, R393. -/
  | mirrorRecord (f : WireFrame)
  /-- LINK_TRAINED, R407. -/
  | linkTrained (n : BitVec 4)
  /-- LINK_DOWN, R420. -/
  | linkDown (n : BitVec 4)
  /-- L0, R406. -/
  | l0 (n : BitVec 4) (msg : Bytes)
  /-- L1, R405. -/
  | l1 (n : BitVec 4) (msg : Bytes)
  /-- L2, R405. -/
  | l2 (n : BitVec 4) (msg : Bytes)
  /-- L3, R407. -/
  | l3 (n : BitVec 4) (msg : Bytes)
  /-- LINK_READY, R407. -/
  | linkReady (n : BitVec 4) (f : WireFrame)
  /-- LINK_HANDSHAKE_RETRY, R405. -/
  | linkHandshakeRetry (n : BitVec 4)
  /-- HANDSHAKE_TIMEOUT, R407. -/
  | handshakeTimeout (n : BitVec 4)
  /-- REKEY_START, R249. -/
  | rekeyStart (port : Option (BitVec 4))
  /-- LINK_FRAME_SEND, R411. -/
  | linkFrameSend (port : Option (BitVec 4))
  /-- LINK_DATA_FRAME, R248. -/
  | linkDataFrame (n : BitVec 4) (f : WireFrame)
  /-- ACKNOWLEDGEMENT_FRAME, R247. -/
  | acknowledgementFrame (port : Option (BitVec 4)) (f : WireFrame)
  /-- LINK_REPLAY, R247. -/
  | linkReplay (port : Option (BitVec 4)) (counter : BitVec 64)
  /-- ADVERT_TICK, R408. -/
  | advertTick
  /-- ADVERT, R408. -/
  | advert (n : BitVec 4) (f : WireFrame)
  /-- REORDER_HOLD_EXPIRY, R410. -/
  | reorderHoldExpiry (post : BitVec 16)
  /-- UNREACHABLE_DISCARD, R410. -/
  | unreachableDiscard (post : BitVec 16)
  /-- JOIN, R413. -/
  | join (n : BitVec 4) (fs : List WireFrame)
  /-- JOIN_ACK, R413. -/
  | joinAck (n : BitVec 4) (f : WireFrame)
  /-- JOIN_REJECT, R413. -/
  | joinReject (n : BitVec 4) (f : WireFrame)
  /-- DIRECTORY_EXPIRY, R413. -/
  | directoryExpiry (post : BitVec 16)
  /-- LINK_LEAVE_FRAME, R420. -/
  | linkLeaveFrame (n : BitVec 4) (f : WireFrame)
  /-- CHANNEL_BLOCK_SEND, R416. -/
  | channelBlockSend (ch : BitVec 16)
  /-- CHANNEL_DATA_FRAME, R415. -/
  | channelDataFrame (n : BitVec 4) (f : WireFrame)
  /-- TOKEN_SIGNAL_FRAME, R291. -/
  | tokenSignalFrame (n : BitVec 4) (f : WireFrame)
  /-- CREDIT_FRAME, R416. -/
  | creditFrame (n : BitVec 4) (f : WireFrame)
  /-- ROLLUP_PERIOD_TICK, R350. -/
  | rollupPeriodTick
  /-- ROUND_OPEN, R350. -/
  | roundOpen (n : BitVec 4) (f : WireFrame)
  /-- MEMBER_STATEMENT, R350. -/
  | memberStatement (n : BitVec 4) (fs : List WireFrame)
  /-- ROUND_CLOSE, R351. -/
  | roundClose
  /-- ROLLUP_RECORD, R352. -/
  | rollupRecord (n : BitVec 4) (fs : List WireFrame)
  /-- ROLLUP_FETCH_REPLY, R352. -/
  | rollupFetchReply (n : BitVec 4) (fs : List WireFrame)
  /-- RD_S, R293. -/
  | rdS (tile : BitVec 3) (stack : BitVec 3) (line : BitVec 30) (part : BitVec 7)
  /-- RD_M, R293. -/
  | rdM (tile : BitVec 3) (stack : BitVec 3) (line : BitVec 30) (part : BitVec 7)
  /-- EVICT, R294. -/
  | evict (tile : BitVec 3) (stack : BitVec 3) (line : BitVec 30)
  /-- WB, R294. -/
  | wb (tile : BitVec 3) (stack : BitVec 3) (line : BitVec 30) (part : BitVec 7)
  /-- SNP_INV, R293. -/
  | snpInv (tile : BitVec 3) (stack : BitVec 3) (line : BitVec 30)
  /-- SNP_FETCH, R293. -/
  | snpFetch (tile : BitVec 3) (stack : BitVec 3) (line : BitVec 30)
  /-- ACK, R294. -/
  | ack (sid : BitVec 12) (data : Bool)
  /-- NOT_PRESENT, R294. -/
  | notPresent (sid : BitVec 12)
  /-- WNOP, R258. -/
  | wnop (c : BitVec 7) (w : WWord)
  /-- MMA, R262. -/
  | mma (c : BitVec 7) (w : WWord)
  /-- ACCRD, R263. -/
  | accrd (c : BitVec 7) (w : WWord)
  /-- ACCWR, R263. -/
  | accwr (c : BitVec 7) (w : WWord)
  /-- VADD, R264. -/
  | vadd (c : BitVec 7) (w : WWord)
  /-- VSUB, R264. -/
  | vsub (c : BitVec 7) (w : WWord)
  /-- VMUL, R264. -/
  | vmul (c : BitVec 7) (w : WWord)
  /-- VMAX, R264. -/
  | vmax (c : BitVec 7) (w : WWord)
  /-- VMIN, R264. -/
  | vmin (c : BitVec 7) (w : WWord)
  /-- VAND, R264. -/
  | vand (c : BitVec 7) (w : WWord)
  /-- VOR, R264. -/
  | vor (c : BitVec 7) (w : WWord)
  /-- VXOR, R264. -/
  | vxor (c : BitVec 7) (w : WWord)
  /-- VSHR, R264. -/
  | vshr (c : BitVec 7) (w : WWord)
  /-- VSHL, R264. -/
  | vshl (c : BitVec 7) (w : WWord)
  /-- VCMPGT, R264. -/
  | vcmpgt (c : BitVec 7) (w : WWord)
  /-- VCMPEQ, R264. -/
  | vcmpeq (c : BitVec 7) (w : WWord)
  /-- VSEL, R264. -/
  | vsel (c : BitVec 7) (w : WWord)
  /-- WLS, R267. -/
  | wls (c : BitVec 7) (w : WWord)
  /-- WSS, R267. -/
  | wss (c : BitVec 7) (w : WWord)
  /-- XLD, R265. -/
  | xld (c : BitVec 7) (w : WWord)
  /-- XLD_LINE_ARRIVAL, R271. -/
  | xldLineArrival (c : BitVec 7) (tag : BitVec 4) (index : BitVec 16) (upset : List (BitVec 30 × Bool))
  /-- XST, R265. -/
  | xst (c : BitVec 7) (w : WWord)
  /-- XST_RESPONSE, R272. -/
  | xstResponse (c : BitVec 7) (tag : BitVec 4) (index : BitVec 16) (upset : List (BitVec 30 × Bool))
  /-- SNOP, R260. -/
  | snop (c : BitVec 7) (i : SSlot)
  /-- ADD, R260. -/
  | add (c : BitVec 7) (i : SSlot)
  /-- SUB, R260. -/
  | sub (c : BitVec 7) (i : SSlot)
  /-- MUL, R260. -/
  | mul (c : BitVec 7) (i : SSlot)
  /-- MULH, R260. -/
  | mulh (c : BitVec 7) (i : SSlot)
  /-- AND, R260. -/
  | and (c : BitVec 7) (i : SSlot)
  /-- OR, R260. -/
  | or (c : BitVec 7) (i : SSlot)
  /-- XOR, R260. -/
  | xor (c : BitVec 7) (i : SSlot)
  /-- SHL, R260. -/
  | shl (c : BitVec 7) (i : SSlot)
  /-- SHR, R260. -/
  | shr (c : BitVec 7) (i : SSlot)
  /-- SAR, R260. -/
  | sar (c : BitVec 7) (i : SSlot)
  /-- MIN, R260. -/
  | min (c : BitVec 7) (i : SSlot)
  /-- MAX, R260. -/
  | max (c : BitVec 7) (i : SSlot)
  /-- SLT, R260. -/
  | slt (c : BitVec 7) (i : SSlot)
  /-- SLTU, R260. -/
  | sltu (c : BitVec 7) (i : SSlot)
  /-- SEQ, R260. -/
  | seq (c : BitVec 7) (i : SSlot)
  /-- LDI, R260. -/
  | ldi (c : BitVec 7) (i : SSlot)
  /-- LDHI, R260. -/
  | ldhi (c : BitVec 7) (i : SSlot)
  /-- LDS, R267. -/
  | lds (c : BitVec 7) (i : SSlot)
  /-- STS, R267. -/
  | sts (c : BitVec 7) (i : SSlot)
  /-- MSET, R260. -/
  | mset (c : BitVec 7) (i : SSlot)
  /-- MGET, R260. -/
  | mget (c : BitVec 7) (i : SSlot)
  /-- CSRR, R253. -/
  | csrr (c : BitVec 7) (i : SSlot)
  /-- CNOP, R261. -/
  | cnop (c : BitVec 7) (i : CWord)
  /-- BR, R274. -/
  | br (c : BitVec 7) (i : CWord)
  /-- CALL, R274. -/
  | call (c : BitVec 7) (i : CWord)
  /-- RET, R274. -/
  | ret (c : BitVec 7) (i : CWord)
  /-- JR, R274. -/
  | jr (c : BitVec 7) (i : CWord)
  /-- QTAKE, R283. -/
  | qtake (c : BitVec 7) (i : CWord)
  /-- QDONE, R284. -/
  | qdone (c : BitVec 7) (i : CWord)
  /-- TWAIT, R290. -/
  | twait (c : BitVec 7) (i : CWord)
  /-- TSIG, R290. -/
  | tsig (c : BitVec 7) (i : CWord)
  /-- TTRY, R290. -/
  | ttry (c : BitVec 7) (i : CWord)
  /-- FENCE, R272. -/
  | fence (c : BitVec 7) (i : CWord)
  /-- XWAIT, R265. -/
  | xwait (c : BitVec 7) (i : CWord)
  /-- L2WB, R269. -/
  | l2wb (c : BitVec 7) (i : CWord)
  /-- DEVICE_INFO_GET, R183. -/
  | deviceInfoGet (e : Env)
  /-- DEADLETTER_READ, R201. -/
  | deadletterRead (e : Env)
  /-- FAULT_LOG_READ, R462. -/
  | faultLogRead (e : Env)
  /-- RECOVER, R475. -/
  | recover (e : Env)
  /-- POWER_POLICY_SET, R474. -/
  | powerPolicySet (e : Env)
  /-- POWER_POLICY_GET, R474. -/
  | powerPolicyGet (e : Env)
  /-- MGMT_NET_SET, R438. -/
  | mgmtNetSet (e : Env)
  /-- MGMT_NET_APPLY, R438. -/
  | mgmtNetApply
  /-- MGMT_NET_GET, R438. -/
  | mgmtNetGet (e : Env)
  /-- MGMT_ALERT_ACK, R441. -/
  | mgmtAlertAck (e : Env)
  /-- WRAP_ESTABLISH, R443. -/
  | wrapEstablish (e : Env)
  /-- FUSE_SUMMARY_GET, R125. -/
  | fuseSummaryGet (e : Env)
  /-- FUSE_NONCE_GET, R115. -/
  | fuseNonceGet (e : Env)
  /-- FUSE_ACTION, R116. -/
  | fuseAction (e : Env)
  /-- KEY_INSTALL, R138. -/
  | keyInstall (e : Env)
  /-- KEY_REPLACE, R140. -/
  | keyReplace (e : Env)
  /-- KEY_DESTROY, R145. -/
  | keyDestroy (e : Env)
  /-- KEY_ABANDON_PENDING, R141. -/
  | keyAbandonPending (e : Env)
  /-- KEY_INFO, R498. -/
  | keyInfo (e : Env)
  /-- KEY_SEAL_EXPORT, R136. -/
  | keySealExport (e : Env)
  /-- KEY_SEAL_IMPORT, R136. -/
  | keySealImport (e : Env)
  /-- PARTITION_CREATE, R205. -/
  | partitionCreate (e : Env)
  /-- PARTITION_DESTROY, R207. -/
  | partitionDestroy (e : Env)
  /-- PARTITION_STATUS_GET, R223. -/
  | partitionStatusGet (e : Env)
  /-- PARTITION_GRANT, R213. -/
  | partitionGrant (e : Env)
  /-- PARTITION_REVOKE, R214. -/
  | partitionRevoke (e : Env)
  /-- PARTITION_MODE_SET, R208. -/
  | partitionModeSet (e : Env)
  /-- PARTITION_START, R206. -/
  | partitionStart (e : Env)
  /-- PARTITION_STOP, R207. -/
  | partitionStop (e : Env)
  /-- CONTEXT_CREATE, R496. -/
  | contextCreate (e : Env)
  /-- CONTEXT_DESTROY, R496. -/
  | contextDestroy (e : Env)
  /-- CONTEXT_SWITCH, R496. -/
  | contextSwitch (e : Env)
  /-- ARBITRATION_SET, R239. -/
  | arbitrationSet (e : Env)
  /-- EPOCH_COMMIT, R218. -/
  | epochCommit (e : Env)
  /-- EPOCH_ROLLBACK, R220. -/
  | epochRollback (e : Env)
  /-- EPOCH_STATUS_GET, R223. -/
  | epochStatusGet (e : Env)
  /-- PROGRAM_BIND, R255. -/
  | programBind (e : Env)
  /-- PROGRAM_UNBIND, R255. -/
  | programUnbind (e : Env)
  /-- PARCEL_POLICY_SET, R300. -/
  | parcelPolicySet (e : Env)
  /-- PARCEL_ADMIT, R302. -/
  | parcelAdmit (e : Env)
  /-- PARCEL_STATUS_GET, R478. -/
  | parcelStatusGet (e : Env)
  /-- PARCEL_EVICT, R315. -/
  | parcelEvict (e : Env)
  /-- PARCEL_PIN, R314. -/
  | parcelPin (e : Env)
  /-- PARCEL_UNBIND, R317. -/
  | parcelUnbind (e : Env)
  /-- CIRCLE_CREATE, R310. -/
  | circleCreate (e : Env)
  /-- CIRCLE_JOIN, R311. -/
  | circleJoin (e : Env)
  /-- CIRCLE_LEAVE, R313. -/
  | circleLeave (e : Env)
  /-- CIRCLE_STATUS_GET, R478. -/
  | circleStatusGet (e : Env)
  /-- REPORT_GET, R338. -/
  | reportGet (e : Env)
  /-- REPORT_READ, R353. -/
  | reportRead (e : Env)
  /-- CERT_CHAIN_GET, R479. -/
  | certChainGet (e : Env)
  /-- IDENTITY_CSR_GET, R333. -/
  | identityCsrGet (e : Env)
  /-- IDENTITY_CERT_SET, R333. -/
  | identityCertSet (e : Env)
  /-- TENANT_BIND, R348. -/
  | tenantBind (e : Env)
  /-- POSTCARD_GET, R344. -/
  | postcardGet (e : Env)
  /-- HEARTBEAT_GET, R345. -/
  | heartbeatGet (e : Env)
  /-- POSTMARK_LOG_READ, R343. -/
  | postmarkLogRead (e : Env)
  /-- ROLLUP_START, R350. -/
  | rollupStart (e : Env)
  /-- ROLLUP_GET, R352. -/
  | rollupGet (e : Env)
  /-- UPDATE_BEGIN, R431. -/
  | updateBegin (e : Env)
  /-- UPDATE_WRITE, R431. -/
  | updateWrite (e : Env)
  /-- UPDATE_FINISH, R431. -/
  | updateFinish (e : Env)
  /-- UPDATE_ACTIVATE, R431. -/
  | updateActivate (e : Env)
  /-- UPDATE_COMMIT, R431. -/
  | updateCommit (e : Env)
  /-- UPDATE_ROLLBACK, R431. -/
  | updateRollback (e : Env)
  /-- UPDATE_DISCARD, R431. -/
  | updateDiscard (e : Env)
  /-- UPDATE_STATUS_GET, R431. -/
  | updateStatusGet (e : Env)
  /-- COUNTER_REANCHOR, R429. -/
  | counterReanchor (e : Env)
  /-- THERMAL_PLAN_SET, R373. -/
  | thermalPlanSet (e : Env)
  /-- COOLANT_REPORT, R370. -/
  | coolantReport (e : Env)
  /-- CAROUSEL_SET, R381. -/
  | carouselSet (e : Env)
  /-- THERMAL_STATUS_GET, R385. -/
  | thermalStatusGet (e : Env)
  /-- THROTTLE_SET, R385. -/
  | throttleSet (e : Env)
  /-- TWIN_BOND_SET, R387. -/
  | twinBondSet (e : Env)
  /-- TWIN_BOND_CLEAR, R387. -/
  | twinBondClear (e : Env)
  /-- TWIN_STATUS_GET, R402. -/
  | twinStatusGet (e : Env)
  /-- TWIN_SHADOW_READ, R397. -/
  | twinShadowRead (e : Env)
  /-- TWIN_LOG_READ, R400. -/
  | twinLogRead (e : Env)
  /-- TWIN_SWITCHOVER, R401. -/
  | twinSwitchover (e : Env)
  /-- PAIR_CONFIRM, R390. -/
  | pairConfirm (e : Env)
  /-- RECONCILE, R399. -/
  | reconcile (e : Env)
  /-- SWITCHOVER_OFFER, R401. -/
  | switchoverOffer (e : Env)
  /-- LEAVE, R396. -/
  | leave (e : Env)
  /-- CARAVAN_JOIN_SET, R403. -/
  | caravanJoinSet (e : Env)
  /-- CARAVAN_LEAVE, R403. -/
  | caravanLeave (e : Env)
  /-- CARAVAN_STATUS_GET, R403. -/
  | caravanStatusGet (e : Env)
  /-- CHANNEL_SET, R418. -/
  | channelSet (e : Env)
  /-- CHANNEL_CLEAR, R419. -/
  | channelClear (e : Env)
  /-- ROUTE_TABLE_READ, R408. -/
  | routeTableRead (e : Env)
  /-- CARAVAN_LOG_READ, R473. -/
  | caravanLogRead (e : Env)
  /-- SCRUB_STATUS_GET, R322. -/
  | scrubStatusGet (e : Env)
  /-- SCRUB_LOG_READ, R325. -/
  | scrubLogRead (e : Env)
  /-- UPKEEP_SET, R327. -/
  | upkeepSet (e : Env)
  /-- DEBUG_STATE_SET, R449. -/
  | debugStateSet (e : Env)
  /-- DEBUG_HALT, R450. -/
  | debugHalt (e : Env)
  /-- DEBUG_RESUME, R450. -/
  | debugResume (e : Env)
  /-- DEBUG_READ, R450. -/
  | debugRead (e : Env)
  /-- DEBUG_WRITE, R450. -/
  | debugWrite (e : Env)
  /-- DEBUG_FAULT_POLICY, R450. -/
  | debugFaultPolicy (e : Env)
  /-- DEBUG_TRACE_SET, R450. -/
  | debugTraceSet (e : Env)
  /-- PERIOD_SET, R287. -/
  | periodSet (e : Env)
  /-- PERIOD_STATUS_GET, R287. -/
  | periodStatusGet (e : Env)
  /-- TOKEN_SIGNAL, R480. -/
  | tokenSignal (e : Env)
  /-- TOKEN_STATUS_GET, R480. -/
  | tokenStatusGet (e : Env)
  /-- TOKEN_IMPORT_SET, R480. -/
  | tokenImportSet (e : Env)
  /-- TOKEN_PAGE_SET, R292. -/
  | tokenPageSet (e : Env)
  /-- GET_VERSION, R346. -/
  | getVersion (m : SpdmMsg)
  /-- GET_CAPABILITIES, R346. -/
  | getCapabilities (m : SpdmMsg)
  /-- NEGOTIATE_ALGORITHMS, R346. -/
  | negotiateAlgorithms (m : SpdmMsg)
  /-- GET_DIGESTS, R334. -/
  | getDigests (m : SpdmMsg)
  /-- GET_CERTIFICATE, R334. -/
  | getCertificate (m : SpdmMsg)
  /-- CHALLENGE, R346. -/
  | challenge (m : SpdmMsg)
  /-- GET_MEASUREMENTS, R346. -/
  | getMeasurements (m : SpdmMsg)
  /-- KEY_EXCHANGE, R347. -/
  | keyExchange (m : SpdmMsg)
  /-- FINISH, R348. -/
  | finish (m : SpdmMsg) (leaf : Bytes)
  /-- HEARTBEAT, R346. -/
  | heartbeat (m : SpdmMsg)
  /-- KEY_UPDATE, R346. -/
  | keyUpdate (m : SpdmMsg)
  /-- END_SESSION, R349. -/
  | endSession (m : SpdmMsg)
  /-- CHUNK_SEND, R346. -/
  | chunkSend (m : SpdmMsg)
  /-- CHUNK_GET, R346. -/
  | chunkGet (m : SpdmMsg)
  /-- SPDM_UNSUPPORTED_REQUEST, R346. -/
  | spdmUnsupportedRequest (m : SpdmMsg)
  /-- SET_ENDPOINT_ID, R440. -/
  | setEndpointId (op eid : BitVec 8)
  /-- GET_ENDPOINT_ID, R440. -/
  | getEndpointId
  /-- GET_ENDPOINT_UUID, R440. -/
  | getEndpointUuid
  /-- GET_MCTP_VERSION_SUPPORT, R440. -/
  | getMctpVersionSupport (mtype : BitVec 8)
  /-- GET_MESSAGE_TYPE_SUPPORT, R440. -/
  | getMessageTypeSupport
  /-- SETDASA, R440. -/
  | setdasa (addr : BitVec 7)
  /-- ENTDAA, R440. -/
  | entdaa (addr : BitVec 7)
  /-- GET_TID, R448. -/
  | getTid
  /-- SET_TID, R448. -/
  | setTid (tid : BitVec 8)
  /-- GET_PLDM_VERSION, R448. -/
  | getPldmVersion (ptype : BitVec 8)
  /-- GET_PLDM_TYPES, R448. -/
  | getPldmTypes
  /-- GET_PLDM_COMMANDS, R448. -/
  | getPldmCommands (ptype : BitVec 8)
  /-- GET_PDR_REPOSITORY_INFO, R448. -/
  | getPdrRepositoryInfo
  /-- GET_PDR, R448. -/
  | getPdr (handle : BitVec 32)
  /-- GET_SENSOR_READING, R448. -/
  | getSensorReading (id : BitVec 16)
  /-- GET_STATE_SENSOR_READINGS, R448. -/
  | getStateSensorReadings (id : BitVec 16)
  /-- NEIGHBOR_SOLICITATION, R436. -/
  | neighborSolicitation (src target : BitVec 128)
  /-- ROUTER_ADVERTISEMENT, R436. -/
  | routerAdvertisement (src : BitVec 128) (prefixes : List RaPrefix)
  /-- ECHO_REQUEST, R436. -/
  | echoRequest (src dst : BitVec 128) (data : Bytes)
  /-- REASSEMBLY_TIMEOUT, R436. -/
  | reassemblyTimeout
  /-- MGMT_DISCARD, R436. -/
  | mgmtDiscard (why : Discard)
  /-- VDD_AON_RISE, R76. -/
  | vddAonRise (crcOk : Bool)
  /-- XT32_CRYSTAL_START, R68. -/
  | xt32CrystalStart
  /-- TAMPER_N_LOW, R75. -/
  | tamperNLow
  /-- FUSE_PROGRAM_DONE, R118. -/
  | fuseProgramDone (bad : List (BitVec 8 × BitVec 8))
  /-- FLASH_JOB_DONE, R422. -/
  | flashJobDone (ok : Bool)
  /-- DAD_COMPLETE, R436. -/
  | dadComplete (ip : BitVec 128) (dup : Bool)
  /-- TURNSTILE_BACK_IN_SERVICE, R326. -/
  | turnstileBackInService (t : Turnstile)
  deriving DecidableEq, Repr

end Sys2Proof
end

