-- ==== Sys2Proof/Config.lean ====
section
/-! DEFINITION. What the model leaves open. A constant without a body is a value no proof can see: the published
cryptographic standards the spec names but does not restate, and the free values of behaviour the spec does not state.
The log entries that name each are 3 (cryptography), 4 (free values) and 5 (codes). -/

namespace Sys2Proof.Config

/-! ### Published hash functions (R151) -/

opaque sha256 : Bytes → BitVec 256
opaque sha384 : Bytes → Digest
opaque sha512 : Bytes → BitVec 512

/-! ### Ciphers. A cipher of one block size is a permutation, so decryption undoes encryption by its type. -/

/-- One AES-256-XTS data unit of `n` bytes under a 512-bit key and tweak (R159, R228). -/
opaque xtsUnit : (key : BitVec 512) → (tweak : BitVec 128) → (n : Nat) → Equiv.Perm (BitVec (8 * n))

/-- The data unit of one 64-byte line. -/
def xtsLine (key : BitVec 512) (tweak : BitVec 128) : Equiv.Perm (BitVec 512) := xtsUnit key tweak 64

/-- One byte of an AES-256-GCM key stream: key, IV, byte position. -/
opaque gcmStream : (key : BitVec 256) → (iv : BitVec 96) → Nat → BitVec 8

/-- The GCM tag of additional data and ciphertext under key and IV. -/
opaque gcmTag : (key : BitVec 256) → (iv : BitVec 96) → (aad cipher : Bytes) → BitVec 128

/-- The AES-KW permutation of `n` 64-bit words under a wrapping key. -/
opaque kw : (kek : BitVec 256) → (n : Nat) → Equiv.Perm (BitVec (64 * n))

/-- AES-256-CMAC. -/
opaque cmac : (key : BitVec 256) → Bytes → BitVec 128

/-! ### Public-key operations (R163–R165). The last argument of a randomised one is the index of its draw. -/

opaque ecdsaPublic : (priv : Digest) → Bytes
opaque ecdsaSign : (priv digest : Digest) → (draw : Nat) → Bytes
opaque ecdsaVerify : (pub : Bytes) → (digest : Digest) → (sig : Bytes) → Bool
/-- The shared x-coordinate, or none where the peer point fails its validation. -/
opaque ecdhShared : (priv : Digest) → (peer : Bytes) → Option Digest
opaque ecdhPublic : (priv : Digest) → Bytes
/-- ML-DSA-87 KeyGen_internal: public key from a seed. -/
opaque mldsaPublic : (seed : BitVec 256) → Bytes
/-- ML-DSA-87 signature, or none after 64 failed iterations (R164). -/
opaque mldsaSign : (seed : BitVec 256) → (msg ctx : Bytes) → (draw : Nat) → Option Bytes
opaque mldsaVerify : (pub msg ctx sig : Bytes) → Bool
/-- ML-KEM-1024 key pair: encapsulation key and decapsulation key. -/
opaque mlkemKeygen : (draw : Nat) → Bytes × Bytes
/-- ML-KEM-1024 KeyGen_internal from d ‖ z: encapsulation key and decapsulation key. -/
opaque mlkemExpand : (seed : Bytes) → Bytes × Bytes
/-- Ciphertext and shared secret, or none where the key fails its input check. -/
opaque mlkemEncaps : (ek : Bytes) → (draw : Nat) → Option (Bytes × BitVec 256)
opaque mlkemDecaps : (dk ct : Bytes) → BitVec 256

/-! ### Codes whose matrices the spec does not print -/

/-- Which arrangement of its check matrix the Hsiao (72,64) code takes (R100): the first eight entries choose the columns
of weight 5 beside the 56 of weight 3, and the second permutation orders the 64 data columns. -/
opaque hsiaoFives : Equiv.Perm (Fin 56)
opaque hsiaoOrder : Equiv.Perm (Fin 64)
/-- The BCH check bits of a root's data bits, and the decoded data with the number of corrections (R105). -/
opaque bchCheck : BitVec 384 → BitVec 250
opaque bchDecode : (cells erased : BitVec 640) → Option (BitVec 384 × Nat)

/-! ### What the mask ROM holds (R79, R90) -/

opaque romDigest : Digest
opaque romVersion : BitVec 32
/-- The digest of the Mladyo key of an index. -/
opaque mladyoDigest : Nat → Digest

/-! ### Free values: nothing constrains them -/

/-- Byte `j` of draw `i` of the DRBG. -/
opaque drawByte : (i j : Nat) → BitVec 8
/-- A remaining time in milliseconds or microseconds that the spec does not fix. -/
opaque remaining : (i : Nat) → Nat
/-- A value the spec leaves open, 64 bits. -/
opaque open64 : (i : Nat) → BitVec 64
/-- A temperature or temperature rise, in 0.001 K, that has moved toward a target for a time in milliseconds with a time
constant (R372): the spec states the constants, not how the steps are computed. -/
opaque lag : (tauMs ms : Nat) → (cur target : Int) → Int
/-- What MCTP and PLDM answer that the spec does not state (R440, R448): the endpoint UUID, protocol versions, the
repository's times and the bodies of the sensors' PDRs. -/
opaque endpointUuid : Nat → BitVec 8
opaque mctpVersion : (mtype : Nat) → BitVec 32
opaque pldmVersion : (ptype : Nat) → BitVec 64
opaque pdrTimes : Nat → BitVec 8
opaque pdrBody : (sensor : Nat) → List (BitVec 8)
/-- Whether a WFW of a build identifier declines the handoff record of the WFW it replaces (R435); the spec does not state
the record's versions. -/
opaque declinesHandoff : (build : BitVec 64) → Bool
/-- The NaN payload and the result of VMAX or VMIN with a NaN operand (R264). -/
opaque openNaN : (i : Nat) → BitVec 32

end Sys2Proof.Config
end

