-- ==== Sys2Proof/Machine/Bits.lean ====
section
/-! DEFINITION. Byte-order, bit-field and checksum helpers: little-endian fields (R19), the CRC-32C of a trailer (R172),
big-endian digests. -/

namespace Sys2Proof.Machine

/-- The little-endian value of a byte string. -/
def leNat : Bytes → Nat
  | [] => 0
  | b :: bs => b.toNat + 256 * leNat bs

/-- `n` little-endian bytes of a value. -/
def leBytes : Nat → Nat → Bytes
  | 0, _ => []
  | n + 1, v => BitVec.ofNat 8 v :: leBytes n (v / 256)

/-- The big-endian value of a byte string. -/
def beNat (b : Bytes) : Nat := leNat b.reverse

/-- `n` big-endian bytes of a value. -/
def beBytes (n v : Nat) : Bytes := (leBytes n v).reverse

/-- A run of bytes of a string. -/
def slice (b : Bytes) (off n : Nat) : Bytes := (b.drop off).take n

/-- The little-endian field of `n` bytes at an offset. -/
def fld (b : Bytes) (off n : Nat) : Nat := leNat (slice b off n)

/-- A byte of a string; zero past its end. -/
def byteAt (b : Bytes) (off : Nat) : Byte := b.getD off 0

/-- `n` zero bytes. -/
def zeros (n : Nat) : Bytes := List.replicate n 0

/-- A string cut or padded with zeros to a length. -/
def padTo (n : Nat) (b : Bytes) : Bytes := (b ++ zeros (n - b.length)).take n

/-- The 48-byte string at an offset, its first byte most significant. -/
def dig (b : Bytes) (off : Nat) : Digest := BitVec.ofNat 384 (beNat (slice b off 48))

/-- The bytes of a digest, the most significant first. -/
def digBytes (d : Digest) : Bytes := beBytes 48 d.toNat

/-- The offset of the first nonzero byte of a run, counted from `base`. -/
def firstNonzero : Nat → Bytes → Option Nat
  | _, [] => none
  | base, b :: bs => if b = 0 then firstNonzero (base + 1) bs else some base

/-- Whether every byte of a run is zero. -/
def allZero (b : Bytes) : Bool := b.all (· == 0)

/-- Concatenation. -/
def cat (bs : List Bytes) : Bytes := bs.flatten

/-- The low 31 bits, saturated: how counts stand in a detail (R472). -/
def count31 (n : Nat) : BitVec 32 := BitVec.ofNat 32 (min n 0x7FFFFFFF)

/-- A counter of `w` bits that stops at its highest value. -/
def satInc {w : Nat} (c : BitVec w) : BitVec w := if c = BitVec.allOnes w then c else c + 1

/-- Addition to a counter of `w` bits that stops at its highest value. -/
def satAdd {w : Nat} (c : BitVec w) (n : Nat) : BitVec w := BitVec.ofNat w (min (c.toNat + n) (2 ^ w - 1))

/-- Bit `i` of a bit vector, written. -/
def setBit {w : Nat} (v : BitVec w) (i : Nat) (b : Bool) : BitVec w :=
  if b then v ||| BitVec.ofNat w (2 ^ i) else v &&& ~~~ (BitVec.ofNat w (2 ^ i))

/-- The numbers of the set bits of a bit vector, rising. -/
def bitsOf {w : Nat} (v : BitVec w) : List Nat := (List.range w).filter (fun i => v.getLsbD i)

/-- One bit step of the reflected CRC-32C. -/
def crcBit (c : BitVec 32) : BitVec 32 :=
  if c.getLsbD 0 then (c >>> 1) ^^^ 0x82F63B78#32 else c >>> 1

/-- One byte of the reflected CRC-32C. -/
def crcByte (c : BitVec 32) (b : Byte) : BitVec 32 :=
  let x := c ^^^ b.zeroExtend 32
  crcBit (crcBit (crcBit (crcBit (crcBit (crcBit (crcBit (crcBit x)))))))

/-- CRC-32C: initial value and final XOR all ones (R172). -/
def crc32c (b : Bytes) : BitVec 32 := b.foldl crcByte 0xFFFFFFFF#32 ^^^ 0xFFFFFFFF#32

/-- Insert into a rising list, once. -/
def insertNat (n : Nat) : List Nat → List Nat
  | [] => [n]
  | k :: ks => if n < k then n :: k :: ks else if n = k then k :: ks else k :: insertNat n ks

/-- Replace the first element that meets a test. -/
def replaceFirst {α : Type} (p : α → Bool) (f : α → α) : List α → List α
  | [] => []
  | a :: as => if p a then f a :: as else a :: replaceFirst p f as

/-- Remove the first element that meets a test. -/
def removeFirst {α : Type} (p : α → Bool) : List α → List α
  | [] => []
  | a :: as => if p a then as else a :: removeFirst p as

/-- The last `n` elements of a list whose newest element stands last. -/
def keepLast {α : Type} (n : Nat) (l : List α) : List α := l.drop (l.length - n)

/-- Integer division rounding up. -/
def ceilDiv (a b : Nat) : Nat := (a + b - 1) / b

end Sys2Proof.Machine
end

