-- ==== Sys2Proof/Machine/Crypto.lean ====
section
/-! DEFINITION. The device's use of the published standards: HMAC (FIPS 198-1) and the counter-mode KDF of chapter 04
over the hash functions, GCM records, AES key wrap, the line cipher and line tag of R230 and R231. -/

namespace Sys2Proof.Machine

/-- SHA-384 as bytes. -/
def sha384b (m : Bytes) : Bytes := digBytes (Config.sha384 m)

/-- SHA-384 as a digest. -/
def sha384 (m : Bytes) : Digest := Config.sha384 m

/-- ASCII text as bytes. -/
def ascii (t : String) : Bytes := t.toList.map (fun c => BitVec.ofNat 8 c.toNat)

/-- HMAC over a hash with a block of `blk` bytes (FIPS 198-1). -/
def hmacOver (h : Bytes → Bytes) (blk : Nat) (key msg : Bytes) : Bytes :=
  let k := padTo blk (if key.length > blk then h key else key)
  h (k.map (· ^^^ 0x5C#8) ++ h (k.map (· ^^^ 0x36#8) ++ msg))

/-- HMAC-SHA-384. -/
def hmac384 (key msg : Bytes) : Bytes := hmacOver sha384b 128 key msg

/-- Blocks `i`, `i+1`, … of the counter-mode KDF. -/
def kdfBlocks (key label context : Bytes) (l : Nat) : Nat → Nat → Bytes
  | _, 0 => []
  | i, n + 1 =>
    hmac384 key (beBytes 4 i ++ label ++ [0] ++ context ++ beBytes 4 l) ++ kdfBlocks key label context l (i + 1) n

/-- KDF(K, label, context, L): the first L bits of the counter-mode output (chapter 04). -/
def kdf (key : Bytes) (label : String) (context : Bytes) (l : Nat) : Bytes :=
  (kdfBlocks key (ascii label) context l 1 (ceilDiv l 384)).take (l / 8)

/-- The AES-256 key in bits [255:0] of a bank (R129). -/
def aesKey (bank : Digest) : BitVec 256 := bank.truncate 256

/-- 32 bytes as an AES-256 key. -/
def key256 (b : Bytes) : BitVec 256 := BitVec.ofNat 256 (beNat (padTo 32 b))

/-- GCM encryption or decryption of a string: the key stream added to it. -/
def gcmXor (key : BitVec 256) (iv : BitVec 96) (b : Bytes) : Bytes :=
  (b.zipIdx).map (fun e => e.1 ^^^ Config.gcmStream key iv e.2)

/-- AES-KW wrap of a string of whole 8-byte words: integrity value A6 × 8 first (SP 800-38F). -/
def kwWrap (kek : BitVec 256) (p : Bytes) : Bytes :=
  let n := p.length / 8 + 1
  beBytes (8 * n) ((Config.kw kek n) (BitVec.ofNat (64 * n) (beNat (List.replicate 8 0xA6#8 ++ p)))).toNat

/-- AES-KW unwrap: the plaintext, or none where the integrity value fails. -/
def kwUnwrap (kek : BitVec 256) (c : Bytes) : Option Bytes :=
  let n := c.length / 8
  let p := beBytes (8 * n) ((Config.kw kek n).symm (BitVec.ofNat (64 * n) (beNat c))).toNat
  if p.take 8 = List.replicate 8 0xA6#8 then some (p.drop 8) else none

/-- The ECDSA or ECDH private scalar of a 448-bit seed: d = (c mod (n − 1)) + 1 with n the P-384 order. -/
def ecScalar (seed : Bytes) : Digest :=
  BitVec.ofNat 384
    (beNat seed %
      (0xFFFFFFFFFFFFFFFFFFFFFFFFFFFFFFFFFFFFFFFFFFFFFFFFC7634D81F4372DDF581A0DB248B0A77AECEC196ACCC52973 - 1) + 1)

/-- The 128-bit tweak of a line (R230). -/
def lineTweak (line stack part : Nat) (tagged : Bool) : BitVec 128 :=
  BitVec.ofNat 128 (line % 2 ^ 30 + stack % 8 * 2 ^ 32 + part % 128 * 2 ^ 40 + (if tagged then 2 ^ 47 else 0))

/-- The XTS key pair of a partition's memory key (Table 06-3). -/
def xtsKey (mk : Digest) : BitVec 512 := BitVec.ofNat 512 (beNat (kdf (digBytes mk) "U-MEM-XTS" [] 512))

/-- The line-tag key of a partition's memory key (Table 06-3). -/
def tagKey (mk : Digest) : BitVec 256 := key256 (kdf (digBytes mk) "U-MEM-TAG" [] 256)

/-- A line's 64 ciphertext bytes (R230). -/
def lineEncrypt (mk : Digest) (tw : BitVec 128) (plain : Bytes) : Bytes :=
  leBytes 64 ((Config.xtsLine (xtsKey mk) tw) (BitVec.ofNat 512 (leNat plain))).toNat

/-- A line's 64 plaintext bytes (R230). -/
def lineDecrypt (mk : Digest) (tw : BitVec 128) (cipher : Bytes) : Bytes :=
  leBytes 64 ((Config.xtsLine (xtsKey mk) tw).symm (BitVec.ofNat 512 (leNat cipher))).toNat

/-- The tag field of a TAGGED line: bits [15:0] of the CMAC over tweak and ciphertext (R231). -/
def lineTag (mk : Digest) (tw : BitVec 128) (cipher : Bytes) : BitVec 16 :=
  (Config.cmac (tagKey mk) (leBytes 16 tw.toNat ++ cipher)).truncate 16

/-- The bounce key of one direction (Table 06-3). -/
def bounceKey (bk : Digest) (d2h : Bool) : BitVec 256 :=
  key256 (kdf (digBytes bk) (if d2h then "U-BNC-D2H" else "U-BNC-H2D") [] 256)

/-- A key derived from the hybrid pair of shared secrets, the ECDH secret first (Table 06-3). -/
def hybridKey (ec : Digest) (kem : BitVec 256) (label : String) (context : Bytes) (l : Nat) : Bytes :=
  kdf (digBytes ec ++ beBytes 32 kem.toNat) label context l

/-- `n` bytes of draw `i` of the DRBG. -/
def drawBytes (i n : Nat) : Bytes := (List.range n).map (Config.drawByte i)

end Sys2Proof.Machine
end

