-- ==== Sys2Proof/Machine/State.lean ====
section
/-! DEFINITION. The state of the block, plain data: everything the spec gives the device that a command reads or
changes, the queue of waiting commands, and the reset state. Default values of the sparse maps are given beside their
readers in Machine/Ops.lean. -/

namespace Sys2Proof.Machine

/-- An issuer of franked envelopes (R137): a credential slot, the owner (fused digests) or a tenant identity. -/
inductive Issuer where | slot (n : Nat) | owner | tid (d : Digest)
  deriving DecidableEq, Repr

/-- An accepted envelope whose reply waits for an event, with its opcode. -/
structure Pending where
  env : Env
  op  : BitVec 16
  deriving DecidableEq, Repr

/-- A reply envelope (R172, R180): the request it answers, STATUS, DETAIL and payload. -/
structure Reply where
  env     : Env
  op      : BitVec 16
  status  : BitVec 16
  detail  : BitVec 32
  payload : Bytes
  deriving DecidableEq, Repr

/-! ### Package, always-on block, power (chapters 02, 03) -/

/-- The two parts of Table 00-1. -/
inductive Part where | u640 | u620
  deriving DecidableEq, Repr

/-- The two steppings (R5). -/
inductive Stepping where | a0 | b0
  deriving DecidableEq, Repr

/-- A partition's mode (Table 00-4). -/
inductive Mode where | confidential | open
  deriving DecidableEq, Repr

/-- The recorded cause of the last reset (R49, R50, R111, R475, R75, R76). -/
inductive ResetCause where
  | none | pwrOk | rail (r : Rail) | sysRstN | lifecycle | recover | tamper | lockstep
  deriving DecidableEq, Repr

/-- The class of one plate-thermistor reading (R56). -/
inductive ThClass where | valid | open | short
  deriving DecidableEq, Repr

/-- One plate thermistor (R55, R56): the last temperature in 0.1 °C, whether it is valid, and how many consecutive
valid samples an invalid one has had. -/
structure Thermistor where
  temp    : Int
  cls     : ThClass
  valid   : Bool
  goodRun : Nat
  deriving DecidableEq, Repr

/-- AOB retention (R76). -/
structure Retention where
  cold          : Bool             -- retention was marked COLD
  cause         : ResetCause       -- last reset cause
  tamperTicks   : List (BitVec 48) -- tick values of the TAMPER events, newest first
  tamperCount   : BitVec 16        -- TAMPER events, saturating; 0xFFFF after COLD
  fuseUnexp     : Nat              -- VDD_FUSE_UNEXPECTED events, at most 255 (R44)
  xt32Lost      : Bool             -- XT32_LOST (R68)
  testSelFault  : Bool             -- TEST_SEL fault (R35)
  testMode      : BitVec 2         -- TEST_SEL field: the recorded test mode (R36)
  tripLatch     : Bool             -- thermal trip latch (R57)
  tripCause     : BitVec 8         -- its cause (R383): 0 none, 1 core, 2 stack, 3 hub, 4 flow
  oscTrims      : BitVec 32        -- oscillator trims
  deriving DecidableEq, Repr

/-- The always-on block PD0 and the control lands (R39, R43, R47, R57, R68, R69). -/
structure Aon where
  vddAon       : Bool       -- VDD_AON in tolerance
  pwrOk        : Bool       -- PWR_OK
  sysRstN      : Bool       -- SYS_RST_N
  perstN       : Bool       -- PERST_N
  testSel      : BitVec 2   -- TEST_SEL1, TEST_SEL0
  tick         : BitVec 48  -- AOB tick counter (R69)
  frames       : Nat        -- frame edges passed since PD0 started (R69)
  readyFrames  : Nat        -- frame edges since host-ready (Table 24-5)
  crystal      : Bool       -- XT32 runs from the crystal (R68)
  crystalTried : Bool       -- the crystal has been taken up since this start of PD0 (R68)
  hoscPpm      : Int        -- HOSC error against XT32, ppm (R70)
  fusePwrEn    : Bool       -- FUSE_PWR_EN released (R43)
  vddFuse      : Bool       -- VDD_FUSE measured in tolerance (R43)
  thermTripLow : Bool       -- THERMTRIP_N driven low (R57, R35)
  alertLow     : Bool       -- BMC_ALERT_N driven low (R441)
  releaseDue   : Bool       -- both PWR_OK and SYS_RST_N high, release scheduled (R47)
  tamperHold   : Bool       -- reset held by the tamper response (R75)
  tamperLow1s  : Bool       -- TAMPER_N has read low for 1 s since (R75)
  tamperCycled : Bool       -- SYS_RST_N or PWR_OK has cycled since (R75)
  thIn         : Thermistor -- TH_IN
  thOut        : Thermistor -- TH_OUT
  ret          : Retention
  deriving DecidableEq, Repr

/-- The state of one power domain (Table 03-1, with the code of POWER_POLICY_GET): `off` is OFF, ASLEEP or SR-HOLD,
`on` is ON or AWAKE. -/
inductive Dom where | off | on | starting
  deriving DecidableEq, Repr

/-- What waits for a starting domain (R74). -/
inductive HeldReq where
  | work (f : Fn) (q : BitVec 6)   -- a work doorbell
  | env (f : Fn)                   -- an envelope doorbell
  | wake (core : BitVec 7)         -- a core's queue post or token signal
  deriving DecidableEq, Repr

/-- The power policy of R474. -/
structure PowerPolicy where
  tileIdleMs  : BitVec 16
  stackIdleMs : BitVec 16
  deepIdle    : Bool
  tileOn      : BitVec 8
  tileOff     : BitVec 8
  stackOn     : BitVec 8
  deriving DecidableEq, Repr

/-- The power domains PD0–PD21, the twin sub-block, the requests held for a start and the power policy. -/
structure Power where
  dom      : SMap Dom                -- PD number → state; unlisted is `off`
  twinSub  : Dom                     -- twin sub-block of PD5
  held     : List (Nat × HeldReq)    -- requests held for a domain, oldest first (R74)
  policy   : PowerPolicy
  reload   : List (BitVec 7)         -- cores waiting for their program reload, in order (R67)
  pcie     : Bool                    -- PD3 is ready and PERST_N deasserted: the host link trains or runs (R51, R52)
  tileFence  : BitVec 8              -- TILE_FENCED
  stackFence : BitVec 8              -- STACK_FENCED
  trained    : BitVec 8              -- stacks whose trained PHY values Wenist holds (R61)
  deriving DecidableEq, Repr

/-! ### Boot, postmarks (chapter 04) -/

/-- The boot outcomes of Table 04-11. -/
inductive BootOutcome where
  | booting | hostReady | hostReadyDegraded | recoveryNoImage | layerFailed | recoveryFlashFault
  | haltedLockstep | haltedRom | haltedScrap | haltedFuse | haltedSelftest | haltedWatchdog
  deriving DecidableEq, Repr

/-- Where the device is between reset and the end of boot. `held` is the reset state, `testMode` a factory test mode
(R36), `selFault` the TEST_SEL fault (R35), `boot k` a boot that has passed `k` milestones of Table 04-9 and `done` a
boot that has ended in its outcome. -/
inductive Phase where
  | held | selFault | testMode (m : BitVec 2) | boot (milestone : Nat) | done
  deriving DecidableEq, Repr

/-- The reason recorded in the boot-restart register (R85). -/
inductive RestartReason where | none | image | lockstep | watchdog
  deriving DecidableEq, Repr

/-- One entry of the postmark log (Table 04-6). -/
structure PmEntry where
  reg   : BitVec 8
  etype : BitVec 8
  seq   : BitVec 64
  tick  : BitVec 48
  d     : Digest
  data  : Bytes
  deriving DecidableEq, Repr

/-- A running firmware layer as measured: its measurement M, security version, key index, build identifier and body. -/
structure LayerRun where
  m     : Digest
  svn   : BitVec 8
  key   : BitVec 8
  build : BitVec 64
  deriving DecidableEq, Repr

/-- The boot state: phase, boot status word fields, boot-restart register, BN, layers, postmark registers and log. -/
structure Boot where
  phase      : Phase
  outcome    : BootOutcome
  bank       : Bool            -- false A, true B
  fallback   : Bool
  fuseDegraded : Bool
  unanchored : Bool            -- COUNTER_UNANCHORED
  attempts   : BitVec 4        -- boot-restart register: ATTEMPTS (R85)
  restartReason : RestartReason -- boot-restart register: last restart reason (R85)
  restarts86 : Nat             -- lockstep mismatches and watchdog expiries of this power-on (R86)
  moved      : Bool            -- a restart of this power-on has moved the boot between banks (R84)
  restartDue : Option RestartReason -- a boot restart is due (R84, R86)
  failedLayer : BitVec 4
  bn         : BitVec 64       -- boot nonce
  layers     : SMap LayerRun   -- layer id → running layer
  pm         : SMap Digest     -- PM_0–PM_47; unlisted reads zero (R90)
  log        : List PmEntry    -- retained postmark log entries, oldest first
  logSeq     : BitVec 64       -- sequence of the next entry
  floors     : SMap (Digest × BitVec 64) -- floor value and floor sequence per register (R91)
  retryUntilReady : Bool       -- configuration requests get Retry Status (R96)
  deriving DecidableEq, Repr

/-! ### Fuses, life cycle (chapter 05) -/

/-- What a fuse-programming operation does when its cells are programmed (R111, R112, R117–R122, R123, R124, R139,
R429, R446). -/
inductive FuseJob where
  | transition (target : BitVec 8)          -- Table 05-4, or the completing Transition of R112
  | generateRoot (uds : Digest)             -- R119
  | takeOwnership (digests : List Digest)   -- R120
  | revokeMladyo (i : Nat) | revokeOwner (i : Nat)
  | tamperResponse | incompleteGuard
  | svnAdvance (targets : List (Nat × Nat)) -- layer, target level (R431)
  | letter (slot : Nat) (attr : BitVec 64) (key target : Digest) (replace : Bool) -- ratchet step of a persistent letter
  | destroy (slot : Nat)                    -- ratchet step of a persistent KEY_DESTROY
  | promote (slot : Nat)                    -- ratchet step of a promoted persistent credential (R446)
  | reanchor (floor : BitVec 64)            -- R429
  deriving DecidableEq, Repr

/-- A fuse-programming operation in progress and the envelope that waits for it. -/
structure FuseOp where
  job   : FuseJob
  env   : Option Pending
  ready : Bool        -- VDD_FUSE measured in tolerance: programming under way (R43)
  deriving DecidableEq, Repr

/-- The fuse shadow: what the AOB decoded at the last release of internal reset (R99–R107, R123, R124). -/
structure FuseShadow where
  undecodable : Bool            -- life-cycle code or manufacturing record undecodable (R104)
  code        : BitVec 8        -- life-cycle code (R108)
  incomplete  : Bool            -- LC_INCOMPLETE
  part        : Part
  stepping    : Stepping
  serial      : BitVec 64       -- the manufacturing record word
  udsPresent  : Bool
  ownerPresent : Bool
  tamperResp  : Bool
  guard       : Bool            -- LC_INCOMPLETE_GUARD
  revMladyo   : BitVec 4
  revOwner    : BitVec 4        -- fused revocation flags
  ownerDigests : List Digest    -- four digests; all zero without a record
  ownerBad    : Bool            -- some owner digest word does not decode (R106)
  svn         : List Nat        -- fused security versions of layers 1–4
  ratchet     : Nat
  senseFault  : BitVec 256
  rootCorr    : BitVec 8        -- root corrections; 0xFF if not decoded
  degraded    : Bool            -- FUSE_DEGRADED
  deriving DecidableEq, Repr

/-- The fuse array, its shadow and the fuse operation in progress. -/
structure Fuses where
  cells   : SMap (BitVec 256)   -- row → cells; unlisted rows are blank
  shadow  : FuseShadow
  rootLock : Bool               -- sticky lock of the root sense path (R99)
  nonce   : Option (BitVec 128) -- the fuse nonce held (R115)
  op      : Option FuseOp       -- operation in progress (R117)
  lifecycleReset : Bool         -- the reset of R111 step 7 is due
  transition : Bool             -- a life-cycle transition runs: other envelopes get RETRY_AFTER (R111)
  deriving DecidableEq, Repr

/-! ### Key vault (chapter 06) -/

/-- One vault slot (R126). -/
structure Slot where
  attr    : BitVec 64   -- attribute word (Table 06-2)
  active  : Digest
  pending : Digest
  targetA : Digest      -- sealing target of the active bank
  targetP : Digest      -- sealing target of the pending bank
  deriving DecidableEq, Repr

/-- A key copy in a turnstile engine: its active and pending banks (R132). -/
structure KeyCopy where
  active  : Digest
  pending : Option Digest
  deriving DecidableEq, Repr

/-- The sealing chain of a context (R133): tenant, mode and its bindings in bind order. -/
structure ChainBind where
  kind : BitVec 8     -- 0x01 program, 0x02 parcel, 0x03 adapter parcel
  d    : Digest
  deriving DecidableEq, Repr

/-- The key vault, the WKR, the engine key copies and the issuers' franking counters (R126–R145). -/
structure Vault where
  slots    : SMap Slot           -- unlisted slots are empty with VERSION 0
  wkr      : BitVec 512          -- working key register
  mce      : SMap Digest         -- 128 × stack + partition → memory key copy
  bce      : SMap KeyCopy        -- partition → bounce key copy
  lce      : SMap KeyCopy        -- link → link key copy
  tce      : Option KeyCopy      -- twin pair key copy
  franking : List (Issuer × BitVec 64) -- volatile counters (R137)
  did      : Digest              -- SHA-384 of the IDK public keys; zero under FUSE_DEGRADED
  idkPub   : Bytes               -- IDK public keys (97 ‖ 2,592 bytes)
  lakPub   : Bytes
  akPub    : Bytes
  deriving DecidableEq, Repr

/-! ### Engines (chapter 07) -/

/-- A digest engine's state (Table 07-2). -/
inductive DeState where | idle | loaded | running | done
  deriving DecidableEq, Repr

/-- One digest engine. -/
structure DigestEngine where
  st      : DeState
  args    : DeStartArgs
  laneA   : Option Bytes        -- key of lane A at START
  laneB   : Option Bytes        -- key of lane B at START (pending bank)
  world   : BitVec 3            -- WORLD of the key's slot
  msg     : Bytes               -- bytes streamed so far
  frags   : Nat                 -- fragments of the message so far
  resA    : Option Bytes        -- result of lane A (or the plain result)
  resB    : Option Bytes        -- result of lane B
  queued  : List DeStartArgs    -- STARTs waiting (R149)
  fenced  : Bool
  lastFault : Option (BitVec 48) -- tick of the last fault (R169)
  deriving DecidableEq, Repr

/-- The other engines, the DRBG and the hybrid secret buffer. -/
structure Engines where
  de          : SMap DigestEngine  -- DE_0–DE_5; unlisted is idle
  seFenced    : Bool
  pkeFenced   : Bool
  seFault     : Option (BitVec 48)
  pkeFault    : Option (BitVec 48)
  hsbEcdh     : Option (BitVec 384) -- HSB bytes 0–47
  hsbKem      : Option (BitVec 256) -- HSB bytes 48–79
  drbgStopped : Bool               -- output stopped, start-up tests rerun (R168)
  drbgRuns    : Nat                -- generate requests since the reseed
  drbgReseeds : Nat                -- reseeds performed
  entropyFailed : Bool             -- ENTROPY_FAILED
  lastHealth  : Option (BitVec 48) -- tick of the last health-test failure
  drbgFault   : Option (BitVec 48) -- tick of the DRBG's last parity fault (R169)
  pkeDigest   : Option Digest      -- the PKE's message-digest input (Table 07-5)
  drbgHeld    : List (BitVec 16)   -- held requests, their lengths minus 1, oldest first
  sram        : SMap Byte          -- Wenist SRAM bytes that engines and DATA descriptors address
  results     : List Bytes         -- values returned to Wenist firmware, newest first
  deriving DecidableEq, Repr

/-! ### Partitions, resources, epochs (chapter 09) -/

/-- The state of a grantable core, L2 way, token or pool slot (R202). -/
inductive ResSt where | free | held (p : Nat) | scrubbing | fenced
  deriving DecidableEq, Repr

/-- A grantable core, L2 way, token or pool slot: its state, the grant parameters in force and the TID tag of a former
Open holder (Tables 09-1 and 09-4). -/
structure Res where
  st     : ResSt
  params : BitVec 128
  tag    : Option Digest
  deriving DecidableEq, Repr

/-- What a window is used for besides plain data. -/
inductive WinUse where
  | plain | parcel (ctx : Nat) (hd : Digest) | sharedParcel (circle : Nat)
  deriving DecidableEq, Repr

/-- A window grant (Table 09-2) and its use. -/
structure Window where
  base   : Nat          -- 2 MiB units
  size   : Nat
  stack  : Nat
  access : BitVec 3     -- bit 0 read, 1 write, 2 SHADOW
  ctx    : Nat          -- 0–15, or 255
  use    : WinUse
  save   : Option Nat   -- the context whose save window this is (R496)
  exposed : Bool        -- a parcel window whose admission has been released (R306)
  deriving DecidableEq, Repr

/-- A path share (Table 10-4). -/
structure Share where
  slotsA : Nat
  slotsB : Nat
  deriving DecidableEq, Repr

/-- One binding of a context, in bind order (R133, R255). -/
inductive Bind where
  | program (d : Digest) (window : Nat) (offset len : Nat) (cores : BitVec 128)
  | parcel (adapter : Bool) (hd : Digest)
  deriving DecidableEq, Repr

/-- A context (R209, R210, R496). -/
structure Context where
  tid    : Digest
  save   : Option Nat      -- save window, or none
  binds  : List Bind
  deriving DecidableEq, Repr

/-- Partition states (Table 09-3); `destroying` is R207's. -/
inductive PState where | held | running | destroying
  deriving DecidableEq, Repr

/-- A parcel policy (R300). -/
structure ParcelPolicy where
  publishers : List Digest
  bases      : List Digest
  deriving DecidableEq, Repr

/-- The counters of a partition that tables 24-10, 16-4 and R14 name. -/
structure PCounts where
  entries  : BitVec 64
  dropped  : BitVec 64
  faulted  : BitVec 64
  badHead  : BitVec 16
  hostDropped : Nat       -- cancelled host-dependent work, for the first completion after re-setup (R51)
  deriving DecidableEq, Repr

/-- A partition. -/
structure Partition where
  mode     : Mode
  state    : PState
  tenant   : Digest              -- TID of the partition tenant
  ctxs     : SMap Context
  running  : Nat                 -- running context
  switchTo : Option Nat          -- pending switch
  switchEnv : Option Pending     -- its envelope, waiting
  windows  : SMap Window
  host     : Option Share
  mem      : SMap Share          -- stack → share
  link     : SMap Share          -- link → share
  policy   : ParcelPolicy
  counts   : PCounts
  budget   : Nat                 -- envelope budget credits (R357)
  level    : Nat                 -- LEVEL 0–3 of a Confidential partition (R361)
  maxStep  : Nat                 -- highest permitted step or LEVEL (R385)
  periodUs : Nat                 -- 0 if none set
  pendUs   : Nat                 -- pending period, 0 if none (R287)
  periodSeq : BitVec 64
  anchor   : BitVec 48           -- anchor tick
  waitEnv  : Option (Pending × Nat) -- a PARTITION_DESTROY or PARTITION_MODE_SET that waits, with the entries dropped
  deriving DecidableEq, Repr

/-- A recorded step (Table 09-6); `tid` is the digest its TID index names. -/
structure StepRec where
  action : BitVec 8
  rtype  : BitVec 8
  part   : BitVec 8
  ctx    : BitVec 8
  rid    : BitVec 32
  new    : BitVec 128
  old    : BitVec 128
  deriving DecidableEq, Repr

/-- An epoch: its number, its steps and its TID table (R218, R495). -/
structure Epoch where
  num   : BitVec 64
  steps : List StepRec
  tids  : List Digest
  deriving DecidableEq, Repr

/-- A rollback in progress (R220): the steps still to invert and the inverses applied. -/
structure Rollback where
  env    : Option Pending
  todo   : List (StepRec × List Digest)
  done   : List StepRec
  deriving DecidableEq, Repr

/-- Partitions, grantable resources, arbitration and epochs. -/
structure Parts where
  parts  : SMap Partition
  cores  : SMap Res             -- core number
  ways   : SMap Res             -- t × 16 + way
  tokens : SMap Res             -- token number
  pools  : SMap Res             -- pool slot number
  acts   : List (Digest × BitVec 64) -- operator acts per TID (R14)
  current  : Epoch
  previous : Option Epoch
  openSteps : List StepRec
  openTids  : List Digest
  rollback  : Option Rollback
  fixedMt  : BitVec 8           -- fixed-slot arbitration on, per MT_n
  fixedHt  : Bool
  fixedLt  : BitVec 16
  debugOpen : Bool              -- debug state (R224)
  vfEnable  : BitVec 128        -- functions enabled in configuration space (R482)
  deriving DecidableEq, Repr

/-! ### Memory and turnstiles (chapter 10) -/

/-- The marking of a line (R233, R234). -/
inductive Mark where | normal | cleared | poison
  deriving DecidableEq, Repr

/-- What the sideband code of a line decodes to (R231): no error, one corrected symbol, or uncorrectable. -/
inductive Ecc where | clean | corrected | uncorrectable
  deriving DecidableEq, Repr

/-- A line's sideband: marking, tag field and error state. -/
structure LineInfo where
  mark : Mark
  tag  : BitVec 16
  ecc  : Ecc
  deriving DecidableEq, Repr

/-- One stack: its bytes (ciphertext), its lines' sidebands and the 2 MiB units cleared since the fill. -/
structure Stack where
  bytes   : SMap Byte        -- byte address → stored byte; unlisted reads 0x00
  lines   : SMap LineInfo    -- line index → sideband; unlisted is CLEARED
  cleared : SMap Bool        -- unit → cleared since the fill of R94
  closed  : Bool             -- turnstile closed (R27)
  deriving DecidableEq, Repr

/-- An L2 line held by a tile (R268). -/
structure L2Line where
  tile  : Nat
  part  : Nat
  stack : Nat
  line  : Nat
  dirty : Bool
  poison : Bool
  data  : Bytes
  deriving DecidableEq, Repr

/-- The memory system: stacks, L2 lines, slot rotation pointers and bounce-stream counts. -/
structure Mem where
  hbm     : SMap Stack
  l2      : List L2Line
  rot     : SMap Nat         -- 2 × path + kind (0 shared, 1 hub) → requester last served (R237)
  htClosed : Bool
  ltClosed : BitVec 16
  ttClosed : Bool
  h2d     : SMap (BitVec 64) -- 65 × partition + stream → last accepted COUNT (R243)
  d2h     : SMap (BitVec 64) -- partition → COUNT of the last D2H record
  deriving DecidableEq, Repr

/-! ### Cores (chapter 11) -/

/-- Core states (Table 11-3). -/
inductive CoreSt where
  | unassigned | stopped | run | wait | gated | haltedFault | debugHalt
  deriving DecidableEq, Repr

/-- What a waiting core waits for. -/
inductive WaitFor where
  | none | queue | token (tok : Nat) (rd : BitVec 5) | transfers (mask : BitVec 16) | fence
  deriving DecidableEq, Repr

/-- A work entry in a core's queue (Table 12-4 as X24–X31 receive it). -/
structure WorkEntry where
  part   : Nat
  ring   : Nat
  tag    : BitVec 32
  period : BitVec 64
  x      : List (BitVec 64)   -- X24–X31
  outAddr : BitVec 64
  outWin  : Nat
  outOff  : Nat
  outLen  : Nat
  irq     : Bool              -- NO_IRQ clear
  deriving DecidableEq, Repr

/-- One line of an outstanding transfer. -/
structure XferLine where
  idx  : Nat      -- its number in the transfer
  off  : Nat      -- window offset of the first byte
  ls   : Nat      -- local-store address of the first byte
  len  : Nat
  data : Bytes    -- XST: the bytes read at retirement
  deriving DecidableEq, Repr

/-- An outstanding XLD or XST transfer (R265): its tag, kind, window and the lines still without
an answer. -/
structure Xfer where
  tag   : BitVec 4
  isSt  : Bool
  win   : Nat
  cache : BitVec 2
  rows  : List XferLine
  deriving DecidableEq, Repr

/-- Debug settings of a core (R450). -/
structure CoreDebug where
  haltOnFault : Bool
  stepsLeft   : Nat              -- instructions left to run before halting again; 0 runs free
  trace       : Option (Nat × Nat × Nat × Nat) -- window, offset, length, bytes written
  deriving DecidableEq, Repr

/-- Activity counters of a core (Table 16-4). -/
structure CoreCounts where
  busy     : BitVec 64
  issued   : BitVec 64
  lsStall  : BitVec 64
  memStall : BitVec 64
  waitCyc  : BitVec 64
  entries  : BitVec 64
  dropped  : BitVec 64
  faulted  : BitVec 64
  deriving DecidableEq, Repr

/-- A core: the architectural state of Table 11-1 and what the hub keeps for it. -/
structure Core where
  st      : CoreSt
  x       : SMap (BitVec 64)     -- X1–X31; X0 never listed
  w       : SMap (BitVec 8192)   -- W0–W63
  acc     : SMap (BitVec 32)     -- 4096 × accumulator + 64 × i + j
  m       : SMap (BitVec 64)     -- M1–M7; M0 never listed
  pc      : Nat
  rstack  : List Nat
  wd      : SMap (BitVec 64)     -- WD_0–WD_15
  ls      : SMap Byte            -- local store
  lsMark  : SMap (BitVec 8)      -- local-store line → poison mark (fault code, R271)
  istore  : SMap Byte            -- instruction store
  progLen : Nat                  -- bound program length in bytes
  program : Option Digest        -- digest of the loaded program
  verified : Bool                -- the digest was found equal at load or reload
  cycles  : BitVec 64            -- cycles of the current period
  step    : Nat                  -- clock step 0–4
  lastDefer : BitVec 64          -- LAST_DEFER
  deferTag : List (BitVec 4)     -- tags of the transfers a deferred fault is pending for
  xfers   : List Xfer
  waiting : WaitFor
  queue   : List WorkEntry
  entry   : Option WorkEntry
  faultRun : Nat                 -- faults in a row without a QDONE
  parity  : Bool                 -- stopped by CORE_PARITY until the tile powers up
  warm    : Bool                 -- predictors hold something (R275)
  dbg     : CoreDebug
  counts  : CoreCounts
  deriving DecidableEq, Repr

/-! ### Host rings, queues, tokens, directory (chapters 08, 12, 24) -/

/-- Envelope ring registers of a function (Table 08-6). -/
structure EnvRing where
  base        : BitVec 64
  enable      : Bool
  log2        : BitVec 4
  vector      : BitVec 8
  tail        : BitVec 16
  head        : BitVec 16
  done        : BitVec 32
  outstanding : BitVec 4
  stopped     : Bool
  entryFault  : Bool
  bounceFault : Bool
  replyFault  : Bool
  deriving DecidableEq, Repr

/-- Work ring registers (Table 12-1). -/
structure WorkRing where
  base     : BitVec 64
  enable   : Bool
  log2     : BitVec 4
  tail     : BitVec 16
  head     : BitVec 16
  stopped  : Bool
  fault    : Bool
  accepted : BitVec 32
  accepted56 : BitVec 56    -- descriptors accepted, as ENTRY_ID counts them
  deriving DecidableEq, Repr

/-- A completion record (Table 12-6), without SEQ and PHASE, which are set when it is written. -/
structure CompRec where
  entryId : BitVec 64
  tag     : BitVec 32
  status  : BitVec 16
  ring    : BitVec 8
  core    : BitVec 8
  period  : BitVec 64
  outLen  : BitVec 32
  result  : BitVec 32
  count   : BitVec 32
  fcode   : BitVec 8
  fslot   : BitVec 8
  fpc     : BitVec 32
  faddr   : BitVec 64
  irq     : Bool
  deriving DecidableEq, Repr

/-- Completion ring registers (Table 12-5) and the records held in the hub. -/
structure CompRing where
  base     : BitVec 64
  enable   : Bool
  log2     : BitVec 5
  vector   : BitVec 6
  head     : BitVec 32
  tail     : BitVec 32
  reserved : BitVec 32
  held     : List CompRec      -- finished records not yet written, oldest first
  seq      : BitVec 32
  deriving DecidableEq, Repr

/-- A function's host-visible registers. -/
structure FnRegs where
  env   : EnvRing
  work  : SMap WorkRing        -- ring number; unlisted is at reset values
  comp  : CompRing
  msix  : SMap (BitVec 128)    -- MSI-X table entries
  pba   : BitVec 64
  deriving DecidableEq, Repr

/-- The PF event registers (Table 24-4). -/
structure Events where
  cause  : BitVec 4
  enable : BitVec 4
  vector : BitVec 6
  deriving DecidableEq, Repr

/-- A descriptor accepted and whose input copy is done or running, waiting for its post (R282). -/
structure Posting where
  core  : Nat
  defer : Bool
  irq   : Bool
  entry : WorkEntry
  deriving DecidableEq, Repr

/-- A committed entry whose output copy is running (R284). -/
structure OutCopy where
  fn     : Fn
  part   : Nat
  win    : Nat
  off    : Nat
  len    : Nat
  addr   : BitVec 64
  lost   : Bool              -- its window was revoked, or R51: the completion is INTEGRITY
  record : CompRec
  deriving DecidableEq, Repr

/-- An import binding of a home token (R291, R418). -/
structure Import where
  src     : BitVec 16
  channel : BitVec 16
  inbox   : BitVec 8          -- inbox window, 0xFF for a token channel
  offset  : BitVec 64
  block   : BitVec 32
  ring    : BitVec 16
  chd     : Option Digest     -- circle base digest of a Confidential channel (R418)
  nextSeq : Option (BitVec 64) -- next data frame sequence expected; none before the first
  nextSig : Option (BitVec 64) -- next signal sequence expected; none before the first
  blocks  : Nat               -- complete blocks received and not yet signalled
  waiting : List (BitVec 32)  -- signals that wait for their blocks, oldest first (R415)
  broken  : Bool
  dropped : Nat               -- frames discarded while BROKEN
  deriving DecidableEq, Repr

/-- A held token (R290, R291). -/
structure Token where
  count    : BitVec 32
  initial  : BitVec 32
  periodReset : Bool
  proxy    : Bool
  overflow : Bool
  homePost : BitVec 16
  homeTok  : BitVec 16
  channel  : BitVec 16
  waiters  : List Nat          -- waiting cores, oldest first
  sigSeq   : BitVec 64         -- signal sequence of a proxy
  imp      : Option Import
  deriving DecidableEq, Repr

/-- Directory states of a line (R292). -/
inductive DirSt where | s | m
  deriving DecidableEq, Repr

/-- A directory entry: key stack × 2^30 + line. -/
structure DirEntry where
  st      : DirSt
  sharers : BitVec 8
  owner   : Nat         -- the partition whose ways' reservation it uses (R359)
  deriving DecidableEq, Repr

/-- An outstanding snoop (R293, R294): its identifier, line, tile and whether it fetches. -/
structure Snoop where
  sid   : BitVec 12
  line  : Nat
  tile  : Nat
  fetch : Bool
  deriving DecidableEq, Repr

/-- A read waiting for snoops of its line. -/
structure DirWait where
  line : Nat
  tile : Nat
  own  : Bool       -- RD_M
  part : Nat        -- the partition whose ways take the line
  deriving DecidableEq, Repr

/-- A declared token page (R292). -/
structure TokPage where
  part   : Nat
  page   : Nat
  window : Nat
  offset : Nat
  deriving DecidableEq, Repr

/-- Host rings, postings, tokens and the directory. -/
structure Queues where
  regs     : SMap FnRegs       -- VF number, or 128 for the PF; unlisted is at reset values
  events   : Events
  posting  : List Posting
  outs     : List OutCopy
  tokens   : SMap Token        -- held tokens
  importErr : Nat              -- signal and data frames discarded without a binding (R419)
  dir      : SMap DirEntry
  snoops   : List Snoop
  dirWaits : List DirWait
  nextSid  : BitVec 12
  pages    : List TokPage
  deriving DecidableEq, Repr

/-! ### Parcels (chapter 13) -/

/-- Parcel binding states as PARCEL_STATUS_GET names them. -/
inductive ParcelSt where | inProgress | resident | evicted | abandoned
  deriving DecidableEq, Repr

/-- The fields of a parcel header the device keeps (Table 13-1). -/
structure ParcelHead where
  kind     : BitVec 8
  shareable : Bool
  plainLen : Nat
  chunks   : Nat
  ivSalt   : BitVec 32
  root     : Digest
  base     : Digest
  kcv      : BitVec 128
  hd       : Digest
  pbd      : Digest
  ecPub    : Bytes
  mlPub    : Bytes
  ecSig    : Bytes
  mlSig    : Bytes
  signed   : Bytes
  deriving DecidableEq, Repr

/-- A passport (R315). -/
structure Passport where
  hd     : Digest
  root   : Digest
  kcv    : BitVec 128
  kind   : BitVec 8
  chunks : Nat
  pbd    : Digest
  ctx    : Nat
  deriving DecidableEq, Repr

/-- A parcel of a context: as recorded and as last released. -/
structure Parcel where
  part    : Nat
  ctx     : Nat
  head    : ParcelHead
  window  : Nat
  st      : ParcelSt          -- as released
  status  : BitVec 16
  detail  : BitVec 32
  usage   : BitVec 8
  touched : Bool
  pinned  : Bool
  passport : Option Passport
  admitted : Nat              -- admission order
  circle  : Option Nat
  bound   : Bool              -- its bind stands in the context's chain
  deriving DecidableEq, Repr

/-- How far an admission has got (R303). -/
inductive AdmStep where | waiting | header | headerMark | table | chunks | done
  deriving DecidableEq, Repr

/-- An admission from acceptance to release. -/
structure Admission where
  aid    : Nat                  -- acceptance number
  part   : Nat
  ctx    : Nat
  head   : ParcelHead
  slot   : Nat
  addr   : BitVec 64
  circle : Option Nat
  window : Nat
  step   : AdmStep
  lane   : Option Nat
  start  : BitVec 48            -- tick of its start
  startSlots : Nat              -- S of R308 at the start
  key    : BitVec 256           -- weight key loaded at step 4
  table  : List (Digest × BitVec 128)
  chunk  : Nat                  -- chunks written
  hit    : Bool                 -- shared hit (R312)
  readmit : Bool                -- re-admission under a passport
  status : BitVec 16
  detail : BitVec 32
  ok     : Bool
  deriving DecidableEq, Repr

/-- A circle member. -/
structure Member where
  part   : Nat
  window : Nat
  ctx    : Nat
  bound  : Bool
  deriving DecidableEq, Repr

/-- A sharing circle (R310). -/
structure Circle where
  mode    : Mode
  stack   : Nat
  base    : Nat
  size    : Nat
  baseHd  : Digest
  keySlot : Nat
  members : List Member
  first   : Option Nat        -- partition number its tweak carries
  resident : Bool
  deriving DecidableEq, Repr

/-- The parcel desk. -/
structure Desk where
  parcels : List Parcel        -- in bind order
  adms    : List Admission     -- in acceptance order
  circles : SMap Circle
  order   : Nat
  overrun : BitVec 32          -- C_OVERRUN
  lastConfStart : SMap Nat     -- partition → frame of its last Confidential start (R360)
  deriving DecidableEq, Repr

/-! ### Scrub and upkeep (chapter 14) -/

/-- What follows a scrub. -/
inductive ScrubNext where
  | free                                              -- the resource becomes FREE
  | grant (p : Nat) (params : BitVec 128)             -- the grant that found a tag takes effect (R215)
  | regrant (p : Nat) (params : BitVec 128)           -- a mode change grants it back (R208)
  | context (p : Nat)                                 -- a context switch between tenants (R321)
  | parcel (p k : Nat)                                -- a parcel window's clear (R305, R315)
  | firstGrant (p k : Nat) (params : BitVec 128)      -- the first-grant clear of R233
  deriving DecidableEq, Repr

/-- A scrub in progress. -/
structure ScrubJob where
  rtype   : Nat
  rid     : Nat               -- Table 09-1; window number k for RTYPE 0x02
  former  : Nat               -- former holder; 255 if none
  mode    : BitVec 8          -- MODE of Table 14-3
  stack   : Nat               -- windows: the range
  base    : Nat
  size    : Nat
  started : BitVec 48
  repeated : Bool
  tripped : Bool              -- stays SCRUBBING after a thermal trip (R326)
  paused  : Bool              -- its turnstile closed (R326)
  next    : ScrubNext
  env     : Option Pending    -- the reply that waits
  dropped : Nat               -- entries dropped, for that reply
  deriving DecidableEq, Repr

/-- A scrub record (Table 14-3). -/
structure ScrubRec where
  tick   : BitVec 48
  rtype  : BitVec 8
  mode   : BitVec 8
  result : BitVec 8
  rid    : BitVec 32
  former : BitVec 8
  gen    : BitVec 32
  durUs  : BitVec 32
  units  : BitVec 32
  deriving DecidableEq, Repr

/-- Scrub and upkeep state. -/
structure Scrub where
  jobs    : List ScrubJob
  gens    : SMap (BitVec 32)   -- rtype × 2^24 + rid (cores, ways); 0x2000000 + stack × 2^16 + unit
  grantGen : SMap (BitVec 32)  -- generation at grant, rtype × 2^24 + p × 2^16 + rid
  log     : List ScrubRec      -- retained records, oldest first
  logNext : Nat                -- ordinal of the next record
  buffered : Nat               -- records buffered in PD2 while PD1 sleeps
  slices  : SMap (BitVec 8)    -- MiB per frame per stack; unlisted is 1
  patrol  : SMap Nat           -- next slice's first line per stack
  rates   : SMap (BitVec 32)   -- R_n of the last completed round, MB/s
  skipped : BitVec 32          -- duties skipped
  uncorr  : Nat                -- uncorrectable lines patrol met
  deriving DecidableEq, Repr

/-! ### Attestation and SPDM (chapter 15) -/

/-- A standing ticket with its heartbeat index and latest heartbeat (R345). -/
structure Standing where
  nonce  : BitVec 256
  part   : Nat
  beat   : BitVec 64
  latest : Option Bytes
  deriving DecidableEq, Repr

/-- A secured SPDM session (R347–R349). -/
structure Session where
  open_    : Bool               -- FINISH has verified
  tid      : Option Digest      -- bound tenant
  secret   : Digest             -- the shared secret that entered the key schedule
  export_  : Digest             -- export master secret
  sessId   : BitVec 32
  leaf     : Bytes              -- the requester's leaf ECDSA key
  th2      : Digest
  slot     : Nat                -- postcard slot
  standing : Option Standing
  lastTick : BitVec 48
  order    : Nat                -- establishment order
  outstanding : Bool
  keyGen   : Nat                -- KEY_UPDATE count
  transcript : Bytes            -- its TH transcript until FINISH
  deriving DecidableEq, Repr

/-- A kept report and whose it is (R353). -/
structure KeptReport where
  owner : Path
  bytes : Bytes
  deriving DecidableEq, Repr

/-- A round open at the lead (R350). -/
structure Round where
  num   : BitVec 64
  nonce : BitVec 256
  stmts : List (Nat × Bytes)    -- postcode → statement
  deriving DecidableEq, Repr

/-- The SPDM connection (R346): how far it is negotiated, the transcripts of its signatures and the chunk transfers. -/
structure Spdm where
  ver   : Bool               -- GET_VERSION seen
  cap   : Bool               -- GET_CAPABILITIES seen
  alg   : Bool               -- NEGOTIATE_ALGORITHMS seen
  vca   : Bytes              -- GET_VERSION to ALGORITHMS
  certs : Bytes              -- GET_DIGESTS and GET_CERTIFICATE messages
  meas  : Bytes              -- GET_MEASUREMENTS messages since the last signature
  chunkIn  : Bytes           -- CHUNK_SEND data so far
  chunkSize : Nat            -- size of the large request
  chunkNext : Nat            -- next ChunkSeqNo of CHUNK_SEND
  chunkOut : Bytes           -- response kept for CHUNK_GET
  handle   : Nat             -- handle of that response
  deriving DecidableEq, Repr

/-- Attestation state. -/
structure Attest where
  gen       : BitVec 64
  views     : List (Digest × BitVec 64)  -- view generation per TID
  measValid : SMap Bool                  -- MEAS_VALID as last released (R339)
  certs     : SMap Bytes                 -- ROLE → dual certificate (0x02 LAK, 0x03 AK); 0x10 + ROLE → X.509 certificate
  idChain   : Bytes                      -- installed X.509 chain
  idDual    : Bytes                      -- installed ROLE 0x01 certificate
  kept      : List KeptReport
  sessions  : SMap Session               -- session index
  order     : Nat
  spdm      : Spdm
  round     : Option Round
  periodic  : Nat                        -- seconds between periodic rounds; 0 off
  highRound : BitVec 64
  rollup    : Option (Bytes × Bytes × Bytes)  -- header, path, own statement
  records   : List (Nat × Bytes)         -- fetched member records
  fetching  : List Nat
  deriving DecidableEq, Repr

/-! ### Thermal governor (chapters 16, 17) -/

/-- One temperature sensor: last reading in 0.1 °C, its tick, the repeat and difference runs of R369, consecutive trip
samples, and its fault. -/
structure Sensor where
  temp    : Int
  sampled : Bool
  tick    : BitVec 48
  same    : Nat
  diff    : Nat
  tripRun : Nat
  faulted : Bool
  deriving DecidableEq, Repr

/-- A core's load plan (R373): start tick and one load byte per 10 ms bucket. -/
structure Plan where
  start : BitVec 48
  loads : List (BitVec 8)
  deriving DecidableEq, Repr

/-- The thermal record of a core: model value, learned offset, activity, plan, throttle bookkeeping. -/
structure CoreTherm where
  model    : Int             -- model temperature, 0.001 °C
  dCore    : Int             -- ΔT_core term, 0.001 K
  offset   : Int             -- learned offset O, 0.001 K
  activity : BitVec 8        -- measured MAC activity in 255ths
  plan     : Option Plan
  lastDown : Option (BitVec 48) -- tick of the last reactive step-down
  coolTick : Option (BitVec 48) -- since when it has read 101 °C or less
  forecast : Int             -- forecast peak, 0.001 °C
  preStep  : Nat             -- step the forecast permits
  surprise : BitVec 16
  deriving DecidableEq, Repr

/-- The thermal record of a stack. -/
structure StackTherm where
  level    : Nat             -- memory level 0–3 (Table 16-3)
  refresh2 : Bool            -- refresh rate doubled (R379)
  model    : Int
  traffic  : Nat             -- GB/s
  lastChange : Option (BitVec 48)
  coolTick : Option (BitVec 48)
  want     : Bool            -- 95 °C was reached since the last common change (R362)
  surprise : BitVec 16
  deriving DecidableEq, Repr

/-- A carousel group (R381): its partition, rotation schedule, members in rotation order and the physical core bound to
each logical core. -/
structure Group where
  part    : Nat
  every   : Nat
  members : List Nat
  bind    : List Nat
  since   : Nat              -- boundaries since the last rotation
  lastTick : BitVec 48
  deriving DecidableEq, Repr

/-- The thermal governor. -/
structure Thermal where
  coreS   : SMap Sensor
  hubS    : SMap Sensor
  stackS  : SMap Sensor
  coreT   : SMap CoreTherm
  stackT  : SMap StackTherm
  lid     : Int              -- T_lid model, 0.001 °C
  tileT   : SMap Int         -- ΔT_tile per tile, 0.001 K
  power   : Nat              -- package power estimate, mW
  powerAvg : Nat             -- average over 1 s, W in 10 W bins (R366)
  pcap    : Nat              -- P_cap, mW
  inlet   : Option (Int × BitVec 48)  -- reported inlet, 0.1 °C, and its tick
  flow    : Option (Nat × BitVec 48)  -- reported flow, 0.01 L/min, and its tick
  flowStale : Bool
  lowFlow : Option (BitVec 48) -- since when the reported flow is below 0.6 L/min
  hubCap  : Bool             -- a faulted hub sensor caps the package at 600 W
  sensorFaults : BitVec 32
  inletMismatch : BitVec 32
  planMiss : BitVec 32
  surprise : BitVec 32
  confNeed : SMap (Nat × BitVec 48) -- LEVEL a Confidential partition's forecast needs, and the tick its need begins
  edgeNeed : SMap Nat        -- the same LEVELs as they stood at the last frame edge
  capPart  : Option Nat      -- the Confidential partition that takes one LEVEL for the package cap (R378)
  powerSum : Nat             -- estimates since the last average, mW, and their number
  powerN   : Nat
  groups  : SMap Group
  trips   : Nat
  deriving DecidableEq, Repr

/-! ### Twins (chapter 18) -/

/-- A bond (Table 18-1). -/
structure Bond where
  partner : Digest
  primary : Bool
  rejoin  : Nat
  acceptW : List Digest
  acceptO : List Digest
  raw     : Bytes
  deriving DecidableEq, Repr

inductive TwinRole where | none | primary | secondary
  deriving DecidableEq, Repr

inductive TwinSt where | unpaired | pairing | paired | solo
  deriving DecidableEq, Repr

/-- A record of the mirror (Table 18-4): type, MSEQ and body. -/
structure MirrorRec where
  mtype : BitVec 8
  mseq  : BitVec 64
  body  : Bytes
  deriving DecidableEq, Repr

/-- A hybrid handshake in progress (pairing or link): our messages, the peer's, the ephemeral secrets. -/
structure Handshake where
  mine    : Bytes              -- our opening message
  theirs  : Bytes              -- the peer's opening message
  initiator : Bool
  transcript : Bytes           -- every message so far, in order
  ephEc   : Bytes              -- our ephemeral ECDH private key
  ephKem  : Bytes              -- our ephemeral ML-KEM decapsulation key
  ssEc    : Option Digest
  ssKem   : Option (BitVec 256)
  confirmed : Bool             -- our confirmation sent
  deriving DecidableEq, Repr

/-- A twin log entry (R400) or caravan log entry (Table 23-14). -/
structure EventRec where
  tick  : BitVec 48
  event : BitVec 8
  link  : BitVec 8
  post  : BitVec 16
  id    : Digest
  deriving DecidableEq, Repr

/-- A frame-carrying port's cipher state: counters and retry buffer (R245–R249). -/
structure Cipher where
  txCount : BitVec 64
  rxCount : BitVec 64
  rekey   : Bool               -- a rekey has been started or its key is pending
  txNew   : Bool               -- the transmitter uses the pending key
  old     : Option Digest      -- the key the transmitter still uses after the receiver's promotion (R249)
  keyedAt : BitVec 48
  deriving DecidableEq, Repr

/-- A link frame in plaintext (Table 10-6). -/
structure Frame where
  ftype   : BitVec 8
  cls     : BitVec 8
  hops    : BitVec 8
  dst     : BitVec 16
  src     : BitVec 16
  channel : BitVec 16
  payload : Bytes
  deriving DecidableEq, Repr

/-- A frame to be sent: a transit frame names the link it came in on, with the class and HOPS whose credit it holds
there until it leaves (R411, R457). -/
structure TxFrame where
  frame : Frame
  via   : Option (Nat × BitVec 8 × BitVec 8)
  deriving DecidableEq, Repr

/-- A port that carries frames, a device link or the twin port: cipher state, retry buffer, waiting frames and the
peer's credits in use (R245–R249, R411). -/
structure Wire where
  cipher  : Cipher
  retry   : List (BitVec 64 × Frame)  -- unacknowledged frames with their COUNTER
  txWait  : List TxFrame              -- frames waiting for a credit
  shared  : SMap Nat                  -- class → shared credits in use at the peer
  escape  : SMap Bool                 -- class × 32 + HOPS → escape credit in use
  deriving DecidableEq, Repr

/-- Twin state. -/
structure Twin where
  bond      : Option Bond
  role      : TwinRole
  st        : TwinSt
  trained   : Bool
  term      : BitVec 64
  failovers : BitVec 64
  hs        : Option Handshake
  confirmIn : Bool             -- partner's PAIR_CONFIRM verified
  reconParts : Nat             -- RECONCILE parts received
  leaseSeq  : BitVec 64
  lastLease : BitVec 48        -- tick of the last verified lease frame or ACK
  leaseIdx  : Nat              -- interval of the 25-interval pattern
  shadow    : List MirrorRec   -- partner shadow, oldest first
  baseline  : List (Issuer × BitVec 64) -- counters mirrored before the split
  hasBase   : Bool
  pairCount : BitVec 64        -- pair counter last accepted (R182)
  mseqOut   : BitVec 64
  mirrorAck : BitVec 64        -- highest MSEQ of ours the partner has stored
  mseqIn    : BitVec 64
  outMirror : List MirrorRec   -- unacknowledged records
  lastGen   : BitVec 64        -- generation last mirrored
  log       : List EventRec
  logNext   : Nat
  pairReject : BitVec 32
  roleClash : BitVec 32
  mirrorOvf : BitVec 32
  deriving DecidableEq, Repr

/-- Its companion fields: the port's cipher state and the partner's slot versions. -/
structure TwinPort where
  wire     : Wire
  versions : SMap (BitVec 16)  -- partner's slot versions
  fresh    : Bool              -- resend the whole mirrored state after the next lease (R222, R393)
  soloTick : BitVec 48
  envOut   : BitVec 64         -- pair counter of the envelopes sent (R182)
  peerTerm : BitVec 64         -- the partner's term as last seen (H0, lease frames)
  rekeyDue : Bool              -- a new primary's first lease tick rekeys (R401)
  isA      : Bool              -- this end is A under the active key (R246, R388)
  newA     : Bool              -- and under the pending key
  oldA     : Bool              -- and under the key the transmitter still uses
  deriving DecidableEq, Repr

/-! ### Caravans (chapter 19) -/

/-- A join set (Table 19-1). -/
structure JoinSet where
  caravan  : BitVec 128
  post     : BitVec 16
  priority : BitVec 8
  mask     : BitVec 16
  acceptW  : List Digest
  acceptO  : List Digest
  raw      : Bytes
  deriving DecidableEq, Repr

/-- Link states of CARAVAN_STATUS_GET. -/
inductive LinkSt where | disabled | training | handshake | keyed
  deriving DecidableEq, Repr

/-- One device link. -/
structure Link where
  st        : LinkSt
  peerPost  : BitVec 16
  peerDid   : Digest
  keyFaults : BitVec 32
  hs        : Option Handshake
  readySent : Bool
  wire      : Wire
  deriving DecidableEq, Repr

/-- A route table entry; distance 25 is unreachable. -/
structure RouteEntry where
  link : Nat
  dist : Nat
  prio : BitVec 8
  changed : Bool               -- to be advertised at the next tick
  deriving DecidableEq, Repr

/-- Frames held for a postcode, and why (R410). -/
structure HeldFrames where
  post     : Nat
  frames   : List TxFrame
  reorder  : Bool             -- held at a route change; else held as unreachable
  since    : BitVec 48
  deriving DecidableEq, Repr

/-- A channel of this device (Table 19-4) with its sender state. -/
structure Channel where
  part   : Nat
  data   : Bool
  dst    : BitVec 16
  outbox : Nat
  offset : Nat
  block  : Nat
  ring   : Nat
  next   : Nat                -- next outbox block
  credits : Nat
  chd    : Option Digest      -- circle base digest of a channel of a Confidential partition (R418)
  wait   : List (Nat × Nat)   -- signals whose blocks wait for a ring credit: blocks still to send, count
  seq    : BitVec 64
  deriving DecidableEq, Repr

/-- A directory entry of a lead candidate: postcode and DID. -/
structure DirMember where
  did  : Digest
  lost : Option (BitVec 48)
  deriving DecidableEq, Repr

/-- Caravan state. -/
structure Caravan where
  join     : Option JoinSet
  links    : SMap Link
  routes   : SMap RouteEntry        -- postcode → route
  held     : List HeldFrames
  dir      : SMap DirMember
  channels : SMap Channel      -- CHANNEL → channel
  log      : List EventRec
  logNext  : Nat
  reject   : BitVec 32         -- LINK_REJECT
  clash    : BitVec 32         -- POSTCODE_CLASH
  reorder  : BitVec 32         -- REORDER_RISK
  hold     : BitVec 32         -- ROUTE_HOLD
  unreach  : BitVec 32
  hops0    : BitVec 32
  joinRej  : BitVec 32
  broken   : BitVec 32
  advert   : Nat               -- advert ticks since the last full advert
  deriving DecidableEq, Repr

/-! ### Firmware store (chapter 20) -/

inductive BankSt where | empty | writing | staged | trial | good
  deriving DecidableEq, Repr

/-- A bank: state, trial mark, written bytes per layer slot and the image bytes. -/
structure Bank where
  st       : BankSt
  consumed : Bool
  written  : SMap Nat          -- layer → bytes written
  images   : SMap Bytes        -- layer → slot contents (header and body)
  erased   : Nat               -- sectors of the image range erased so far
  erasing  : Bool              -- an erase job is open (its intent has no done)
  deriving DecidableEq, Repr

/-- A journal record as written (Table 20-2). -/
structure JRec where
  jtype : BitVec 8
  bank  : BitVec 8
  value : BitVec 8
  cond  : BitVec 8
  jseq  : BitVec 64
  addr  : BitVec 64
  count : BitVec 32
  data  : BitVec 128
  deriving DecidableEq, Repr

/-- A counter-block copy (Table 20-4) as a record, with the digest of the store copy it names. -/
structure CBlock where
  gen     : BitVec 64
  ratchet : Nat
  did     : Digest
  storeDg : Digest
  counters : List (BitVec 64)
  tag     : Bytes              -- TAG under CBK (Table 20-4)
  deriving DecidableEq, Repr

/-- An entry of the persistent store: slot, attribute word and the KW output under PWK. -/
structure PEntry where
  slot : Nat
  attr : BitVec 64
  kw   : Bytes
  deriving DecidableEq, Repr

structure PStore where
  gen     : BitVec 64
  entries : List PEntry
  deriving DecidableEq, Repr

/-- A configuration copy (R430). -/
structure CfgCopy where
  gen    : BitVec 64
  did    : Digest
  idSet  : Bytes × Bytes
  bond   : Option Bytes
  join   : Option Bytes
  tag    : Bytes               -- TAG under CBK
  deriving DecidableEq, Repr

/-- What a flash job does, and what its completion releases. -/
inductive FlashJob where
  | bankErase (b : Bool) (sector : Nat)                -- one sector of a bank's image range
  | repair (b : Bool) (sector : Nat)                   -- BANK_REPAIR's erase
  | store (env : Option Pending) (job : FuseJob) (st : PStore)  -- R139 steps 1 and 2, then the ratchet step
  | config (env : Option Pending) (c : CfgCopy)        -- R430
  | journal                                            -- compaction erase of the next sector (R423)
  deriving DecidableEq, Repr

/-- The flash. -/
structure Flash where
  answers  : Bool              -- the flash answers in 8D or 1S mode
  bankA    : Bank
  bankB    : Bank
  active   : Bool              -- active bank: false A
  sectors  : SMap (List JRec)  -- journal sectors J0–J3
  cur      : Nat               -- current journal sector
  torn     : Nat               -- torn slots of the current sector
  jseq     : BitVec 64
  blocks   : List CBlock       -- counter-block copies, at most two
  stores   : List PStore
  configs  : List CfgCopy
  jobs     : List FlashJob     -- job running, then the jobs waiting
  counters : List (BitVec 64)  -- persistent franking counters: slots 0x040–0x07F, then the owner (Table 20-4)
  floors   : List (BitVec 64)  -- volatile floors of this boot (R428)
  fault    : Bool              -- a two-copy region runs on its other copy
  activation : Option (Bool × Pending) -- live activation waiting for its effect point
  activating : Bool            -- between effect point and end (R434)
  actReply : Option (BitVec 16 × BitVec 32) -- the reply decided for the activation's end
  actEnv   : Option Pending
  lockRecover : Bool           -- lockstep recovery running (R461)
  lastLockstep : Option (BitVec 48)
  deriving DecidableEq, Repr

/-! ### Management (chapter 21), faults (chapter 22), mail -/

inductive Dad where | tentative | preferred | duplicate
  deriving DecidableEq, Repr

/-- An address of the management port. -/
structure Addr where
  ip     : BitVec 128
  prefix_ : BitVec 8
  dad    : Dad
  kind   : BitVec 2       -- 0 link-local, 1 SLAAC, 2 static
  deriving DecidableEq, Repr

/-- Settings of MGMT_NET_SET. -/
structure NetSet where
  sgmii  : Bool
  jumbo  : Bool
  slaac  : Bool
  mac    : BitVec 48
  static : List (BitVec 128 × BitVec 8)
  deriving DecidableEq, Repr

/-- The management network and the I3C target. -/
structure Mgmt where
  net      : NetSet
  pending  : Option NetSet          -- takes effect 10 ms after the reply
  addrs    : List Addr
  stats    : SMap (BitVec 64)       -- eight port counters
  reasm    : Nat                    -- datagrams in reassembly
  echoes   : Nat                    -- echo replies in the last second (frames' count)
  tagChecks : Nat                   -- tag checks this frame
  perSource : List (BitVec 128 × Nat)
  eid      : BitVec 8
  i3cAddr  : BitVec 7               -- dynamic address, 0 none
  targetOn : Bool                   -- management target enabled
  tid      : BitVec 8               -- PLDM TID
  readings : SMap Int               -- PLDM numeric readings as last updated
  sampled  : Bool
  readState : BitVec 8              -- boot-outcome sensor
  readAlert : BitVec 8
  alert    : BitVec 8               -- alert summary (Table 21-6)
  deriving DecidableEq, Repr

/-- A fault record (Table 22-4). -/
structure FaultRec where
  tick     : BitVec 48
  frame    : Nat
  cls      : BitVec 16
  severity : BitVec 8
  scope    : BitVec 8
  unit_    : BitVec 32
  location : BitVec 64
  part     : BitVec 8
  action   : BitVec 8
  count    : BitVec 32
  entry    : BitVec 32
  detail   : BitVec 64
  deriving DecidableEq, Repr

/-- A dead-letter entry (Table 08-8). -/
structure DeadLetter where
  tick     : BitVec 48
  frame    : Nat
  seq      : BitVec 64
  opcode   : BitVec 16
  path     : BitVec 8
  caller   : BitVec 8
  target   : BitVec 8
  sent     : BitVec 8
  internal : BitVec 16
  check    : BitVec 32
  entry    : BitVec 32
  count    : BitVec 32
  source   : BitVec 128
  deriving DecidableEq, Repr

/-- A reply waiting for its release. `grid` waits for the 250 µs grid (R188), `refused` for the mailbox timer (R189),
`mirror` for the partner's acknowledgement (R222, R394). -/
inductive HoldFor where | grid | refused | mirror (mseq : BitVec 64)
  deriving DecidableEq, Repr

structure HeldReply where
  why   : HoldFor
  reply : Reply
  deriving DecidableEq, Repr

/-- Mailboxes, held replies and the logs. -/
structure Mail where
  mgOut    : SMap Nat          -- outstanding per credential
  twOut    : Nat
  held     : List HeldReply    -- oldest first
  lost     : List Env          -- envelopes whose reply R51 or R196 discards
  dead     : List DeadLetter   -- retained entries, oldest first
  deadNext : BitVec 32
  faults   : List FaultRec     -- retained records, oldest first
  faultNext : BitVec 32
  faultBuf : Nat               -- records buffered in PD2 while PD1 sleeps
  recoverDue : Bool            -- the reset of R475 is due
  recovering : List (Nat × Nat × Pending) -- RECOVER tile replies waiting for the tile, with the entries dropped
  tileClosed : BitVec 8        -- tile ports closed by FABRIC
  unFaults : SMap Nat          -- stack → uncorrectable lines this second
  unSince  : SMap (BitVec 48)
  deriving DecidableEq, Repr

/-- A core's telemetry record as last written (Table 24-6). -/
structure TeleRec where
  core   : Nat
  level  : Nat
  counts : CoreCounts
  deriving DecidableEq, Repr

/-- A coarse telemetry page (Table 24-5). -/
structure TelePage where
  seq    : BitVec 64
  frame  : Nat
  tick   : BitVec 48
  mode   : BitVec 8
  level  : BitVec 8
  recs   : List TeleRec
  deriving DecidableEq, Repr

/-- The operator views as last written (Tables 24-8 to 24-10). -/
structure OpView where
  seq     : BitVec 64
  frame   : Nat
  tick    : BitVec 48
  status  : Bytes             -- device status page from 0x018
  units   : Bytes             -- units page
  summary : List (Nat × Bytes) -- partition summary entries
  open_   : List TeleRec      -- Open core counters
  deriving DecidableEq, Repr

structure Tele where
  pages : SMap TelePage       -- VF number, 128 for the PF
  view  : OpView
  deriving DecidableEq, Repr

/-! ### What the block sends -/

/-- What the block sends or signals. `State.out` keeps them, newest first: they are how a command's effect reaches the
world outside the block. -/
inductive Out where
  | reply (r : Reply)                                     -- a reply envelope
  | event (seq : BitVec 64) (fn : Fn) (op : BitVec 16) (payload : Bytes) -- an event envelope
  | msix (fn : Fn) (vector : Nat)                         -- an MSI-X message (R485)
  | pcieMsg (msg : String)                                -- a PCIe error message (R463)
  | retryStatus (fn : Fn)                                 -- configuration request: Retry Status (R96)
  | configDone (fn : Fn)                                  -- configuration request: normal completion
  | completion (fn : Fn) (index : Nat) (phase : Bool) (seq : BitVec 32) (r : CompRec) -- a completion record (R285)
  | hostWrite (fn : Fn) (addr : BitVec 64) (data : Bytes) -- cleartext written to host memory
  | hostRecord (fn : Fn) (addr : BitVec 64) (r : BounceRec) -- a D2H bounce record
  | memData (who : Requester) (data : Bytes)              -- a memory request's read data
  | memDone (who : Requester)                             -- a memory request's write response
  | memRefused (who : Requester) (why : String)           -- a refused memory request (Table 10-2)
  | served (r : HeldReq)                                  -- a held request served (R74)
  | frame (link : Nat) (f : WireFrame)                    -- a link frame sent
  | twinFrame (f : WireFrame)                             -- a twin frame sent
  | twinEnv (op : BitVec 16) (franking : BitVec 64) (payload : Bytes) -- an envelope to the partner's twin mailbox (R199)
  | handshake (link : Option Nat) (msg : Bytes)           -- a handshake message on a link or the twin port
  | spdm (session : Option (BitVec 4)) (code param1 param2 : BitVec 8) (body : Bytes) -- an SPDM response
  | mctp (cmd completion : BitVec 8) (body : Bytes)       -- an MCTP control response
  | pldm (cmd completion : BitVec 8) (body : Bytes)       -- a PLDM response
  | i3c (addr : BitVec 7)                                 -- an I3C acknowledgement of an address assignment
  | ndAdvert (target dst : BitVec 128)                    -- a Neighbor Advertisement
  | dadProbe (target : BitVec 128)                        -- a DAD solicitation
  | echoReply (dst : BitVec 128) (data : Bytes)           -- an ICMPv6 Echo Reply
  | dirData (tile stack line : Nat) (own : Bool)          -- the directory's answer to RD_S or RD_M
  | snoop (sid tile line : Nat) (fetch : Bool)            -- a snoop sent
  | snoopAnswer (sid : Nat) (kind : String)               -- a tile's answer to a snoop
  | dirAck (tile line : Nat)                              -- a directory acknowledgement
  | engine (result : Bytes)                               -- a result returned to Wenist firmware (R155, R163)
  | engineStatus (code : String)                          -- an engine's completion status
  | integrityEvent (unit_ : Nat)                          -- an integrity event (R27)
  deriving DecidableEq, Repr

/-- The machine's faults. -/
inductive Fault where
  /-- Raised by no meaning of this model: every failure the spec describes is a next state. Kept so that the type is
  inhabited. Safe: a machine that stops does nothing. -/
  | none
  deriving DecidableEq, Repr

/-- The machine's refusals. -/
inductive Refusal where
  /-- The command has no meaning in this model yet. Raised by `exec`'s arms only. Safe: the machine stops. -/
  | notModelled (mnemonic : String)
  deriving DecidableEq, Repr

/-- The state of the block. -/
structure State where
  aon    : Aon
  power  : Power
  boot   : Boot
  fuses  : Fuses
  vault  : Vault
  eng    : Engines
  parts  : Parts
  mem    : Mem
  cores  : SMap Core          -- core number; unlisted is `Core.reset`
  q      : Queues
  desk   : Desk
  scrub  : Scrub
  att    : Attest
  therm  : Thermal
  twin   : Twin
  port   : TwinPort
  car    : Caravan
  flash  : Flash
  mgmt   : Mgmt
  mail   : Mail
  tele   : Tele
  out    : List Out           -- what the block has sent, newest first
  free   : Nat                -- the model's own: index of the next free value
  pending : List Instr        -- commands waiting, first in first out
  deriving DecidableEq, Repr


/-! ### Reset values -/

def Thermistor.reset : Thermistor := { temp := 0, cls := .valid, valid := false, goodRun := 0 }

def Retention.reset : Retention :=
  { cold := false, cause := .none, tamperTicks := [], tamperCount := 0, fuseUnexp := 0, xt32Lost := false,
    testSelFault := false, testMode := 0, tripLatch := false, tripCause := 0, oscTrims := 0 }

def Aon.reset : Aon :=
  { vddAon := false, pwrOk := false, sysRstN := false, perstN := false, testSel := 0, tick := 0, frames := 0,
    readyFrames := 0, crystal := false, crystalTried := false, hoscPpm := 0, fusePwrEn := false, vddFuse := false, thermTripLow := false,
    alertLow := false, releaseDue := false, tamperHold := false, tamperLow1s := false, tamperCycled := false,
    thIn := .reset, thOut := .reset, ret := .reset }

def PowerPolicy.reset : PowerPolicy :=
  { tileIdleMs := 10, stackIdleMs := 100, deepIdle := false, tileOn := 0, tileOff := 0, stackOn := 0 }

def Power.reset : Power :=
  { dom := [], twinSub := .off, held := [], policy := .reset, reload := [], pcie := false, tileFence := 0,
    stackFence := 0, trained := 0 }

def Boot.reset : Boot :=
  { phase := .held, outcome := .booting, bank := false, fallback := false, fuseDegraded := false, unanchored := false,
    attempts := 0, restartReason := .none, restarts86 := 0, moved := false, restartDue := none, failedLayer := 0,
    bn := 0, layers := [], pm := [], log := [], logSeq := 0, floors := [], retryUntilReady := true }

def FuseShadow.reset : FuseShadow :=
  { undecodable := false, code := 0, incomplete := false, part := .u640, stepping := .a0, serial := 0,
    udsPresent := false, ownerPresent := false, tamperResp := false, guard := false, revMladyo := 0, revOwner := 0,
    ownerDigests := [], ownerBad := false, svn := [0, 0, 0, 0], ratchet := 0, senseFault := 0, rootCorr := 0,
    degraded := false }

def Fuses.reset : Fuses :=
  { cells := (List.range 4).map (fun r => (r, BitVec.allOnes 256)), shadow := .reset, rootLock := false, nonce := none, op := none, lifecycleReset := false,
    transition := false }

def Slot.empty : Slot := { attr := 0, active := 0, pending := 0, targetA := 0, targetP := 0 }

def Vault.reset : Vault :=
  { slots := [], wkr := 0, mce := [], bce := [], lce := [], tce := none, franking := [], did := 0, idkPub := [],
    lakPub := [], akPub := [] }

def DigestEngine.idle : DigestEngine :=
  { st := .idle, args := { alg := .sha384, mode := .plain, key := .none, l := 0 }, laneA := none, laneB := none, world := 0, msg := [], frags := 0, resA := none,
    resB := none, queued := [], fenced := false, lastFault := none }

def Engines.reset : Engines :=
  { de := [], seFenced := false, pkeFenced := false, seFault := none, pkeFault := none, hsbEcdh := none, hsbKem := none,
    drbgStopped := false, drbgRuns := 0, drbgReseeds := 0, entropyFailed := false, lastHealth := none, drbgFault := none, pkeDigest := none, drbgHeld := [],
    sram := [], results := [] }

def Res.free : Res := { st := .free, params := 0, tag := none }

def PCounts.zero : PCounts := { entries := 0, dropped := 0, faulted := 0, badHead := 0, hostDropped := 0 }

def Epoch.zero : Epoch := { num := 0, steps := [], tids := [] }

def Parts.reset : Parts :=
  { parts := [], cores := [], ways := [], tokens := [], pools := [], acts := [], current := .zero, previous := none,
    openSteps := [], openTids := [], rollback := none, fixedMt := 0, fixedHt := false, fixedLt := 0, debugOpen := false,
    vfEnable := 0 }

def LineInfo.cleared : LineInfo := { mark := .cleared, tag := 0, ecc := .clean }

def Stack.reset : Stack := { bytes := [], lines := [], cleared := [], closed := false }

def Mem.reset : Mem :=
  { hbm := [], l2 := [], rot := [], htClosed := false, ltClosed := 0, ttClosed := false, h2d := [], d2h := [] }

def CoreDebug.reset : CoreDebug := { haltOnFault := false, stepsLeft := 0, trace := none }

def CoreCounts.zero : CoreCounts :=
  { busy := 0, issued := 0, lsStall := 0, memStall := 0, waitCyc := 0, entries := 0, dropped := 0, faulted := 0 }

def Core.reset : Core :=
  { st := .unassigned, x := [], w := [], acc := [], m := [], pc := 0, rstack := [], wd := [], ls := [], lsMark := [],
    istore := [], progLen := 0, program := none, verified := false, cycles := 0, step := 0, lastDefer := 0,
    deferTag := [], xfers := [], waiting := .none, queue := [], entry := none, faultRun := 0, parity := false,
    warm := false, dbg := .reset, counts := .zero }

def EnvRing.reset : EnvRing :=
  { base := 0, enable := false, log2 := 3, vector := 0, tail := 0, head := 0, done := 0, outstanding := 0,
    stopped := false, entryFault := false, bounceFault := false, replyFault := false }

def WorkRing.reset : WorkRing :=
  { base := 0, enable := false, log2 := 6, tail := 0, head := 0, stopped := false, fault := false, accepted := 0,
    accepted56 := 0 }

def CompRing.reset : CompRing :=
  { base := 0, enable := false, log2 := 8, vector := 0, head := 0, tail := 0, reserved := 0, held := [], seq := 0 }

def FnRegs.reset : FnRegs := { env := .reset, work := [], comp := .reset, msix := [], pba := 0 }

def Events.reset : Events := { cause := 0, enable := 0, vector := 0 }

def Queues.reset : Queues :=
  { regs := [], events := .reset, posting := [], outs := [], tokens := [], importErr := 0, dir := [], snoops := [],
    dirWaits := [], nextSid := 0, pages := [] }

def Desk.reset : Desk := { parcels := [], adms := [], circles := [], order := 0, overrun := 0, lastConfStart := [] }

def Scrub.reset : Scrub :=
  { jobs := [], gens := [], grantGen := [], log := [], logNext := 0, buffered := 0, slices := [], patrol := [],
    rates := [], skipped := 0, uncorr := 0 }

def Spdm.reset : Spdm :=
  { ver := false, cap := false, alg := false, vca := [], certs := [], meas := [], chunkIn := [], chunkSize := 0, chunkNext := 0,
    chunkOut := [], handle := 0 }

def Attest.reset : Attest :=
  { gen := 0, views := [], measValid := [], certs := [], idChain := [], idDual := [], kept := [], sessions := [],
    order := 0, spdm := .reset, round := none, periodic := 0, highRound := 0, rollup := none, records := [], fetching := [] }

def Sensor.reset : Sensor :=
  { temp := 0, sampled := false, tick := 0, same := 0, diff := 0, tripRun := 0, faulted := false }

def CoreTherm.reset : CoreTherm :=
  { model := 0, dCore := 0, offset := 0, activity := 0, plan := none, lastDown := none, coolTick := none, forecast := 0,
    preStep := 0, surprise := 0 }

def StackTherm.reset : StackTherm :=
  { level := 0, refresh2 := false, model := 0, traffic := 0, lastChange := none, coolTick := none, want := false,
    surprise := 0 }

def Thermal.reset : Thermal :=
  { coreS := [], hubS := [], stackS := [], coreT := [], stackT := [], lid := 0, tileT := [], power := 0, powerAvg := 0,
    pcap := 0, inlet := none, flow := none, flowStale := true, lowFlow := none, hubCap := false, sensorFaults := 0,
    inletMismatch := 0, planMiss := 0, surprise := 0, confNeed := [], edgeNeed := [], capPart := none, powerSum := 0, powerN := 0,
    groups := [], trips := 0 }

def Cipher.reset : Cipher :=
  { txCount := 0, rxCount := 0, rekey := false, txNew := false, old := none, keyedAt := 0 }

def Wire.reset : Wire := { cipher := .reset, retry := [], txWait := [], shared := [], escape := [] }

def Twin.reset : Twin :=
  { bond := none, role := .none, st := .unpaired, trained := false, term := 0, failovers := 0, hs := none,
    confirmIn := false, reconParts := 0, leaseSeq := 0, lastLease := 0, leaseIdx := 0, shadow := [], baseline := [],
    hasBase := false, pairCount := 0, mseqOut := 0, mirrorAck := 0, mseqIn := 0, outMirror := [], lastGen := 0,
    log := [], logNext := 0, pairReject := 0, roleClash := 0, mirrorOvf := 0 }

def TwinPort.reset : TwinPort := { wire := .reset, versions := [], fresh := false, soloTick := 0, envOut := 0, peerTerm := 0, rekeyDue := false, isA := false, newA := false, oldA := false }

def Link.reset : Link :=
  { st := .disabled, peerPost := 0, peerDid := 0, keyFaults := 0, hs := none, readySent := false, wire := .reset }

def Caravan.reset : Caravan :=
  { join := none, links := [], routes := [], held := [], dir := [], channels := [], log := [], logNext := 0,
    reject := 0, clash := 0, reorder := 0, hold := 0, unreach := 0, hops0 := 0, joinRej := 0, broken := 0, advert := 0 }

def Bank.empty : Bank :=
  { st := .empty, consumed := false, written := [], images := [], erased := 0, erasing := false }

def Flash.reset : Flash :=
  { answers := true, bankA := { Bank.empty with st := .good }, bankB := .empty, active := false, sectors := [],
    cur := 0, torn := 0, jseq := 0, blocks := [], stores := [], configs := [], jobs := [],
    counters := List.replicate 65 0, floors := List.replicate 65 0, fault := false,
    activation := none, activating := false, actReply := none, actEnv := none, lockRecover := false,
    lastLockstep := none }

def NetSet.reset : NetSet := { sgmii := false, jumbo := false, slaac := true, mac := 0, static := [] }

def Mgmt.reset : Mgmt :=
  { net := .reset, pending := none, addrs := [], stats := [], reasm := 0, echoes := 0, tagChecks := 0, perSource := [],
    eid := 0, i3cAddr := 0, targetOn := false, tid := 0, readings := [], sampled := false, readState := 0,
    readAlert := 0, alert := 0 }

def Mail.reset : Mail :=
  { mgOut := [], twOut := 0, held := [], lost := [], dead := [], deadNext := 0, faults := [], faultNext := 0, faultBuf := 0,
    recoverDue := false, recovering := [], tileClosed := 0, unFaults := [], unSince := [] }

def OpView.reset : OpView := { seq := 0, frame := 0, tick := 0, status := [], units := [], summary := [], open_ := [] }

def Tele.reset : Tele := { pages := [], view := .reset }

/-- The block right after reset: everything unpowered or held in reset, no partition, no command waiting. -/
def State.reset : State :=
  { aon := .reset, power := .reset, boot := .reset, fuses := .reset, vault := .reset, eng := .reset, parts := .reset,
    mem := .reset, cores := [], q := .reset, desk := .reset, scrub := .reset, att := .reset, therm := .reset,
    twin := .reset, port := .reset, car := .reset, flash := .reset, mgmt := .reset, mail := .reset, tele := .reset,
    out := [], free := 0, pending := [] }

end Sys2Proof.Machine
end

