-- ==== Sys2Proof/Machine/Frames.lean ====
section
/-! DEFINITION. Link and twin frames on the wire (R245–R247, Table 10-6). -/

namespace Sys2Proof.Machine

/-- The key and salt of one direction under a link or pair key (R246). -/
def frameKey (key : Digest) (label : String) : BitVec 256 × BitVec 32 :=
  let k := kdf (digBytes key) label [] 288
  (key256 (k.take 32), BitVec.ofNat 32 (beNat (k.drop 32)))

/-- The 32 header bytes of a frame: the additional data of its GCM tag (R245). -/
def frameHeader (f : WireFrame) : Bytes :=
  [f.ftype, f.cls, f.hops, f.rsv1] ++ leBytes 2 f.dst.toNat ++ leBytes 2 f.src.toNat ++ leBytes 8 f.counter.toNat ++
    leBytes 2 f.length.toNat ++ leBytes 2 f.channel.toNat ++ leBytes 12 f.rsv2.toNat

/-- The GCM IV of a frame: salt, then COUNTER as 8 bytes big-endian (R245). -/
def frameIv (salt : BitVec 32) (counter : BitVec 64) : BitVec 96 := salt ++ counter

/-- A frame encrypted and tagged under a key, a direction and a COUNTER. -/
def sealFrame (key : Digest) (label : String) (counter : BitVec 64) (f : Frame) : WireFrame :=
  let k := frameKey key label
  let iv := frameIv k.2 counter
  let c := gcmXor k.1 iv f.payload
  let w : WireFrame :=
    { ftype := f.ftype, cls := f.cls, hops := f.hops, rsv1 := 0, dst := f.dst, src := f.src, counter := counter,
      length := BitVec.ofNat 16 f.payload.length, channel := f.channel, rsv2 := 0, cipher := c, tag := 0 }
  { w with tag := Config.gcmTag k.1 iv (frameHeader w) c }

/-- The plaintext of a frame whose tag verifies under a key and a direction. -/
def openFrame (key : Digest) (label : String) (w : WireFrame) : Option Frame :=
  let k := frameKey key label
  let iv := frameIv k.2 w.counter
  if Config.gcmTag k.1 iv (frameHeader w) w.cipher = w.tag then
    some { ftype := w.ftype, cls := w.cls, hops := w.hops, dst := w.dst, src := w.src, channel := w.channel,
           payload := gcmXor k.1 iv w.cipher }
  else none

/-- Labels of the two directions, from the lower postcode (or the primary) on. -/
def frameLabel (twin fromA : Bool) : String :=
  match twin, fromA with
  | false, true => "U-LNK-A2B"
  | false, false => "U-LNK-B2A"
  | true, true => "U-TWN-A2B"
  | true, false => "U-TWN-B2A"

end Sys2Proof.Machine
end

