-- ==== Sys2Proof/Machine/Maps.lean ====
section
/-! DEFINITION. Operations on sparse maps that keep their canonical form: keys strictly rising, and no entry equal to
the map's default where the operation is told one. -/

namespace Sys2Proof.Machine

/-- The value at a key, if listed. -/
def mget {α : Type} : SMap α → Nat → Option α
  | [], _ => none
  | (k, v) :: m, i => if k = i then some v else mget m i

/-- The value at a key, or a default. -/
def mgetD {α : Type} (m : SMap α) (i : Nat) (d : α) : α := (mget m i).getD d

/-- The map without a key. -/
def mdel {α : Type} (m : SMap α) (i : Nat) : SMap α := m.filter (fun e => e.1 ≠ i)

/-- The map with an entry put in its place. -/
def mput {α : Type} : SMap α → Nat → α → SMap α
  | [], i, v => [(i, v)]
  | (k, w) :: m, i, v =>
    if i < k then (i, v) :: (k, w) :: m
    else if i = k then (i, v) :: m
    else (k, w) :: mput m i v

/-- Write a value to a map whose unlisted keys read as `d`: writing `d` removes the entry. -/
def mset {α : Type} [DecidableEq α] (m : SMap α) (i : Nat) (v d : α) : SMap α :=
  if v = d then mdel m i else mput m i v

/-- Change the value at a key. -/
def mmod {α : Type} [DecidableEq α] (m : SMap α) (i : Nat) (d : α) (f : α → α) : SMap α :=
  mset m i (f (mgetD m i d)) d

/-- Change the value at a key that is listed. -/
def mupd {α : Type} (m : SMap α) (i : Nat) (f : α → α) : SMap α :=
  m.map (fun e => if e.1 = i then (e.1, f e.2) else e)

/-- The listed keys, rising. -/
def mkeys {α : Type} (m : SMap α) : List Nat := m.map Prod.fst

/-- Whether a key is listed. -/
def mhas {α : Type} (m : SMap α) (i : Nat) : Bool := (mget m i).isSome

/-- Keys strictly rising from a bound on. -/
def mrises {α : Type} : Nat → SMap α → Bool
  | _, [] => true
  | lo, (k, _) :: m => decide (lo ≤ k) && mrises (k + 1) m

/-- The canonical form of a map whose unlisted keys read as `d`. -/
def mwf {α : Type} [DecidableEq α] (d : α) (m : SMap α) : Bool :=
  mrises 0 m && m.all (fun e => decide (e.2 ≠ d))

/-- Write a run of bytes from an address on. -/
def mwrite (m : SMap Byte) (a : Nat) : Bytes → SMap Byte
  | [] => m
  | b :: bs => mwrite (mset m a b 0) (a + 1) bs

/-- Read a run of bytes. -/
def mread (m : SMap Byte) (a : Nat) : Nat → Bytes
  | 0 => []
  | n + 1 => mgetD m a 0 :: mread m (a + 1) n

/-- Remove every key of a range. -/
def mclear {α : Type} (m : SMap α) (lo n : Nat) : SMap α := m.filter (fun e => e.1 < lo ∨ lo + n ≤ e.1)

end Sys2Proof.Machine
end

