-- ==== Sys2Proof/Machine/Ops.lean ====
section
/-! DEFINITION. The named operations every family uses: part limits, readers of the sparse maps with their defaults,
messages and interrupts, the alert summary, the fault log and the dead-letter log, vault slots, the twin mirror and the
franking counters. -/

namespace Sys2Proof.Machine

/-- What a command answers. -/
abbrev Answer := Host.Outcome State Fault Refusal

/-! ### Part limits (Table 00-1) -/

def isU620 (s : State) : Bool := s.fuses.shadow.part == .u620
def nTiles (s : State) : Nat := if isU620 s then 4 else 8
def nStacks (s : State) : Nat := if isU620 s then 4 else 8
def nCores (s : State) : Nat := if isU620 s then 64 else 128
def nParts (s : State) : Nat := if isU620 s then 64 else 128
/-- Whether a power domain is present (R3). -/
def pdPresent (s : State) (pd : Nat) : Bool :=
  decide (pd < 22) && !(isU620 s && ((decide (10 ≤ pd ∧ pd ≤ 13)) || decide (18 ≤ pd)))

/-! ### Readers and writers of state -/

def emit (o : Out) (s : State) : State := { s with out := o :: s.out }

/-- The index of the next free value, and the state that has used it. -/
def useFree (s : State) : Nat × State := (s.free, { s with free := s.free + 1 })

def tick (s : State) : BitVec 48 := s.aon.tick

def part? (s : State) (p : Nat) : Option Partition := mget s.parts.parts p
def setPart (p : Nat) (x : Partition) (s : State) : State :=
  { s with parts := { s.parts with parts := mput s.parts.parts p x } }
def modPart (p : Nat) (f : Partition → Partition) (s : State) : State :=
  { s with parts := { s.parts with parts := mupd s.parts.parts p f } }
def isConf (s : State) (p : Nat) : Bool := match part? s p with | some x => x.mode == .confidential | none => false
def isOpenPart (s : State) (p : Nat) : Bool := match part? s p with | some x => x.mode == .open | none => false
/-- Whether any Confidential partition exists. -/
def anyConf (s : State) : Bool := s.parts.parts.any (fun e => e.2.mode == .confidential)

def core (s : State) (c : Nat) : Core := mgetD s.cores c Core.reset
def setCore (c : Nat) (x : Core) (s : State) : State := { s with cores := mset s.cores c x Core.reset }
def modCore (c : Nat) (f : Core → Core) (s : State) : State := setCore c (f (core s c)) s
/-- The partition that holds a core. -/
def coreHolder (s : State) (c : Nat) : Option Nat :=
  match (mgetD s.parts.cores c Res.free).st with | .held p => some p | _ => none
/-- The cores a partition holds, rising. -/
def coresOf (s : State) (p : Nat) : List Nat :=
  (s.parts.cores.filter (fun e => e.2.st == .held p)).map Prod.fst

/-- The key of a function's registers: the VF number, or 128 for the PF. -/
def fnKey : Fn → Nat | .pf => 128 | .vf n => n.toNat
def fnRegs (s : State) (f : Fn) : FnRegs := mgetD s.q.regs (fnKey f) FnRegs.reset
def setRegs (f : Fn) (r : FnRegs) (s : State) : State :=
  { s with q := { s.q with regs := mset s.q.regs (fnKey f) r FnRegs.reset } }
def modRegs (f : Fn) (g : FnRegs → FnRegs) (s : State) : State := setRegs f (g (fnRegs s f)) s
def workRing (s : State) (f : Fn) (q : Nat) : WorkRing := mgetD (fnRegs s f).work q WorkRing.reset
def setWork (f : Fn) (q : Nat) (w : WorkRing) (s : State) : State :=
  modRegs f (fun r => { r with work := mset r.work q w WorkRing.reset }) s

def stackOf (s : State) (n : Nat) : Stack := mgetD s.mem.hbm n Stack.reset
def setStack (n : Nat) (x : Stack) (s : State) : State :=
  { s with mem := { s.mem with hbm := mset s.mem.hbm n x Stack.reset } }

def domOf (s : State) (pd : Nat) : Dom := mgetD s.power.dom pd Dom.off
def setDom (pd : Nat) (d : Dom) (s : State) : State :=
  { s with power := { s.power with dom := mset s.power.dom pd d Dom.off } }

/-- PD number of a tile and of a stack's controller (Table 03-1). -/
def tilePd (t : Nat) : Nat := 6 + t
def stackPd (n : Nat) : Nat := 14 + n

/-! ### Interrupts (R484, R485) -/

/-- The MSI-X entry an unwritten vector holds: its mask bit set. -/
def msixReset : BitVec 128 := BitVec.ofNat 128 (2 ^ 96)

/-- Send an MSI-X message, or leave it pending while its vector is masked. -/
def msix (f : Fn) (v : Nat) (s : State) : State :=
  if (mgetD (fnRegs s f).msix v msixReset).getLsbD 96 then modRegs f (fun r => { r with pba := setBit r.pba v true }) s
  else emit (.msix f v) s

/-- Set PF event cause bits; one message as (cause AND INT_ENABLE) leaves zero (R485). -/
def raiseEvent (bit : Nat) (s : State) : State :=
  let e := s.q.events
  let c := setBit e.cause bit true
  let s' := { s with q := { s.q with events := { e with cause := c } } }
  if e.cause &&& e.enable = 0 ∧ c &&& e.enable ≠ 0 then msix .pf e.vector.toNat s' else s'

/-- Set a bit of the alert summary: BMC_ALERT_N low, and the ALERT cause where the bit was 0 (R441, Table 24-4). -/
def alert (bit : Nat) (s : State) : State :=
  let s' := { s with mgmt := { s.mgmt with alert := setBit s.mgmt.alert bit true },
                     aon := { s.aon with alertLow := true } }
  if s.mgmt.alert.getLsbD bit then s' else raiseEvent 2 s'

/-! ### Fault log (R462, R463) -/

/-- Record a fault: coalesced into the frame's record of the same class, scope and unit, else a new record; PF FAULT
interrupt and AER message by severity. While PD1 sleeps the hub buffers 64 records and wakes PD1 for the classes R462
names or when the buffer is full. -/
def logFault (cls sev scope unit_ loc : Nat) (prt action detail : Nat) (s : State) : State :=
  let m := s.mail
  let hit (r : FaultRec) : Bool :=
    r.frame == s.aon.frames && r.cls.toNat == cls && r.scope.toNat == scope && r.unit_.toNat == unit_
  let s1 : State :=
    if m.faults.any hit then
      { s with mail := { m with faults := m.faults.map (fun r => if hit r then { r with count := satInc r.count } else r) } }
    else
      let r : FaultRec :=
        { tick := tick s, frame := s.aon.frames, cls := BitVec.ofNat 16 cls, severity := BitVec.ofNat 8 sev,
          scope := BitVec.ofNat 8 scope, unit_ := BitVec.ofNat 32 unit_, location := BitVec.ofNat 64 loc,
          part := BitVec.ofNat 8 prt, action := BitVec.ofNat 8 action, count := 1, entry := m.faultNext,
          detail := BitVec.ofNat 64 detail }
      { s with mail := { m with faults := keepLast 1024 (m.faults ++ [r]), faultNext := m.faultNext + 1 } }
  let s2 : State :=
    if domOf s1 1 = .off then
      let n := s1.mail.faultBuf + 1
      let urgent := cls = 2 ∨ (8 ≤ cls ∧ cls ≤ 12) ∨ cls = 16 ∨ 64 ≤ n
      let s' := { s1 with mail := { s1.mail with faultBuf := n } }
      if urgent ∧ s'.boot.phase = .done then setDom 1 .starting s' else s'
    else s1
  let s3 := emit (.pcieMsg (if sev ≤ 2 then "Corrected Internal Error" else "Uncorrectable Internal Error")) s2
  if 3 ≤ sev then raiseEvent 0 s3 else s3

/-! ### Dead-letter log (R200) -/

/-- PATH and CALLER of a dead-letter entry (Table 08-8). -/
def pathCode : Path → Nat | .pf => 0 | .vf _ => 1 | .mgmt _ => 2 | .spdm _ => 3 | .twin => 4
def callerCode (e : Env) : Nat :=
  match e.path with | .pf => e.cred.toNat | .vf n => n.toNat | .mgmt _ => e.cred.toNat | .spdm n => n.toNat | .twin => 0
def sourceOf (e : Env) : BitVec 128 := match e.path with | .mgmt src => src | _ => 0

/-- Record a dead letter: coalesced with the newest entry of the same path, caller, source and internal status within
the frame. -/
def logDead (path caller target op sent internal check : Nat) (seq : BitVec 64) (source : BitVec 128) (s : State) :
    State :=
  let m := s.mail
  let hit (d : DeadLetter) : Bool :=
    d.frame == s.aon.frames && d.path.toNat == path && d.caller.toNat == caller && d.source == source &&
      d.internal.toNat == internal
  match m.dead.getLast? with
  | some d =>
    if hit d then
      { s with mail := { m with dead := m.dead.dropLast ++ [{ d with count := satInc d.count }] } }
    else
      { s with mail :=
        { m with
          dead := keepLast 1024 (m.dead ++
            [{ tick := tick s, frame := s.aon.frames, seq := seq, opcode := BitVec.ofNat 16 op, path := BitVec.ofNat 8 path,
               caller := BitVec.ofNat 8 caller, target := BitVec.ofNat 8 target, sent := BitVec.ofNat 8 sent,
               internal := BitVec.ofNat 16 internal, check := BitVec.ofNat 32 check, entry := m.deadNext, count := 1,
               source := source }]),
          deadNext := m.deadNext + 1 } }
  | none =>
    { s with mail :=
      { m with
        dead := [{ tick := tick s, frame := s.aon.frames, seq := seq, opcode := BitVec.ofNat 16 op,
                   path := BitVec.ofNat 8 path, caller := BitVec.ofNat 8 caller, target := BitVec.ofNat 8 target,
                   sent := BitVec.ofNat 8 sent, internal := BitVec.ofNat 16 internal, check := BitVec.ofNat 32 check,
                   entry := m.deadNext, count := 1, source := source }],
        deadNext := m.deadNext + 1 } }

/-! ### The twin mirror (R393, Table 18-4) -/

/-- Queue a frame on the twin port, if it is keyed; it leaves by LINK_FRAME_SEND (R457). -/
def twinSend (f : Frame) (s : State) : State :=
  if s.vault.tce.isNone then s
  else
    let w := s.port.wire
    { s with port := { s.port with wire := { w with txWait := w.txWait ++ [{ frame := f, via := none }] } } }

/-- The bytes of a mirror record (R392). -/
def mirrorBytes (r : MirrorRec) : Bytes :=
  [r.mtype, 0] ++ leBytes 2 (r.body.length) ++ leBytes 8 r.mseq.toNat ++ r.body

/-- Send a mirror record to the partner while PAIRED; a queue beyond 4,096 unacknowledged records is discarded, counted
and resent in full after the next lease frame. -/
def mirror (mtype : BitVec 8) (body : Bytes) (s : State) : State :=
  if s.twin.st = .paired then
    let r : MirrorRec := { mtype := mtype, mseq := s.twin.mseqOut + 1, body := body }
    let t : Twin := { s.twin with mseqOut := r.mseq }
    if 4096 ≤ t.outMirror.length then
      { s with twin := { t with outMirror := [], mirrorOvf := satInc t.mirrorOvf },
               port := { s.port with fresh := true } }
    else
      twinSend { ftype := 4, cls := 2, hops := 0, dst := 0, src := 0, channel := 2, payload := mirrorBytes r }
        { s with twin := { t with outMirror := t.outMirror ++ [r] } }
  else s

/-! ### Vault slots (R126, Table 06-2) -/

def slot (s : State) (n : Nat) : Slot := mgetD s.vault.slots n Slot.empty
def setSlot (n : Nat) (x : Slot) (s : State) : State :=
  { s with vault := { s.vault with slots := mset s.vault.slots n x Slot.empty } }
def Slot.type (x : Slot) : Nat := (x.attr.extractLsb' 0 4).toNat
def Slot.activeValid (x : Slot) : Bool := x.attr.getLsbD 44
def Slot.pendingValid (x : Slot) : Bool := x.attr.getLsbD 45
/-- A slot is empty when it holds no key in either bank (R498). -/
def Slot.isEmpty (x : Slot) : Bool := !x.activeValid && !x.pendingValid
def Slot.version (x : Slot) : BitVec 16 := x.attr.extractLsb' 48 16
def Slot.index (x : Slot) : Nat := (x.attr.extractLsb' 24 7).toNat
def Slot.sealed (x : Slot) : Bool := x.attr.getLsbD 40
def Slot.persist (x : Slot) : Bool := x.attr.getLsbD 41
def Slot.romLock (x : Slot) : Bool := x.attr.getLsbD 42
def Slot.exportable (x : Slot) : Bool := x.attr.getLsbD 43
/-- The fields a letter sets: every RW field of Table 06-2. -/
def attrRw : BitVec 64 := 0x00000B1F7F7F7FFF#64
/-- The attribute word with a VERSION and nothing else. -/
def versionOnly (v : BitVec 16) : BitVec 64 := v.zeroExtend 64 <<< 48
def Slot.withVersion (x : Slot) (v : BitVec 16) : Slot :=
  { x with attr := (x.attr &&& 0x0000FFFFFFFFFFFF#64) ||| versionOnly v }
def Slot.bump (x : Slot) : Slot := x.withVersion (x.version + 1)

/-- The slot-version mirror record (Table 18-4). -/
def mirrorSlot (n : Nat) (s : State) : State :=
  let x := slot s n
  mirror 3 (leBytes 2 n ++ leBytes 2 x.version.toNat ++ leBytes 1 (x.attr.toNat / 4096 % 8 * 16 + x.type) ++ zeros 3) s

/-- Zero every engine copy of a slot (R132, R145). -/
def dropCopies (n : Nat) (s : State) : State :=
  let v := s.vault
  if 0x20 ≤ n ∧ n < 0x30 then { s with vault := { v with lce := mdel v.lce (n - 0x20) } }
  else if n = 0x30 then { s with vault := { v with tce := none } }
  else if 0x80 ≤ n ∧ n < 0x100 then
    { s with vault := { v with mce := v.mce.filter (fun e => e.1 % 128 ≠ n - 0x80) } }
  else if 0x100 ≤ n ∧ n < 0x180 then { s with vault := { v with bce := mdel v.bce (n - 0x100) } }
  else s

/-- Destroy a slot: banks, targets and RW fields zeroed, copies zeroed, VERSION kept (R145). -/
def destroySlot (n : Nat) (s : State) : State :=
  if slot s n = Slot.empty then s
  else
    let v := (slot s n).version
    mirrorSlot n (dropCopies n (setSlot n { Slot.empty with attr := versionOnly v } s))

/-- Destroy several slots. -/
def destroySlots (ns : List Nat) (s : State) : State := ns.foldl (fun t n => destroySlot n t) s

/-- Put a key into a slot's active bank with an attribute word; VERSION counts on (R138 step 9, Table 06-2). -/
def installSlot (n : Nat) (attr : BitVec 64) (key target : Digest) (s : State) : State :=
  let v := (slot s n).version + 1
  let a := (attr &&& attrRw) ||| (1#64 <<< 44) ||| versionOnly v
  mirrorSlot n (setSlot n { attr := a, active := key, pending := 0, targetA := target, targetP := 0 } s)

/-- Promote a slot's pending bank (R141), every engine copy following. -/
def promoteSlot (n : Nat) (s : State) : State :=
  let x := slot s n
  if x.pendingValid then
    let x' : Slot :=
      { x with active := x.pending, pending := 0, targetA := x.targetP, targetP := 0,
               attr := (x.attr ||| (1#64 <<< 44)) &&& ~~~(1#64 <<< 45) }
    let s1 := setSlot n x'.bump s
    let v := s1.vault
    let cp : KeyCopy := { active := x.pending, pending := none }
    let s2 : State :=
      if 0x20 ≤ n ∧ n < 0x30 ∧ mhas v.lce (n - 0x20) then { s1 with vault := { v with lce := mput v.lce (n - 0x20) cp } }
      else if n = 0x30 ∧ v.tce.isSome then { s1 with vault := { v with tce := some cp } }
      else if 0x100 ≤ n ∧ n < 0x180 ∧ mhas v.bce (n - 0x100) then
        { s1 with vault := { v with bce := mput v.bce (n - 0x100) cp } }
      else s1
    mirrorSlot n s2
  else s

/-- Abandon a slot's pending bank (R141). -/
def abandonPending (n : Nat) (s : State) : State :=
  let x := slot s n
  let s1 := setSlot n { x with pending := 0, targetP := 0, attr := x.attr &&& ~~~(1#64 <<< 45) } s
  let v := s1.vault
  if 0x100 ≤ n ∧ n < 0x180 then { s1 with vault := { v with bce := mupd v.bce (n - 0x100) (fun k => { k with pending := none }) } }
  else if 0x20 ≤ n ∧ n < 0x30 then { s1 with vault := { v with lce := mupd v.lce (n - 0x20) (fun k => { k with pending := none }) } }
  else s1

/-- Life-cycle bit of Table 06-2 for a life-cycle code (Table 05-3). -/
def lcBit (code : BitVec 8) : Option Nat :=
  match code.toNat with
  | 0x00 => some 32 | 0x01 => some 33 | 0x03 => some 34 | 0x07 => some 35 | 0x0F => some 36 | _ => none

/-! ### Franking counters (R137, R183, R394) -/

/-- The last counter an issuer has among the mirrored counters of a record list. -/
def shadowCounter (i : Issuer) : List MirrorRec → BitVec 64
  | [] => 0
  | r :: rs =>
    let rest := shadowCounter i rs
    if r.mtype = 4 then
      let kind := byteAt r.body 0
      let is : Option Issuer :=
        if kind = 1 then some (.slot ((byteAt r.body 8).toNat)) else if kind = 2 then some .owner
        else if kind = 3 then some (.tid (dig r.body 8)) else none
      let c := BitVec.ofNat 64 (fld r.body 56 8)
      if is = some i ∧ rest.toNat < c.toNat then c else rest
    else rest

/-- The device's own last counter of an issuer. -/
def ownCounter (s : State) (i : Issuer) : BitVec 64 :=
  match s.vault.franking.find? (fun e => e.1 == i) with | some e => e.2 | none => 0

/-- The last counter accepted from an issuer: the greater of the device's own and the mirrored one (R394). -/
def lastCounter (s : State) (i : Issuer) : BitVec 64 :=
  let o := ownCounter s i
  let m := shadowCounter i s.twin.shadow
  if o.toNat < m.toNat then m else o

/-- The issuer bytes of a mirrored counter. -/
def issuerBytes : Issuer → Bytes
  | .slot n => [1] ++ zeros 7 ++ leBytes 48 n
  | .owner => [2] ++ zeros 7 ++ zeros 48
  | .tid d => [3] ++ zeros 7 ++ digBytes d

/-- Record an issuer's counter, and mirror it. -/
def recordCounter (i : Issuer) (c : BitVec 64) (s : State) : State :=
  let v := s.vault
  let fr := if v.franking.any (fun e => e.1 == i) then v.franking.map (fun e => if e.1 == i then (i, c) else e)
            else v.franking ++ [(i, c)]
  mirror 4 (issuerBytes i ++ leBytes 8 c.toNat) { s with vault := { v with franking := fr } }

/-! ### Operator acts (R14) and entry counts -/

/-- The operator acts counted for a tenant. -/
def actsOf (s : State) (d : Digest) : BitVec 64 :=
  match s.parts.acts.find? (fun e => e.1 == d) with | some e => e.2 | none => 0

/-- Count one operator act against a tenant. -/
def countAct (d : Digest) (s : State) : State :=
  let a := s.parts.acts
  { s with parts := { s.parts with
      acts := if a.any (fun e => e.1 == d) then a.map (fun e => if e.1 == d then (d, satInc e.2) else e) else a ++ [(d, 1)] } }

/-- Count one operator act against the tenant of a partition. -/
def countActPart (p : Nat) (s : State) : State :=
  match part? s p with | some x => countAct x.tenant s | none => s

/-! ### Demand starts (R63, R74) -/

/-- Whether the device has firmware that serves commands. -/
def hostReady (s : State) : Bool := s.boot.outcome == .hostReady || s.boot.outcome == .hostReadyDegraded

/-- Start a domain that is off, with the domains it depends on (R63, Table 03-2); a fenced unit's stays off, as every tile
after a trip (R57). -/
def startDomain (pd : Nat) (s : State) : State :=
  let shut (k : Nat) (t : State) : Bool :=
    if 14 ≤ k then t.power.stackFence.getLsbD (k - 14) else 6 ≤ k && (t.power.tileFence.getLsbD (k - 6) || t.aon.ret.tripLatch)
  let up (k : Nat) (t : State) : State := if domOf t k = .off ∧ pdPresent t k ∧ !shut k t then setDom k .starting t else t
  if pd = 1 then up 1 s
  else if 6 ≤ pd ∧ pd ≤ 13 then up pd (up 2 (up 1 s))
  else if pd = 2 then up 2 (up 1 s)
  else up pd s

/-- Wake PD1 at once: what an envelope that is being served does (Table 03-5). -/
def wakePd1 (s : State) : State :=
  if domOf s 1 = .on then s else setDom 1 .on { s with mail := { s.mail with faultBuf := 0 } }

end Sys2Proof.Machine
end

