-- ==== Sys2Proof/Machine/Flags.lean ====
section
/-! DEFINITION. The status words and blocks the block shows: the boot status word (Table 04-10), ENV_STATUS (Table 08-6)
and the identity block (Table 24-3). -/

namespace Sys2Proof.Machine

/-- The codes of Table 04-11. -/
def outcomeCode : BootOutcome → Nat
  | .booting => 0x00 | .hostReady => 0x01 | .hostReadyDegraded => 0x02 | .recoveryNoImage => 0x10 | .layerFailed => 0x11
  | .recoveryFlashFault => 0x12 | .haltedLockstep => 0x20 | .haltedRom => 0x21 | .haltedScrap => 0x22
  | .haltedFuse => 0x23 | .haltedSelftest => 0x24 | .haltedWatchdog => 0x25

def bit (b : Bool) (i : Nat) : Nat := if b then 2 ^ i else 0

/-- The boot status word (Table 04-10). -/
def bootStatus (s : State) : BitVec 64 :=
  let b := s.boot
  BitVec.ofNat 64 (outcomeCode b.outcome + bit b.bank 8 + bit b.fallback 9 + bit b.fuseDegraded 10 + bit b.unanchored 11 +
    bit s.aon.ret.cold 12 + bit (s.aon.ret.tamperCount != 0) 13 + s.power.tileFence.toNat * 2 ^ 16 +
    s.power.stackFence.toNat * 2 ^ 24 + b.attempts.toNat * 2 ^ 32 + b.failedLayer.toNat * 2 ^ 36)

/-- Entries in flight on an envelope ring, modulo its size. -/
def envInFlight (r : EnvRing) : Nat := (r.tail - r.head).toNat

/-- The state of a partition as the identity block codes it. -/
def pstateCode (s : State) (p : Nat) : Nat :=
  match part? s p with
  | some x => (match x.state with | .running => 2 | _ => 1)
  | none => 0

/-- The mode of a partition as the identity block codes it. -/
def modeCode : Mode → Nat | .confidential => 1 | .open => 2

end Sys2Proof.Machine
end

