-- ==== Sys2Proof/Machine/Envelope.lean ====
section
/-! DEFINITION. The envelope pipeline of chapter 08: the checks of Tables 08-4 and 08-10 in order, the budget of R357,
franking, the reply with its holds (R188, R189, R394, R222) and the dead-letter log. Every envelope command is `serve`
over its own specification and body. -/

namespace Sys2Proof.Machine

/-- Caller kinds of Table 23-1. -/
inductive Caller where | pf | mg | vf | sp | tw
  deriving DecidableEq, Repr

/-- One row of Tables 23-5 to 23-17. `len` says which payload lengths are permitted, `reply` is the smallest reply
space (R471), `own` says that the opcode's own check order takes the place of steps 6 and 7 (R177). -/
structure OpSpec where
  op      : Nat
  callers : List Caller
  sp0     : Bool := false
  franked : Bool := false
  secured : Bool := false
  owned   : Bool := false
  device  : Bool := false
  part    : Bool := false
  len     : Nat → Bool
  reply   : Nat := 0
  own     : Bool := false

/-- What a body decides: a reply now, or `wait` for an event. `check` is the step of the dead-letter entry; `recorded`
says that the body has recorded the franking counter itself. -/
structure Ans where
  status   : Nat
  detail   : BitVec 32
  payload  : Bytes := []
  check    : Nat := 7
  wait     : Bool := false
  recorded : Bool := false

def Ans.ok (payload : Bytes := []) : Ans := { status := 0, detail := 0, payload := payload }
def Ans.okD (d : BitVec 32) (payload : Bytes := []) : Ans := { status := 0, detail := d, payload := payload }
def Ans.refused : Ans := { status := 1, detail := 0 }
def Ans.retry (ms : BitVec 32) : Ans := { status := 2, detail := ms }
def Ans.malformed (off : Nat) : Ans := { status := 3, detail := BitVec.ofNat 32 off }
def Ans.stale (c : BitVec 64) : Ans := { status := 4, detail := c.truncate 32 }
def Ans.notFound (d : BitVec 32 := 0) : Ans := { status := 5, detail := d }
def Ans.conflict (d : BitVec 32 := 0) : Ans := { status := 6, detail := d }
def Ans.exhausted (d : BitVec 32 := 0) : Ans := { status := 7, detail := d }
def Ans.dropped (n : Nat) : Ans := { status := 8, detail := count31 n }
def Ans.integrity (d : BitVec 32 := 0) : Ans := { status := 9, detail := d }
def Ans.state (d : BitVec 32 := 0) : Ans := { status := 10, detail := d }
def Ans.internal (d : BitVec 32) : Ans := { status := 0xFF, detail := d }
def Ans.waiting : Ans := { status := 0, detail := 0, wait := true }
/-- The same answer, decided at step `n` of the opcode's own order. -/
def Ans.at_ (a : Ans) (n : Nat) : Ans := { a with check := 0x100 + n }
def Ans.noted (a : Ans) : Ans := { a with recorded := true }

/-- FRANKED (Table 08-2). -/
def isFranked (e : Env) : Bool := e.flags.getLsbD 1

/-- The caller kind of a path. -/
def callerOf : Path → Caller | .pf => .pf | .vf _ => .vf | .mgmt _ => .mg | .spdm _ => .sp | .twin => .tw

/-- The header bytes of an envelope (Table 08-1). -/
def envHeader (op : Nat) (e : Env) : Bytes :=
  leBytes 2 e.magic.toNat ++ [e.version, e.flags] ++ leBytes 2 op ++ [e.target, e.cred] ++ leBytes 8 e.seq.toNat ++
    leBytes 8 e.franking.toNat ++ leBytes 4 e.length.toNat ++ leBytes 4 e.rsv1.toNat ++ leBytes 8 e.bootNonce.toNat ++
    leBytes 2 e.status.toNat ++ leBytes 2 e.rsv2.toNat ++ leBytes 4 e.detail.toNat ++ leBytes 16 e.rsv3.toNat

/-- What follows the offset 0x40 of a payload offset in a MALFORMED detail. -/
def payOff (off : Nat) : Nat := 0x40 + off

/-! ### Steps 1 and 2 (Table 08-10) -/

/-- The trailer kind a path requires (Table 08-3). -/
def trailerOk (e : Env) : Bool :=
  match e.path, e.trailer with
  | .mgmt _, .tag _ => e.flags.getLsbD 2
  | .mgmt _, .crc _ _ => false
  | _, .crc _ _ => !e.flags.getLsbD 2
  | _, .tag _ => false

/-- The CRC of an envelope without a tag; its reserved bytes are zero. -/
def crcOk (op : Nat) (e : Env) : Bool :=
  match e.trailer with
  | .crc v r => v == crc32c (envHeader op e ++ e.payload) && r == 0
  | .tag _ => true

/-- The first nonzero byte of the reserved and request-zero header fields (R494). -/
def reservedFault (op : Nat) (e : Env) : Option Nat :=
  let h := envHeader op e
  let segs : List (Nat × Nat) :=
    if isFranked e then [(0x1C, 4), (0x28, 24)] else [(0x10, 8), (0x1C, 4), (0x20, 8), (0x28, 24)]
  if e.flags.toNat / 8 ≠ 0 then some 3
  else segs.foldl (fun r sg => match r with | some o => some o | none => firstNonzero sg.1 (slice h sg.1 sg.2)) none

/-- TARGET within the part and within marks D and P. -/
def targetOk (sp : OpSpec) (e : Env) (parts : Nat) : Bool :=
  let t := e.target.toNat
  (decide (t < parts) || decide (t = 0xFF)) && (!sp.device || decide (t = 0xFF)) && (!sp.part || decide (t ≠ 0xFF))

/-- Whether CRED names a credential slot, and stands as its path requires (R494). -/
def credOk (e : Env) : Bool :=
  let named := match e.path with | .mgmt _ => true | .pf => isFranked e | _ => false
  if named then decide (e.cred.toNat ≤ 0x3F) else decide (e.cred = 0)

/-- FRANKED where the opcode (R468) or the path (R182) requires it. -/
def frankedOk (sp : OpSpec) (e : Env) : Bool :=
  isFranked e || !(sp.franked || (match e.path with | .mgmt _ => true | .twin => true | _ => false))

/-- The reply space of R471. -/
def replySpace (s : State) (e : Env) : Nat :=
  match e.path with
  | .pf => e.replyMax.toNat - 72
  | .vf n => if isConf s n.toNat then e.replyMax.toNat - 120 else e.replyMax.toNat - 72
  | _ => 61440

/-- The first fault of steps 1 and 2: the step and the MALFORMED detail. -/
def formFault (s : State) (sp : OpSpec) (e : Env) : Option (Nat × BitVec 32) :=
  let bad : BitVec 32 := 0xFFFFFFFF
  if e.magic ≠ 0x5544 then some (1, 0)
  else if e.version ≠ 1 then some (1, 2)
  else if e.length.toNat ≠ e.payload.length ∨ 61440 < e.payload.length then some (1, bad)
  else if !trailerOk e then some (1, bad)
  else if !crcOk sp.op e then some (1, bad)
  else if e.flags.getLsbD 0 then some (2, 3)
  else match reservedFault sp.op e with
    | some o => some (2, BitVec.ofNat 32 o)
    | none =>
      if !targetOk sp e (nParts s) then some (2, 6)
      else if !credOk e then some (2, 7)
      else if !frankedOk sp e then some (2, 3)
      else if !sp.len e.payload.length then some (2, bad)
      else if replySpace s e < sp.reply then some (2, bad)
      else none

/-! ### Management tags (R175, R439, R442) -/

/-- A slot that may carry a management credential (Table 21-3, R442). -/
def credentialSlot (s : State) (n : Nat) : Bool :=
  let x := slot s n
  x.type == 2 && x.attr.getLsbD 7 && x.attr.getLsbD 13 && x.attr.getLsbD 19 && x.attr.getLsbD 35

/-- Which bank of a credential verifies an envelope's tag: active first (R143). -/
def tagBank (s : State) (op : Nat) (e : Env) : Option Bool :=
  match e.trailer with
  | .crc _ _ => none
  | .tag t =>
    let x := slot s (0x40 + e.cred.toNat)
    let m := envHeader op e ++ e.payload
    if x.activeValid ∧ hmac384 (digBytes x.active) m = digBytes t then some false
    else if x.pendingValid ∧ hmac384 (digBytes x.pending) m = digBytes t then some true
    else none

/-! ### Replies -/

/-- The partition on whose grid a path's replies are released (R188). -/
def gridPart (s : State) (e : Env) : Bool :=
  match e.path with
  | .vf n => isConf s n.toNat
  | .spdm _ => isConf s e.target.toNat
  | _ => false

/-- Write or send a released reply. On a host ring DONE rises, OUTSTANDING falls and the vector is signalled (R194); a
failed write loses the reply (R192). A management reply whose credential is gone is logged and lost, an SPDM reply whose
session has ended is lost, as is that of a function that was reset meanwhile (R196). -/
def releaseReply (r : Reply) (s : State) : State :=
  let ring (f : Fn) : State :=
    let s1 := modRegs f (fun g => { g with env := { g.env with
      outstanding := if g.env.outstanding = 0 then 0 else g.env.outstanding - 1, done := g.env.done + 1,
      replyFault := g.env.replyFault || r.env.replyFails } }) s
    if r.env.replyFails then s1 else msix f (fnRegs s1 f).env.vector.toNat (emit (.reply r) s1)
  if s.mail.lost.contains r.env then { s with mail := { s.mail with lost := removeFirst (· == r.env) s.mail.lost } }
  else match r.env.path with
  | .pf => ring .pf
  | .vf n => ring (.vf n)
  | .mgmt _ =>
    let c := r.env.cred.toNat
    let s1 := { s with mail := { s.mail with mgOut := mset s.mail.mgOut c (mgetD s.mail.mgOut c 0 - 1) 0 } }
    if (slot s (0x40 + c)).isEmpty then
      logDead 2 c r.env.target.toNat r.op.toNat 0xFF r.status.toNat 0x107 r.env.seq (sourceOf r.env) s1
    else emit (.reply r) s1
  | .spdm n =>
    match mget s.att.sessions n.toNat with
    | some x =>
      emit (.reply r)
        { s with att := { s.att with sessions := mput s.att.sessions n.toNat { x with outstanding := false } } }
    | none => s
  | .twin => emit (.reply r) { s with mail := { s.mail with twOut := s.mail.twOut - 1 } }

/-- Queue a reply for its release: REFUSED for the mailbox timer, a Confidential path's for the grid, others at once. -/
def scheduleReply (r : Reply) (s : State) : State :=
  let hold (h : HoldFor) : State := { s with mail := { s.mail with held := s.mail.held ++ [{ why := h, reply := r }] } }
  if r.status = 1 then hold .refused
  else if gridPart s r.env then hold .grid
  else releaseReply r s

/-- Whether a reply with a recorded counter waits for the partner (R394): while PAIRED and unacknowledged. -/
def mirrorHeld (s : State) (mseq : BitVec 64) : Bool :=
  s.twin.st == .paired && decide (s.twin.mirrorAck.toNat < mseq.toNat)

/-- The opcode a dead-letter entry shows: an SPDM caller of a Confidential partition shows the group only. -/
def deadOp (s : State) (e : Env) (op : Nat) : Nat :=
  match e.path with | .spdm _ => if isConf s e.target.toNat then op / 256 * 256 else op | _ => op

/-- A reply marked UNMIRRORED: DETAIL bit 31 where a counter was recorded (R394), bit 0 of a commit's (R222). -/
def unmirrored (r : Reply) : Reply :=
  { r with detail := r.detail ||| (if isFranked r.env then 0x80000000#32 else 0) ||| (if r.op = 0x410 then 1#32 else 0) }

/-- The reply to an accepted envelope: logged where R200 asks for it, held for the partner where R394 or R222 does. -/
def reply (e : Env) (op : Nat) (a : Ans) (mseq : Option (BitVec 64)) (s : State) : State :=
  let r : Reply :=
    { env := e, op := BitVec.ofNat 16 op, status := BitVec.ofNat 16 a.status, detail := a.detail,
      payload := if a.status = 0 then a.payload else [] }
  let s1 := if a.status = 1 ∨ a.status = 3 ∨ a.status = 4 ∨ a.status = 9 then
      logDead (pathCode e.path) (callerCode e) e.target.toNat (deadOp s e op) a.status a.status a.check e.seq (sourceOf e) s
    else s
  match mseq with
  | some q =>
    if mirrorHeld s1 q ∧ a.status ≠ 1 then
      { s1 with mail := { s1.mail with held := s1.mail.held ++ [{ why := .mirror q, reply := r }] } }
    else scheduleReply (if s1.twin.st = .solo ∧ a.status ≠ 1 then unmirrored r else r) s1
  | none => scheduleReply r s1

/-- The reply to an envelope that waited for an event. -/
def finish (p : Pending) (a : Ans) (s : State) : State :=
  reply p.env p.op.toNat a (if isFranked p.env then some s.twin.mseqOut else none) s

/-- `finish` where an envelope waits. -/
def finish? (p : Option Pending) (a : Ans) (s : State) : State :=
  match p with | some x => finish x a s | none => s

/-! ### Steps 3 to 6 -/

/-- A remaining time the spec does not fix, at least 1 ms, and the state that has used it. -/
def remainMs (s : State) : BitVec 32 × State :=
  let f := useFree s
  (BitVec.ofNat 32 (max 1 (Config.remaining f.1 % 0x7FFFFFFF)), f.2)

/-- Step 3: the device is not yet ready, activates or changes its life-cycle state (R97, R342, R111). -/
def deviceBusy (s : State) : Bool :=
  (s.boot.phase != .done) || s.flash.activating || s.flash.lockRecover || s.fuses.transition

/-- Whether an outcome serves no envelope at all (Table 04-11). -/
def halted (s : State) : Bool :=
  match s.boot.outcome with
  | .haltedLockstep | .haltedRom | .haltedScrap | .haltedFuse | .haltedSelftest | .haltedWatchdog => true
  | _ => false

/-- Whether a boot outcome accepts an opcode's group (Table 04-11). -/
def outcomeAccepts (s : State) (c : Caller) (op : Nat) : Bool :=
  let g := op / 256
  match s.boot.outcome with
  | .hostReady | .hostReadyDegraded => true
  | .recoveryNoImage | .recoveryFlashFault => g == 7 && c == .pf
  | .layerFailed => g == 1 || g == 6 || g == 7
  | _ => false

/-- The tenant identity of a session, once bound. -/
def sessionTid (s : State) (n : Nat) : Option Digest :=
  match mget s.att.sessions n with | some x => if x.open_ then x.tid else none | none => none

/-- Whether a partition is recorded with a tenant identity: its tenant's or one of its contexts'. -/
def partHasTid (s : State) (p : Nat) (d : Digest) : Bool :=
  match part? s p with | some x => x.ctxs.any (fun c => c.2.tid == d) | none => false

/-- The partitions recorded with a tenant identity. -/
def partsOfTid (s : State) (d : Digest) : List Nat :=
  (s.parts.parts.filter (fun e => e.2.ctxs.any (fun c => c.2.tid == d))).map Prod.fst

/-- An outcome in which the ROM serves the PF: no credential has been loaded, so none is asked for (R432). -/
def romRecovery (s : State) : Bool :=
  s.boot.phase == .done && (s.boot.outcome == .recoveryNoImage || s.boot.outcome == .recoveryFlashFault)

/-- Whether some slot holds a credential that may frank host-PF envelopes (Table 21-3, R442). Until the first is installed,
by the host PF (R443), a franked host-PF envelope may name any slot (DEDUCED, log 20). -/
def pfCredential (s : State) : Bool :=
  (List.range 64).any (fun c =>
    let x := slot s (0x40 + c)
    x.type == 2 && x.attr.getLsbD 17 && x.attr.getLsbD 35 && !x.isEmpty)

/-- Step 4: path, world and TARGET (Table 08-3), the permitted callers (R466) and the S mark (R174, R469). -/
def authorised (s : State) (sp : OpSpec) (e : Env) : Bool :=
  let t := e.target.toNat
  sp.callers.contains (callerOf e.path) &&
  match e.path with
  | .pf => !isFranked e || romRecovery s || !pfCredential s ||
      (let x := slot s (0x40 + e.cred.toNat)
       x.type == 2 && x.attr.getLsbD 17 && x.attr.getLsbD 35 && !x.isEmpty)
  | .mgmt _ => true
  | .vf n => (decide (t = n.toNat) || decide (t = 0xFF)) && !sp.secured
  | .spdm n =>
    match mget s.att.sessions n.toNat with
    | some x =>
      x.open_ &&
      (match x.tid with
       | some d => decide (t = 0xFF) || partHasTid s t d
       | none => sp.sp0)
    | none => false
  | .twin => decide (sp.op / 256 = 9) && (s.twin.st == .paired || s.twin.st == .solo || sp.op == 0x981 || sp.op == 0x982)

/-- The issuer whose counter an envelope's franking names (Table 08-3). -/
def issuerOf (s : State) (e : Env) : Option Issuer :=
  match e.path with
  | .pf | .mgmt _ => some (.slot e.cred.toNat)
  | .vf n => (part? s n.toNat).map (fun p => .tid p.tenant)
  | .spdm n => (sessionTid s n.toNat).map .tid
  | .twin => none

/-- The partitions whose envelope budget an envelope spends (R357). -/
def budgetParts (s : State) (e : Env) : List Nat :=
  match e.path with
  | .vf n => if isConf s n.toNat then [n.toNat] else []
  | .spdm n =>
    if e.target = 0xFF then
      match sessionTid s n.toNat with | some d => (partsOfTid s d).filter (isConf s) | none => []
    else if isConf s e.target.toNat then [e.target.toNat] else []
  | _ => []

/-- Milliseconds to the next budget credit: the next tenth frame edge (R357). -/
def creditMs (s : State) : Nat := max 1 ((10 - s.aon.frames % 10) * 100)

/-- R183 on an envelope with FRANKED set: the last counter where it is stale. -/
def staleCounter (s : State) (sp : OpSpec) (e : Env) : Option (BitVec 64) :=
  let last := match e.path with
    | .twin => s.twin.pairCount
    | _ => match issuerOf s e with | some i => lastCounter s i | none => 0
  let nonceOk := e.bootNonce = s.boot.bn ∨ (sp.op = 0x101 ∧ e.bootNonce = 0)
  if nonceOk ∧ last.toNat < e.franking.toNat then none else some last

/-- Record an accepted franking counter. -/
def recordFranking (e : Env) (s : State) : State :=
  match e.path with
  | .twin => { s with twin := { s.twin with pairCount := e.franking } }
  | _ => match issuerOf s e with | some i => recordCounter i e.franking s | none => s

/-- Where the checks before an opcode's own ones leave an envelope: answered or dropped, or open to the opcode's body in a
state, with the MSEQ of the mirror record of its franking counter. -/
inductive EnvGate where
  | shut (s : State)
  | open_ (s : State) (mseq : Option (BitVec 64))
  deriving DecidableEq, Repr

/-- Step 7's owner rule (mark W): an opcode of owned devices answers STATE with the life-cycle code in any other. -/
def gateOwned (sp : OpSpec) (e : Env) (mseq : Option (BitVec 64)) (s : State) : EnvGate :=
  if sp.owned ∧ s.fuses.shadow.code ≠ 7 then .shut (reply e sp.op (Ans.state (s.fuses.shadow.code.zeroExtend 32)) mseq s)
  else .open_ s mseq

/-- Step 6; an opcode with an order of its own takes its place. -/
def gateFranked (sp : OpSpec) (e : Env) (s : State) : EnvGate :=
  if sp.own then .open_ s none
  else if isFranked e then
    match staleCounter s sp e with
    | some c => .shut (reply e sp.op { Ans.stale c with check := 6 } none s)
    | none => gateOwned sp e (some (recordFranking e s).twin.mseqOut) (recordFranking e s)
  else gateOwned sp e none s

/-- Take one credit of the envelope budget of each partition (R357). -/
def spendBudget (ps : List Nat) (s : State) : State :=
  ps.foldl (fun t p => modPart p (fun x => { x with budget := x.budget - 1 }) t) s

/-- Whether a partition has no budget credit left. -/
def noBudget (s : State) (p : Nat) : Bool := match part? s p with | some x => x.budget == 0 | none => false

/-- Steps 3 to 5 and the budget, for an admitted envelope whose form is right. -/
def gateChecked (sp : OpSpec) (e : Env) (s : State) : EnvGate :=
  if deviceBusy s then
    .shut (reply e sp.op { Ans.retry (remainMs s).1 with check := 3 } none (remainMs s).2)
  else if !authorised s sp e then .shut (reply e sp.op { Ans.refused with check := 4 } none s)
  else if !outcomeAccepts s (callerOf e.path) sp.op then .shut (reply e sp.op { Ans.state with check := 5 } none s)
  else if (budgetParts s e).any (noBudget s) then
    .shut (reply e sp.op { Ans.retry (BitVec.ofNat 32 (creditMs s)) with check := 5 } none s)
  else gateFranked sp e (spendBudget (budgetParts s e) s)

/-- An admitted envelope: steps 1 and 2, then the rest. -/
def gateAdmitted (sp : OpSpec) (e : Env) (s : State) : EnvGate :=
  match formFault s sp e with
  | some (step, d) => .shut (reply e sp.op { Ans.malformed 0 with detail := d, check := step } none s)
  | none => gateChecked sp e s

/-- The start of a persistent credential's promotion (R446): the store write with the pending key as its active key, and
the envelope that caused it. -/
def promote (p : Pending) (n : Nat) (s : State) : State :=
  if s.flash.jobs.any (fun j => match j with | .store _ (.promote k) _ => k == n | _ => false) then s
  else { s with flash := { s.flash with jobs := s.flash.jobs ++ [.store (some p) (.promote n) { gen := 0, entries := [] }] } }

/-- A management envelope: tag-check rate (R439), tag (R175, R437, R442, R143), admission (R197). A persistent
credential's pending bank first runs its promotion; its envelope stays in the mailbox meanwhile (R446). -/
def gateMgmt (sp : OpSpec) (e : Env) (src : BitVec 128) (s : State) : EnvGate :=
  let m := s.mgmt
  let mine := match m.perSource.find? (fun x => x.1 == src) with | some x => x.2 | none => 0
  let drop (t : State) (int chk : Nat) : EnvGate :=
    .shut (logDead 2 e.cred.toNat e.target.toNat sp.op 0xFF int chk e.seq src t)
  if src ≠ 0 ∧ (32 ≤ mine ∨ 256 ≤ m.tagChecks) then drop s 9 1
  else
    let s1 : State :=
      if src = 0 then s
      else { s with mgmt := { m with
              tagChecks := m.tagChecks + 1,
              perSource := (src, mine + 1) :: m.perSource.filter (fun x => x.1 != src) } }
    let n := 0x40 + e.cred.toNat
    if 0x3F < e.cred.toNat ∨ e.length.toNat ≠ e.payload.length ∨ !credentialSlot s1 n then drop s1 9 1
    else match tagBank s1 sp.op e with
      | none => drop s1 9 1
      | some pend =>
        if pend ∧ (slot s1 n).persist then .shut (promote { env := e, op := BitVec.ofNat 16 sp.op } n s1)
        else
          let s2 := if pend then promoteSlot n s1 else s1
          let c := e.cred.toNat
          let out := s2.mail.mgOut
          if 8 ≤ mgetD out c 0 ∨ 32 ≤ (out.map Prod.snd).sum then
            .shut (emit (.reply { env := e, op := BitVec.ofNat 16 sp.op, status := 2, detail := 1, payload := [] }) s2)
          else gateAdmitted sp e { s2 with mail := { s2.mail with mgOut := mset out c (mgetD out c 0 + 1) 0 } }

/-- Whether firmware that answers envelopes runs: a boot is under way or has ended in an outcome that is not halted. -/
def serves (s : State) : Bool :=
  match s.boot.phase with | .boot _ => true | .done => !halted s | _ => false

/-- Every check before an opcode's own. An outcome that serves no envelope leaves it unanswered (Table 04-11), PD1 wakes
for it (Table 03-5), and each path admits it in its own way (R197–R199). -/
def gate (sp : OpSpec) (e : Env) (s : State) : EnvGate :=
  if !serves s then .shut s
  else
    let s0 := wakePd1 s
    match e.path with
    | .pf | .vf _ => gateAdmitted sp e s0
    | .mgmt src => gateMgmt sp e src s0
    | .spdm n =>
      match mget s0.att.sessions n.toNat with
      | none => .shut s0
      | some x =>
        if x.outstanding then
          .shut (logDead 3 n.toNat e.target.toNat (deadOp s0 e sp.op) 0xFF 2 1 e.seq 0 s0)
        else
          gateAdmitted sp e
            { s0 with att := { s0.att with
                sessions := mput s0.att.sessions n.toNat { x with outstanding := true, lastTick := tick s0 } } }
    | .twin => gateAdmitted sp e { s0 with mail := { s0.mail with twOut := s0.mail.twOut + 1 } }

/-- The end of an opcode's body: its reply, unless it waits for an event. An opcode with an order of its own says itself
whether it has recorded the franking counter. -/
def conclude (sp : OpSpec) (e : Env) (mseq : Option (BitVec 64)) (r : State × Ans) : State :=
  if r.2.wait then r.1
  else reply e sp.op r.2 (if sp.own then (if r.2.recorded then some r.1.twin.mseqOut else none) else mseq) r.1

/-- Serve an envelope command. -/
def serve (sp : OpSpec) (e : Env) (body : State → State × Ans) (s : State) : State :=
  match gate sp e s with
  | .shut t => t
  | .open_ t q => conclude sp e q (body t)

/-! ### Payload checks (R494: ascending offset, the envelope offset of the first offending byte) -/

/-- One check of a payload: the offset of its field and whether it passes. -/
abbrev Chk := Nat × Bool

/-- Reserved payload bytes. -/
def rsv (e : Env) (off n : Nat) : List Chk := (List.range n).map (fun i => (off + i, byteAt e.payload (off + i) == 0))

/-- The first payload fault of an ordered list of checks. -/
def payFault : List Chk → Option Ans
  | [] => none
  | (o, ok) :: cs => if ok then payFault cs else some (Ans.malformed (payOff o))

/-- Run a body after its payload checks. -/
def checked (cs : List Chk) (s : State) (k : State × Ans) : State × Ans :=
  match payFault cs with | some a => (s, a) | none => k

/-- A payload byte, and payload fields of 2, 4 and 8 bytes. -/
def p8 (e : Env) (o : Nat) : Nat := (byteAt e.payload o).toNat
def p16 (e : Env) (o : Nat) : Nat := fld e.payload o 2
def p32 (e : Env) (o : Nat) : Nat := fld e.payload o 4
def p64 (e : Env) (o : Nat) : Nat := fld e.payload o 8

/-- Reply space available to a body (R471). -/
def space (s : State) (e : Env) : Nat := replySpace s e

/-- INTERNAL naming a failing unit by a code the spec does not give: a free value (log 4). -/
def internalFree (s : State) : State × Ans :=
  let u := useFree s
  (u.2, Ans.internal (BitVec.ofNat 32 ((Config.open64 u.1).toNat % 2 ^ 31)))

/-- Run a body that needs the PKE and the DRBG: INTERNAL while ENTROPY_FAILED is set or the PKE is fenced (R168, R169). -/
def needPke (s : State) (k : State × Ans) : State × Ans :=
  if s.eng.entropyFailed then (s, Ans.internal 0x454E) else if s.eng.pkeFenced then internalFree s else k

/-- The records of a list read from a position on (R473): at most MAX, the opcode's limit and the room of the reply. -/
def listFrom (s : State) (e : Env) (limit : Nat) (head : Bytes) (recs : List (Nat × Bytes)) : Ans :=
  let first := p64 e 0
  let mx := p32 e 8
  let from_ := recs.filter (fun r => first ≤ r.1)
  let cap := min limit (if mx = 0 then limit else mx)
  let room := space s e - 16 - head.length
  let pick := from_.foldl (fun (a : List (Nat × Bytes) × Nat) r =>
      if a.1.length < cap ∧ a.2 + r.2.length ≤ room ∧ a.2 ≤ room then (a.1 ++ [r], a.2 + r.2.length) else (a.1, room + 1))
      ([], 0)
  let got := pick.1
  let nx := match got.getLast? with | some r => r.1 + 1 | none => first
  Ans.okD (count31 (from_.length - got.length)) (head ++ leBytes 4 got.length ++ zeros 4 ++ leBytes 8 nx ++ cat (got.map Prod.snd))

/-- A list read of a log, in log order: a FIRST older than the oldest retained record is NOT_FOUND with its position. -/
def listRead (s : State) (e : Env) (limit : Nat) (recs : List (Nat × Bytes)) : Ans :=
  match recs with
  | r :: _ => if p64 e 0 < r.1 then Ans.notFound (BitVec.ofNat 32 (r.1 % 2 ^ 31)) else listFrom s e limit [] recs
  | [] => listFrom s e limit [] recs

end Sys2Proof.Machine
end

