-- ==== Sys2Proof/Machine/Work.lean ====
section
/-! DEFINITION. Shared operations over host-visible work: bounce records (R242–R244), completion records (R285, R286,
Table 12-6), the cancelling of entries, and placing a core at entry (R257). -/

namespace Sys2Proof.Machine

/-! ### Bounce records -/

/-- The 32 header bytes of a bounce record (Table 10-5). -/
def bounceHeader (r : BounceRec) : Bytes :=
  leBytes 4 r.magic.toNat ++ [r.version, r.kind] ++ leBytes 2 r.rsv1.toNat ++ leBytes 4 r.len.toNat ++
    leBytes 4 r.rsv2.toNat ++ beBytes 4 r.stream.toNat ++ beBytes 8 r.count.toNat ++ leBytes 4 r.rsv3.toNat

/-- The GCM IV of a bounce record: STREAM then COUNT, big-endian. -/
def bounceIv (r : BounceRec) : BitVec 96 := r.stream ++ r.count

/-- A D2H bounce record of a partition under the active bounce key, and the state with its COUNT advanced (R243). -/
def sealBounce (p kind stream : Nat) (plain : Bytes) (s : State) : BounceRec × State :=
  let c := mgetD s.mem.d2h p 0 + 1
  let bk := match mget s.vault.bce p with | some k => k.active | none => 0
  let r0 : BounceRec :=
    { magic := 0x55444252, version := 1, kind := BitVec.ofNat 8 kind, rsv1 := 0, len := BitVec.ofNat 32 plain.length,
      rsv2 := 0, stream := BitVec.ofNat 32 (0x80000000 + stream), count := c, rsv3 := 0, cipher := [], tag := 0 }
  let k := bounceKey bk true
  let ct := gcmXor k (bounceIv r0) plain
  ({ r0 with cipher := ct, tag := Config.gcmTag k (bounceIv r0) (bounceHeader r0) ct },
   { s with mem := { s.mem with d2h := mset s.mem.d2h p c 0 } })

/-- The header check of an H2D record (R244 step 1). -/
def bounceHeaderOk (r : BounceRec) (kind : Nat) (maxLen : Nat) : Bool :=
  r.magic == 0x55444252 && r.version == 1 && r.kind.toNat == kind && r.rsv1 == 0 && r.rsv2 == 0 && r.rsv3 == 0 &&
    decide (1 ≤ r.len.toNat) && decide (r.len.toNat ≤ maxLen) && r.cipher.length == r.len.toNat

/-- The bank under which an H2D record's tag verifies: active first (R143). -/
def bounceBank (s : State) (p : Nat) (r : BounceRec) : Option (Bool × Bytes) :=
  match mget s.vault.bce p with
  | none => none
  | some k =>
    let tryKey (d : Digest) : Option Bytes :=
      let kk := bounceKey d false
      if Config.gcmTag kk (bounceIv r) (bounceHeader r) r.cipher = r.tag then some (gcmXor kk (bounceIv r) r.cipher)
      else none
    match tryKey k.active with
    | some b => some (false, b)
    | none => match k.pending with
      | some d => (tryKey d).map (fun b => (true, b))
      | none => none

/-- The key of a stream's COUNT record. -/
def streamKey (p stream : Nat) : Nat := 65 * p + stream

/-- Accept an H2D record: header, STREAM and COUNT, tag (R244). The plaintext, and the state with the COUNT recorded and
a pending bank promoted. `exact` asks for that COUNT; without it any COUNT above the record passes. -/
def openBounce (p kind stream maxLen : Nat) (exact : Option Nat) (r : BounceRec) (s : State) : Option (Bytes × State) :=
  let last := (mgetD s.mem.h2d (streamKey p stream) 0).toNat
  let countOk := match exact with | some n => r.count.toNat == n | none => decide (last < r.count.toNat)
  if !bounceHeaderOk r kind maxLen ∨ r.stream.toNat ≠ stream ∨ 64 < stream ∨ !countOk then none
  else match bounceBank s p r with
    | none => none
    | some (pend, b) =>
      let s1 := if pend then promoteSlot (0x100 + p) s else s
      some (b, { s1 with mem := { s1.mem with h2d := mset s1.mem.h2d (streamKey p stream) r.count 0 } })

/-! ### Completion records -/

/-- The 64 bytes of a completion record (Table 12-6). -/
def compBytes (r : CompRec) (seq : BitVec 32) (phase : Bool) : Bytes :=
  leBytes 8 r.entryId.toNat ++ leBytes 4 r.tag.toNat ++ leBytes 2 r.status.toNat ++ [r.ring, r.core] ++
    leBytes 8 r.period.toNat ++ leBytes 4 r.outLen.toNat ++ leBytes 4 r.result.toNat ++ leBytes 4 r.count.toNat ++
    [r.fcode, r.fslot] ++ zeros 2 ++ leBytes 4 r.fpc.toNat ++ zeros 4 ++ leBytes 8 r.faddr.toNat ++
    leBytes 4 seq.toNat ++ zeros 3 ++ [if phase then 1 else 0]

/-- Write one record to an enabled ring, in slot TAIL mod size, then signal the vector unless NO_IRQ was set (R286). -/
def putRecord (f : Fn) (r : CompRec) (s : State) : State :=
  let g := (fnRegs s f).comp
  let size := 2 ^ g.log2.toNat
  let idx := g.tail.toNat % size
  let phase := decide (g.tail.toNat / size % 2 = 0)
  let s1 := modRegs f (fun x => { x with comp := { x.comp with
    tail := x.comp.tail + 1, seq := x.comp.seq + 1,
    reserved := if x.comp.reserved = 0 then 0 else x.comp.reserved - 1 } }) s
  let conf := match f with | .vf n => isConf s n.toNat | .pf => false
  let s2 :=
    if conf then
      let b := sealBounce (fnKey f) 7 0 (compBytes r (g.seq + 1) phase) s1
      emit (.hostRecord f (g.base + BitVec.ofNat 64 (128 * idx)) b.1) b.2
    else emit (.completion f idx phase (g.seq + 1) r) s1
  if r.irq then msix f g.vector.toNat s2 else s2

/-- Write a finished entry's record, or hold it in order while ENABLE is 0 (R285). While the host link is down the record
is counted for the first record after the ring is set up again (R51). -/
def writeRecord (f : Fn) (r : CompRec) (s : State) : State :=
  let g := (fnRegs s f).comp
  if !s.power.pcie then
    modPart (fnKey f) (fun x => { x with counts := { x.counts with hostDropped := x.counts.hostDropped + 1 } }) s
  else if g.enable ∧ g.held = [] then putRecord f r s
  else modRegs f (fun x => { x with comp := { x.comp with held := x.comp.held ++ [r] } }) s

/-- Count a completion in its partition's and core's counters (Tables 24-6, 24-10). -/
def countRecord (p c : Nat) (status : Nat) (s : State) : State :=
  let s1 := modPart p (fun x => { x with counts :=
    if status = 0 then { x.counts with entries := satInc x.counts.entries }
    else if status = 8 then { x.counts with dropped := satInc x.counts.dropped }
    else if status = 0x10 then { x.counts with faulted := satInc x.counts.faulted } else x.counts }) s
  if (core s1 c).st = .unassigned then s1
  else modCore c (fun x => { x with counts :=
    if status = 0 then { x.counts with entries := satInc x.counts.entries }
    else if status = 8 then { x.counts with dropped := satInc x.counts.dropped }
    else if status = 0x10 then { x.counts with faulted := satInc x.counts.faulted } else x.counts }) s1

/-- The record of an entry with a status. -/
def recordOf (c : Nat) (e : WorkEntry) (status count : Nat) : CompRec :=
  { entryId := (e.x.getD 5 0), tag := e.tag, status := BitVec.ofNat 16 status, ring := BitVec.ofNat 8 e.ring,
    core := BitVec.ofNat 8 c, period := e.period, outLen := 0, result := 0, count := BitVec.ofNat 32 count, fcode := 0,
    fslot := 0, fpc := 0, faddr := 0, irq := e.irq }

/-- The function that serves a partition's work. -/
def fnOf (p : Nat) : Fn := .vf (BitVec.ofNat 7 p)

/-- The physical core bound to a logical core (R382). -/
def physOf (s : State) (c : Nat) : Nat :=
  match s.therm.groups.findSome? (fun g => ((g.2.members.zip g.2.bind).find? (fun m => m.1 == c)).map Prod.snd) with
  | some k => k
  | none => c

/-- The logical core bound to a physical core. -/
def logicalOf (s : State) (c : Nat) : Nat :=
  match s.therm.groups.findSome? (fun g => ((g.2.members.zip g.2.bind).find? (fun m => m.2 == c)).map Prod.fst) with
  | some k => k
  | none => c

/-- One DROPPED record for each cancelled entry, each with the total COUNT of the event (R288). -/
def dropEntries (es : List (Nat × WorkEntry)) (total : Nat) (s : State) : State :=
  es.foldl (fun t e => countRecord e.2.part e.1 8 (writeRecord (fnOf e.2.part) (recordOf (logicalOf s e.1) e.2 8 total) t)) s

/-! ### Cores at entry -/

/-- The entries a core holds: queued and taken. -/
def coreEntries (s : State) (c : Nat) : List (Nat × WorkEntry) :=
  let x := core s c
  (x.entry.toList ++ x.queue).map (fun e => (c, e))

/-- A core placed at entry (R257): W, ACC, return stack and fill buffer cleared, XLD transfers cancelled, PC 0. X, M and
local store are kept, and XST transfers complete. -/
def atEntry (x : Core) : Core :=
  { x with w := [], acc := [], rstack := [], pc := 0, xfers := x.xfers.filter (·.isSt), entry := none,
           waiting := .none,
           st := match x.st with | .run | .wait | .gated => .run | o => o }

/-- Cancel a core's queued and running work and place it at entry; the entries are answered by the caller. -/
def clearCore (c : Nat) (s : State) : State :=
  modCore c (fun x => { atEntry x with queue := [] }) s

/-- Remove a core from every token's wait queue. -/
def unwait (c : Nat) (s : State) : State :=
  { s with q := { s.q with tokens := s.q.tokens.map (fun e => (e.1, { e.2 with waiters := e.2.waiters.filter (· ≠ c) })) } }

/-- Cancel the queued and running work of a set of cores: every core at entry, one DROPPED record per entry with the
total count. The number of entries dropped. -/
def cancelCores (cs : List Nat) (s : State) : State × Nat :=
  let es := cs.flatMap (coreEntries s)
  let s1 := cs.foldl (fun t c => unwait c (clearCore c t)) s
  (dropEntries es es.length s1, es.length)

/-- Cancel the queued and running work of a partition, its postings among it. -/
def cancelPart (p : Nat) (s : State) : State × Nat :=
  let ps := (s.q.posting.filter (fun x => x.entry.part == p)).map (fun x => (physOf s x.core, x.entry))
  let es := (coresOf s p).flatMap (coreEntries s) ++ ps
  let s1 := (coresOf s p).foldl (fun t c => unwait c (clearCore c t)) s
  let s2 := { s1 with q := { s1.q with posting := s1.q.posting.filter (fun x => x.entry.part != p) } }
  (dropEntries es es.length s2, es.length)

end Sys2Proof.Machine
end

