-- ==== Sys2Proof/Machine/Fuse.lean ====
section
/-! DEFINITION. The fuse array (chapter 05): sensing and decoding into the shadow, the fuse summary record, tokens, and
the fuse-programming operation with its rows. -/

namespace Sys2Proof.Machine

/-! ### Sensing (R99–R104) -/

def cellRow (cells : SMap (BitVec 256)) (r : Nat) : BitVec 256 := mgetD cells r 0
def cellAt (cells : SMap (BitVec 256)) (r c : Nat) : Bool := (cellRow cells r).getLsbD c

/-- A row as sensed: single cells that misread, then the columns whose sense line is stuck. -/
def senseRow (e : SenseEnv) (cells : SMap (BitVec 256)) (r : Nat) : BitVec 256 :=
  let flip := (e.flips.filter (fun x => x.1.toNat == r)).foldl
    (fun (v : BitVec 256) x => v ^^^ BitVec.ofNat 256 (2 ^ x.2.toNat)) 0
  ((cellRow cells r ^^^ flip) &&& ~~~e.stuck0) ||| e.stuck1

/-- The array as sensed, row by row. -/
def senseAll (e : SenseEnv) (cells : SMap (BitVec 256)) : SMap (BitVec 256) :=
  (List.range 256).foldr (fun r m => let v := senseRow e cells r; if v = 0 then m else (r, v) :: m) []

/-- Sense-fault columns: rows 0–3 all read 0 or rows 4–7 all read 1 (R101). -/
def senseFaults (m : SMap (BitVec 256)) : BitVec 256 :=
  ~~~(cellRow m 0 ||| cellRow m 1 ||| cellRow m 2 ||| cellRow m 3) |||
    (cellRow m 4 &&& cellRow m 5 &&& cellRow m 6 &&& cellRow m 7)

/-- A vote flag of 16 cells (R103): cells in use, and cells that read 1. -/
def voteCounts (m : SMap (BitVec 256)) (sf : BitVec 256) (row col : Nat) : Nat × Nat :=
  let cs := ((List.range 16).map (· + col)).filter (fun c => !sf.getLsbD c)
  (cs.length, (cs.filter (cellAt m row)).length)

/-- Whether a flag reads set. -/
def voteSet (m : SMap (BitVec 256)) (sf : BitVec 256) (row col : Nat) : Bool := decide (3 ≤ (voteCounts m sf row col).2)

/-- Whether a flag is incomplete: 3 ≤ n < r − 2. -/
def voteIncomplete (m : SMap (BitVec 256)) (sf : BitVec 256) (row col : Nat) : Bool :=
  let v := voteCounts m sf row col
  decide (3 ≤ v.2) && decide (v.2 + 2 < v.1)

/-- The 8-bit values of a weight, rising. -/
def bytesOfWeight (k : Nat) : List Nat := (List.range 256).filter (fun n => ((List.range 8).filter (n.testBit ·)).length == k)

/-- The 64 data columns of a Hsiao (72,64) check matrix, unordered: every column of weight 3 and eight of weight 5. -/
def hsiaoPool : List Nat :=
  bytesOfWeight 3 ++
    (List.finRange 8).map (fun i => (bytesOfWeight 5).getD (Config.hsiaoFives (i.castLE (by decide))).val 0)

/-- Column `i` of the check matrix: odd-weight columns, those of the check bits of weight 1 (R100). -/
def hsiaoCol (i : Nat) : BitVec 8 :=
  if h : i < 64 then BitVec.ofNat 8 (hsiaoPool.getD (Config.hsiaoOrder ⟨i, h⟩).val 0) else BitVec.ofNat 8 (2 ^ (i - 64))

/-- The check bits of a data word. -/
def hsiaoCheck (d : BitVec 64) : BitVec 8 := (bitsOf d).foldl (fun c i => c ^^^ hsiaoCol i) 0

/-- The syndrome of a code word. -/
def hsiaoSyndrome (w : BitVec 72) : BitVec 8 := hsiaoCheck (w.truncate 64) ^^^ (w.extractLsb' 64 8)

/-- Every assignment of ones to a list of erased bits. -/
def assignments : List Nat → List (BitVec 72)
  | [] => [0]
  | i :: is => (assignments is).flatMap (fun v => [v, v ||| BitVec.ofNat 72 (2 ^ i)])

/-- Decode a (72,64) SEC-DED word with erasures (R102): a code word over the erased bits, or with at most one erasure
one corrected bit; more than three erasures do not decode. -/
def wordDecode (w er : BitVec 72) : Option (BitVec 64) :=
  let es := bitsOf er
  if 3 < es.length then none
  else
    let cands := (assignments es).map (fun a => (w &&& ~~~er) ||| a)
    match cands.find? (fun v => hsiaoSyndrome v == 0) with
    | some v => some (v.truncate 64)
    | none =>
      if 1 < es.length then none
      else
        cands.findSome? (fun v =>
          match ((List.range 72).filter (fun i => !er.getLsbD i)).find? (fun i => hsiaoCol i == hsiaoSyndrome v) with
          | some i => some ((v ^^^ BitVec.ofNat 72 (2 ^ i)).truncate 64)
          | none => none)

/-- The word stored at a row and base column. -/
def fuseWord (m : SMap (BitVec 256)) (sf : BitVec 256) (row base : Nat) : Option (BitVec 64) :=
  wordDecode ((cellRow m row).extractLsb' base 72) (sf.extractLsb' base 72)

/-- The manufacturing record word: the first of three copies that decodes (Table 05-1). -/
def mfgWord (m : SMap (BitVec 256)) (sf : BitVec 256) : Option (BitVec 64) :=
  [0, 72, 144].findSome? (fuseWord m sf 8)

/-- The row and column of owner-digest word `w` (Table 05-1). -/
def ownerWordAt (w : Nat) : Nat × Nat := (16 + w / 3, 16 + 72 * (w % 3))

/-- Owner digest `i`: six words, each 8 bytes little-endian; none where a word does not decode. -/
def ownerDigest (m : SMap (BitVec 256)) (sf : BitVec 256) (i : Nat) : Option Digest :=
  let ws := (List.range 6).map (fun j => let a := ownerWordAt (6 * i + j); fuseWord m sf a.1 a.2)
  if ws.all Option.isSome then some (dig (cat (ws.map (fun w => leBytes 8 (w.getD 0).toNat))) 0) else none

/-- The fused security version of a layer (R123). -/
def svnLevel (m : SMap (BitVec 256)) (sf : BitVec 256) (layer : Nat) : Nat :=
  let set (k : Nat) : Bool :=
    let cs := ((List.range 4).map (· + 4 * (k - 1))).filter (fun c => !sf.getLsbD c)
    let n := (cs.filter (cellAt m (64 + (layer - 1)))).length
    if cs.length < 2 then decide (1 ≤ n) else decide (2 ≤ n)
  (((List.range 64).map (· + 1)).filter set).foldl max 0

/-- The cells of ratchet step `s` (Table 05-1). -/
def ratchetCells (s : Nat) : List (Nat × Nat) :=
  [(96 + (s - 1) / 256, (s - 1) % 256), (112 + (s - 1) / 256, (s - 1 + 128) % 256)]

/-- The highest step of one ratchet row copy. -/
def ratchetRow (m : SMap (BitVec 256)) (sf : BitVec 256) (copyB : Bool) (k : Nat) : Nat :=
  let v := cellRow m ((if copyB then 112 else 96) + k) &&& ~~~sf
  (bitsOf v).foldl (fun a c => max a (256 * k + (if copyB then (c + 128) % 256 else c) + 1)) 0

/-- The ratchet value: the highest set step of either copy (R124). -/
def ratchetValue (m : SMap (BitVec 256)) (sf : BitVec 256) : Nat :=
  ((List.range 16).flatMap (fun k => [ratchetRow m sf false k, ratchetRow m sf true k])).foldl max 0

/-- The fuse shadow decoded from a sensed array (R99–R108, R123, R124). Root fields are the ROM's. -/
def decodeShadow (m : SMap (BitVec 256)) : FuseShadow :=
  let sf := senseFaults m
  let code := (List.range 5).foldl (fun n k => if voteSet m sf 9 (16 * k) then n + 2 ^ k else n) 0
  let inc := (List.range 5).any (fun k => voteIncomplete m sf 9 (16 * k))
  let mfg := mfgWord m sf
  let w := mfg.getD 0
  let lost := ((List.range 80).filter (fun c => sf.getLsbD c)).length
  let ctl (k : Nat) : Bool := voteSet m sf 9 (80 + 16 * k)
  let rev (row col : Nat) : BitVec 4 :=
    BitVec.ofNat 4 ((List.range 4).foldl (fun n k => if voteSet m sf row (col + 16 * k) then n + 2 ^ k else n) 0)
  let own := (List.range 4).map (ownerDigest m sf)
  let owner := ctl 1
  { undecodable := decide (2 < lost) || mfg.isNone || !(decide (16 ≤ code) || [0, 1, 3, 7, 15].contains code),
    code := BitVec.ofNat 8 code, incomplete := inc,
    part := if (w.extractLsb' 48 4).toNat = 1 then .u620 else .u640,
    stepping := if (w.extractLsb' 52 4).toNat = 1 then .b0 else .a0,
    serial := w &&& 0x0000FFFFFFFFFFFF#64,
    udsPresent := ctl 0, ownerPresent := owner, tamperResp := ctl 2, guard := ctl 3,
    revMladyo := rev 9 176, revOwner := rev 10 0,
    ownerDigests := if owner then own.map (fun d => d.getD 0) else [0, 0, 0, 0],
    ownerBad := owner && own.any Option.isNone,
    svn := [svnLevel m sf 1, svnLevel m sf 2, svnLevel m sf 3, svnLevel m sf 4],
    ratchet := ratchetValue m sf, senseFault := sf, rootCorr := 0xFF, degraded := false }

/-- The owner digest set DS: SHA-384 over the four owner key digests; zero without an owner record (R110, R125). -/
def ownerSet (f : FuseShadow) : Digest := if f.ownerPresent then sha384 (cat (f.ownerDigests.map digBytes)) else 0

/-- Owner indices revoked by flag or by an all-zero digest (R114, R125). -/
def ownerRevoked (f : FuseShadow) : BitVec 4 :=
  BitVec.ofNat 4 ((List.range 4).foldl
    (fun n i => if f.revOwner.getLsbD i ∨ f.ownerDigests.getD i 0 = 0 then n + 2 ^ i else n) 0)

def partCode (f : FuseShadow) : BitVec 8 := match f.part with | .u640 => 0 | .u620 => 1
def steppingCode (f : FuseShadow) : BitVec 8 := match f.stepping with | .a0 => 0 | .b0 => 1

/-- The fuse summary record (Table 05-10). -/
def fuseSummary (f : FuseShadow) : Bytes :=
  let flags := (if f.udsPresent then 1 else 0) + (if f.ownerPresent then 2 else 0) + (if f.tamperResp then 4 else 0) +
    (if f.guard then 8 else 0) + (if f.incomplete then 64 else 0) + (if f.degraded then 128 else 0)
  leBytes 4 0x55444653 ++ [1, f.code, partCode f, steppingCode f] ++ leBytes 8 f.serial.toNat ++
    f.svn.flatMap (leBytes 1) ++ leBytes 1 f.revMladyo.toNat ++ leBytes 1 (ownerRevoked f).toNat ++
    leBytes 2 f.ratchet ++ leBytes 1 flags ++ leBytes 1 (bitsOf f.senseFault).length ++ [f.rootCorr] ++ zeros 5 ++
    leBytes 32 f.senseFault.toNat ++ digBytes (ownerSet f) ++ zeros 16

/-! ### The root (R105, R106, R110, R113) -/

/-- The 640 root cells as a code word: bit j at row 16 + (j mod 40), column ⌊j/40⌋. -/
def rootCells (m : SMap (BitVec 256)) : BitVec 640 :=
  BitVec.ofNat 640 ((List.range 640).foldl (fun n j => if cellAt m (16 + j % 40) (j / 40) then n + 2 ^ j else n) 0)

/-- The UDS the ROM reads, with the number of corrections; none where the root does not decode. Without UDS_PRESENT it
is 384 zero bits. -/
def readRoot (f : FuseShadow) (m : SMap (BitVec 256)) : Option (Digest × Option Nat) :=
  if !f.udsPresent then some (0, none)
  else
    let bad := ((List.range 16).filter (fun c => f.senseFault.getLsbD c)).length
    let er : BitVec 640 := BitVec.ofNat 640
      ((List.range 640).foldl (fun n j => if f.senseFault.getLsbD (j / 40) then n + 2 ^ j else n) 0)
    if 2 ≤ bad then none
    else match Config.bchDecode (rootCells m) er with
      | some (u, t) => if 40 * bad + 2 * t ≤ 50 then some (u, some t) else none
      | none => none

/-- The root selected by the life-cycle code (R110); none in SCRAP. -/
def selectRoot (f : FuseShadow) (uds : Digest) : Option Bytes :=
  let ctx := [f.code] ++ leBytes 8 f.serial.toNat
  match f.code.toNat with
  | 0 | 1 | 3 => some (kdf (digBytes uds) "U-ROOT-PROV" ctx 384)
  | 7 => some (kdf (digBytes uds) "U-ROOT-OWNER" (ctx ++ digBytes (ownerSet f)) 384)
  | 15 => some (kdf (digBytes uds) "U-ROOT-RETURN" (ctx ++ digBytes (ownerSet f)) 384)
  | _ => none

/-! ### Programming (R118) -/

/-- The region code an INTERNAL detail names: the region's first fuse row (R139, Table 05-1). -/
def jobRegion : FuseJob → Nat
  | .transition _ => 9 | .generateRoot _ => 16 | .takeOwnership _ => 16 | .revokeMladyo _ => 9 | .revokeOwner _ => 10
  | .tamperResponse => 9 | .incompleteGuard => 9 | .svnAdvance _ => 64 | _ => 0x60

def flagCells (row col : Nat) : List (Nat × Nat) := (List.range 16).map (fun i => (row, col + i))

/-- The life-cycle flag of a target code (R109). -/
def flagOfCode (code : Nat) : Nat :=
  if 16 ≤ code then 4 else if code = 15 then 3 else if code = 7 then 2 else if code = 3 then 1 else 0

/-- The cells of one (72,64) word. -/
def wordCells (row base : Nat) (d : BitVec 64) : List (Nat × Nat) :=
  (bitsOf d).map (fun i => (row, base + i)) ++ (bitsOf (hsiaoCheck d)).map (fun i => (row, base + 64 + i))

/-- The cells of the owner digests. -/
def ownerCells (ds : List Digest) : List (Nat × Nat) :=
  let b := cat (ds.map digBytes)
  (List.range 24).flatMap (fun w =>
    let a := ownerWordAt w
    wordCells a.1 a.2 (BitVec.ofNat 64 (fld b (8 * w) 8)))

/-- The cells of a root code word. -/
def rootWordCells (uds : Digest) : List (Nat × Nat) :=
  let w := uds.toNat + (Config.bchCheck uds).toNat * 2 ^ 384
  ((List.range 640).filter (fun j => w.testBit j)).map (fun j => (16 + j % 40, j / 40))

/-- The next ratchet step's cells; none at 4,096. -/
def nextStep (f : FuseShadow) : List (Nat × Nat) := if f.ratchet < 4096 then ratchetCells (f.ratchet + 1) else []

/-- The stages of a job: the cells of each, and what the read-back of the affected region must decode to. -/
def jobStages (f : FuseShadow) : FuseJob → List (List (Nat × Nat) × (FuseShadow → SMap (BitVec 256) → Bool))
  | .transition code =>
    [(flagCells 9 (16 * flagOfCode code.toNat), fun g _ => !g.incomplete && g.code.getLsbD (flagOfCode code.toNat))]
  | .generateRoot u =>
    [(rootWordCells u, fun g m => match readRoot { g with udsPresent := true } m with
        | some (v, some t) => v == u && decide (t ≤ 2) | _ => false),
     (flagCells 9 80, fun g _ => g.udsPresent)]
  | .takeOwnership ds =>
    [(ownerCells ds, fun _ m => (List.range 4).map (ownerDigest m f.senseFault) == ds.map some),
     (flagCells 9 96, fun g _ => g.ownerPresent),
     (flagCells 9 32, fun g _ => !g.incomplete && g.code.getLsbD 2)]
  | .revokeMladyo i => [(flagCells 9 (176 + 16 * i), fun g _ => g.revMladyo.getLsbD i)]
  | .revokeOwner i => [(flagCells 10 (16 * i), fun g _ => g.revOwner.getLsbD i)]
  | .tamperResponse => [(flagCells 9 112, fun g _ => g.tamperResp)]
  | .incompleteGuard => [(flagCells 9 128, fun g _ => g.guard)]
  | .svnAdvance ts =>
    ts.map (fun t => (((List.range t.2).flatMap (fun k => (List.range 4).map (fun c => (64 + (t.1 - 1), 4 * k + c)))),
      fun g _ => decide (t.2 ≤ g.svn.getD (t.1 - 1) 0)))
  | _ => [(nextStep f, fun g _ => decide (f.ratchet < g.ratchet))]

/-- Set cells, but for those that fail and those in sense-fault columns (R102). -/
def programCells (sf : BitVec 256) (bad cs : List (Nat × Nat)) (m : SMap (BitVec 256)) : SMap (BitVec 256) :=
  cs.foldl (fun m c => if sf.getLsbD c.2 ∨ bad.contains c then m
    else mput m c.1 (cellRow m c.1 ||| BitVec.ofNat 256 (2 ^ c.2))) m

/-- Run the stages in order; the array afterwards and whether every stage read back as intended. -/
def runStages (f : FuseShadow) (bad : List (Nat × Nat)) :
    List (List (Nat × Nat) × (FuseShadow → SMap (BitVec 256) → Bool)) → SMap (BitVec 256) → SMap (BitVec 256) × Bool
  | [], m => (m, true)
  | (cs, ok) :: st, m =>
    let m1 := programCells f.senseFault bad cs m
    if ok (decodeShadow m1) m1 then runStages f bad st m1 else (m1, false)

/-- The shadow fields a finished job changes at once: revocations for tokens (R121), the tamper response (R122), the
guard, UDS_PRESENT, security versions and the ratchet. Life-cycle fields wait for the next sensing. -/
def adopt (f g : FuseShadow) : FuseShadow :=
  { f with revMladyo := g.revMladyo, revOwner := g.revOwner, tamperResp := g.tamperResp, guard := g.guard,
           udsPresent := g.udsPresent, svn := g.svn, ratchet := g.ratchet }

/-- Begin a fuse-programming operation: FUSE_PWR_EN released (R43). -/
def beginFuse (job : FuseJob) (env : Option Pending) (s : State) : State :=
  { s with fuses := { s.fuses with op := some { job := job, env := env, ready := false } },
           aon := { s.aon with fusePwrEn := true } }

/-- End the operation: FUSE_PWR_EN low. -/
def endFuse (s : State) : State :=
  { s with fuses := { s.fuses with op := none }, aon := { s.aon with fusePwrEn := false, vddFuse := false } }

/-- A reset in the middle of programming leaves an open subset of the job's cells programmed (R118). -/
def programSome (s : State) : State :=
  match s.fuses.op with
  | some o =>
    if o.ready then
      let cs := (jobStages s.fuses.shadow o.job).flatMap Prod.fst
      let bad := (cs.zipIdx).filter (fun c => !(Config.open64 (s.free + c.2 / 64)).getLsbD (c.2 % 64))
      let u := useFree s
      { u.2 with fuses := { s.fuses with
          cells := programCells s.fuses.shadow.senseFault (bad.map Prod.fst) cs s.fuses.cells } }
    else s
  | none => s

/-! ### Keys zeroed (R75, R111, Table 06-6) -/

/-- The key vault, the WKR and every key copy zeroed, VERSION with them. -/
def zeroKeys (s : State) : State :=
  { s with vault := { s.vault with slots := [], wkr := 0, mce := [], bce := [], lce := [], tce := none },
           eng := { s.eng with hsbEcdh := none, hsbKem := none, de := [] } }

/-! ### Signer blocks (R114) -/

/-- A signer block's parts: ECDSA key, ML-DSA key, ECDSA signature, ML-DSA signature. -/
def signerKeys (b : Bytes) : Bytes := b.take 2689

/-- Whether a signer block verifies over a region under key digests and revocations. -/
def signerOk (b region : Bytes) (digest : Nat → Digest) (revoked : BitVec 4) (index : Nat) : Bool :=
  decide (index < 4) && !revoked.getLsbD index && sha384 (signerKeys b) == digest index && digest index != 0 &&
    Config.ecdsaVerify (b.take 97) (sha384 region) (slice b 2689 96) &&
    Config.mldsaVerify (slice b 97 2592) region [] (slice b 2785 4627)

/-- Mladyo and owner digests and revocations. -/
def mladyoOk (f : FuseShadow) (b region : Bytes) (i : Nat) : Bool := signerOk b region Config.mladyoDigest f.revMladyo i
def ownerOk (f : FuseShadow) (b region : Bytes) (i : Nat) : Bool :=
  signerOk b region (fun k => f.ownerDigests.getD k 0) (ownerRevoked f) i

/-! ### FUSE_ACTION (R116) -/

/-- Number of signers of a token. -/
def tokenSigners (e : Env) : Nat := (if (byteAt e.payload 0x20).getLsbD 0 then 1 else 0) + (if (byteAt e.payload 0x20).getLsbD 1 then 1 else 0)

/-- Step 1 of R116: the token's format, fields in ascending offset. Byte 0x23 counts data in two bytes, little-endian. -/
def tokenFormat (e : Env) : Option Ans :=
  let p := e.payload
  let act := p8 e 5
  let n := p16 e 0x23
  let cs : List Chk :=
    (List.range 4).map (fun i => (i, byteAt p i == byteAt (leBytes 4 0x55444C54) i)) ++
    [(4, p8 e 4 == 1), (5, decide (1 ≤ act ∧ act ≤ 7)),
     (6, if act = 1 then [1, 3, 15].contains (p8 e 6) || decide (16 ≤ p8 e 6 ∧ p8 e 6 < 32)
         else if act = 4 ∨ act = 5 then decide (p8 e 6 < 4) else p8 e 6 == 0),
     (0x20, decide (1 ≤ p8 e 0x20 ∧ p8 e 0x20 ≤ 3)), (0x21, decide (p8 e 0x21 ≤ 3)), (0x22, decide (p8 e 0x22 ≤ 3)),
     (0x23, n == (if act = 3 then 192 else 0))] ++ rsv e 0x25 27
  match payFault cs with
  | some a => some a
  | none =>
    if p.length = 64 + n + 7412 * tokenSigners e then none
    else some { Ans.malformed 0 with detail := 0xFFFFFFFF }

/-- The signer set Table 05-4 and Table 05-7 ask for: bit 0 Mladyo, bit 1 owner. -/
def actionSigners (f : FuseShadow) (act arg : Nat) : Nat :=
  let code := f.code.toNat
  match act with
  | 1 =>
    if f.incomplete ∧ arg = code then (if code = 7 then 2 else if code = 15 then 3 else 1)
    else if 16 ≤ arg then (if code = 7 then 2 else 1) else if arg = 15 then 3 else 1
  | 2 | 4 => 1
  | 3 | 5 => 2
  | _ => if code = 7 then 2 else 1

/-- Step 3: signatures, key digests, revocation, serial and current code. A Take ownership token is signed under a digest
of its own new record (R120). -/
def tokenSigned (f : FuseShadow) (e : Env) : Bool :=
  let p := e.payload
  let n := p16 e 0x23
  let region := p.take (64 + n)
  let set := p8 e 0x20
  let b1 := slice p (64 + n) 7412
  let b2 := slice p (64 + n + (if set = 3 then 7412 else 0)) 7412
  let own : Bool :=
    if p8 e 5 = 3 then
      let ds := (List.range 4).map (fun i => dig p (64 + 48 * i))
      signerOk b2 region (fun k => ds.getD k 0) 0 (p8 e 0x22)
    else ownerOk f b2 region (p8 e 0x22)
  (if set % 2 = 1 then mladyoOk f b1 region (p8 e 0x21) else true) && (if 2 ≤ set then own else true) &&
    set == actionSigners f (p8 e 5) (p8 e 6) && p64 e 8 == f.serial.toNat && p8 e 7 == f.code.toNat

/-- Step 5: whether the action is permitted in this state (Tables 05-4 and 05-7, R107, R112, R113). -/
def actionPermitted (f : FuseShadow) (act arg : Nat) : Bool :=
  let c := f.code.toNat
  let completing := act = 1 ∧ f.incomplete ∧ arg = c
  let table : Bool :=
    match act with
    | 1 =>
      if f.incomplete then decide (arg = c) || decide (16 ≤ arg ∧ c < 16)
      else decide (16 ≤ arg ∧ c < 16) || (c == 0 && arg == 1) || (c == 1 && arg == 3 && f.udsPresent) || (c == 7 && arg == 15)
    | 2 => c == 1 && !f.udsPresent
    | 3 => c == 3
    | 4 => decide (c < 16)
    | 5 => c == 7
    | _ => c == 1 || c == 3 || c == 7
  table && (!f.degraded || decide (act = 1 ∧ (16 ≤ arg ∨ (c = 7 ∧ arg = 15))) ||
    (decide completing && f.guard))

/-- Step 6: conflicts (R119–R121). -/
def actionConflict (s : State) (e : Env) : Bool :=
  let f := s.fuses.shadow
  let act := p8 e 5
  let arg := p8 e 6
  match act with
  | 2 => (rootCells s.fuses.cells) != 0
  | 3 =>
    let want := ownerCells ((List.range 4).map (fun i => dig e.payload (64 + 48 * i)))
    ((List.range 8).any (fun r => (List.range 216).any (fun c =>
      cellAt s.fuses.cells (16 + r) (16 + c) && !want.contains (16 + r, 16 + c))))
  | 4 => arg == p8 e 0x21 || decide ((f.revMladyo ||| BitVec.ofNat 4 (2 ^ arg)) = 15)
  | 5 => arg == p8 e 0x22 || decide ((ownerRevoked f ||| BitVec.ofNat 4 (2 ^ arg)) = 15)
  | _ => false

/-- The job of an action. -/
def actionJob (s : State) (e : Env) : FuseJob :=
  let arg := p8 e 6
  match p8 e 5 with
  | 1 => .transition (BitVec.ofNat 8 arg)
  | 2 => .generateRoot (BitVec.ofNat 384 (beNat (drawBytes s.free 48)))
  | 3 => .takeOwnership ((List.range 4).map (fun i => dig e.payload (64 + 48 * i)))
  | 4 => .revokeMladyo arg
  | 5 => .revokeOwner arg
  | 6 => .tamperResponse
  | _ => .incompleteGuard

/-- R111 steps 2–4: other envelopes wait, all work is cancelled, every key is zeroed. -/
def beginTransition (s : State) : State :=
  let s1 := { s with fuses := { s.fuses with transition := true } }
  zeroKeys (((mkeys s1.parts.parts)).foldl (fun t p => (cancelPart p t).1) s1)

/-- Execution of a verified action: the operation starts and the reply waits for it. -/
def startAction (e : Env) (s : State) : State × Ans :=
  let job := actionJob s e
  let s1 := match job with | .transition _ | .takeOwnership _ => beginTransition s | .generateRoot _ => (useFree s).2 | _ => s
  (beginFuse job (some { env := e, op := 0x203 }) s1, Ans.waiting)

/-- The body of FUSE_ACTION in R116's order. A FRANKED envelope's own franking check is the generic one. -/
def fuseActionBody (e : Env) (s : State) : State × Ans :=
  let f := s.fuses.shadow
  match tokenFormat e with
  | some a => (s, a.at_ 1)
  | none =>
    if s.fuses.op.isSome then (s, (Ans.retry 100).at_ 2)
    else if !tokenSigned f e then (s, Ans.refused.at_ 3)
    else
      let s1 := { s with fuses := { s.fuses with nonce := none } }
      if s.fuses.nonce ≠ some (BitVec.ofNat 128 (fld e.payload 0x10 16)) then (s1, (Ans.stale 0).at_ 4)
      else if !actionPermitted f (p8 e 5) (p8 e 6) then (s1, (Ans.state (f.code.zeroExtend 32)).at_ 5)
      else if actionConflict s e then (s1, Ans.conflict.at_ 6)
      else startAction e s1

def specFuseSummaryGet : OpSpec := { op := 0x201, callers := [.pf, .mg], device := true, len := (· == 0), reply := 128 }
def specFuseNonceGet : OpSpec := { op := 0x202, callers := [.pf, .mg], device := true, len := (· == 0), reply := 16 }
def specFuseAction : OpSpec :=
  { op := 0x203, callers := [.pf, .mg], device := true,
    len := fun n => [64 + 7412, 64 + 14824, 64 + 192 + 7412, 64 + 192 + 14824].contains n }

/-- FUSE_SUMMARY_GET (R125). It is served during a transition too (R111). -/
def fuseSummaryGet (e : Env) (s : State) : State :=
  serve specFuseSummaryGet e (fun t => (t, Ans.ok (fuseSummary t.fuses.shadow)))
    { s with fuses := { s.fuses with transition := false } } |> fun t =>
    { t with fuses := { t.fuses with transition := s.fuses.transition } }

/-- FUSE_NONCE_GET (R115): a fresh nonce replaces the one held. DRBG failure is R168's. -/
def fuseNonceGet (e : Env) (s : State) : State :=
  serve specFuseNonceGet e (fun t =>
    if t.eng.entropyFailed then (t, Ans.internal 0x454E)
    else
      let b := drawBytes t.free 16
      let u := useFree t
      ({ u.2 with fuses := { t.fuses with nonce := some (BitVec.ofNat 128 (leNat b)) },
                  eng := { t.eng with drbgRuns := t.eng.drbgRuns + 1 } }, Ans.ok b)) s

/-- FUSE_ACTION. -/
def fuseAction (e : Env) (s : State) : State := serve specFuseAction e (fuseActionBody e) s

end Sys2Proof.Machine
end

