-- ==== Sys2Proof/Machine/Net.lean ====
section
/-! DEFINITION. The management port's addresses (Table 21-1, R438): the MAC and its EUI-64, link-local, SLAAC and static
addresses, duplicate address detection, and new settings. Which port statistic a counter is, is the model's choice (log 18). -/

namespace Sys2Proof.Machine

def modMgmt (f : Mgmt → Mgmt) (s : State) : State := { s with mgmt := f s.mgmt }

/-- The MAC at boot: 0x02, then SERIAL[39:0]. -/
def bootMac (s : State) : BitVec 48 := BitVec.ofNat 48 (2 * 2 ^ 40 + s.fuses.shadow.serial.toNat % 2 ^ 40)

/-- The interface identifier: the modified EUI-64 of a MAC. -/
def eui64 (mac : BitVec 48) : Nat :=
  ((mac.toNat / 2 ^ 24) ^^^ (2 ^ 17)) * 2 ^ 40 + 0xFFFE * 2 ^ 24 + mac.toNat % 2 ^ 24

/-- The link-local address of a MAC. -/
def linkLocal (mac : BitVec 48) : BitVec 128 := BitVec.ofNat 128 (0xFE80 * 2 ^ 112 + eui64 mac)

/-- Whether an address is link-local. -/
def isLinkLocal (a : BitVec 128) : Bool := a.toNat / 2 ^ 118 == 0x3FA

/-- Take an address, tentative until its DAD ends; at most eight. -/
def addAddr (ip : BitVec 128) (pre : BitVec 8) (kind : BitVec 2) (s : State) : State :=
  if s.mgmt.addrs.any (fun a => a.ip == ip) ∨ 8 ≤ s.mgmt.addrs.length then s
  else emit (.dadProbe ip) (modMgmt (fun m => { m with addrs := m.addrs ++ [{ ip := ip, prefix_ := pre, dad := .tentative, kind := kind }] }) s)

/-- The addresses that settings give: link-local and static. -/
def addFixed (n : NetSet) (s : State) : State :=
  n.static.foldl (fun t a => addAddr a.1 a.2 2 t) (addAddr (linkLocal n.mac) 64 0 s)

/-- The management paths come up with WFW (R436, R440): 1000BASE-X, MTU 1,500, SLAAC on, the MAC of the serial number. -/
def netUp (s : State) : State :=
  let n : NetSet := { NetSet.reset with mac := bootMac s }
  addFixed n (modMgmt (fun m => { m with targetOn := true, net := n, pending := none, addrs := [] }) s)

/-- MGMT_NET_APPLY (R438): the settings take effect; a new mode or MAC retrains the link, whose addresses form anew. -/
def netApply (s : State) : State :=
  match s.mgmt.pending with
  | none => s
  | some n =>
    let o := s.mgmt.net
    let anew : Bool := n.sgmii != o.sgmii || n.mac != o.mac
    let keep (a : Addr) : Bool := !anew &&
      (if a.kind = 2 then n.static.any (fun x => x.1 == a.ip && x.2 == a.prefix_) else if a.kind = 1 then n.slaac else true)
    addFixed n (modMgmt (fun m => { m with net := n, pending := none, addrs := m.addrs.filter keep }) s)

/-- Count one of the eight port statistics. -/
def portStat (i : Nat) (s : State) : State := modMgmt (fun m => { m with stats := mset m.stats i (mgetD m.stats i 0 + 1) 0 }) s

/-- DAD_COMPLETE (R436). -/
def dadDone (ip : BitVec 128) (dup : Bool) (s : State) : State :=
  modMgmt (fun m => { m with addrs := m.addrs.map (fun a =>
    if a.ip = ip ∧ a.dad = .tentative then { a with dad := if dup then .duplicate else .preferred } else a) }) s

end Sys2Proof.Machine
end

