-- ==== Sys2Proof/Machine/Store.lean ====
section
/-! DEFINITION. The flash (chapter 20): journal records and bank states, image headers and their verification (R79), the
counter block, the persistent store and the configuration area. -/

namespace Sys2Proof.Machine

/-! ### Banks and the journal -/

def bankOf (s : State) (b : Bool) : Bank := if b then s.flash.bankB else s.flash.bankA
def setBank (b : Bool) (x : Bank) (s : State) : State :=
  if b then { s with flash := { s.flash with bankB := x } } else { s with flash := { s.flash with bankA := x } }
def bankCode (b : Bool) : BitVec 8 := if b then 1 else 0
def bankStCode : BankSt → BitVec 8 | .empty => 0 | .writing => 1 | .staged => 2 | .trial => 3 | .good => 4

/-- A flash job other than a bank-range erase or repair is queued. -/
def otherJob (s : State) : Bool :=
  s.flash.jobs.any (fun j => match j with | .bankErase _ _ => false | .repair _ _ => false | _ => true)

/-- Append a record to the current journal sector; with fewer than 16 of its 1,024 slots blank, compaction begins with
ERASE_INTENT for the next sector (R423). -/
def journal (jtype bank value cond : BitVec 8) (addr : BitVec 64) (count : BitVec 32) (s : State) : State :=
  let f := s.flash
  let r : JRec := { jtype := jtype, bank := bank, value := value, cond := cond, jseq := f.jseq + 1, addr := addr,
                    count := count, data := 0 }
  let recs := mgetD f.sectors f.cur [] ++ [r]
  let f1 : Flash := { f with jseq := r.jseq, sectors := mput f.sectors f.cur recs }
  let blank := 1024 - (recs.length + f.torn)
  if blank < 16 ∧ !f.jobs.any (fun j => match j with | .journal => true | _ => false) then
    let nxt := (f.cur + 1) % 4
    let i : JRec := { jtype := 5, bank := 0xFF, value := 0, cond := 0, jseq := f1.jseq + 1,
                      addr := BitVec.ofNat 64 (0x01000000 + 0x10000 * nxt), count := 1, data := 0 }
    { s with flash := { f1 with jseq := i.jseq, sectors := mput f1.sectors f1.cur (recs ++ [i]),
                                jobs := f1.jobs ++ [.journal] } }
  else { s with flash := f1 }

/-- A bank enters a state (BANK_STATE); a new TRIAL is unconsumed. -/
def setBankSt (b : Bool) (st : BankSt) (s : State) : State :=
  let x := bankOf s b
  journal 1 (bankCode b) (bankStCode st) 0 0 0 (setBank b { x with st := st, consumed := x.consumed && st != .trial } s)

/-- TRIAL_CONSUMED. -/
def consumeTrial (b : Bool) (s : State) : State :=
  journal 2 (bankCode b) 0 0 0 0 (setBank b { bankOf s b with consumed := true } s)

/-- ACTIVE. -/
def setActive (b : Bool) (s : State) : State :=
  journal 3 (bankCode b) 0 0 0 0 { s with flash := { s.flash with active := b } }

/-- The CHECKPOINT record of the present state (Table 20-2). -/
def checkpoint (s : State) (jseq : BitVec 64) : JRec :=
  let f := s.flash
  let flags := (if f.bankA.consumed then 1 else 0) + (if f.bankB.consumed then 2 else 0) + (if f.active then 4 else 0)
  let open_ := (if f.bankA.erasing then 1 else 0) + (if f.bankB.erasing then 2 else 0)
  { jtype := 7, bank := 0xFF, value := 0, cond := 0, jseq := jseq, addr := 0, count := 0,
    data := BitVec.ofNat 128 ((bankStCode f.bankA.st).toNat + 256 * (bankStCode f.bankB.st).toNat + 65536 * flags + 2 ^ 24 * open_) }

/-- The end of a compaction: ERASE_DONE in the old sector, CHECKPOINT first in the new one. -/
def compactDone (s : State) : State :=
  let f := s.flash
  let nxt := (f.cur + 1) % 4
  let d : JRec := { jtype := 6, bank := 0xFF, value := 0, cond := 0, jseq := f.jseq + 1,
                    addr := BitVec.ofNat 64 (0x01000000 + 0x10000 * nxt), count := 1, data := 0 }
  { s with flash := { f with
      sectors := mput (mput f.sectors f.cur (mgetD f.sectors f.cur [] ++ [d])) nxt [checkpoint s (f.jseq + 2)],
      cur := nxt, torn := 0, jseq := f.jseq + 2 } }

/-! ### Images (Table 04-3, R79) -/

def imageM (img : Bytes) : Digest := sha384 (img.take 0xB20)
def imageSvn (img : Bytes) : Nat := (byteAt img 8).toNat
def imageKey (img : Bytes) : Nat := (byteAt img 9).toNat
def imageLen (img : Bytes) : Nat := fld img 0xC 4
def imageBuild (img : Bytes) : BitVec 64 := BitVec.ofNat 64 (fld img 0x10 8)
def imageBody (img : Bytes) : Bytes := slice img 0x2000 (imageLen img)
/-- The layer maximum in bytes (Table 04-1). -/
def layerMax (layer : Nat) : Nat := 1024 * (match layer with | 1 => 1024 | 2 => 512 | 3 => 256 | _ => 512)
/-- The image in a bank's slot of a layer. -/
def imageOf (s : State) (b : Bool) (layer : Nat) : Bytes := mgetD (bankOf s b).images layer []

/-- R79 (a)–(h) in order: the first condition that fails, 1 to 8, or none. -/
def imageFault (f : FuseShadow) (layer : Nat) (img : Bytes) : Option Nat :=
  let z (o n : Nat) : Bool := allZero (slice img o n)
  let a := fld img 0 4 == 0x55444648 && fld img 4 2 == 1 && (byteAt img 6).toNat == layer && z 7 1 && z 0xA 2 &&
    z 0x54 44 && z 0xE1 31 && z 0x1D93 621 && decide (fld img 0x18 4 < 4) && decide (fld img 0x50 4 < 4) &&
    decide (0x2000 ≤ img.length)
  let b := decide (imageLen img ≤ layerMax layer) && decide (imageLen img % 4096 = 0)
  let c := (fld img 0x18 4).testBit (steppingCode f).toNat && (fld img 0x50 4).testBit (partCode f).toNat
  let i := imageKey img
  let kd := sha384 (slice img 0x80 97 ++ slice img 0x100 2592)
  let d := decide (i < 4) &&
    (if layer = 4 then kd == f.ownerDigests.getD i 0 && !(ownerRevoked f).getLsbD i
     else kd == Config.mladyoDigest i && !f.revMladyo.getLsbD i)
  let region := img.take 0xB20
  let e := Config.ecdsaVerify (slice img 0x80 97) (sha384 region) (slice img 0xB20 96)
  let m := Config.mldsaVerify (slice img 0x100 2592) region [] (slice img 0xB80 4627)
  let g := decide (f.svn.getD (layer - 1) 0 ≤ imageSvn img)
  let h := sha384 (imageBody img) == dig img 0x20
  if !a then some 1 else if !b then some 2 else if !c then some 3 else if !d then some 4 else if !e then some 5
  else if !m then some 6 else if !g then some 7 else if !h then some 8 else none

/-- The layers a life-cycle state loads (Table 04-2). -/
def layersOf (f : FuseShadow) : List Nat := if f.code = 7 then [1, 2, 3, 4] else [1, 2, 3]

/-- The first layer of a bank that fails R79, with its condition. -/
def bankFault (s : State) (b : Bool) : Option (Nat × Nat) :=
  (layersOf s.fuses.shadow).findSome? (fun l => (imageFault s.fuses.shadow l (imageOf s b l)).map (fun c => (l, c)))

/-! ### Counter block, store and configuration copies -/

/-- The counter-block key, slot 0x005 (chapter 20). -/
def cbk (s : State) : Bytes := digBytes (slot s 5).active

/-- A counter-block copy's bytes 0x000–0x3CF (Table 20-4). -/
def cblockBytes (b : CBlock) : Bytes :=
  leBytes 4 0x55444342 ++ [1] ++ zeros 3 ++ leBytes 8 b.gen.toNat ++ leBytes 2 b.ratchet ++ zeros 6 ++ digBytes b.did ++
    digBytes b.storeDg ++ padTo 520 (b.counters.flatMap (fun c => leBytes 8 c.toNat)) ++ zeros 336

def cblockTag (s : State) (b : CBlock) : Bytes := hmac384 (cbk s) (cblockBytes b)

/-- A store copy's bytes. -/
def pstoreBytes (st : PStore) : Bytes :=
  let es := st.entries.map (fun e => leBytes 2 e.slot ++ zeros 6 ++ leBytes 8 e.attr.toNat ++ padTo 56 e.kw ++ zeros 8)
  padTo 5136 (leBytes 4 0x55445053 ++ [1] ++ zeros 3 ++ leBytes 8 st.gen.toNat ++ cat es)

/-- A configuration copy's bytes before its TAG (R430). -/
def cfgBytes (c : CfgCopy) : Bytes :=
  let ids := leBytes 4 c.idSet.1.length ++ leBytes 4 c.idSet.2.length ++ c.idSet.1 ++ c.idSet.2
  leBytes 4 0x55444346 ++ [1] ++ zeros 3 ++ leBytes 8 c.gen.toNat ++ digBytes c.did ++ leBytes 4 ids.length ++ ids ++
    leBytes 4 (if c.bond.isSome then 1 else 0) ++ padTo 336 (c.bond.getD []) ++
    leBytes 4 (if c.join.isSome then 1 else 0) ++ padTo 256 (c.join.getD [])

def cfgTag (s : State) (c : CfgCopy) : Bytes := hmac384 (cbk s) (cfgBytes c)

/-- The highest GEN of a list of copies. -/
def topGen (gs : List (BitVec 64)) : Nat := gs.foldl (fun a g => max a g.toNat) 0

/-- Replace the older of two copies (R426): keep the one of the highest GEN beside the new one. -/
def replaceOld {α : Type} (gen : α → BitVec 64) (new_ : α) (old : List α) : List α :=
  match old.filter (fun c => (gen c).toNat == topGen (old.map gen)) with
  | c :: _ => [c, new_]
  | [] => [new_]

/-- The configuration to be written: the present identity set, bond and join set. -/
def cfgNow (s : State) : CfgCopy :=
  let c : CfgCopy :=
    { gen := BitVec.ofNat 64 (topGen (s.flash.configs.map (·.gen)) + 1), did := s.vault.did,
      idSet := (s.att.idChain, s.att.idDual), bond := s.twin.bond.map (·.raw), join := s.car.join.map (·.raw), tag := [] }
  { c with tag := cfgTag s c }

/-- Queue a configuration write whose reply waits for it (R430). -/
def queueConfig (env : Option Pending) (s : State) : State :=
  { s with flash := { s.flash with jobs := s.flash.jobs ++ [.config env (cfgNow s)] } }

/-- The persistent key-wrap key PWK, slot 0x004. -/
def pwk (s : State) : BitVec 256 := aesKey (slot s 4).active

/-- Store entries of the present persistent slots, one slot's entry replaced or left out. -/
def storeEntries (s : State) (skip : Nat) (extra : Option (Nat × BitVec 64 × Digest)) : List PEntry :=
  let keep := (s.vault.slots.filter (fun e => e.2.persist && e.2.activeValid && e.1 != skip)).map
    (fun e => { slot := e.1, attr := e.2.attr &&& attrRw, kw := kwWrap (pwk s) (digBytes e.2.active) : PEntry })
  match extra with
  | some (n, a, k) => keep ++ [{ slot := n, attr := a &&& attrRw, kw := kwWrap (pwk s) (digBytes k) }]
  | none => keep

/-- The store a job's step 1 writes (R139, R446). A REPLACE of a credential leaves the active bank unchanged. -/
def jobStore (s : State) : FuseJob → List PEntry
  | .letter n a k _ false => storeEntries s n (some (n, a, k))
  | .destroy n => storeEntries s n none
  | .promote n => storeEntries s n (some (n, (slot s n).attr, (slot s n).pending))
  | .reanchor _ => []
  | _ => storeEntries s 0 none

/-- Write store and counter block of the next GEN at a ratchet value (R426, steps 1 and 2 of R139). -/
def writeBlock (es : List PEntry) (ratchet : Nat) (counters : List (BitVec 64)) (s : State) : State :=
  let g := BitVec.ofNat 64 (max (topGen (s.flash.blocks.map (·.gen))) (topGen (s.flash.stores.map (·.gen))) + 1)
  let st : PStore := { gen := g, entries := es }
  let b0 : CBlock := { gen := g, ratchet := ratchet, did := s.vault.did, storeDg := sha384 (pstoreBytes st),
                       counters := counters, tag := [] }
  let b := { b0 with tag := cblockTag s b0 }
  { s with flash := { s.flash with stores := replaceOld (·.gen) st s.flash.stores,
                                   blocks := replaceOld (·.gen) b s.flash.blocks, counters := counters } }

/-- Index of an issuer in the counter block (Table 20-4). -/
def counterIndex : Issuer → Option Nat | .slot n => some n | .owner => some 64 | .tid _ => none

/-- The last persistent counter accepted from an issuer, volatile floors included (R428). -/
def persistCounter (s : State) (i : Issuer) : BitVec 64 :=
  match counterIndex i with
  | some k => let a := s.flash.counters.getD k 0; let b := s.flash.floors.getD k 0; if a.toNat < b.toNat then b else a
  | none => 0

/-- Record a persistent letter's counter as a floor of this boot. -/
def recordPersist (i : Issuer) (c : BitVec 64) (s : State) : State :=
  match counterIndex i with
  | some k => { s with flash := { s.flash with floors := s.flash.floors.set k c } }
  | none => s

end Sys2Proof.Machine
end

