-- ==== Sys2Proof/Machine/X509.lean ====
section
/-! DEFINITION. The two X.509 v3 certificates of R334, DER-encoded under RFC 5280. The name strings are UTF8String, the
hexadecimal digits capitals and keyUsage is not critical (DESIGN CHOICE, log 15). -/

namespace Sys2Proof.Machine

/-- The length octets of DER. -/
def derLen (n : Nat) : Bytes :=
  if n < 128 then [BitVec.ofNat 8 n] else if n < 256 then [0x81, BitVec.ofNat 8 n] else 0x82#8 :: beBytes 2 n

/-- One DER value. -/
def der (tag : BitVec 8) (body : Bytes) : Bytes := tag :: derLen body.length ++ body

def derSeq (parts : List Bytes) : Bytes := der 0x30 (cat parts)

/-- A non-negative INTEGER in its shortest form. -/
def derInt (b : Bytes) : Bytes :=
  let v := b.dropWhile (· == 0)
  match v with
  | [] => der 2 [0]
  | x :: _ => der 2 (if x.getLsbD 7 then 0#8 :: v else v)

/-- ecdsa-with-SHA384. -/
def algEcdsa384 : Bytes := derSeq [der 6 [0x2A, 0x86, 0x48, 0xCE, 0x3D, 4, 3, 3]]

/-- id-ecPublicKey on secp384r1, and the key. -/
def spki (pub : Bytes) : Bytes :=
  derSeq [derSeq [der 6 [0x2A, 0x86, 0x48, 0xCE, 0x3D, 2, 1], der 6 [0x2B, 0x81, 4, 0, 0x22]], der 3 (0#8 :: pub)]

def hexDigit (n : Nat) : Byte := BitVec.ofNat 8 (if n < 10 then 0x30 + n else 0x37 + n)

/-- SERIAL as 12 hexadecimal digits. -/
def hex12 (v : BitVec 64) : Bytes := (List.range 12).map (fun i => hexDigit (v.toNat / 16 ^ (11 - i) % 16))

/-- A Name of one CommonName. -/
def commonName (who : String) (serial : BitVec 64) : Bytes :=
  derSeq [der 0x31 (derSeq [der 6 [0x55, 4, 3], der 0x0C (ascii who ++ [0x20] ++ hex12 serial)])]

/-- The validity of R334. -/
def validity : Bytes := derSeq [der 0x17 (ascii "700101000000Z"), der 0x18 (ascii "99991231235959Z")]

/-- basicConstraints and keyUsage of a CA certificate or a signing certificate. -/
def extensions (ca : Bool) : Bytes :=
  der 0xA3 (derSeq
    [derSeq [der 6 [0x55, 0x1D, 0x13], der 1 [0xFF], der 4 (if ca then derSeq [der 1 [0xFF], der 2 [0]] else derSeq [])],
     derSeq [der 6 [0x55, 0x1D, 0x0F], der 4 (der 3 (if ca then [2, 4] else [7, 0x80]))]])

/-- The signed part of a certificate. -/
def tbs (ca : Bool) (issuer subject : String) (serial : BitVec 64) (pub : Bytes) : Bytes :=
  let sn := match (sha384b pub).take 16 with | b :: r => (b &&& 0x7F) :: r | [] => []
  derSeq [der 0xA0 (der 2 [2]), derInt sn, algEcdsa384, commonName issuer serial, validity, commonName subject serial, spki pub,
    extensions ca]

/-- A certificate for a public key, signed by an ECDSA key. -/
def x509 (ca : Bool) (issuer subject : String) (serial : BitVec 64) (pub : Bytes) (key : Digest) (draw : Nat) : Bytes :=
  let t := tbs ca issuer subject serial pub
  let sg := padTo 96 (Config.ecdsaSign key (sha384 t) draw)
  derSeq [t, algEcdsa384, der 3 (0#8 :: derSeq [derInt (sg.take 48), derInt (sg.drop 48)])]

end Sys2Proof.Machine
end

