-- ==== Sys2Proof/Machine/Boot.lean ====
section
/-! DEFINITION. Reset and boot (chapters 02 and 04): what a reset leaves, postmarks, the boot derivations and
certificates, and the boot of R79–R98 up to a milestone. -/

namespace Sys2Proof.Machine

/-! ### Reset (R49, R50, R66, R85) -/

/-- What the flash holds after a reset: its contents, with every job gone. A store or configuration copy whose
replacement was under way has lost the older copy, whose sector was erased first (R426). -/
def flashAfterReset (s : State) : Flash :=
  let f := s.flash
  let base : Flash :=
    { Flash.reset with
      answers := f.answers, bankA := f.bankA, bankB := f.bankB, active := f.active, sectors := f.sectors, cur := f.cur,
      torn := f.torn, jseq := f.jseq, blocks := f.blocks, stores := f.stores, configs := f.configs }
  match f.jobs with
  | .config _ _ :: _ => { base with configs := f.configs.filter (fun c => c.gen.toNat == topGen (f.configs.map (·.gen))) }
  | .store _ _ _ :: _ => { base with
      stores := f.stores.filter (fun c => c.gen.toNat == topGen (f.stores.map (·.gen))) }
  | _ => base

/-- Every domain but PD0 at its reset state: the fuse cells, the shadow taken at the last sensing and the flash are
kept, an interrupted programming leaves part of its cells set. -/
def clearDomains (s0 : State) : State :=
  let s := programSome s0
  { State.reset with
    aon := { s.aon with readyFrames := 0, fusePwrEn := false, vddFuse := false, alertLow := false }
    fuses := { Fuses.reset with cells := s.fuses.cells, shadow := s.fuses.shadow }
    flash := flashAfterReset s
    out := s.out
    free := s.free
    pending := s.pending }

/-- The reset of R49 and R50 with a recorded cause. -/
def deviceReset (cause : ResetCause) (s : State) : State :=
  let t := clearDomains s
  { t with aon := { t.aon with ret := { t.aon.ret with cause := cause } } }

/-- What a boot restart keeps (R85): PD3 and the boot-restart register. -/
def restartReset (s : State) : State :=
  let t := clearDomains s
  setDom 3 (domOf s 3)
    { t with boot := { Boot.reset with
        attempts := s.boot.attempts, restartReason := s.boot.restartReason, restarts86 := s.boot.restarts86,
        moved := s.boot.moved, fallback := s.boot.fallback, failedLayer := s.boot.failedLayer, bank := s.boot.bank } }

/-! ### Postmarks (R90, R91) -/

/-- Bytes a log entry takes: 72 and its data, padded to 8. -/
def pmEntryLen (e : PmEntry) : Nat := 72 + ceilDiv e.data.length 8 * 8

/-- Overwrite the oldest entries until the ring holds 64 KiB, keeping the floors (R91). -/
def trimLog : Nat → Boot → Boot
  | 0, b => b
  | n + 1, b =>
    if 65536 < (b.log.map pmEntryLen).sum then
      match b.log with
      | e :: rest =>
        let fl := mgetD b.floors e.reg.toNat (0, 0)
        trimLog n { b with log := rest,
                           floors := mput b.floors e.reg.toNat (sha384 (digBytes fl.1 ++ digBytes e.d), e.seq) }
      | [] => b
    else b

/-- Extend PM_i by D with one log entry (R90). -/
def extend (reg : Nat) (etype : Nat) (data : Bytes) (d : Digest) (s : State) : State :=
  let b := s.boot
  let v := sha384 (digBytes (mgetD b.pm reg 0) ++ digBytes d)
  let e : PmEntry := { reg := BitVec.ofNat 8 reg, etype := BitVec.ofNat 8 etype, seq := b.logSeq + 1, tick := tick s,
                       d := d, data := data }
  { s with boot := trimLog 8 { b with pm := mset b.pm reg v 0, log := b.log ++ [e], logSeq := e.seq } }

/-! ### Derived keys and certificates (Table 04-4, R87, R332) -/

/-- Boot slots: selected root 0x000, IDK scalar and seed 0x001 and 0x002, CDI_W 0x003, PWK 0x004, CBK 0x005, CDI_O
0x006, LAK 0x010 and 0x011, AK 0x012 and 0x013 (Table 06-1 gives the ranges; the numbers beside 0x004 and 0x005 are the
model's, log 12). -/
def wenistAttr (type use : Nat) (rom : Bool) : BitVec 64 :=
  BitVec.ofNat 64 (type + 2 ^ use + 2 ^ 12 + 2 ^ 16 + 31 * 2 ^ 32 + (if rom then 2 ^ 42 else 0) + 2 ^ 44)

def bootSlot (n : Nat) (attr : BitVec 64) (k : Digest) (s : State) : State :=
  setSlot n { attr := attr, active := k, pending := 0, targetA := 0, targetP := 0 } s

/-- A digest-sized number from derived bytes. -/
def dOf (b : Bytes) : Digest := BitVec.ofNat 384 (beNat b)
def seed256 (d : Digest) : BitVec 256 := d.truncate 256

/-- Both signatures of a region under an alias key: ECDSA over its SHA-384, ML-DSA-87 in pure mode with a context. -/
def dualSign (ec ml : Digest) (region : Bytes) (ctx : String) (draw : Nat) : Bytes × Bytes :=
  (padTo 96 (Config.ecdsaSign ec (sha384 region) draw),
   padTo 4627 ((Config.mldsaSign (seed256 ml) region (ascii ctx) (draw + 1)).getD []))

/-- A dual certificate (Table 15-1). -/
def dualCert (f : FuseShadow) (role : Nat) (did meas : Digest) (subEc subMl issuerPub : Bytes) (ec ml : Digest)
    (draw : Nat) : Bytes :=
  let region := leBytes 4 0x55444354 ++ [1, BitVec.ofNat 8 role, f.code, 0] ++ leBytes 8 f.serial.toNat ++ digBytes did ++
    digBytes meas ++ sha384b issuerPub ++ padTo 97 subEc ++ zeros 31 ++ padTo 2592 subMl
  let sg := dualSign ec ml region "U-CERT" draw
  region ++ sg.1 ++ sg.2 ++ zeros 13

/-- ROM derivations (Table 04-4, R87, R88): root, IDK, CDI_W, LAK, PWK and CBK, with DID and LAK's certificate. -/
def deriveRom (uds : Digest) (s : State) : State :=
  let f := s.fuses.shadow
  match selectRoot f uds with
  | none => s
  | some root =>
    let mW := (mget s.boot.layers 1).map (·.m) |>.getD 0
    let cdi := kdf root "U-CDI-WENIST" (digBytes mW) 384
    let idkEc := ecScalar (kdf root "U-IDK-ECDSA" [] 448)
    let idkMl := dOf (kdf root "U-IDK-MLDSA" [] 256)
    let lakEc := ecScalar (kdf cdi "U-LAK-ECDSA" [] 448)
    let lakMl := dOf (kdf cdi "U-LAK-MLDSA" [] 256)
    let idkPub := padTo 97 (Config.ecdsaPublic idkEc) ++ padTo 2592 (Config.mldsaPublic (seed256 idkMl))
    let lakPub := padTo 97 (Config.ecdsaPublic lakEc) ++ padTo 2592 (Config.mldsaPublic (seed256 lakMl))
    let did := sha384 idkPub
    let s1 := bootSlot 0 (wenistAttr 6 8 true) (dOf root) s
    let s2 := bootSlot 2 (wenistAttr 5 9 true) idkMl (bootSlot 1 (wenistAttr 5 9 true) idkEc s1)
    let s3 := bootSlot 4 (wenistAttr 1 6 false) (dOf (kdf root "U-PERSIST" [] 256)) (bootSlot 3 (wenistAttr 3 8 false) (dOf cdi) s2)
    let s4 := bootSlot 5 (wenistAttr 2 7 false) (dOf (kdf (digBytes uds) "U-CBLOCK" (leBytes 8 f.serial.toNat) 384)) s3
    let s5 := bootSlot 0x11 (wenistAttr 5 9 false) lakMl (bootSlot 0x10 (wenistAttr 5 9 false) lakEc s4)
    let cert := dualCert f 2 did mW (lakPub.take 97) (lakPub.drop 97) idkPub idkEc idkMl s5.free
    { s5 with
      vault := { s5.vault with did := did, idkPub := idkPub, lakPub := lakPub }
      att := { s5.att with certs := mput (mput s5.att.certs 2 cert) 0x12 (x509 true "Usder IDK" "Usder LAK" f.serial (lakPub.take 97) idkEc (s5.free + 2)) }
      free := s5.free + 3 }

/-- The context of CDI_O: M of MTF, TSF and, where an owner layer runs, OWL. -/
def cdioContext (s : State) : Bytes :=
  ([2, 3, 4].filterMap (fun l => (mget s.boot.layers l).map (fun r => digBytes r.m))).flatten

/-- WFW derivations: CDI_O and AK, AK's certificate, CDI_W destroyed (R88). -/
def deriveWfw (s : State) : State :=
  if (slot s 3).isEmpty then s
  else
    let cdi := digBytes (slot s 3).active
    let cdio := kdf cdi "U-CDI-OWNER" (cdioContext s) 384
    let akEc := ecScalar (kdf cdio "U-AK-ECDSA" [] 448)
    let akMl := dOf (kdf cdio "U-AK-MLDSA" [] 256)
    let akPub := padTo 97 (Config.ecdsaPublic akEc) ++ padTo 2592 (Config.mldsaPublic (seed256 akMl))
    let s1 := bootSlot 6 (wenistAttr 3 8 false) (dOf cdio) s
    let s2 := bootSlot 0x13 (wenistAttr 5 9 false) akMl (bootSlot 0x12 (wenistAttr 5 9 false) akEc s1)
    let s3 := setSlot 3 Slot.empty s2
    let cert := dualCert s.fuses.shadow 3 s.vault.did (sha384 (cdioContext s)) (akPub.take 97) (akPub.drop 97)
      s.vault.lakPub (slot s 0x10).active (slot s 0x11).active s3.free
    let x := x509 false "Usder LAK" "Usder AK" s.fuses.shadow.serial (akPub.take 97) (slot s 0x10).active (s3.free + 2)
    { s3 with
      vault := { s3.vault with akPub := akPub }
      att := { s3.att with certs := mput (mput s3.att.certs 3 cert) 0x13 x }
      free := s3.free + 3 }

/-! ### Boot -/

/-- End a boot in an outcome. -/
def endBoot (o : BootOutcome) (s : State) : State :=
  { s with boot := { s.boot with phase := .done, outcome := o, retryUntilReady := false } }

/-- A failed image, self-test or watchdog of the booted bank (R84): a FAILURE record and a restart into the other bank
where that is GOOD and no restart has moved yet, else the outcome. -/
def bankFails (layer cond : Nat) (reason : RestartReason) (outcome : BootOutcome) (s : State) : State :=
  let b := s.boot.bank
  let s1 := { s with boot := { s.boot with failedLayer := if 0 < layer then BitVec.ofNat 4 layer else s.boot.failedLayer } }
  if (bankOf s (!b)).st = .good ∧ !s.boot.moved then
    journal 4 (bankCode b) (BitVec.ofNat 8 layer) (BitVec.ofNat 8 cond) 0 0
      { s1 with boot := { s1.boot with moved := true, fallback := true, bank := !b, restartDue := some reason } }
  else endBoot outcome (if outcome = .layerFailed then netUp s1 else s1)

/-- The bank the ROM boots (R83); none where no bank can be booted. -/
def chooseBank (s : State) : Option Bool :=
  let a := s.flash.bankA
  let b := s.flash.bankB
  if a.st = .trial ∧ !a.consumed then some false
  else if b.st = .trial ∧ !b.consumed then some true
  else if a.st = .good ∧ b.st = .good then some s.flash.active
  else if a.st = .good then some false
  else if b.st = .good then some true
  else none

/-- Load a verified layer: its record, and the IMAGE extension of PM_l. -/
def loadLayer (layer : Nat) (s : State) : State :=
  let img := imageOf s s.boot.bank layer
  let r : LayerRun := { m := imageM img, svn := BitVec.ofNat 8 (imageSvn img), key := BitVec.ofNat 8 (imageKey img),
                        build := imageBuild img }
  extend layer 3 ([BitVec.ofNat 8 layer, bankCode s.boot.bank, r.svn, r.key] ++ leBytes 8 r.build.toNat) r.m
    { s with boot := { s.boot with layers := mput s.boot.layers layer r } }

/-- The debug-state byte of the SECURITY_STATE event (R36): the recorded test mode or 0. -/
def debugByte (s : State) : BitVec 8 :=
  match s.aon.ret.testMode.toNat with | 1 => 0x11 | 2 => 0x12 | 3 => 0x13 | _ => 0

/-- ROM events in PM_0 and PM_6 (Table 04-7). -/
def romPostmarks (s : State) : State :=
  let f := s.fuses.shadow
  let d := leBytes 2 s.aon.ret.tamperCount.toNat ++
    [if s.aon.ret.cold then 1 else 0, if s.aon.ret.xt32Lost then 1 else 0, debugByte s]
  extend 6 5 d (sha384 d)
    (extend 0 2 [f.code, partCode f, steppingCode f, if f.degraded then 1 else 0] (sha384 (fuseSummary f))
      (extend 0 1 (leBytes 4 Config.romVersion.toNat) Config.romDigest s))

/-- A boot's ROM phase (Table 04-8 steps 1–8) over the sensed array `m`; `pick` is the bank a restart names. -/
def bootRom (e : BootEnv) (m : SMap (BitVec 256)) (pick : Option Bool) (s0 : State) : State :=
  let s := setDom 1 .on (setDom 2 .on { s0 with
    boot := { s0.boot with phase := .boot 0, outcome := .booting, attempts := satInc s0.boot.attempts,
                           restartDue := none, retryUntilReady := true }
    fuses := { s0.fuses with rootLock := true } })
  let f := s.fuses.shadow
  if !e.romOk then endBoot .haltedRom s
  else if f.undecodable then endBoot .haltedFuse s
  else if 16 ≤ f.code.toNat then endBoot .haltedScrap s
  else
    let root := readRoot f m
    let degraded := root.isNone || (f.code == 7 && f.ownerBad) || (f.incomplete && f.guard)
    let corr : BitVec 8 := match root with | some (_, some t) => BitVec.ofNat 8 t | _ => 0xFF
    let s1 := { s with fuses := { s.fuses with shadow := { f with degraded := degraded, rootCorr := corr } },
                       boot := { s.boot with fuseDegraded := degraded },
                       flash := { s.flash with answers := e.flashOk } }
    if !e.katOk then endBoot .haltedSelftest s1
    else if !e.flashOk then endBoot .recoveryFlashFault s1
    else match (match pick with | some b => some b | none => chooseBank s1) with
      | none => endBoot .recoveryNoImage s1
      | some b =>
        let s2 := { s1 with boot := { s1.boot with bank := b } }
        let s3 := if (bankOf s2 b).st = .trial ∧ !(bankOf s2 b).consumed then consumeTrial b s2 else s2
        match imageFault s3.fuses.shadow 1 (imageOf s3 b 1) with
        | some c => bankFails 1 c .image .recoveryNoImage s3
        | none =>
          let s4 := loadLayer 1 (romPostmarks s3)
          let s5 := if degraded then s4 else deriveRom (root.map Prod.fst |>.getD 0) s4
          { s5 with boot := { s5.boot with phase := .boot 1 } }

/-- The counter block at boot (R427): the copies whose TAG verifies and whose DID is current. -/
def anchorBlock (s : State) : State :=
  if s.boot.fuseDegraded then { s with boot := { s.boot with unanchored := true } }
  else
    let v := s.fuses.shadow.ratchet
    let ok := s.flash.blocks.filter (fun b => b.tag == cblockTag s b && b.did == s.vault.did)
    let top := ok.find? (fun b => b.gen.toNat == topGen (ok.map (·.gen)))
    let cand := match top with
      | some b => if b.ratchet = v + 1 then ok.find? (fun (c : CBlock) => c.gen != b.gen) else some b
      | none => none
    match top, cand with
    | none, _ => writeBlock [] v (List.replicate 65 0) { s with flash := { s.flash with blocks := [], stores := [] } }
    | _, some b =>
      if b.ratchet = v then
        let s1 := { s with flash := { s.flash with counters := b.counters } }
        match s.flash.stores.find? (fun st => sha384 (pstoreBytes st) == b.storeDg) with
        | some st =>
          st.entries.foldl (fun (t : State) (e : PEntry) => match kwUnwrap (pwk t) e.kw with
            | some k => installSlot e.slot e.attr (dig k 0) 0 t
            | none => logFault 0x0F 2 9 0 e.slot 0xFF 0 0 t) s1
        | none => logFault 0x0F 2 9 0 0 0xFF 0 0 s1
      else { s with boot := { s.boot with unanchored := true } }
    | _, none => { s with boot := { s.boot with unanchored := true } }

/-- A bond from its 336 bytes (Table 18-1) and a join set from its 256 (Table 19-1), as their chapters lay them out. -/
def parseBond (b : Bytes) : Bond :=
  { partner := dig b 0, primary := byteAt b 0x30 == 1, rejoin := fld b 0x34 4,
    acceptW := (List.range (byteAt b 0x31).toNat).map (fun i => dig b (0x40 + 48 * i)),
    acceptO := (List.range (byteAt b 0x32).toNat).map (fun i => dig b (0xA0 + 48 * i)), raw := b }

def parseJoin (b : Bytes) : JoinSet :=
  { caravan := BitVec.ofNat 128 (fld b 0 16), post := BitVec.ofNat 16 (fld b 0x10 2), priority := byteAt b 0x12,
    mask := BitVec.ofNat 16 (fld b 0x16 2), acceptW := (List.range (byteAt b 0x13).toNat).map (fun i => dig b (0x20 + 48 * i)),
    acceptO := (List.range (byteAt b 0x14).toNat).map (fun i => dig b (0x80 + 48 * i)), raw := b }

/-- The configuration at boot (R430): the highest-GEN copy whose TAG verifies and whose DID is current. -/
def loadConfig (s : State) : State :=
  if s.boot.fuseDegraded then s
  else
    let ok := s.flash.configs.filter (fun c => c.tag == cfgTag s c && c.did == s.vault.did)
    match ok.find? (fun c => c.gen.toNat == topGen (ok.map (·.gen))) with
    | some c =>
      { s with att := { s.att with idChain := c.idSet.1, idDual := c.idSet.2 },
               twin := { s.twin with bond := c.bond.map parseBond },
               car := { s.car with join := c.join.map parseJoin } }
    | none => s

/-- Owner-layer extensions of PM_5 and PM_16–PM_31 (Table 04-5); others are refused (R78). -/
def ownerExtend (evs : List (BitVec 8 × Digest × Bytes)) (s : State) : State :=
  evs.foldl (fun t e =>
    let r := e.1.toNat
    if r = 5 then extend 5 4 e.2.2 e.2.1 t else if 16 ≤ r ∧ r < 32 then extend r 7 e.2.2 e.2.1 t else t) s

/-- WFW's phase up to firmware verified (steps 9–14). -/
def bootWfw (e : BootEnv) (s : State) : State :=
  let u := useFree s
  let s1 : State := { u.2 with boot := { s.boot with bn := BitVec.ofNat 64 (leNat (drawBytes u.1 8)) },
                               eng := { s.eng with drbgReseeds := 1 } }
  let s2 := loadConfig (anchorBlock s1)
  let s3 := if e.marginBad then compactDone s2 else s2
  let bad := ((layersOf s3.fuses.shadow).filter (· ≠ 1)).findSome?
    (fun l => (imageFault s3.fuses.shadow l (imageOf s3 s3.boot.bank l)).map (fun c => (l, c)))
  match bad with
  | some (l, c) => bankFails l c .image .layerFailed s3
  | none =>
    let s4 := deriveWfw (((layersOf s3.fuses.shadow).filter (· ≠ 1)).foldl (fun t l => loadLayer l t) s3)
    if e.milestone.toNat < 2 then s4
    else if s4.fuses.shadow.code = 7 ∧ !e.ownerReady then bankFails 4 0x13 .image .layerFailed s4
    else
      let s5 := if s4.fuses.shadow.code = 7 then ownerExtend e.ownerEvents s4 else s4
      let s6 := (List.range (nStacks s5)).foldl (fun t n => setDom (stackPd n) .on t) s5
      let bad := e.copyBadMt &&& BitVec.ofNat 8 (2 ^ nStacks s6 - 1)
      netUp { s6 with power := { s6.power with stackFence := bad }, boot := { s6.boot with phase := .boot 2 } }

/-- Memory training (step 15): a stack that fails is fenced. -/
def bootMemory (e : BootEnv) (s : State) : State :=
  let all := BitVec.ofNat 8 (2 ^ nStacks s - 1)
  { s with power := { s.power with stackFence := s.power.stackFence ||| (e.trainBad &&& all),
                                   trained := all &&& ~~~(s.power.stackFence ||| e.trainBad) },
           boot := { s.boot with phase := .boot 3 } }

/-- Tiles and the fill (steps 16–19). A latched trip keeps every tile off and TILE_FENCED at 0xFF. -/
def bootTiles (e : BootEnv) (s : State) : State :=
  let s1 : State :=
    if s.aon.ret.tripLatch then { s with power := { s.power with tileFence := 0xFF } }
    else
      let all := BitVec.ofNat 8 (2 ^ nTiles s - 1)
      let bad := (e.bistBad ||| e.copyBadT) &&& all
      (bitsOf (all &&& ~~~bad)).foldl (fun t k => setDom (tilePd k) .on t)
        { s with power := { s.power with tileFence := bad } }
  { s1 with boot := { s1.boot with phase := .boot 4 } }

/-- Host-ready (steps 20–22): SerDes domains up, snapshot generation 1, the ports enabled that a bond or join set
enables, RATCHET_LOW reported. -/
def bootReady (s : State) : State :=
  let fenced := s.power.tileFence ≠ 0 ∨ s.power.stackFence ≠ 0
  let s1 := setDom 5 .on (setDom 4 .on s)
  let links := match s1.car.join with
    | some j => (bitsOf j.mask).map (fun n => (n, { Link.reset with st := .training }))
    | none => []
  let s2 : State :=
    { s1 with att := { s1.att with gen := 1 }, car := { s1.car with links := links },
              parts := { s1.parts with fixedMt := 0xFF, fixedHt := true, fixedLt := 0xFFFF },
              power := { s1.power with twinSub := if s1.twin.bond.isSome then .on else .off },
              aon := { s1.aon with readyFrames := 0 } }
  let s3 := endBoot (if fenced then .hostReadyDegraded else .hostReady) s2
  let s4 := if 3968 ≤ s3.fuses.shadow.ratchet then alert 4 s3 else s3
  if fenced then alert 3 s4 else s4

/-- A phase runs only if the boot stands at a milestone and is to go further. -/
def bootPhase (k : Nat) (goal : Nat) (f : State → State) (s : State) : State :=
  if s.boot.phase = .boot k ∧ k < goal ∧ s.boot.restartDue = none then f s else s

/-- A boot from the ROM on, as far as its milestone (5 is host-ready). -/
def runBoot (e : BootEnv) (m : SMap (BitVec 256)) (pick : Option Bool) (s : State) : State :=
  let g := e.milestone.toNat
  let s1 := bootRom e m pick s
  let s2 := if s1.boot.phase = .boot 1 ∧ s1.boot.restartDue = none ∧ 1 ≤ g then bootWfw e s1 else s1
  bootPhase 4 g bootReady (bootPhase 3 g (bootTiles e) (bootPhase 2 g (bootMemory e) s2))

end Sys2Proof.Machine
end

