-- ==== Sys2Proof/Machine/Power.lean ====
section
/-! DEFINITION. Lands, resets, retention, clocks and power domains (chapters 02 and 03), and the boot-restart events of
chapter 04. -/

namespace Sys2Proof.Machine

/-! ### Lands and resets (R43–R57, R75, R76) -/

/-- Change the always-on block. -/
def modAon (f : Aon → Aon) (s : State) : State := { s with aon := f s.aon }
/-- Change AOB retention. -/
def modRet (f : Retention → Retention) (s : State) : State := modAon (fun a => { a with ret := f a.ret }) s

/-- A reset that leaves the device in the reset state until an edge releases it. -/
def resetHeld (cause : ResetCause) (s : State) : State :=
  modAon (fun a => { a with releaseDue := false,
                            thermTripLow := a.thermTripLow && decide (s.boot.phase ≠ .selFault) })
    (deviceReset cause s)

/-- A reset the device applies to itself while both lands are high: the release follows (R111, R475, R461). DEDUCED
(log 14). -/
def resetSelf (cause : ResetCause) (s : State) : State :=
  modAon (fun a => { a with releaseDue := a.pwrOk && a.sysRstN }) (resetHeld cause s)

/-- PWR_OK falls (R49). THERMTRIP_N is released, the latch is kept (R57). -/
def pwrOkFall (s : State) : State :=
  if !s.aon.pwrOk then s
  else
    let s1 := modAon (fun a => { a with pwrOk := false }) s
    if s.aon.vddAon then modAon (fun a => { a with thermTripLow := false }) (resetHeld .pwrOk s1) else s1

/-- A brownout of a rail (R49). VDD_FUSE has no threshold; without VDD_AON the always-on block stops too (R59). -/
def brownout (r : Rail) (s : State) : State :=
  if r = .fuse ∨ !s.aon.vddAon then s
  else
    let s1 := resetHeld (.rail r) s
    if r = .aon then modAon (fun a => { a with vddAon := false }) s1 else s1

/-- The two conditions that end the tamper hold (R75). -/
def tamperEnd (s : State) : State :=
  modAon (fun a => if a.tamperHold ∧ a.tamperLow1s ∧ a.tamperCycled then { a with tamperHold := false } else a) s

/-- PWR_OK rises: the trip latch clears (R57), the release is due where SYS_RST_N is high (R47). -/
def pwrOkRise (s : State) : State :=
  if s.aon.pwrOk ∨ !s.aon.vddAon then s
  else
    tamperEnd (modAon (fun a => { a with
      pwrOk := true, releaseDue := a.sysRstN, thermTripLow := false, tamperCycled := a.tamperHold,
      ret := { a.ret with tripLatch := false, tripCause := 0 } }) s)

/-- SYS_RST_N goes low (R50); with PWR_OK low it has no effect of its own and records nothing. -/
def sysRstNLow (s : State) : State :=
  if !s.aon.sysRstN ∨ !s.aon.vddAon then s
  else
    let s1 := modAon (fun a => { a with sysRstN := false }) s
    if s.aon.pwrOk then resetHeld .sysRstN s1 else s1

/-- SYS_RST_N rises (R47). -/
def sysRstNRise (s : State) : State :=
  if s.aon.sysRstN ∨ !s.aon.vddAon then s
  else
    tamperEnd (modAon (fun a => { a with
      sysRstN := true, releaseDue := a.pwrOk, tamperCycled := a.tamperHold || a.tamperCycled }) s)

/-- Internal reset is released (R47): the fuses are sensed, TEST_SEL is sampled (R35, R36), the boot begins. -/
def internalResetRelease (e : SenseEnv) (b : BootEnv) (s : State) : State :=
  if !s.aon.vddAon ∨ !s.aon.releaseDue ∨ s.aon.tamperHold ∨ s.boot.phase ≠ .held then s
  else
    let m := senseAll e s.fuses.cells
    let s1 : State := { s with fuses := { s.fuses with shadow := decodeShadow m },
                               aon := { s.aon with releaseDue := false, testSel := e.testSel } }
    let code := s1.fuses.shadow.code
    if e.testSel = 0 then runBoot b m none s1
    else if !s1.fuses.shadow.undecodable ∧ (code = 0 ∨ code = 1) then
      modRet (fun r => { r with testMode := e.testSel })
        { s1 with boot := { s1.boot with phase := .testMode e.testSel }, fuses := { s1.fuses with rootLock := true } }
    else
      modAon (fun a => { a with thermTripLow := true, ret := { a.ret with testSelFault := true } })
        { s1 with boot := { s1.boot with phase := .selFault } }

/-- TAMPER_N reads high on four samples (R75): recorded with its tick; with the fuse blown every key is zeroed and the
reset of R50 is held. -/
def tamper (s : State) : State :=
  if !s.aon.vddAon then s
  else
    let s1 := modRet (fun r => { r with tamperTicks := tick s :: r.tamperTicks, tamperCount := satInc r.tamperCount }) s
    if s.fuses.shadow.tamperResp then
      modAon (fun a => { a with tamperHold := true, tamperLow1s := false, tamperCycled := false })
        (resetHeld .tamper (zeroKeys s1))
    else if s.boot.phase = .held ∨ s.boot.phase = .selFault then s1 else alert 6 s1

/-- TAMPER_N has read low for 1 s (R75). -/
def tamperNLow (s : State) : State :=
  if s.aon.tamperHold then tamperEnd (modAon (fun a => { a with tamperLow1s := true }) s) else s

/-- VDD_FUSE above 0.9 V while FUSE_PWR_EN is low (R44), counted up to 255. -/
def vddFuseUnexpected (s : State) : State :=
  if s.aon.vddAon ∧ !s.aon.fusePwrEn then modRet (fun r => { r with fuseUnexp := min 255 (r.fuseUnexp + 1) }) s else s

/-- VDD_FUSE measured in tolerance: programming begins (R43). -/
def vddFuseReady (s : State) : State :=
  match s.fuses.op with
  | some o =>
    if s.aon.fusePwrEn ∧ !o.ready then
      { s with fuses := { s.fuses with op := some { o with ready := true } }, aon := { s.aon with vddFuse := true } }
    else s
  | none => s

/-- VDD_AON comes into tolerance (R59, R68, R76): PD0 starts on the internal oscillator; retention that fails its CRC is
COLD, every field reset but a TAMPER count of 0xFFFF. -/
def vddAonRise (crcOk : Bool) (s : State) : State :=
  if s.aon.vddAon then s
  else
    let ret : Retention := if crcOk then s.aon.ret else { Retention.reset with cold := true, tamperCount := 0xFFFF }
    let t := clearDomains s
    { t with aon := { Aon.reset with vddAon := true, tick := if crcOk then s.aon.tick else 0, ret := ret } }

/-! ### Clocks (R68, R70) -/

/-- A running crystal stops for more than 1 ms (R68). -/
def xt32Lost (s : State) : State :=
  if s.aon.crystal then modAon (fun a => { a with crystal := false, ret := { a.ret with xt32Lost := true } }) s else s

/-- A crystal oscillates within 2 s of VDD_AON (R68): 20 frames; after a loss it is not taken up again. -/
def xt32CrystalStart (s : State) : State :=
  if s.aon.vddAon ∧ !s.aon.crystalTried ∧ s.aon.frames ≤ 20 then
    modAon (fun a => { a with crystal := true, crystalTried := true }) s
  else s

/-- HOSC is compared with XT32 and corrected to within ±20 ppm (R70); `ppm` is the error the correction leaves. -/
def hoscDiscipline (ppm : BitVec 16) (s : State) : State :=
  if s.aon.vddAon ∧ domOf s 1 = .on then modAon (fun a => { a with hoscPpm := max (-20) (min 20 ppm.toInt) }) s else s

/-! ### Domains (R60–R74) -/

/-- A core as its tile leaves it at power-down (Table 03-3): the hub's assignment, window descriptors, program record,
queue and counters are kept. -/
def coldCore (x : Core) : Core :=
  { Core.reset with
    st := match x.st with | .unassigned => .unassigned | .haltedFault => .haltedFault | _ => .stopped
    wd := x.wd
    queue := x.queue
    progLen := x.progLen
    program := x.program
    cycles := x.cycles
    step := x.step
    faultRun := x.faultRun
    parity := x.parity
    dbg := { x.dbg with stepsLeft := 0 }
    counts := x.counts }

/-- The cores of a tile. -/
def tileCores (t : Nat) : List Nat := (List.range 16).map (16 * t + ·)

/-- Forget a tile's L2 lines and its entries in the directory. -/
def dropL2 (t : Nat) (s : State) : State :=
  { s with mem := { s.mem with l2 := s.mem.l2.filter (fun l => l.tile != t) },
           q := { s.q with
             dir := (s.q.dir.map (fun e => (e.1, { e.2 with sharers := setBit e.2.sharers t false }))).filter
               (fun e => e.2.sharers != 0),
             snoops := s.q.snoops.filter (fun x => x.tile != t),
             dirWaits := s.q.dirWaits.filter (fun x => x.tile != t) } }

/-- Turn a tile domain off (Table 03-3). -/
def tileOff (t : Nat) (s : State) : State :=
  let s1 := (tileCores t).foldl (fun x c => if (core x c).st = .unassigned then x else modCore c coldCore (unwait c x)) s
  setDom (tilePd t) .off (dropL2 t { s1 with power := { s1.power with
    reload := s1.power.reload.filter (fun c => c.toNat / 16 != t),
    held := s1.power.held.filter (fun h => h.1 != tilePd t) } })

/-- A core that can run: held, with a program bound and found equal, in a RUNNING partition, its tile on. -/
def canRun (s : State) (c : Nat) : Bool :=
  let x := core s c
  match coreHolder s c with
  | some p => (match part? s p with | some q => q.state == .running | none => false) && x.verified && !x.parity &&
      domOf s (tilePd (c / 16)) == .on
  | none => false

/-- Release a STOPPED core to run at entry. -/
def releaseCore (c : Nat) (s : State) : State :=
  if canRun s c ∧ (core s c).st = .stopped then modCore c (fun x => { atEntry x with st := .run }) s else s

/-- Whether a tile holds a core of a Confidential partition (R64). -/
def tileConf (s : State) (t : Nat) : Bool :=
  (tileCores t).any (fun c => match coreHolder s c with | some p => isConf s p | none => false)

/-- Whether a tile holds a core or way that is SCRUBBING (R326). -/
def tileScrub (s : State) (t : Nat) : Bool :=
  s.scrub.jobs.any (fun j => (j.rtype == 1 || j.rtype == 3) && j.rid / 16 == t)

/-- Whether a partition with a core on a powered tile holds a window on a stack (Table 03-2). -/
def stackInUse (s : State) (n : Nat) : Bool :=
  (List.range 8).any (fun t => domOf s (tilePd t) != .off &&
    (tileCores t).any (fun c => match coreHolder s c with
      | some p => (match part? s p with | some q => q.windows.any (fun w => w.2.stack == n) | none => false)
      | none => false))

/-- Whether a scrub or admission targets a stack. -/
def stackTarget (s : State) (n : Nat) : Bool :=
  s.scrub.jobs.any (fun j => j.rtype == 2 && j.stack == n) ||
  s.desk.adms.any (fun a => match part? s a.part with
    | some q => (match mget q.windows a.window with | some w => w.stack == n | none => false)
    | none => false)

/-- Whether PD1 has work of its own: a start that needs it, a flash or fuse job, an activation or a recovery. -/
def pd1Busy (s : State) : Bool :=
  s.boot.phase != .done || s.power.dom.any (fun e => e.2 == .starting) || s.fuses.op.isSome || !s.flash.jobs.isEmpty ||
    s.flash.activating || s.flash.lockRecover || !s.power.reload.isEmpty || s.fuses.transition

/-- The ringmaster has been idle for 1 ms (R60, R62). -/
def pd1Sleep (s : State) : State := if domOf s 1 = .on ∧ hostReady s ∧ !pd1Busy s then setDom 1 .off s else s

/-- A tile's cores have been gated for the idle time (R63, R64, R326). -/
def tileIdlePowerDown (t : Nat) (s : State) : State :=
  let quiet := (tileCores t).all (fun c => match (core s c).st with
    | .unassigned | .stopped | .gated | .haltedFault => true | _ => false)
  if domOf s (tilePd t) = .on ∧ hostReady s ∧ quiet ∧ !s.power.policy.tileOn.getLsbD t ∧ !tileConf s t ∧ !tileScrub s t ∧
      !s.power.reload.any (fun c => c.toNat / 16 == t) then tileOff t s
  else s

/-- Whether PD2 has work pending: an admission, a scrub, a waiting core, an engine message (R63). -/
def pd2Busy (s : State) : Bool :=
  !s.desk.adms.isEmpty || !s.scrub.jobs.isEmpty || s.q.tokens.any (fun e => !e.2.waiters.isEmpty) ||
    s.eng.de.any (fun e => e.2.st != .idle) || !s.q.posting.isEmpty || !s.q.outs.isEmpty || !s.eng.drbgHeld.isEmpty

/-- Every tile has been OFF for 1 ms (R63): engine state and the directory are lost, tokens and periods are kept
(Table 03-3). A fence outlasts the power-down (R465). -/
def pd2PowerDown (s : State) : State :=
  if domOf s 2 = .on ∧ hostReady s ∧ !pd2Busy s ∧ (List.range 8).all (fun t => domOf s (tilePd t) == .off) then
    setDom 2 .off { s with
      eng := { s.eng with
        de := (s.eng.de.filter (fun e => e.2.fenced)).map (fun e => (e.1, { DigestEngine.idle with fenced := true })),
        hsbEcdh := none, hsbKem := none, drbgRuns := 0, drbgStopped := false }
      q := { s.q with dir := [], snoops := [], dirWaits := [] } }
  else s

/-- A memory controller meets its conditions for the idle time (R63, Table 03-2): the key copies of MCE_n are lost. -/
def stackSrHold (n : Nat) (s : State) : State :=
  if domOf s (stackPd n) = .on ∧ hostReady s ∧ !s.power.policy.stackOn.getLsbD n ∧ !stackInUse s n ∧ !stackTarget s n then
    setDom (stackPd n) .off { s with vault := { s.vault with mce := s.vault.mce.filter (fun e => e.1 / 128 ≠ n) } }
  else s

/-- Load the memory keys of the partitions that hold a window on a stack into MCE_n (Table 03-3). -/
def loadMce (n : Nat) (s : State) : State :=
  s.parts.parts.foldl (fun t e =>
    if e.2.windows.any (fun w => w.2.stack == n) ∧ (slot t (0x80 + e.1)).activeValid then
      { t with vault := { t.vault with mce := mput t.vault.mce (128 * n + e.1) (slot t (0x80 + e.1)).active } }
    else t) s

/-- The cores of a tile that wait for their program, in the order of R67. -/
def reloadOrder (s : State) (t : Nat) : List (BitVec 7) :=
  let cs := (tileCores t).filter (fun c => (core s c).program.isSome && (core s c).st != .unassigned)
  let busy (c : Nat) : Bool := !(core s c).queue.isEmpty || s.power.held.any (fun h => h.2 == .wake (BitVec.ofNat 7 c))
  (cs.filter busy ++ cs.filter (fun c => !busy c)).map (BitVec.ofNat 7)

/-- Serve the requests held for a domain, in arrival order (R74). -/
def serveHeld (pd : Nat) (s : State) : State :=
  let mine := s.power.held.filter (fun h => h.1 == pd)
  mine.foldl (fun t h => emit (.served h.2) t)
    { s with power := { s.power with held := s.power.held.filter (fun h => h.1 != pd) } }

/-- The domains a domain needs while it starts (Table 03-2). -/
def startDeps (pd : Nat) : List Nat := if pd = 1 then [0] else if 6 ≤ pd ∧ pd ≤ 13 then [1, 2] else [1]

/-- What a domain's start does (Table 03-3, R67, R92, R170); a unit that fails its start is fenced. -/
def domainUp (pd : Nat) (ok : Bool) (s : State) : State :=
  let s1 := setDom pd .on s
  if pd = 1 then { s1 with mail := { s1.mail with faultBuf := 0 } }
  else if pd = 2 then
    if ok then { s1 with eng := { s1.eng with drbgReseeds := s1.eng.drbgReseeds + 1, drbgRuns := 0 } }
    else alert 5 { s1 with eng := { s1.eng with drbgStopped := true, entropyFailed := true } }
  else if 6 ≤ pd ∧ pd ≤ 13 then
    let t := pd - 6
    if ok then
      let s2 := (tileCores t).foldl (fun x c => if (core x c).st = .unassigned then x
        else modCore c (fun k => { k with parity := false, verified := false }) x) s1
      let s3 := { s2 with power := { s2.power with reload := s2.power.reload ++ reloadOrder s2 t } }
      (s3.mail.recovering.filter (fun r => r.1 == t)).foldl (fun x r =>
        finish r.2.2 (Ans.okD (count31 r.2.1)) x)
        { s3 with mail := { s3.mail with recovering := s3.mail.recovering.filter (fun r => r.1 != t),
                                         tileClosed := setBit s3.mail.tileClosed t false } }
    else
      let s2 := (s1.mail.recovering.filter (fun r => r.1 == t)).foldl (fun x r => let u := internalFree x; finish r.2.2 u.2 u.1)
        { s1 with mail := { s1.mail with recovering := s1.mail.recovering.filter (fun r => r.1 != t) } }
      alert 3 (setDom pd .off { s2 with power := { s2.power with tileFence := setBit s2.power.tileFence t true } })
  else if 14 ≤ pd then
    if ok then loadMce (pd - 14) s1
    else alert 3 (setDom pd .off { s1 with power := { s1.power with stackFence := setBit s1.power.stackFence (pd - 14) true } })
  else s1

/-- A starting domain comes up and the requests held for it are served (R74). -/
def domainReady (pd : Nat) (ok : Bool) (s : State) : State :=
  if domOf s pd = .starting ∧ (startDeps pd).all (fun d => d == 0 || domOf s d == .on) then serveHeld pd (domainUp pd ok s)
  else s

/-- A core that waits on an empty queue or a token clock-gates after 32 cycles (R72). -/
def coreGate (c : Nat) (s : State) : State :=
  let x := core s c
  match x.st, x.waiting with
  | .wait, .queue | .wait, .token _ _ => modCore c (fun k => { k with st := .gated }) s
  | _, _ => s

/-- A gated core whose wait has ended runs (R72). -/
def coreWake (c : Nat) (s : State) : State :=
  let x := core s c
  if x.st = .gated ∧ x.waiting = .none then modCore c (fun k => { k with st := .run }) s else s

/-! ### Watchdog, owner layer, boot restart, lockstep (R84–R86, R98, R461) -/

/-- A restart into the same bank (R86). -/
def restartSame (r : RestartReason) (s : State) : State :=
  { s with boot := { s.boot with restarts86 := s.boot.restarts86 + 1, restartDue := some r, restartReason := r } }

/-- Whether a boot is under way and no restart is due. -/
def booting (s : State) : Bool :=
  (match s.boot.phase with | .boot _ => true | _ => false) && s.boot.restartDue.isNone

/-- A milestone's watchdog expires (R84, R86). -/
def watchdogExpiry (s : State) : State :=
  if !booting s then s
  else if 2 ≤ s.boot.restarts86 then
    endBoot .haltedWatchdog { s with boot := { s.boot with restarts86 := 3 } }
  else if (bankOf s (!s.boot.bank)).st = .good ∧ !s.boot.moved then
    bankFails 0 0x11 .watchdog .haltedWatchdog
      { s with boot := { s.boot with restarts86 := s.boot.restarts86 + 1, restartReason := .watchdog } }
  else restartSame .watchdog s

/-- The owner layer is not ready within 50 ms (R98, Table 04-12 step 13). -/
def ownerLayerTimeout (s : State) : State :=
  if booting s ∧ s.boot.phase = .boot 1 ∧ s.fuses.shadow.code = 7 ∧ mhas s.boot.layers 4 then
    bankFails 4 0x13 .image .layerFailed s
  else s

/-- A boot restart (R85): PD1, PD2 and PD4–PD21 restart from reset. -/
def bootRestart (b : BootEnv) (s : State) : State :=
  match s.boot.restartDue with
  | some r =>
    let s1 := restartReset s
    runBoot b s.fuses.cells (some s.boot.bank) { s1 with boot := { s1.boot with restartReason := r } }
  | none => s

/-- The Wenist cores disagree: before host-ready a restart into the same bank or, the third time, a halt (R86);
afterwards the recovery of R461, or its reset on a second mismatch within 1 s or a failed reload. -/
def lockstepMismatch (s : State) : State :=
  if booting s then
    if 2 ≤ s.boot.restarts86 then endBoot .haltedLockstep { s with boot := { s.boot with restarts86 := 3 } }
    else restartSame .lockstep s
  else if !hostReady s then s
  else
    let again : Bool := match s.flash.lastLockstep with | some t => decide ((tick s - t).toNat ≤ 32768) | none => false
    let s1 := logFault 0x0A 4 7 0 0 0xFF (if again then 5 else 2) 0 s
    if again ∨ (imageFault s.fuses.shadow 1 (imageOf s s.boot.bank 1)).isSome then resetSelf .lockstep s1
    else wakePd1 { s1 with flash := { s1.flash with lockRecover := true, lastLockstep := some (tick s) } }

/-- 40 ms after the mismatch the ringmaster resumes (R461); a reload that fails its check resets the device. -/
def lockstepResume (s : State) : State :=
  if !s.flash.lockRecover then s
  else if (imageFault s.fuses.shadow 1 (imageOf s s.boot.bank 1)).isSome then resetSelf .lockstep s
  else { s with flash := { s.flash with lockRecover := false } }

/-- The reset of R111 step 7. -/
def lifecycleReset (s : State) : State := if s.fuses.lifecycleReset then resetSelf .lifecycle s else s

/-- The reset of R475. -/
def recoverDeviceReset (s : State) : State := if s.mail.recoverDue then resetSelf .recover s else s

end Sys2Proof.Machine
end

