-- ==== Sys2Proof/Machine/Mem.lean ====
section
/-! DEFINITION. Window descriptors and the memory turnstiles (R226–R234): the checks of Table 10-2, whole-line reads and
writes under the holder's key, tags, CLEARED and POISON lines, and clearing. -/

namespace Sys2Proof.Machine

/-- A window descriptor's fields (Table 10-1). -/
structure Wd where
  valid  : Bool
  read   : Bool
  write  : Bool
  tagged : Bool
  stack  : Nat
  part   : Nat
  base   : Nat
  size   : Nat
  deriving DecidableEq, Repr

/-- The descriptor word (Table 10-1). -/
def Wd.bits (w : Wd) : BitVec 64 :=
  BitVec.ofNat 64 ((if w.valid then 1 else 0) + (if w.read then 2 else 0) + (if w.write then 4 else 0) +
    (if w.tagged then 8 else 0) + w.stack % 8 * 2 ^ 4 + w.part % 128 * 2 ^ 8 + w.base % 2 ^ 15 * 2 ^ 16 +
    w.size % 2 ^ 15 * 2 ^ 32)

/-- The fields of a descriptor word. -/
def Wd.ofBits (b : BitVec 64) : Wd :=
  { valid := b.getLsbD 0, read := b.getLsbD 1, write := b.getLsbD 2, tagged := b.getLsbD 3,
    stack := (b.extractLsb' 4 3).toNat, part := (b.extractLsb' 8 7).toNat, base := (b.extractLsb' 16 15).toNat,
    size := (b.extractLsb' 32 15).toNat }

/-- The descriptor of a partition's window, as the hub's window table gives it. -/
def wdOf (s : State) (p : Nat) (w : Window) : Wd :=
  { valid := true, read := w.access.getLsbD 0, write := w.access.getLsbD 1, tagged := isConf s p, stack := w.stack,
    part := p, base := w.base, size := w.size }

/-- Window `k` of a partition. -/
def windowOf (s : State) (p k : Nat) : Option Window := (part? s p).bind (fun x => mget x.windows k)

/-- Whether a window stands in WD_k while a context runs (Table 09-2, R226): never a SHADOW window; a window bound to
0xFF only for contexts whose tenant is the partition tenant. -/
def wdLoaded (x : Partition) (w : Window) : Bool :=
  !w.access.getLsbD 2 &&
  (w.ctx == x.running ||
   (w.ctx == 255 && (match mget x.ctxs x.running with | some c => c.tid == x.tenant | none => false)))

/-- Write WD_0–WD_15 of a partition's cores from the window table (R226). -/
def reloadWd (p : Nat) (s : State) : State :=
  match part? s p with
  | none => s
  | some x =>
    let m : SMap (BitVec 64) :=
      (x.windows.filter (fun e => wdLoaded x e.2)).map (fun e => (e.1, (wdOf s p e.2).bits))
    (coresOf s p).foldl (fun t c => modCore c (fun k => { k with wd := m }) t) s

/-! ### Resolution -/

/-- What a request resolves to: its descriptor, the key MCE_n holds for it and the partition number of its tweak. A
shared-parcel window is served under its circle's key (R310). -/
structure Gate where
  wd   : Wd
  key  : Option Digest
  tweak : Nat

/-- A stack whose MT_n refuses requests: closed (R27) or fenced. -/
def stackShut (s : State) (n : Nat) : Bool := (stackOf s n).closed || s.power.stackFence.getLsbD n

/-- The gate of a descriptor of partition `p`, window `k`. -/
def gateOf (s : State) (p k : Nat) (w : Wd) : Gate :=
  let own : Gate := { wd := w, key := mget s.vault.mce (128 * w.stack + p), tweak := p }
  match windowOf s p k with
  | none => own
  | some x => match x.use with
    | .sharedParcel i =>
      match mget s.desk.circles i with
      | some c => { wd := w, key := some (slot s c.keySlot).active, tweak := c.first.getD p }
      | none => { wd := w, key := none, tweak := p }
    | _ => own

/-- No window. -/
def Wd.none : Wd :=
  { valid := false, read := false, write := false, tagged := false, stack := 0, part := 0, base := 0, size := 0 }

/-- The gate a requester's window number resolves to (R226). The parcel desk reaches SHADOW windows and writes windows
it fills whatever their ACCESS; the others use the loaded descriptor or the holder's window table. -/
def resolve (s : State) (who : Requester) (k : Nat) : Gate :=
  match who with
  | .core c =>
    let w := Wd.ofBits (mgetD (core s c.toNat).wd k 0)
    gateOf s w.part k w
  | .host p | .engine p =>
    match windowOf s p.toNat k with
    | some w => if w.access.getLsbD 2 then { wd := .none, key := .none, tweak := 0 } else gateOf s p.toNat k (wdOf s p.toNat w)
    | none => { wd := .none, key := .none, tweak := 0 }
  | .desk p =>
    match windowOf s p.toNat k with
    | some w => gateOf s p.toNat k { wdOf s p.toNat w with read := true, write := true }
    | none => { wd := .none, key := .none, tweak := 0 }
  | .scrub _ => { wd := .none, key := .none, tweak := 0 }

/-- Refusal codes of Table 10-2. -/
def refusalName : Nat → String
  | 1 => "WINDOW_INVALID" | 2 => "WINDOW_ACCESS" | 3 => "WINDOW_LIMIT" | 4 => "LINE_POISON" | 5 => "LINE_TAG"
  | 6 => "LINE_UNCORRECTABLE" | 7 => "PATH_CLOSED" | _ => "OK"

/-- Checks 1–4 of Table 10-2; 0 where they pass. -/
def gateCheck (s : State) (g : Gate) (write : Bool) (off len : Nat) : Nat :=
  if !g.wd.valid then 1
  else if !(if write then g.wd.write else g.wd.read) then 2
  else if g.wd.size * 2 ^ 21 < off + len then 3
  else if g.key.isNone ∨ stackShut s g.wd.stack then 7
  else 0

/-! ### Lines -/

/-- The sideband of a line; unlisted lines are CLEARED. -/
def lineInfo (s : State) (n line : Nat) : LineInfo := mgetD (stackOf s n).lines line LineInfo.cleared
def lineCipher (s : State) (n line : Nat) : Bytes := mread (stackOf s n).bytes (64 * line) 64

/-- Put a line's stored bytes and sideband. -/
def putLine (n line : Nat) (cipher : Bytes) (i : LineInfo) (s : State) : State :=
  let st := stackOf s n
  setStack n { st with bytes := mwrite st.bytes (64 * line) (padTo 64 cipher),
                       lines := mset st.lines line i LineInfo.cleared } s

/-- Write a CLEARED line (R233). -/
def clearLine (n line : Nat) (s : State) : State := putLine n line (zeros 64) LineInfo.cleared s

/-- Clear a range of lines at once: every stored byte zero, every marking CLEARED. -/
def clearLines (n lo count : Nat) (s : State) : State :=
  let st := stackOf s n
  setStack n { st with bytes := mclear st.bytes (64 * lo) (64 * count), lines := mclear st.lines lo count } s

/-- Poison a line: its data as stored, marked (R234). -/
def poisonLine (n line : Nat) (s : State) : State :=
  putLine n line (lineCipher s n line) { mark := .poison, tag := 0, ecc := .clean } s

/-- Damage that reaches a line's sideband before it is read; `true` is uncorrectable. -/
def upsetLine (n line : Nat) (bad : Bool) (s : State) : State :=
  let i := lineInfo s n line
  putLine n line (lineCipher s n line)
    { i with ecc := if bad ∨ i.ecc = .uncorrectable then .uncorrectable else .corrected } s

def upsetLines (n : Nat) (us : List (BitVec 30 × Bool)) (s : State) : State :=
  us.foldl (fun t u => upsetLine n u.1.toNat u.2 t) s

/-- Count an uncorrectable line of a stack; more than 64 within 1 s fence it (Table 22-3). -/
def countUncorrectable (n : Nat) (s : State) : State :=
  let m := s.mail
  let fresh := match mget m.unSince n with | some t => decide (32768 < (tick s - t).toNat) | none => true
  let k := if fresh then 1 else mgetD m.unFaults n 0 + 1
  let s1 := { s with mail := { m with unFaults := mset m.unFaults n k 0,
                                      unSince := if fresh then mput m.unSince n (tick s) else m.unSince } }
  if 64 < k ∧ !s.power.stackFence.getLsbD n then
    alert 3 (logFault 2 3 4 n 0 0xFF 3 0 { s1 with power := { s1.power with stackFence := setBit s1.power.stackFence n true } })
  else s1

/-- One line read through a gate (checks 5–7, R231–R234): code 0 and its plaintext, or a refusal code. `part` is the
holder a fault record names. -/
def readLine (g : Gate) (part line : Nat) (s : State) : State × Nat × Bytes :=
  let n := g.wd.stack
  let i := lineInfo s n line
  if i.ecc = .uncorrectable then (countUncorrectable n (logFault 2 2 1 n line part 0 0 s), 6, [])
  else
    let s1 := if i.ecc = .corrected then logFault 1 1 1 n line part 0 0 s else s
    match i.mark with
    | .poison => (logFault 4 2 1 n line part 0 0 s1, 4, [])
    | .cleared => (s1, 0, zeros 64)
    | .normal =>
      let mk := g.key.getD 0
      let tw := lineTweak line n g.tweak g.wd.tagged
      let c := lineCipher s1 n line
      if g.wd.tagged ∧ lineTag mk tw c ≠ i.tag then
        (emit (.integrityEvent n) (logFault 3 2 1 n line part 0 0 s1), 5, [])
      else (s1, 0, lineDecrypt mk tw c)

/-- One whole line written through a gate. -/
def writeLine (g : Gate) (line : Nat) (plain : Bytes) (s : State) : State :=
  let mk := g.key.getD 0
  let tw := lineTweak line g.wd.stack g.tweak g.wd.tagged
  let c := lineEncrypt mk tw plain
  putLine g.wd.stack line c { mark := .normal, tag := if g.wd.tagged then lineTag mk tw c else 0, ecc := .clean } s

/-- The lines of an access: line index, first byte in the line, bytes in the line. -/
def chunks (addr len : Nat) : List (Nat × Nat × Nat) :=
  if len = 0 then []
  else
    let l0 := addr / 64
    let l1 := (addr + len - 1) / 64
    (List.range (l1 - l0 + 1)).map (fun i =>
      let lo := max addr (64 * (l0 + i))
      let hi := min (addr + len) (64 * (l0 + i) + 64)
      (l0 + i, lo % 64, hi - lo))

/-- The byte address of an offset of a window (R229). -/
def gateAddr (g : Gate) (off : Nat) : Nat := g.wd.base * 2 ^ 21 + off

/-- Read an access line by line; the first code that is not 0 answers the request. -/
def readChunks (g : Gate) (part : Nat) : List (Nat × Nat × Nat) → State → State × Nat × Bytes
  | [], s => (s, 0, [])
  | (l, o, n) :: cs, s =>
    let r := readLine g part l s
    let t := readChunks g part cs r.1
    (t.1, if r.2.1 ≠ 0 then r.2.1 else t.2.1, slice r.2.2 o n ++ t.2.2)

/-- Write an access line by line; a part line is merged, and a line whose read half fails is left unchanged while the
others are written (R229). -/
def writeChunks (g : Gate) (part : Nat) : List (Nat × Nat × Nat) → Bytes → State → State × Nat
  | [], _, s => (s, 0)
  | (l, o, n) :: cs, b, s =>
    let r : State × Nat :=
      if n = 64 then (writeLine g l (b.take 64) s, 0)
      else
        let q := readLine g part l s
        if q.2.1 ≠ 0 then (q.1, q.2.1)
        else (writeLine g l (q.2.2.take o ++ b.take n ++ q.2.2.drop (o + n)) q.1, 0)
    let t := writeChunks g part cs (b.drop n) r.1
    (t.1, if r.2 ≠ 0 then r.2 else t.2)

/-- Bring a controller out of SR-HOLD for a request (R63); the 60 µs of its start are not modelled. -/
def needStack (n : Nat) (s : State) : State :=
  if domOf s (stackPd n) = .on ∨ !hostReady s ∨ !pdPresent s (stackPd n) then s else domainUp (stackPd n) true s

/-- A read of a window: the state, the code and the data. -/
def memRead (who : Requester) (k off len : Nat) (s : State) : State × Nat × Bytes :=
  let s1 := needStack (resolve s who k).wd.stack s
  let g := resolve s1 who k
  let c := gateCheck s1 g false off len
  if c ≠ 0 then (s1, c, [])
  else
    let r := readChunks g g.wd.part (chunks (gateAddr g off) len) s1
    if r.2.1 ≠ 0 then (r.1, r.2.1, []) else r

/-- A write of a window: the state and the code. -/
def memWrite (who : Requester) (k off : Nat) (b : Bytes) (s : State) : State × Nat :=
  let s1 := needStack (resolve s who k).wd.stack s
  let g := resolve s1 who k
  let c := gateCheck s1 g true off b.length
  if c ≠ 0 then (s1, c) else writeChunks g g.wd.part (chunks (gateAddr g off) b.length) b s1

/-! ### MEMORY_REQUEST -/

/-- The partition a requester's traffic is issued for (R238), and its place in the rotation (R237). -/
def requesterPart (s : State) : Requester → Option Nat
  | .core c => coreHolder s c.toNat
  | .host p | .engine p | .desk p => some p.toNat
  | .scrub _ => none

/-- Whether a slot kind may serve a requester on MT_n (R236–R238): with fixed-slot arbitration on, a partition with owner
slots only those, an Open partition without them only shared slots; hub slots serve the device's duties. -/
def slotServes (s : State) (n : Nat) (who : Requester) (kind : Nat) : Bool :=
  match requesterPart s who with
  | none => decide (kind ≠ 0)
  | some p =>
    let owner := match part? s p with | some x => (match mget x.mem n with | some h => decide (0 < h.slotsA) | none => false) | none => false
    if s.parts.fixedMt.getLsbD n then (if owner then kind == 0 else kind == 1 && isOpenPart s p) else kind == 1

/-- Patrol's treatment of one line (R327): a corrected line is written back raw, an uncorrectable one reported. -/
def patrolLine (n line : Nat) (s : State) : State :=
  let i := lineInfo s n line
  match i.ecc with
  | .clean => s
  | .corrected => putLine n line (lineCipher s n line) { i with ecc := .clean } (logFault 1 1 1 n line 0xFF 0 0 s)
  | .uncorrectable =>
    countUncorrectable n (logFault 2 2 1 n line 0xFF 0 0 { s with scrub := { s.scrub with uncorr := s.scrub.uncorr + 1 } })

/-- The touched bit of the parcel that a window holds (R314). -/
def touch (p k : Nat) (s : State) : State :=
  { s with desk := { s.desk with parcels := s.desk.parcels.map (fun x =>
      if x.part = p ∧ x.window = k then { x with touched := true } else x) } }

/-- One memory request (R227). A request in a slot that may not serve it waits. -/
def memoryRequest (r : MemReq) (s : State) : State :=
  match r.who with
  | .scrub n =>
    if r.slot = 0 ∨ domOf s (stackPd n.toNat) ≠ .on then s
    else
      emit (.memDone r.who) ((chunks r.off.toNat (r.lenM1.toNat + 1)).foldl (fun t c => patrolLine n.toNat c.1 t)
        (upsetLines n.toNat r.upset s))
  | _ =>
    let n := (resolve s r.who r.win.toNat).wd.stack
    if !slotServes s n r.who r.slot.toNat then s
    else
      let s0 : State := if r.slot = 0 then s
        else { s with mem := { s.mem with rot := mset s.mem.rot (2 * n + (r.slot.toNat - 1)) ((requesterPart s r.who).getD 129) 0 } }
      let s1 := upsetLines n r.upset s0
      let s2 := match r.who, r.write with
        | .core c, none => (match coreHolder s1 c.toNat with | some p => touch p r.win.toNat s1 | none => s1)
        | _, _ => s1
      match r.write with
      | none =>
        let q := memRead r.who r.win.toNat r.off.toNat (r.lenM1.toNat + 1) s2
        emit (if q.2.1 = 0 then .memData r.who q.2.2 else .memRefused r.who (refusalName q.2.1)) q.1
      | some b =>
        let q := memWrite r.who r.win.toNat r.off.toNat (padTo (r.lenM1.toNat + 1) b) s2
        emit (if q.2 = 0 then .memDone r.who else .memRefused r.who (refusalName q.2)) q.1

/-! ### Turnstiles closed and back in service (R27, R326) -/

/-- A turnstile's engine fault: it closes and refuses every request that needs its engine (R27); a first grant
that waits for its clear is refused (R233). -/
def turnstileEngineFault (t : Turnstile) (s : State) : State :=
  match t with
  | .mt n =>
    let s1 := logFault 9 3 4 (0x20 + n.toNat) 0 0xFF 4 0 (setStack n.toNat { stackOf s n.toNat with closed := true } s)
    let first (j : ScrubJob) : Bool := j.rtype == 2 && j.stack == n.toNat &&
      (match j.next with | .firstGrant _ _ _ => true | _ => false)
    (s1.scrub.jobs.filter first).foldl (fun t j => finish? j.env Ans.state t)
      { s1 with scrub := { s1.scrub with jobs := (s1.scrub.jobs.filter (fun j => !first j)).map (fun j =>
          if j.rtype = 2 ∧ j.stack = n.toNat then { j with paused := true } else j) } }
  | .ht => logFault 9 3 0xA 0x30 0 0xFF 4 0 { s with mem := { s.mem with htClosed := true } }
  | .lt n => logFault 9 3 5 (0x40 + n.toNat) 0 0xFF 4 0
      { s with mem := { s.mem with ltClosed := setBit s.mem.ltClosed n.toNat true } }
  | .tt => logFault 9 3 6 0x50 0 0xFF 4 0 { s with mem := { s.mem with ttClosed := true } }

/-- A closed turnstile returns to service; the clearing it interrupted goes on (R326). -/
def turnstileBack (t : Turnstile) (s : State) : State :=
  match t with
  | .mt n =>
    let s1 := setStack n.toNat { stackOf s n.toNat with closed := false } s
    { s1 with scrub := { s1.scrub with jobs := s1.scrub.jobs.map (fun j =>
        if j.rtype = 2 ∧ j.stack = n.toNat then { j with paused := false } else j) } }
  | .ht => { s with mem := { s.mem with htClosed := false } }
  | .lt n => { s with mem := { s.mem with ltClosed := setBit s.mem.ltClosed n.toNat false } }
  | .tt => { s with mem := { s.mem with ttClosed := false } }

end Sys2Proof.Machine
end

