-- ==== Sys2Proof/Machine/Specs.lean ====
section
/-! DEFINITION. The rows of Tables 23-5 to 23-17: callers, marks, payload lengths and the smallest reply (R466-R471).
The fuse group's three rows stand in Machine/Fuse.lean. -/

namespace Sys2Proof.Machine

def specDeviceInfoGet : OpSpec :=
  { op := 0x101, callers := [.pf, .mg, .vf, .sp], device := true, len := (· == 0), reply := 96 }
def specDeadletterRead : OpSpec := { op := 0x104, callers := [.pf, .mg], device := true, len := (· == 16), reply := 80 }
def specFaultLogRead : OpSpec := { op := 0x105, callers := [.pf, .mg], device := true, len := (· == 16), reply := 80 }
def specRecover : OpSpec := { op := 0x106, callers := [.pf, .mg], franked := true, device := true, len := (· == 8) }
def specPowerPolicySet : OpSpec := { op := 0x110, callers := [.pf, .mg], device := true, len := (· == 16) }
def specPowerPolicyGet : OpSpec := { op := 0x111, callers := [.pf, .mg], device := true, len := (· == 0), reply := 40 }
def specMgmtNetSet : OpSpec := { op := 0x120, callers := [.pf, .mg], franked := true, device := true, len := (· == 64) }
def specMgmtNetGet : OpSpec := { op := 0x121, callers := [.pf, .mg], device := true, len := (· == 0), reply := 328 }
def specMgmtAlertAck : OpSpec :=
  { op := 0x122, callers := [.pf, .mg], franked := true, device := true, len := (· == 8), reply := 8 }
def specWrapEstablish : OpSpec :=
  { op := 0x123, callers := [.pf, .mg], franked := true, device := true, len := (· == 1673), reply := 6388 }
def specKeyInstall : OpSpec :=
  { op := 0x301, callers := [.pf, .mg, .sp], franked := true, secured := true, own := true, len := fun n => n == 168 || n == 184, reply := 16 }
def specKeyReplace : OpSpec :=
  { op := 0x302, callers := [.pf, .mg, .sp], franked := true, secured := true, own := true, len := fun n => n == 168 || n == 184, reply := 16 }
def specKeyDestroy : OpSpec :=
  { op := 0x303, callers := [.pf, .mg, .sp], franked := true, secured := true, own := true, len := (· == 8) }
def specKeyAbandonPending : OpSpec :=
  { op := 0x304, callers := [.pf, .mg, .sp], franked := true, secured := true, own := true, len := (· == 8) }
def specKeyInfo : OpSpec := { op := 0x305, callers := [.pf, .mg, .sp], secured := true, len := (· == 8), reply := 104 }
def specKeySealExport : OpSpec :=
  { op := 0x306, callers := [.sp], secured := true, part := true, len := (· == 8), reply := 120 }
def specKeySealImport : OpSpec :=
  { op := 0x307, callers := [.sp], franked := true, secured := true, part := true, len := (· == 128), reply := 8 }
def specPartitionCreate : OpSpec :=
  { op := 0x401, callers := [.pf, .mg], owned := true, part := true, len := (· == 56) }
def specPartitionDestroy : OpSpec := { op := 0x402, callers := [.pf, .mg], part := true, len := (· == 0) }
def specPartitionStatusGet : OpSpec :=
  { op := 0x403, callers := [.pf, .mg, .vf, .sp], part := true, len := (· == 16), reply := 72 }
def specPartitionGrant : OpSpec := { op := 0x404, callers := [.pf, .mg], part := true, len := (· == 24) }
def specPartitionRevoke : OpSpec := { op := 0x405, callers := [.pf, .mg], part := true, len := (· == 8) }
def specPartitionModeSet : OpSpec := { op := 0x406, callers := [.pf, .mg], part := true, len := (· == 8) }
def specPartitionStart : OpSpec := { op := 0x407, callers := [.pf, .mg], part := true, len := (· == 0) }
def specPartitionStop : OpSpec := { op := 0x408, callers := [.pf, .mg], part := true, len := (· == 0) }
def specContextCreate : OpSpec := { op := 0x409, callers := [.pf, .mg], part := true, len := (· == 56) }
def specContextDestroy : OpSpec := { op := 0x40A, callers := [.pf, .mg], part := true, len := (· == 8) }
def specContextSwitch : OpSpec := { op := 0x40B, callers := [.pf, .mg], part := true, len := (· == 8) }
def specArbitrationSet : OpSpec := { op := 0x40C, callers := [.pf, .mg], len := (· == 24) }
def specEpochCommit : OpSpec := { op := 0x410, callers := [.pf, .mg], device := true, len := (· == 0), reply := 56 }
def specEpochRollback : OpSpec := { op := 0x411, callers := [.pf, .mg], device := true, len := (· == 0), reply := 56 }
def specEpochStatusGet : OpSpec :=
  { op := 0x412, callers := [.pf, .mg, .vf, .sp], device := true, len := (· == 0), reply := 120 }
def specProgramBind : OpSpec := { op := 0x420, callers := [.pf, .mg, .sp], part := true, len := (· == 32), reply := 48 }
def specProgramUnbind : OpSpec := { op := 0x421, callers := [.pf, .mg, .sp], part := true, len := (· == 24) }
def specParcelPolicySet : OpSpec := { op := 0x501, callers := [.sp], secured := true, part := true, len := (· == 584) }
def specParcelAdmit : OpSpec :=
  { op := 0x502, callers := [.pf, .mg, .sp], secured := true, owned := true, part := true, len := (· == 8216), reply := 56 }
def specParcelStatusGet : OpSpec :=
  { op := 0x503, callers := [.pf, .mg, .sp], secured := true, part := true, len := (· == 8), reply := 72 }
def specParcelEvict : OpSpec :=
  { op := 0x504, callers := [.pf, .mg, .sp], secured := true, part := true, len := (· == 56) }
def specParcelPin : OpSpec :=
  { op := 0x505, callers := [.pf, .mg, .sp], secured := true, part := true, len := (· == 56) }
def specParcelUnbind : OpSpec :=
  { op := 0x506, callers := [.pf, .mg, .sp], secured := true, part := true, len := (· == 56) }
def specCircleCreate : OpSpec := { op := 0x510, callers := [.pf, .mg], owned := true, device := true, len := (· == 68) }
def specCircleJoin : OpSpec := { op := 0x511, callers := [.pf, .mg], part := true, len := (· == 8) }
def specCircleLeave : OpSpec := { op := 0x512, callers := [.pf, .mg], part := true, len := (· == 8) }
def specCircleStatusGet : OpSpec :=
  { op := 0x513, callers := [.pf, .mg, .sp], device := true, len := (· == 8), reply := 80 }
def specReportGet : OpSpec := { op := 0x601, callers := [.pf, .mg, .sp], len := (· == 40), reply := 1 }
def specReportRead : OpSpec := { op := 0x602, callers := [.pf, .mg, .sp], len := (· == 8), reply := 1 }
def specCertChainGet : OpSpec :=
  { op := 0x603, callers := [.pf, .mg, .vf, .sp], device := true, len := (· == 8), reply := 9 }
def specIdentityCsrGet : OpSpec :=
  { op := 0x604, callers := [.pf, .mg], device := true, len := (· == 0), reply := 7616 }
def specIdentityCertSet : OpSpec :=
  { op := 0x605, callers := [.pf, .mg], franked := true, device := true, len := fun n => decide (8 ≤ n ∧ n ≤ 61440) }
def specTenantBind : OpSpec :=
  { op := 0x606, callers := [.sp], secured := true, owned := true, device := true, sp0 := true, len := (· == 7328), reply := 48 }
def specPostcardGet : OpSpec :=
  { op := 0x607, callers := [.sp], secured := true, part := true, len := (· == 40), reply := 208 }
def specHeartbeatGet : OpSpec :=
  { op := 0x608, callers := [.sp], secured := true, part := true, len := (· == 0), reply := 208 }
def specPostmarkLogRead : OpSpec :=
  { op := 0x609, callers := [.pf, .mg, .vf, .sp], device := true, len := (· == 16), reply := 88 }
def specRollupStart : OpSpec := { op := 0x610, callers := [.pf, .mg], device := true, len := (· == 40), reply := 8 }
def specRollupGet : OpSpec :=
  { op := 0x611, callers := [.pf, .mg, .vf, .sp], device := true, len := (· == 8), reply := 25200 }
def specUpdateBegin : OpSpec := { op := 0x701, callers := [.pf, .mg], franked := true, device := true, len := (· == 8) }
def specUpdateWrite : OpSpec :=
  { op := 0x702, callers := [.pf, .mg], franked := true, device := true, len := fun n => decide (9 ≤ n ∧ n ≤ 61440) }
def specUpdateFinish : OpSpec :=
  { op := 0x703, callers := [.pf, .mg], franked := true, device := true, len := (· == 8) }
def specUpdateActivate : OpSpec :=
  { op := 0x704, callers := [.pf, .mg], franked := true, device := true, len := (· == 8) }
def specUpdateCommit : OpSpec :=
  { op := 0x705, callers := [.pf, .mg], franked := true, device := true, len := (· == 8) }
def specUpdateRollback : OpSpec :=
  { op := 0x706, callers := [.pf, .mg], franked := true, device := true, len := (· == 0) }
def specUpdateDiscard : OpSpec :=
  { op := 0x707, callers := [.pf, .mg], franked := true, device := true, len := (· == 8) }
def specUpdateStatusGet : OpSpec := { op := 0x708, callers := [.pf, .mg], device := true, len := (· == 0), reply := 32 }
def specCounterReanchor : OpSpec := { op := 0x709, callers := [.pf, .mg], device := true, len := (· == 7476) }
def specThermalPlanSet : OpSpec :=
  { op := 0x801, callers := [.pf, .mg], device := true, len := fun n => decide (33 ≤ n ∧ n ≤ 12832) }
def specCoolantReport : OpSpec := { op := 0x802, callers := [.mg], device := true, len := (· == 8) }
def specCarouselSet : OpSpec := { op := 0x803, callers := [.pf, .mg], part := true, len := (· == 24) }
def specThermalStatusGet : OpSpec :=
  { op := 0x804, callers := [.pf, .mg], device := true, len := (· == 0), reply := 1944 }
def specThrottleSet : OpSpec := { op := 0x805, callers := [.pf, .mg], part := true, len := (· == 8) }
def specTwinBondSet : OpSpec :=
  { op := 0x901, callers := [.pf, .mg], franked := true, owned := true, device := true, len := (· == 336) }
def specTwinBondClear : OpSpec :=
  { op := 0x902, callers := [.pf, .mg], franked := true, device := true, len := (· == 0) }
def specTwinStatusGet : OpSpec := { op := 0x903, callers := [.pf, .mg], device := true, len := (· == 0), reply := 4184 }
def specTwinShadowRead : OpSpec := { op := 0x904, callers := [.pf, .mg], device := true, len := (· == 16), reply := 28 }
def specTwinLogRead : OpSpec := { op := 0x905, callers := [.pf, .mg], device := true, len := (· == 16), reply := 80 }
def specTwinSwitchover : OpSpec :=
  { op := 0x906, callers := [.pf, .mg], franked := true, device := true, len := (· == 0) }
def specPairConfirm : OpSpec := { op := 0x981, callers := [.tw], franked := true, device := true, len := (· == 48) }
def specReconcile : OpSpec :=
  { op := 0x982, callers := [.tw], franked := true, device := true, len := fun n => decide (8 ≤ n ∧ n ≤ 61440) }
def specSwitchoverOffer : OpSpec := { op := 0x983, callers := [.tw], franked := true, device := true, len := (· == 8) }
def specLeave : OpSpec := { op := 0x984, callers := [.tw], franked := true, device := true, len := (· == 0) }
def specCaravanJoinSet : OpSpec :=
  { op := 0xA01, callers := [.pf, .mg], franked := true, owned := true, device := true, len := (· == 256) }
def specCaravanLeave : OpSpec :=
  { op := 0xA02, callers := [.pf, .mg], franked := true, device := true, len := (· == 0) }
def specCaravanStatusGet : OpSpec :=
  { op := 0xA03, callers := [.pf, .mg], device := true, len := (· == 0), reply := 188 }
def specChannelSet : OpSpec := { op := 0xA04, callers := [.pf, .mg], franked := true, part := true, len := (· == 32) }
def specChannelClear : OpSpec :=
  { op := 0xA05, callers := [.pf, .mg], franked := true, device := true, len := (· == 8) }
def specRouteTableRead : OpSpec := { op := 0xA06, callers := [.pf, .mg], device := true, len := (· == 16), reply := 24 }
def specCaravanLogRead : OpSpec := { op := 0xA07, callers := [.pf, .mg], device := true, len := (· == 16), reply := 80 }
def specScrubStatusGet : OpSpec := { op := 0xB01, callers := [.pf, .mg], device := true, len := (· == 0), reply := 56 }
def specScrubLogRead : OpSpec := { op := 0xB02, callers := [.pf, .mg], device := true, len := (· == 16), reply := 48 }
def specUpkeepSet : OpSpec := { op := 0xB03, callers := [.pf, .mg], device := true, len := (· == 8) }
def specDebugStateSet : OpSpec :=
  { op := 0xC01, callers := [.pf, .mg], franked := true, device := true, len := (· == 8) }
def specDebugHalt : OpSpec := { op := 0xC02, callers := [.pf, .mg], part := true, len := (· == 16) }
def specDebugResume : OpSpec := { op := 0xC03, callers := [.pf, .mg], part := true, len := (· == 24) }
def specDebugRead : OpSpec := { op := 0xC04, callers := [.pf, .mg], part := true, len := (· == 16), reply := 1 }
def specDebugWrite : OpSpec :=
  { op := 0xC05, callers := [.pf, .mg], part := true, len := fun n => decide (16 ≤ n ∧ n ≤ 61440) }
def specDebugFaultPolicy : OpSpec := { op := 0xC06, callers := [.pf, .mg], part := true, len := (· == 24) }
def specDebugTraceSet : OpSpec := { op := 0xC07, callers := [.pf, .mg], part := true, len := (· == 40) }
def specPeriodSet : OpSpec := { op := 0xD01, callers := [.pf, .mg], part := true, len := (· == 8) }
def specPeriodStatusGet : OpSpec :=
  { op := 0xD02, callers := [.pf, .mg, .vf, .sp], part := true, len := (· == 0), reply := 32 }
def specTokenSignal : OpSpec := { op := 0xD10, callers := [.pf, .mg, .vf], part := true, len := (· == 8) }
def specTokenStatusGet : OpSpec :=
  { op := 0xD11, callers := [.pf, .mg, .vf], part := true, len := (· == 8), reply := 16 }
def specTokenImportSet : OpSpec := { op := 0xD12, callers := [.pf, .mg], part := true, len := (· == 24) }
def specTokenPageSet : OpSpec := { op := 0xD20, callers := [.pf, .mg], part := true, len := (· == 16) }

end Sys2Proof.Machine
end

