-- ==== Sys2Proof/Machine/Parts.lean ====
section
/-! DEFINITION. Shared operations over partitions and resources (chapter 09): resources and shares, epoch steps and
digests, programs (R255, R256), context save and load (R210, R276), grants and revokes of Table 09-5. -/

namespace Sys2Proof.Machine

/-! ### Resources (R202) -/

/-- The table of a resource type with one-holder states. -/
def resTable (s : State) (rt : Nat) : SMap Res :=
  if rt = 1 then s.parts.cores else if rt = 3 then s.parts.ways else if rt = 4 then s.parts.tokens
  else if rt = 5 then s.parts.pools else []
def resOf (s : State) (rt rid : Nat) : Res := mgetD (resTable s rt) rid Res.free
def setRes (rt rid : Nat) (r : Res) (s : State) : State :=
  let m := mset (resTable s rt) rid r Res.free
  { s with parts :=
      if rt = 1 then { s.parts with cores := m } else if rt = 3 then { s.parts with ways := m }
      else if rt = 4 then { s.parts with tokens := m } else if rt = 5 then { s.parts with pools := m } else s.parts }

/-- The resources of a type a partition holds, rising. -/
def heldOf (s : State) (rt p : Nat) : List Nat := ((resTable s rt).filter (fun e => e.2.st == .held p)).map Prod.fst

/-- Whether a core or way is fenced: itself, or with its tile (R204). -/
def resFenced (s : State) (rt rid : Nat) : Bool :=
  (resOf s rt rid).st == .fenced || ((rt == 1 || rt == 3) && s.power.tileFence.getLsbD (rid / 16))

/-- A scrub generation (R324). -/
def genOf (s : State) (rt rid : Nat) : BitVec 32 := mgetD s.scrub.gens (rt * 2 ^ 24 + rid) 0
def unitKey (stack u : Nat) : Nat := 0x2000000 + stack * 2 ^ 16 + u
/-- A window's generation: the highest of its units. -/
def rangeGen (s : State) (stack base size : Nat) : BitVec 32 :=
  BitVec.ofNat 32 ((s.scrub.gens.filter (fun e => decide (unitKey stack base ≤ e.1) && decide (e.1 < unitKey stack (base + size)))).foldl
    (fun a e => max a e.2.toNat) 0)
def setGrantGen (rt p rid : Nat) (g : BitVec 32) (s : State) : State :=
  { s with scrub := { s.scrub with grantGen := mset s.scrub.grantGen (rt * 2 ^ 24 + p * 2 ^ 16 + rid) g 0 } }

/-! ### Steps and epochs (R218–R220, R495) -/

/-- Whether `n` further steps have room (R219). -/
def stepRoom (s : State) (n : Nat) : Bool := decide (s.parts.openSteps.length + n ≤ 4096)

/-- The index of a TID in the open steps' table, entered if it is new; none where it would be the 129th. -/
def tidIndex (d : Digest) (s : State) : Option (Nat × State) :=
  let t := s.parts.openTids
  match t.findIdx? (· == d) with
  | some i => some (i, s)
  | none =>
    if t.length < 128 then some (t.length, { s with parts := { s.parts with openTids := t ++ [d] } }) else none

/-- A step record (Table 09-6). -/
def stepBytes (n : Nat) (r : StepRec) : Bytes :=
  leBytes 4 n ++ [r.action, r.rtype, r.part, r.ctx] ++ leBytes 4 r.rid.toNat ++ zeros 4 ++ leBytes 16 r.new.toNat ++
    leBytes 16 r.old.toNat

/-- Record a step, mirrored at its effect point (R222). -/
def recordStep (r : StepRec) (s : State) : State :=
  let n := s.parts.openSteps.length + 1
  mirror 1 (leBytes 8 s.parts.current.num.toNat ++ stepBytes n r)
    { s with parts := { s.parts with openSteps := s.parts.openSteps ++ [r] } }

def mkStep (action rtype p ctx rid : Nat) (new old : BitVec 128) : StepRec :=
  { action := BitVec.ofNat 8 action, rtype := BitVec.ofNat 8 rtype, part := BitVec.ofNat 8 p, ctx := BitVec.ofNat 8 ctx,
    rid := BitVec.ofNat 32 rid, new := new, old := old }

/-- The epoch digest. -/
def epochDigest (e : Epoch) : Digest :=
  sha384 (leBytes 8 e.num.toNat ++ ((e.steps.zipIdx).map (fun x => stepBytes (x.2 + 1) x.1)).flatten ++
    padTo 6144 (e.tids.map digBytes).flatten)

/-- Stamp the open steps as the next epoch (R218). -/
def commitEpoch (s : State) : State :=
  let x := s.parts
  let e : Epoch := { num := x.current.num + 1, steps := x.openSteps, tids := x.openTids }
  mirror 2 (leBytes 8 e.num.toNat ++ digBytes (epochDigest e))
    { s with parts := { x with current := e, previous := some x.current, openSteps := [], openTids := [] } }

/-! ### Shares (R239, Table 10-4) -/

def shareParams (h : Share) : BitVec 128 := BitVec.ofNat 128 (h.slotsA + h.slotsB * 2 ^ 16)
def shareOf (params : BitVec 128) : Share := { slotsA := params.toNat % 2 ^ 16, slotsB := params.toNat / 2 ^ 16 % 2 ^ 16 }
def partShare (x : Partition) (rt rid : Nat) : Option Share :=
  if rt = 6 then x.host else if rt = 7 then mget x.link rid else mget x.mem rid
def putShare (rt rid : Nat) (h : Option Share) (x : Partition) : Partition :=
  let upd (m : SMap Share) : SMap Share := match h with | some v => mput m rid v | none => mdel m rid
  if rt = 6 then { x with host := h } else if rt = 7 then { x with link := upd x.link } else { x with mem := upd x.mem }

/-- Whether assigning slots to a partition on a path keeps within its limit: MT 240, HT 120 in each direction, LT 72
(R236). Slots of a share that is being released stay reserved. -/
def slotsFit (s : State) (p rt rid : Nat) (h : Share) : Bool :=
  let others := (s.parts.parts.filter (fun e => e.1 ≠ p)).filterMap (fun e => partShare e.2 rt rid)
  let held := (s.scrub.jobs.filter (fun j => rt == 8 && j.rtype == 8 && j.rid == rid)).map (·.size)
  let a := (others.map (·.slotsA)).sum + held.sum + h.slotsA
  let b := (others.map (·.slotsB)).sum + h.slotsB
  if rt = 6 then decide (a ≤ 120 ∧ b ≤ 120) else if rt = 7 then decide (a ≤ 72) else decide (a ≤ 240)

/-- Whether fixed-slot arbitration is on for a path. -/
def fixedOn (s : State) (rt rid : Nat) : Bool :=
  if rt = 6 then s.parts.fixedHt else if rt = 7 then s.parts.fixedLt.getLsbD rid else s.parts.fixedMt.getLsbD rid

/-- Whether a path's turnstile is closed, or its stack fenced. -/
def pathShut (s : State) (rt rid : Nat) : Bool :=
  if rt = 6 then s.mem.htClosed else if rt = 7 then s.mem.ltClosed.getLsbD rid else stackShut s rid

/-! ### Cores -/

/-- End a core's wait. -/
def wakeCore (c : Nat) (s : State) : State :=
  modCore c (fun x => { x with waiting := .none, st := if x.st = .wait then .run else x.st }) s

/-- Complete a TWAIT with a result: its register written, PC past the word. -/
def endTwait (c rd : Nat) (v : BitVec 64) (s : State) : State :=
  wakeCore c (modCore c (fun x => { x with x := if rd = 0 then x.x else mset x.x rd v 0, pc := x.pc + 1 }) s)

/-- Release a token's waiters with DROPPED (R290). -/
def dropWaiters (t : Nat) (s : State) : State :=
  match mget s.q.tokens t with
  | none => s
  | some k =>
    let s1 := { s with q := { s.q with tokens := mput s.q.tokens t { k with waiters := [] } } }
    k.waiters.foldl (fun x c => match (core x c).waiting with
      | .token _ rd => endTwait c rd.toNat 1 x
      | _ => x) s1

/-- A program in a core's instruction store, words beyond its length zero (R255). -/
def putProgram (c : Nat) (b : Bytes) (d : Digest) (s : State) : State :=
  modCore c (fun x => { x with istore := mwrite [] 0 b, progLen := b.length, program := some d, verified := true }) s

/-- No program on a core. -/
def dropProgram (c : Nat) (s : State) : State :=
  modCore c (fun x => { x with istore := [], progLen := 0, program := none, verified := false,
                               st := if x.st = .unassigned then .unassigned else .stopped }) s

/-- The binding that a context has for a core. -/
def bindOf (x : Context) (c : Nat) : Option Bind :=
  x.binds.find? (fun b => match b with | .program _ _ _ _ cs => cs.getLsbD c | _ => false)

/-- Read a bound program through its window, check its digest and load it (R67, R256): whether it was loaded. -/
def reloadProgram (p c : Nat) (b : Bind) (s : State) : State :=
  match b with
  | .program d w off len _ =>
    let r := memRead (.host (BitVec.ofNat 7 p)) w off len s
    if r.2.1 = 0 ∧ sha384 r.2.2 = d then putProgram c r.2.2 d r.1
    else
      logFault 0x03 2 2 c 0 p 0 0
        (modCore c (fun x => { x with program := some d, progLen := len, verified := false, st := .stopped }) r.1)
  | .parcel _ _ => s

/-- Remove cores from a context's program bindings; a binding without cores goes (R255). -/
def unbindCores (cs : BitVec 128) (x : Context) : Context :=
  { x with binds := x.binds.filterMap (fun b => match b with
      | .program d w o l m => if m &&& ~~~cs = 0 ∧ m ≠ 0 then none else some (.program d w o l (m &&& ~~~cs))
      | o => some o) }

/-! ### Context save and load (R210, R276) -/

/-- A core's save record (Table 11-11). -/
def saveRecord (p ctx c : Nat) (seq : BitVec 64) (x : Core) : Bytes :=
  padTo 512 (leBytes 4 0x55444358 ++ [1, BitVec.ofNat 8 ctx, BitVec.ofNat 8 p, BitVec.ofNat 8 c] ++ leBytes 8 seq.toNat ++
    digBytes (x.program.getD 0) ++ ((List.range 32).map (fun i => leBytes 8 (mgetD x.x i 0).toNat)).flatten ++
    ((List.range 8).map (fun i => leBytes 8 (mgetD x.m i 0).toNat)).flatten ++ leBytes 8 x.lastDefer.toNat)

/-- Save the partition's cores into a window (R276). -/
def saveContext (p ctx : Nat) (w : Option Nat) (seq : BitVec 64) (s : State) : State :=
  match w with
  | none => s
  | some k => (coresOf s p).foldl (fun t c =>
      (memWrite (.desk (BitVec.ofNat 7 p)) k (512 * c) (saveRecord p ctx c seq (core t c)) t).1) s

/-- Registers read from a record; X0 and M0 are not stored. -/
def regsOf (b : Bytes) (off n : Nat) : SMap (BitVec 64) :=
  (List.range n).foldr (fun i m => let v := BitVec.ofNat 64 (fld b (off + 8 * i) 8); if i = 0 ∨ v = 0 then m else (i, v) :: m) []

/-- Load one core from the incoming context's save window: true where its record does not match (R276). -/
def loadCore (p ctx c : Nat) (w : Option Nat) (s : State) : State × Bool :=
  let zero (t : State) : State := modCore c (fun x => { x with x := [], m := [], lastDefer := 0 }) t
  match w with
  | none => (zero s, false)
  | some k =>
    let r := memRead (.desk (BitVec.ofNat 7 p)) k (512 * c) 512 s
    let b := r.2.2
    if r.2.1 = 0 ∧ allZero b then (zero r.1, false)
    else if r.2.1 = 0 ∧ fld b 0 4 = 0x55444358 ∧ (byteAt b 5).toNat = ctx ∧ (byteAt b 6).toNat = p ∧ (byteAt b 7).toNat = c then
      (modCore c (fun x => { x with x := regsOf b 0x40 32, m := regsOf b 0x140 8,
                                    lastDefer := BitVec.ofNat 64 (fld b 0x180 8) }) r.1, false)
    else (modCore c (fun x => { x with st := .stopped, verified := false }) (zero r.1), true)

/-- Load the running context of a partition: registers, programs where they differ, window descriptors; the cores run
where the partition does. `dropped` entries answer the switch. -/
def loadContext (p dropped : Nat) (s : State) : State :=
  match part? s p with
  | none => s
  | some x =>
    let ctx := x.running
    let cx := mget x.ctxs ctx
    let r := (coresOf s p).foldl (fun (a : State × Bool) c =>
      let l := loadCore p ctx c (cx.bind (·.save)) a.1
      let b := cx.bind (bindOf · c)
      let t := match b with
        | some (.program d w o n m) =>
          if (core l.1 c).program = some d ∧ (core l.1 c).verified then l.1 else reloadProgram p c (.program d w o n m) l.1
        | _ => dropProgram c l.1
      let t1 := if l.2 then modCore c (fun k => { k with st := .stopped, verified := false }) t else releaseCore c t
      (t1, a.2 || l.2)) (reloadWd p s, false)
    let s1 := modPart p (fun y => { y with switchEnv := none }) r.1
    finish? x.switchEnv
      (if r.2 then Ans.integrity else if dropped = 0 then Ans.ok else Ans.dropped dropped) s1

/-- Start a scrub. -/
def addJob (j : ScrubJob) (s : State) : State := { s with scrub := { s.scrub with jobs := s.scrub.jobs ++ [j] } }
def mkJob (s : State) (rt rid former mode : Nat) (next : ScrubNext) (env : Option Pending) (dropped : Nat) : ScrubJob :=
  { rtype := rt, rid := rid, former := former, mode := BitVec.ofNat 8 mode, stack := 0, base := 0, size := 0,
    started := tick s, repeated := false, tripped := false, paused := false, next := next, env := env, dropped := dropped }

/-- Apply a pending context switch (R210): windows of the outgoing context leave, its cores are saved, and a change of
tenant runs the full scrub of cores, queues and ways before the load (R321). -/
def applySwitch (p dropped : Nat) (s : State) : State :=
  match part? s p with
  | none => s
  | some x =>
    match x.switchTo with
    | none => s
    | some new =>
      let tidOf (k : Nat) : Option Digest := (mget x.ctxs k).map (·.tid)
      let s0 := (coresOf s p).foldl (fun t c => modCore c (fun k => { atEntry k with wd := [], st := .stopped }) (unwait c t)) s
      let s1 := saveContext p x.running ((mget x.ctxs x.running).bind (·.save)) x.periodSeq s0
      let s2 := modPart p (fun y => { y with running := new, switchTo := none }) s1
      if tidOf x.running = tidOf new then loadContext p dropped s2
      else
        let js := (heldOf s2 1 p).map (fun c => mkJob s2 1 c p 1 (.context p) none dropped) ++
          (heldOf s2 3 p).map (fun w => mkJob s2 3 w p 1 (.context p) none dropped)
        if js = [] then loadContext p dropped s2 else js.foldl (fun t j => addJob j t) s2

/-! ### Windows -/

/-- A window's grant parameters (Table 09-2). -/
def windowParams (w : Window) : BitVec 128 :=
  BitVec.ofNat 128 (w.base + w.size * 2 ^ 32 + w.stack * 2 ^ 64 + (if w.exposed then 4 else w.access.toNat) * 2 ^ 72 + w.ctx * 2 ^ 80)
def windowFrom (params : BitVec 128) : Window :=
  let n := params.toNat
  { base := n % 2 ^ 32, size := n / 2 ^ 32 % 2 ^ 32, stack := n / 2 ^ 64 % 256, access := BitVec.ofNat 3 (n / 2 ^ 72),
    ctx := n / 2 ^ 80 % 256, use := .plain, save := none, exposed := false }

def overlaps (s1 b1 n1 s2 b2 n2 : Nat) : Bool := s1 == s2 && decide (b1 < b2 + n2) && decide (b2 < b1 + n1)

/-- Whether a range overlaps one that is HELD: a partition's window or a circle's shared window. -/
def rangeHeld (s : State) (w : Window) : Bool :=
  s.parts.parts.any (fun e => e.2.windows.any (fun x => overlaps w.stack w.base w.size x.2.stack x.2.base x.2.size)) ||
  s.desk.circles.any (fun e => overlaps w.stack w.base w.size e.2.stack e.2.base e.2.size)
/-- Whether it overlaps one that is SCRUBBING. -/
def rangeScrub (s : State) (w : Window) : Bool :=
  s.scrub.jobs.any (fun j => j.rtype == 2 && overlaps w.stack w.base w.size j.stack j.base j.size)

/-- Units of a range not cleared since the fill of R94. -/
def rangeFresh (s : State) (w : Window) : Bool :=
  (List.range w.size).any (fun i => !mgetD (stackOf s w.stack).cleared (w.base + i) false)

/-- Copy MK_p to MCE_n. -/
def copyMk (n p : Nat) (s : State) : State :=
  { s with vault := { s.vault with mce := mput s.vault.mce (128 * n + p) (slot s (0x80 + p)).active } }

/-! ### The parcel desk's ends of a binding (R305, R306, R313, R315) -/

/-- The state codes of PARCEL_STATUS_GET. -/
def parcelCode : ParcelSt → Nat | .inProgress => 1 | .resident => 2 | .evicted => 3 | .abandoned => 4

/-- The residency mirror record (Table 18-4); an unbind shows state 0. -/
def mirrorParcel (x : Parcel) (st : Nat) (s : State) : State :=
  let b (n : Nat) : Byte := BitVec.ofNat 8 n
  mirror 5 ([b x.part, b x.ctx, b x.window, b st, x.usage, if x.pinned then 1 else 0, if x.passport.isSome then 1 else 0, 0] ++
    (if isConf s x.part then zeros 48 else digBytes x.head.hd)) s

def isParcel (p c : Nat) (hd : Digest) (x : Parcel) : Bool := x.part == p && x.ctx == c && x.head.hd == hd
def parcelOf (s : State) (p c : Nat) (hd : Digest) : Option Parcel := s.desk.parcels.find? (isParcel p c hd)
def modParcel (p c : Nat) (hd : Digest) (f : Parcel → Parcel) (s : State) : State :=
  { s with desk := { s.desk with parcels := s.desk.parcels.map (fun x => if isParcel p c hd x then f x else x) } }
def setAdm (a : Admission) (s : State) : State :=
  { s with desk := { s.desk with adms := s.desk.adms.map (fun y => if y.aid = a.aid then a else y) } }
def dropAdm (a : Admission) (s : State) : State :=
  { s with desk := { s.desk with adms := s.desk.adms.filter (fun y => y.aid != a.aid) } }

/-- Take a parcel's bind out of its context's chain (R133). -/
def unchain (p c : Nat) (hd : Digest) (s : State) : State :=
  modParcel p c hd (fun x => { x with bound := false })
    (modPart p (fun x => { x with ctxs := mupd x.ctxs c (fun y => { y with binds := y.binds.filter (fun b => match b with
      | .parcel _ d => d != hd | _ => true) }) }) s)

/-- The clear of a parcel window that stays HELD and SHADOW (R305, R315). -/
def clearParcel (p k : Nat) (s : State) : State :=
  match windowOf s p k with
  | none => s
  | some w => addJob { mkJob s 2 k p (if isConf s p then 1 else 2) (.parcel p k) none 0 with
                       stack := w.stack, base := w.base, size := w.size, paused := (stackOf s w.stack).closed } s

/-- Set an exposed parcel window back to SHADOW (R301). -/
def shadow (p k : Nat) (s : State) : State :=
  reloadWd p (modPart p (fun x => { x with windows := mupd x.windows k (fun w => { w with access := 4, exposed := false }) }) s)

/-- Where an admission's first line stands: stack and line. -/
def admBase (s : State) (a : Admission) : Option (Nat × Nat) :=
  match a.circle with
  | some i => (mget s.desk.circles i).map (fun c => (c.stack, c.base * 32768))
  | none => (windowOf s a.part a.window).map (fun w => (w.stack, w.base * 32768))

/-- Poison every line an admission has written (R305). -/
def poisonWritten (a : Admission) (s : State) : State :=
  match admBase s a with
  | none => s
  | some (n, l) => (List.range (min (a.chunk * 16384) (a.head.plainLen / 64))).foldl (fun t i => poisonLine n (l + i) t) s

/-- The outcome of an admission becomes visible (R306): on RESIDENT its window is exposed, read-only. -/
def releaseAdm (a : Admission) (s : State) : State :=
  let s1 := dropAdm a s
  let hd := a.head.hd
  let s2 : State :=
    if a.ok then
      let t := modPart a.part (fun x => { x with windows := mupd x.windows a.window (fun w =>
        { w with access := 1, exposed := true, use := match w.use with | .sharedParcel i => .sharedParcel i | _ => .parcel a.ctx hd }) }) s1
      let t1 := modParcel a.part a.ctx hd (fun x => { x with st := .resident, status := 0, detail := 0, usage := 0, touched := false,
                                                             window := a.window }) t
      reloadWd a.part t1
    else modParcel a.part a.ctx hd (fun x => { x with st := .abandoned, status := a.status, detail := a.detail }) s1
  match parcelOf s2 a.part a.ctx hd with
  | some x => mirrorParcel x (parcelCode x.st) s2
  | none => s2

/-- An admission has its outcome; in Open mode that is its release. A fetch whose member has left its circle ends. -/
def endAdm (a : Admission) (s : State) : State :=
  if a.window = 255 then dropAdm a s
  else if isConf s a.part then setAdm a s else releaseAdm a (setAdm a s)

/-- Abandon one admission (R305): written lines poisoned, the window cleared, the bind undone unless it stands under a
passport. -/
def abandonOne (status detail : Nat) (a : Admission) (s : State) : State :=
  if a.step = .done then s
  else
    let s1 := if a.readmit then s else unchain a.part a.ctx a.head.hd s
    let s2 := if a.hit ∨ a.lane.isNone then s1 else clearParcel a.part a.window (poisonWritten a s1)
    endAdm { a with step := .done, ok := false, status := BitVec.ofNat 16 status, detail := BitVec.ofNat 32 detail } s2

/-- Abandon an admission, and with a fetch that fails at step 5 or 6 every shared hit that waits for it (R312). -/
def abandon (status detail : Nat) (a : Admission) (s : State) : State :=
  let fetch := !a.hit && (a.step == .table || a.step == .chunks) && a.circle.isSome
  let hits := if fetch then s.desk.adms.filter (fun y => y.hit && y.circle == a.circle && y.step == .table) else []
  hits.foldl (fun t y => abandonOne status detail y t) (abandonOne status detail a s)

/-- Detail of an admission whose window, slot, binding, context or partition goes (Table 13-2). -/
def droppedDetail (a : Admission) : Nat := 0x08000000 + a.chunk % 2 ^ 24

/-- Unbind one parcel: its admission abandoned, its window set back to SHADOW and cleared, its entry and passport gone. -/
def unbindOne (p c : Nat) (hd : Digest) (s : State) : State :=
  let s1 := (s.desk.adms.filter (fun a => a.part == p && a.ctx == c && a.head.hd == hd)).foldl
    (fun t a => abandon 8 (droppedDetail a) a t) s
  match parcelOf s p c hd with
  | none => s1
  | some x =>
    let s2 := if x.st = .resident ∧ x.circle.isNone then clearParcel p x.window (shadow p x.window s1)
              else if x.st = .resident then shadow p x.window s1 else s1
    let s3 := unchain p c hd s2
    let s4 := mirrorParcel { x with passport := none } 0 s3
    if x.st = .inProgress ∨ x.st = .abandoned then modParcel p c hd (fun y => { y with passport := none }) s4
    else { s4 with desk := { s4.desk with parcels := s4.desk.parcels.filter (fun y => !isParcel p c hd y) } }

/-- The adapters of a base bound to a context, in bind order. -/
def adaptersOf (s : State) (p c : Nat) (hd : Digest) : List Digest :=
  (s.desk.parcels.filter (fun x => x.part == p && x.ctx == c && x.bound && x.head.kind == 3 && x.head.base == hd)).map (·.head.hd)

/-- Unbind a parcel, its adapters first (R309). -/
def unbindParcel (p c : Nat) (hd : Digest) (s : State) : State :=
  unbindOne p c hd ((adaptersOf s p c hd).foldl (fun t d => unbindOne p c d t) s)

/-- Invalidate a partition's L2 lines of a range of a stack, and the directory's record of the tiles that held them
(R293, Table 09-5). -/
def dropRange (p n lo count : Nat) (s : State) : State :=
  let gone (l : L2Line) : Bool := l.part == p && l.stack == n && decide (lo ≤ l.line) && decide (l.line < lo + count)
  let keep := s.mem.l2.filter (fun l => !gone l)
  let inRange (k : Nat) : Bool := k / 2 ^ 30 == n && decide (lo ≤ k % 2 ^ 30) && decide (k % 2 ^ 30 < lo + count)
  let left (k : Nat) (d : DirEntry) : DirEntry :=
    if inRange k then
      { d with sharers := BitVec.ofNat 8 (((List.range 8).filter (fun t => d.sharers.getLsbD t && keep.any (fun l =>
          l.tile == t && l.stack == n && l.line == k % 2 ^ 30))).foldl (fun a t => a + 2 ^ t) 0) }
    else d
  { s with mem := { s.mem with l2 := keep },
           q := { s.q with dir := (s.q.dir.map (fun e => (e.1, left e.1 e.2))).filter (fun e => e.2.sharers != 0),
                           snoops := s.q.snoops.filter (fun x => !(inRange x.line && s.mem.l2.any (fun l => gone l && l.tile == x.tile && l.line == x.line % 2 ^ 30))),
                           dirWaits := s.q.dirWaits.filter (fun w => !(inRange w.line && w.part == p)) } }

/-- What ends with a window: admissions into it, output copies, token pages, traces and the parcels it held (Table 09-5,
R286, R315). -/
def windowGone (p k : Nat) (s00 : State) : State :=
  let s0 := match windowOf s00 p k with
    | some w => dropRange p w.stack (w.base * 2 ^ 15) (w.size * 2 ^ 15) s00
    | none => s00
  let s := (s0.desk.adms.filter (fun a => a.part == p && a.window == k)).foldl (fun t a => abandon 8 (droppedDetail a) a t) s0
  let s1 : State := { s with
    desk := { s.desk with
      parcels := s.desk.parcels.map (fun x => if x.part = p ∧ x.window = k ∧ x.st = .resident then { x with st := .evicted } else x) },
    scrub := { s.scrub with jobs := s.scrub.jobs.filter (fun j => j.next != .parcel p k) },
    q := { s.q with
      outs := s.q.outs.map (fun o => if o.part = p ∧ o.win = k then { o with lost := true } else o),
      pages := s.q.pages.filter (fun g => !(g.part == p && g.window == k)) } }
  (coresOf s1 p).foldl (fun t c => match (core t c).dbg.trace with
    | some (w, _, _, _) => if w = k then modCore c (fun x => { x with dbg := { x.dbg with trace := none } }) t else t
    | none => t) s1

/-! ### Grants (R203, R213, R215, Table 09-5) -/

/-- The step of a grant. -/
def grantStep (p rt rid : Nat) (params : BitVec 128) (s : State) : State :=
  let ctx := if rt = 2 then (windowFrom params).ctx else if rt = 5 then params.toNat % 256 else 0xFF
  recordStep (mkStep 1 rt p ctx rid params 0) s

/-- A granted token (Table 12-8). -/
def tokenOf (params : BitVec 128) : Token :=
  let n := params.toNat
  { count := BitVec.ofNat 32 n, initial := BitVec.ofNat 32 n, periodReset := params.getLsbD 32, proxy := params.getLsbD 33,
    overflow := false, homePost := BitVec.ofNat 16 (n / 2 ^ 48), homeTok := BitVec.ofNat 16 (n / 2 ^ 64),
    channel := BitVec.ofNat 16 (n / 2 ^ 80), waiters := [], sigSeq := 0, imp := none }

/-- The effect of a grant that has passed its checks and scrubs. -/
def grantEffect (p rt rid : Nat) (params : BitVec 128) (s : State) : State :=
  let s1 : State :=
    if rt = 1 then
      let s2 := setRes 1 rid { st := .held p, params := 0, tag := none } s
      reloadWd p (setGrantGen 1 p rid (genOf s 1 rid) (modCore rid (fun x => { x with st := .stopped, waiting := .none }) s2))
    else if rt = 2 then
      let w := windowFrom params
      let s2 := modPart p (fun x => { x with windows := mput x.windows rid w }) s
      reloadWd p (setGrantGen 2 p rid (rangeGen s w.stack w.base w.size) (copyMk w.stack p s2))
    else if rt = 3 then
      setGrantGen 3 p rid (genOf s 3 rid) (setRes 3 rid { st := .held p, params := 0, tag := none } s)
    else if rt = 4 then
      let s2 := setRes 4 rid { st := .held p, params := params, tag := none } s
      { s2 with q := { s2.q with tokens := mput s2.q.tokens rid (tokenOf params) } }
    else if rt = 5 then setRes 5 rid { st := .held p, params := params, tag := none } s
    else modPart p (putShare rt rid (some (shareOf params))) s
  grantStep p rt rid params s1

/-- The refusal of a grant, if any. Shares and windows are checked by R203, R213 and R239, the others by R213. -/
def grantRefused (x : Partition) (p rt rid : Nat) (params : BitVec 128) (s : State) : Option Ans :=
  let conf := x.mode == .confidential
  if 6 ≤ rt then
    if (partShare x rt rid).isSome ∨ s.scrub.jobs.any (fun j => rt == 8 && j.rtype == 8 && j.rid == rid && j.former == p) then
      some Ans.conflict
    else if pathShut s rt rid then some Ans.state
    else if conf ∧ !fixedOn s rt rid then some Ans.state
    else if !slotsFit s p rt rid (shareOf params) then some Ans.exhausted
    else none
  else if rt = 2 then
    let w := windowFrom params
    if mhas x.windows rid then some Ans.conflict
    else if rangeHeld s w then some Ans.conflict
    else if w.ctx ≠ 255 ∧ !mhas x.ctxs w.ctx then some Ans.notFound
    else if stackShut s w.stack then some Ans.state
    else if conf ∧ (!fixedOn s 8 w.stack ∨ ((mget x.mem w.stack).map (·.slotsA)).getD 0 = 0) then some Ans.state
    else none
  else
    match (resOf s rt rid).st with
    | .held _ => some Ans.conflict
    | .fenced => some Ans.state
    | .scrubbing => if s.scrub.jobs.any (fun j => j.rtype == rt && j.rid == rid && j.tripped) then some Ans.state else none
    | .free =>
      if resFenced s rt rid then some Ans.state
      else if rt = 5 ∧ !mhas x.ctxs (params.toNat % 256) then some Ans.notFound else none

/-- Grant a resource: refused, waiting for its scrub, or in effect (R213, R215, R233). -/
def grant (p rt rid : Nat) (params : BitVec 128) (env : Option Pending) (s : State) : State × Ans :=
  match part? s p with
  | none => (s, Ans.notFound)
  | some x =>
    match grantRefused x p rt rid params s with
    | some a => (s, a)
    | none =>
      let busy := if rt = 2 then rangeScrub s (windowFrom params) || s.scrub.jobs.any (fun j => j.rtype == 2 && j.rid == rid && j.next == .firstGrant p rid params)
        else (rt == 1 || rt == 3) && (resOf s rt rid).st == .scrubbing
      if busy then
        let r := remainMs s
        (r.2, Ans.retry r.1)
      else if rt = 2 then
        let w := windowFrom params
        let s1 := if x.mode = .open ∧ (mget x.mem w.stack).isNone then grantEffect p 8 w.stack 0 s else s
        if rangeFresh s1 w then
          let j := { mkJob s1 2 rid 255 1 (.firstGrant p rid params) env 0 with stack := w.stack, base := w.base, size := w.size }
          (addJob j s1, Ans.waiting)
        else (grantEffect p 2 rid params s1, Ans.ok)
      else
        match (resOf s rt rid).tag with
        | some d =>
          if x.mode = .open ∧ d = x.tenant then (grantEffect p rt rid params s, Ans.ok)
          else
            (addJob (mkJob s rt rid 255 3 (.grant p params) env 0) (setRes rt rid { resOf s rt rid with st := .scrubbing } s),
             Ans.waiting)
        | none => (grantEffect p rt rid params s, Ans.ok)

/-! ### Revokes (R214, Table 09-5) -/

/-- The grant parameters in force of a resource a partition holds. -/
def heldParams (x : Partition) (s : State) (rt rid p : Nat) : Option (BitVec 128) :=
  if rt = 2 then (mget x.windows rid).map windowParams
  else if 6 ≤ rt then (partShare x rt rid).map shareParams
  else if (resOf s rt rid).st = .held p then some (resOf s rt rid).params else none

/-- Write back and forget a partition's L2 lines on a tile (Table 09-5). -/
def flushWay (p t : Nat) (s : State) : State :=
  let mine (l : L2Line) : Bool := l.tile == t && l.part == p
  let s1 := (s.mem.l2.filter (fun l => mine l && l.dirty)).foldl (fun x l =>
    let g : Gate := { wd := { Wd.none with stack := l.stack, tagged := isConf x p, part := p }
                      key := mget x.vault.mce (128 * l.stack + p), tweak := p }
    if l.poison then poisonLine l.stack l.line x else writeLine g l.line l.data x) s
  { s1 with mem := { s1.mem with l2 := s1.mem.l2.filter (fun l => !mine l) } }

/-- Whether a window of the partition on a stack is still being cleared. -/
def clearing (s : State) (p n : Nat) : Bool := s.scrub.jobs.any (fun j => j.rtype == 2 && j.former == p && j.stack == n)

/-- Why a revoke is refused, if it is. -/
def revokeRefused (x : Partition) (rt rid : Nat) : Option Ans :=
  if rt = 8 ∧ x.windows.any (fun w => w.2.stack == rid) then some Ans.state
  else if rt = 6 ∧ x.mode = .confidential ∧ x.state = .running then some Ans.state
  else if rt = 2 then
    match mget x.windows rid with
    | some w => (match w.use with | .sharedParcel _ => some Ans.state | _ => none)
    | none => none
  else none

/-- Take a resource from its holder: the state, the entries dropped, and whether a scrub has begun. `next` says what
follows the scrub. -/
def revokeEffect (x : Partition) (p rt rid : Nat) (next : ScrubNext) (env : Option Pending) (s : State) : State × Nat × Bool :=
  let conf := x.mode == .confidential
  let old := (heldParams x s rt rid p).getD 0
  let ctx := if rt = 2 then old.toNat / 2 ^ 80 % 256 else if rt = 5 then old.toNat % 256 else 0xFF
  let s0 := recordStep (mkStep 2 rt p ctx rid 0 old) s
  if rt = 1 then
    let r := cancelCores [rid] s0
    let posts := r.1.q.posting.filter (fun y => y.core == rid)
    let n := r.2 + posts.length
    let s1 := dropEntries (posts.map (fun y => (y.core, y.entry))) n
      { r.1 with q := { r.1.q with posting := r.1.q.posting.filter (fun y => y.core != rid) } }
    let s2 := modPart p (fun y => { y with ctxs := y.ctxs.map (fun c => (c.1, unbindCores (BitVec.ofNat 128 (2 ^ rid)) c.2)) }) s1
    let s3 : State := { s2 with therm := { s2.therm with groups := s2.therm.groups.filter (fun g => !g.2.members.contains rid) },
                                power := { s2.power with reload := s2.power.reload.filter (fun c => c.toNat != rid) } }
    let s4 := modCore rid (fun c => { c with st := .unassigned, wd := [], xfers := [], program := none, progLen := 0, verified := false,
                                             dbg := .reset, faultRun := 0 }) s3
    if conf ∨ next ≠ .free then
      (addJob (mkJob s4 1 rid p 1 next env n) (setRes 1 rid { st := .scrubbing, params := 0, tag := none } s4), n, true)
    else (setRes 1 rid { st := .free, params := 0, tag := some x.tenant } s4, n, false)
  else if rt = 2 then
    match mget x.windows rid with
    | none => (s0, 0, false)
    | some w =>
      let s1 := reloadWd p (modPart p (fun y => { y with windows := mdel y.windows rid }) (windowGone p rid s0))
      let j := { mkJob s1 2 rid p (if conf ∨ next ≠ .free then 1 else 2) next env 0 with
                 stack := w.stack, base := w.base, size := w.size, paused := (stackOf s1 w.stack).closed }
      (addJob j s1, 0, true)
  else if rt = 3 then
    let s1 := flushWay p (rid / 16) s0
    if conf ∨ next ≠ .free then
      (addJob (mkJob s1 3 rid p 1 next env 0) (setRes 3 rid { st := .scrubbing, params := 0, tag := none } s1), 0, true)
    else (setRes 3 rid { st := .free, params := 0, tag := some x.tenant } s1, 0, false)
  else if rt = 4 then
    let s1 := dropWaiters rid s0
    (setRes 4 rid Res.free { s1 with q := { s1.q with tokens := mdel s1.q.tokens rid }
                                     car := { s1.car with channels := s1.car.channels.filter (fun c =>
                                       !((mgetD s1.q.tokens rid (tokenOf 0)).proxy && c.1 == (mgetD s1.q.tokens rid (tokenOf 0)).channel.toNat)) } },
     0, false)
  else if rt = 5 then (setRes 5 rid Res.free (destroySlot rid s0), 0, false)
  else
    let s1 := modPart p (putShare rt rid none) s0
    if rt = 8 ∧ clearing s1 p rid then
      (addJob { mkJob s1 8 rid p 0 next env 0 with stack := rid, size := (shareOf old).slotsA } s1, 0, true)
    else (s1, 0, false)

/-- PARTITION_REVOKE's effect, for the envelope or for a rollback. -/
def revoke (p rt rid : Nat) (env : Option Pending) (s : State) : State × Ans :=
  match part? s p with
  | none => (s, Ans.notFound)
  | some x =>
    if (heldParams x s rt rid p).isNone then (s, Ans.notFound)
    else match revokeRefused x rt rid with
      | some a => (s, a)
      | none =>
        let r := revokeEffect x p rt rid .free env s
        let s1 := if rt = 1 ∨ rt = 2 then countAct x.tenant r.1 else r.1
        (s1, if r.2.2 then Ans.waiting else if r.2.1 = 0 then Ans.ok else Ans.dropped r.2.1)

end Sys2Proof.Machine
end

