-- ==== Sys2Proof/Machine/Snapshot.lean ====
section
/-! DEFINITION. What reports show of the device (R336–R341), as records of Tables 15-4 to 15-7, the generations that
count its changes (R338), and the end of every command. -/

namespace Sys2Proof.Machine

/-! ### Records -/

/-- SEC_FLAGS, DEBUG and TAMPER count of the DEVICE section. -/
def deviceFlags (s : State) : Bytes :=
  [if s.parts.debugOpen then 1 else 0,
   BitVec.ofNat 8 (bit s.aon.ret.cold 0 + bit s.aon.ret.xt32Lost 1 + bit s.eng.entropyFailed 2 +
     bit (decide (3968 ≤ s.fuses.shadow.ratchet)) 3)] ++ leBytes 2 s.aon.ret.tamperCount.toNat ++ zeros 4

/-- The DEVICE body. -/
def deviceBody (s : State) : Bytes := fuseSummary s.fuses.shadow ++ leBytes 8 (bootStatus s).toNat ++ deviceFlags s

/-- A firmware record (Table 15-4). -/
def fwRecord (layer : Nat) (b : Bool) (svn key : BitVec 8) (st : Nat) (build : BitVec 64) (m : Digest) : Bytes :=
  [BitVec.ofNat 8 layer, if b then 1 else 0, svn, key, BitVec.ofNat 8 st, 0, 0, 0] ++ leBytes 8 build.toNat ++ digBytes m ++
    zeros 16

/-- FIRMWARE (R340): the running images, then the other bank's while it is STAGED, TRIAL or written; under LAYER_FAILED
the failed image. -/
def firmwareBody (s : State) : Bytes :=
  let run := (s.boot.layers.map (fun e => fwRecord e.1 s.boot.bank e.2.svn e.2.key 1 e.2.build e.2.m)).flatten
  let o := !s.boot.bank
  let bk := if o then s.flash.bankB else s.flash.bankA
  let st := match bk.st with | .staged => 2 | .trial => 3 | .writing => 4 | _ => 0
  let other : Bytes := if st = 0 then [] else ([1, 2, 3, 4].map (fun l =>
    let img := mgetD bk.images l []
    fwRecord l o (byteAt img 8) (byteAt img 9) st (BitVec.ofNat 64 (fld img 0x10 8))
      (if st = 4 then 0 else sha384 (img.take 0xB20)))).flatten
  let failed : Bytes :=
    if s.boot.outcome = .layerFailed then
      let l := s.boot.failedLayer.toNat
      let img := mgetD (if s.boot.bank then s.flash.bankB else s.flash.bankA).images l []
      fwRecord l s.boot.bank (byteAt img 8) (byteAt img 9) 5 (BitVec.ofNat 64 (fld img 0x10 8))
        (if img.length < 0xB20 then 0 else sha384 (img.take 0xB20))
    else []
  run ++ other ++ failed

/-- The registers of POSTMARKS. -/
def shownPms : List Nat := List.range 8 ++ (List.range 16).map (· + 16)

/-- POSTMARKS: LAST_SEQ, then 24 records. -/
def postmarksBody (s : State) : Bytes :=
  leBytes 8 s.boot.logSeq.toNat ++ (shownPms.map (fun i =>
    let f := mgetD s.boot.floors i (0, 0)
    [BitVec.ofNat 8 i] ++ zeros 7 ++ leBytes 8 f.2.toNat ++ digBytes (mgetD s.boot.pm i 0) ++ digBytes f.1)).flatten

/-- Whether a core's MEAS_VALID stands (R67, R339, R341). -/
def measLive (s : State) (c : Nat) : Bool :=
  (core s c).verified && domOf s (tilePd (c / 16)) == .on && !s.power.reload.any (fun r => r.toNat == c)
def measValid (s : State) (c : Nat) : Bool :=
  match coreHolder s c with
  | some p => if isConf s p then mgetD s.att.measValid c false && domOf s (tilePd (c / 16)) == .on else measLive s c
  | none => false

/-- TILES: tile states, stack states, MEAS_VALID bitmap. -/
def tilesBody (s : State) : Bytes :=
  let tile (t : Nat) : BitVec 8 :=
    if s.power.tileFence.getLsbD t then (if s.aon.ret.tripLatch then 3 else 2) else if domOf s (tilePd t) = .on then 0 else 1
  let stk (n : Nat) : BitVec 8 := if s.power.stackFence.getLsbD n then 2 else if domOf s (stackPd n) = .on then 0 else 1
  (List.range 8).map tile ++ (List.range 8).map stk ++
    leBytes 16 ((List.range 128).foldl (fun a c => a + bit (measValid s c) c) 0)

/-- A resource record (Table 15-6). -/
def resRecord (s : State) (p rt ctx rid : Nat) (param : Bytes) : Bytes :=
  [BitVec.ofNat 8 rt, if rt = 1 ∧ measValid s rid then 1 else 0, BitVec.ofNat 8 ctx, 0] ++ leBytes 4 rid ++
    leBytes 4 (mgetD s.scrub.grantGen (rt * 2 ^ 24 + p * 2 ^ 16 + rid) 0).toNat ++ zeros 4 ++ padTo 8 param

/-- The HELD resources of a partition, in type and identifier order, each with its context. -/
def resList (s : State) (p : Nat) (x : Partition) : List (Nat × Bytes) :=
  let plain (rt : Nat) : List (Nat × Bytes) := (heldOf s rt p).map (fun r =>
    let ctx := if rt = 5 then (resOf s rt r).params.toNat % 256 else 0xFF
    (ctx, resRecord s p rt ctx r []))
  let share (rt rid : Nat) (h : Share) : Nat × Bytes :=
    (0xFF, resRecord s p rt 0xFF rid (leBytes 2 h.slotsA ++ leBytes 2 h.slotsB))
  plain 1 ++ x.windows.map (fun w => (w.2.ctx, resRecord s p 2 w.2.ctx w.1
    (leBytes 2 w.2.base ++ leBytes 2 w.2.size ++ [BitVec.ofNat 8 w.2.stack, w.2.access.zeroExtend 8]))) ++
    plain 3 ++ plain 4 ++ plain 5 ++ (x.host.toList.map (share 6 0)) ++ x.link.map (fun e => share 7 e.1 e.2) ++
    x.mem.map (fun e => share 8 e.1 e.2)

/-- The bytes of a parcel policy as PARCEL_POLICY_SET carries them (R300). -/
def policyBytes (y : ParcelPolicy) : Bytes :=
  leBytes 1 y.publishers.length ++ leBytes 1 y.bases.length ++ zeros 6 ++ padTo 384 (y.publishers.map digBytes).flatten ++
    padTo 192 (y.bases.map digBytes).flatten

/-- A binding record (Table 15-7). -/
def bindRecord (s : State) (p ctx : Nat) (b : Bind) : Bytes :=
  match b with
  | .program d _ _ _ cs => [1, 1, 0xFF, 0, 0, 0, 0, 0] ++ digBytes d ++ leBytes 16 cs.toNat ++ zeros 8
  | .parcel ad hd =>
    let q := s.desk.parcels.find? (fun q => q.part == p && q.ctx == ctx && q.head.hd == hd)
    let st : BitVec 8 := match q with
      | some q => (match q.st with | .resident => 1 | .inProgress => 3 | _ => 2)
      | none => 2
    [if ad then 3 else 2, st, BitVec.ofNat 8 ((q.map (·.window)).getD 0xFF), 0, 0, 0, 0, 0] ++ digBytes hd ++ zeros 24

/-- The bindings of a context that reports show: in a Confidential partition a fresh admission's bind, an internal step,
stays hidden until its release (R339). -/
def shownBinds (s : State) (p c : Nat) (x : Context) : List Bind :=
  x.binds.filter (fun b => match b with
    | .parcel _ hd => !(isConf s p && s.desk.adms.any (fun a => a.part == p && a.ctx == c && a.head.hd == hd && !a.readmit))
    | _ => true)

/-- A context header without CHAIN and TARGET, and its bindings. -/
def contextRaw (s : State) (p c : Nat) (x : Context) : Bytes :=
  let bs := shownBinds s p c x
  [BitVec.ofNat 8 p, BitVec.ofNat 8 c] ++ leBytes 2 bs.length ++ zeros 4 ++ digBytes x.tid ++
    (bs.map (bindRecord s p c)).flatten

/-- A partition header without its policy digest. -/
def partRaw (s : State) (p : Nat) (x : Partition) (ctxs res : Nat) : Bytes :=
  [BitVec.ofNat 8 p, BitVec.ofNat 8 (modeCode x.mode), if x.state = .running then 2 else 1, BitVec.ofNat 8 ctxs] ++
    leBytes 2 res ++ zeros 2 ++ leBytes 8 (actsOf s x.tenant).toNat ++ digBytes x.tenant

/-! ### The caravan's lead (R412) -/

/-- This device's postcode. -/
def myPost (s : State) : Nat := match s.car.join with | some j => j.post.toNat | none => 0

/-- Whether a route leads anywhere (R408). -/
def RouteEntry.ok (r : RouteEntry) : Bool := decide (r.dist ≤ 24)

/-- Whether a reachable candidate's entry (R412). -/
def isCandidate (e : Nat × RouteEntry) : Bool := e.2.ok && e.2.prio != 0

/-- A postcode and priority put in its place: higher priorities first, then lower postcodes. -/
def rankIn (x : Nat × Nat) : List (Nat × Nat) → List (Nat × Nat)
  | [] => [x]
  | y :: ys => if y.2 < x.2 ∨ (x.2 = y.2 ∧ x.1 ≤ y.1) then x :: y :: ys else y :: rankIn x ys

/-- The candidates this device sees, itself among them, ranked by priority, then by postcode (R412). -/
def ranked (s : State) : List Nat :=
  let own : List (Nat × Nat) := match s.car.join with | some j => if j.priority = 0 then [] else [(j.post.toNat, j.priority.toNat)] | none => []
  let all := own ++ (s.car.routes.filter isCandidate).map (fun e => (e.1, e.2.prio.toNat))
  ((all.foldr rankIn []).map Prod.fst).take 8

/-- The lead: the first-ranked reachable candidate. -/
def lead (s : State) : Option Nat := (ranked s).head?

/-! ### Scopes -/

/-- What one scope shows, before any digest is formed over it: fixed sections, partitions, contexts and the rest. -/
structure Snap where
  device : Bytes
  pms    : Bytes
  fw     : SMap LayerRun × Bool × BankSt × SMap Bytes
  tiles  : Bytes
  epoch  : Epoch
  parts  : List (Bytes × List Bytes × List Bytes × List Digest)
  others : Nat × Nat × Nat
  twin   : TwinRole × TwinSt × BitVec 64 × Digest
  car    : Option (BitVec 16 × Option Nat × Bytes)
  deriving DecidableEq, Repr

/-- What the TWIN section shows (R402). -/
def twinShown (s : State) : TwinRole × TwinSt × BitVec 64 × Digest :=
  (s.twin.role, s.twin.st, s.twin.failovers, match s.twin.bond with | some b => b.partner | none => 0)

/-- What the CARAVAN section shows: postcode, lead, and the latest roll-up's header. -/
def carShown (s : State) : Option (BitVec 16 × Option Nat × Bytes) :=
  s.car.join.map (fun j => (j.post, lead s, match s.att.rollup with | some r => r.1 | none => []))

/-- The partitions, cores and window units a tenant's report does not show (R337). -/
def othersOf (s : State) (d : Digest) : Nat × Nat × Nat :=
  let mine := partsOfTid s d
  let other := s.parts.parts.filter (fun e => !mine.contains e.1)
  (other.length, (other.map (fun e => (heldOf s 1 e.1).length)).sum,
   (other.map (fun e => (e.2.windows.map (fun w => w.2.size)).sum)).sum)

/-- The resources of a partition that a tenant sees (R337). -/
def tenantRes (s : State) (d : Digest) (p : Nat) (x : Partition) : List (Nat × Bytes) :=
  let cs := (x.ctxs.filter (fun c => c.2.tid == d)).map Prod.fst
  (resList s p x).filter (fun r => r.1 == 255 || cs.contains r.1)

/-- The report-visible state of the device as a whole (no tenant named) or of a tenant's scope. -/
def snap (s : State) (tid : Option Digest) : Snap :=
  let bk := if s.boot.bank then s.flash.bankA else s.flash.bankB
  let ps := s.parts.parts.filter (fun e => match tid with | some d => e.2.ctxs.any (fun c => c.2.tid == d) | none => true)
  { device := deviceBody s, pms := postmarksBody s, fw := (s.boot.layers, s.boot.bank, bk.st, bk.images),
    tiles := if tid.isSome then [] else tilesBody s, epoch := s.parts.current,
    parts := ps.map (fun e =>
      let cs := e.2.ctxs.filter (fun c => match tid with | some d => c.2.tid == d | none => true)
      let rs := match tid with | some d => tenantRes s d e.1 e.2 | none => resList s e.1 e.2
      (partRaw s e.1 e.2 cs.length rs.length, rs.map Prod.snd, cs.map (fun c => contextRaw s e.1 c.1 c.2),
       e.2.policy.publishers ++ e.2.policy.bases)),
    others := match tid with | some d => othersOf s d | none => (0, 0, 0),
    twin := twinShown s, car := carShown s }

/-! ### Generations (R338) and the end of a command -/

/-- The view generation of a tenant: 1 when the tenant is first seen, and until something in its scope changes. -/
def viewGen (s : State) (d : Digest) : BitVec 64 :=
  match s.att.views.find? (fun e => e.1 == d) with | some e => e.2 | none => 1

/-- The tenants that some context is recorded with or some session is bound to. -/
def tenants (s : State) : List Digest :=
  (s.parts.parts.flatMap (fun e => e.2.ctxs.map (fun c => c.2.tid)) ++ s.att.sessions.filterMap (fun e => e.2.tid)).dedup

/-- The tenants a command brings that no view generation counts for yet. -/
def newTenants (t : State) : List Digest := (tenants t).filter (fun d => !t.att.views.any (fun e => e.1 == d))

/-- Count the change of a command in the device generation and in the view generations (R338). -/
def settle (s t : State) : State :=
  if s.att.gen = 0 ∨ t.att.gen = 0 ∨ (snap s none = snap t none ∧ newTenants t = []) then t
  else
    let vs := t.att.views.map (fun e => if snap s (some e.1) = snap t (some e.1) then e else (e.1, e.2 + 1))
    let g := if snap s none = snap t none then t.att.gen else t.att.gen + 1
    { t with att := { t.att with gen := g, views := vs ++ (newTenants t).map (fun d => (d, 1)) } }

/-- The state after a command whose effect is `t`: its change counted, the queue as it was handed over. -/
def after (s t : State) : State := { settle s t with pending := s.pending }

/-- The answer of a command whose effect is `t`. -/
def done (s t : State) : Answer := .next (after s t)

end Sys2Proof.Machine
end

