-- ==== Sys2Proof/Machine/PartsCmd.lean ====
section
/-! DEFINITION. Partition, context, epoch and scrub commands (chapters 09 and 14). -/

namespace Sys2Proof.Machine

/-! ### Sharing circles left, keys made -/

/-- A partition leaves a circle (R313): the base and its adapters unbound, window k gone from its cores; with the last
member the shared window is cleared and the circle key destroyed. -/
def leaveCircle (p i : Nat) (s : State) : State :=
  match mget s.desk.circles i with
  | none => s
  | some c =>
    match c.members.find? (fun m => m.part == p) with
    | none => s
    | some m =>
      let rest := c.members.filter (fun y => y.part != p)
      let detach (a : Admission) : Admission :=
        if a.part = p ∧ a.circle = some i ∧ !a.hit ∧ rest ≠ [] ∧ (a.step = .table ∨ a.step = .chunks) then { a with window := 255 } else a
      let s0 := { s with desk := { s.desk with adms := s.desk.adms.map detach } }
      let s1 := windowGone p m.window (shadow p m.window s0)
      let s2 := (adaptersOf s1 p m.ctx c.baseHd).foldl (fun t d => unbindOne p m.ctx d t) s1
      let s3 := unchain p m.ctx c.baseHd s2
      let s4 := reloadWd p (modPart p (fun x => { x with windows := mdel x.windows m.window }) s3)
      let s5 : State := { s4 with
        desk := { s4.desk with
          parcels := s4.desk.parcels.filter (fun x => !(isParcel p m.ctx c.baseHd x && x.circle == some i && x.st != .inProgress && x.st != .abandoned)),
          circles := if rest = [] then mdel s4.desk.circles i else mput s4.desk.circles i { c with members := rest } },
        q := { s4.q with dir := s4.q.dir.filter (fun e => rest != [] || !(e.1 / 2 ^ 30 == c.stack && decide (c.base * 32768 ≤ e.1 % 2 ^ 30) && decide (e.1 % 2 ^ 30 < (c.base + c.size) * 32768))) } }
      if rest = [] then
        addJob { mkJob s5 2 m.window p (if c.mode = .confidential then 1 else 2) .free none 0 with
                 stack := c.stack, base := c.base, size := c.size } (setRes 5 c.keySlot Res.free (destroySlot c.keySlot s5))
      else s5

/-- The attribute word of MK_n: XTS seed, XTS and engine copy, trust world, turnstile engine, OWNED (R126, Table 06-2). -/
def mkAttr (p : Nat) : BitVec 64 := BitVec.ofNat 64 (4 + 2 ^ 5 + 2 ^ 11 + 2 ^ 12 + 2 ^ 22 + p * 2 ^ 24 + 2 ^ 35)

/-- Put 384 DRBG bits into a slot. -/
def drawKey (n : Nat) (attr : BitVec 64) (s : State) : State :=
  let u := useFree s
  installSlot n attr (BitVec.ofNat 384 (beNat (drawBytes u.1 48))) 0 u.2

/-! ### Partitions -/

def Partition.new (m : Mode) (d : Digest) : Partition :=
  { mode := m, state := .held, tenant := d, ctxs := [(0, { tid := d, save := none, binds := [] })], running := 0, switchTo := none,
    switchEnv := none, windows := [], host := none, mem := [], link := [], policy := { publishers := [], bases := [] },
    counts := .zero, budget := 16, level := 0, maxStep := 0, periodUs := 0, pendUs := 0, periodSeq := 0, anchor := 0,
    waitEnv := none }

/-- PARTITION_CREATE's effect (R205, R224). -/
def createPart (p : Nat) (m : Mode) (d : Digest) (s : State) : State × Ans :=
  if (part? s p).isSome then (s, Ans.conflict)
  else if s.parts.debugOpen ∧ m = .confidential then (s, Ans.state)
  else match tidIndex d s with
    | none => (s, Ans.exhausted)
    | some (i, s1) =>
      let s2 := drawKey (0x80 + p) (mkAttr p) (destroySlot (0x80 + p) s1)
      let s3 := setPart p (Partition.new m d) s2
      (recordStep (mkStep 4 0x10 p 0xFF 0 (BitVec.ofNat 128 (modeCode m + 256 * i)) 0) s3, Ans.ok)

/-- The end of a destroy (R207): shares free, MK and BK destroyed, VF reset, the reply. -/
def destroyDone (p : Nat) (s : State) : State :=
  match part? s p with
  | none => s
  | some x =>
    if x.state = .destroying ∧ !s.scrub.jobs.any (fun j => j.former == p) then
      let s1 := destroySlots [0x80 + p, 0x100 + p] s
      let s2 : State := { s1 with
        parts := { s1.parts with parts := mdel s1.parts.parts p },
        q := { s1.q with regs := mdel s1.q.regs p, outs := s1.q.outs.filter (fun o => o.part != p),
                         posting := s1.q.posting.filter (fun y => y.entry.part != p) },
        mem := { s1.mem with h2d := mclear s1.mem.h2d (65 * p) 65, d2h := mdel s1.mem.d2h p },
        tele := { s1.tele with pages := mdel s1.tele.pages p },
        car := { s1.car with channels := s1.car.channels.filter (fun c => c.2.part != p) } }
      match x.waitEnv with
      | some (e, n) => finish e (if n = 0 then Ans.ok else Ans.dropped n) s2
      | none => s2
    else s

/-- Everything a partition holds, in the order of Table 09-5. -/
def allHeld (s : State) (p : Nat) (x : Partition) : List (Nat × Nat) :=
  (heldOf s 1 p).map (fun r => (1, r)) ++ (mkeys x.windows).map (fun r => (2, r)) ++ (heldOf s 3 p).map (fun r => (3, r)) ++
    (heldOf s 4 p).map (fun r => (4, r)) ++ (heldOf s 5 p).map (fun r => (5, r)) ++ (x.host.toList.map (fun _ => (6, 0))) ++
    (mkeys x.link).map (fun r => (7, r)) ++ (mkeys x.mem).map (fun r => (8, r))

/-- The revokes of a sequence, none of them counted as an act of its own; the entries dropped. -/
def revokeAll (p : Nat) (rs : List (Nat × Nat)) (next : Nat → Nat → BitVec 128 → ScrubNext) (s : State) : State × Nat :=
  rs.foldl (fun (a : State × Nat) r =>
    match part? a.1 p with
    | none => a
    | some x =>
      match heldParams x a.1 r.1 r.2 p with
      | none => a
      | some v =>
        let k := revokeEffect x p r.1 r.2 (next r.1 r.2 v) none a.1
        (k.1, a.2 + k.2.1)) (s, 0)

/-- Unbind and forget what the parcel desk holds of a partition, or of one of its contexts: circles left, parcels
unbound, admissions and passports gone. -/
def deskForget (p : Nat) (ctx : Option Nat) (s : State) : State :=
  let mine (q c : Nat) : Bool := q == p && (match ctx with | some k => k == c | none => true)
  let s0 := ((s.desk.circles.filter (fun e => e.2.members.any (fun m => mine m.part m.ctx))).map Prod.fst).foldl (fun t i => leaveCircle p i t) s
  let s1 := (s0.desk.parcels.filter (fun x => mine x.part x.ctx)).foldl (fun t x => unbindOne p x.ctx x.head.hd t) s0
  { s1 with desk := { s1.desk with adms := s1.desk.adms.filter (fun a => !mine a.part a.ctx),
                                   parcels := s1.desk.parcels.filter (fun x => !mine x.part x.ctx) } }

/-- PARTITION_DESTROY's effect (R207). -/
def destroyPart (p : Nat) (env : Option Pending) (s : State) : State × Ans :=
  match part? s p with
  | none => (s, Ans.notFound)
  | some x =>
    match tidIndex x.tenant s with
    | none => (s, Ans.exhausted)
    | some (i, s0) =>
      let s1 := deskForget p none (countAct x.tenant s0)
      let c := cancelPart p s1
      let xs := match part? c.1 p with | some y => y | none => x
      let r := revokeAll p (allHeld c.1 p xs) (fun _ _ _ => .free) c.1
      let s2 := (x.ctxs.filter (fun e => e.1 ≠ 0)).foldl (fun t e =>
        match tidIndex e.2.tid t with
        | some (k, t1) => recordStep (mkStep 5 0x11 p e.1 0 0 (BitVec.ofNat 128 (e.2.save.getD 0xFF + 256 * k))) t1
        | none => t) r.1
      let s3 := recordStep (mkStep 5 0x10 p 0xFF 0 0 (BitVec.ofNat 128 (modeCode x.mode + 256 * i))) s2
      let n := c.2 + r.2
      let s4 := modPart p (fun y => { y with state := .destroying, waitEnv := env.map (fun e => (e, n)) }) s3
      let s5 := finish? x.switchEnv (if n = 0 then Ans.ok else Ans.dropped n) s4
      (destroyDone p s5, Ans.waiting)

/-- The reply of a mode change once nothing waits to be granted back (R208). -/
def modeDone (p : Nat) (s : State) : State :=
  match part? s p with
  | none => s
  | some x =>
    if s.scrub.jobs.any (fun j => match j.next with | .regrant q _ => q == p | _ => false) then s
    else match x.waitEnv with
      | some (e, _) => finish e Ans.ok (modPart p (fun y => { y with waitEnv := none }) s)
      | none => s

/-- PARTITION_MODE_SET's effect (R208, R209, R224, R239). -/
def modeSet (p : Nat) (m : Mode) (env : Option Pending) (s : State) : State × Ans :=
  match part? s p with
  | none => (s, Ans.notFound)
  | some x =>
    let paths : List (Nat × Nat) := (x.host.toList.map (fun _ => (6, 0))) ++ (mkeys x.link).map (fun r => (7, r)) ++
      (mkeys x.mem).map (fun r => (8, r))
    if x.mode = m then (s, Ans.ok)
    else if m = .confidential ∧ (x.ctxs.any (fun c => c.2.tid != x.tenant) || s.parts.debugOpen ||
        x.windows.any (fun w => ((mget x.mem w.2.stack).map (·.slotsA)).getD 0 == 0) ||
        paths.any (fun r => !fixedOn s r.1 r.2)) then (s, Ans.state)
    else
      let s1 := deskForget p none (countAct x.tenant s)
      let c := cancelPart p s1
      let s2 := applySwitch p c.2 (modPart p (fun y => { y with state := .held }) c.1)
      let y := match part? s2 p with | some y => y | none => x
      let rs := (allHeld s2 p y).filter (fun r => r.1 ≤ 3)
      let s3 := modPart p (fun z => { z with ctxs := z.ctxs.map (fun e => (e.1, { e.2 with binds := [] })) }) s2
      let r := revokeAll p rs (fun _ _ v => .regrant p v) s3
      let s4 := drawKey (0x80 + p) (mkAttr p) (destroySlots ([0x80 + p, 0x100 + p] ++ heldOf r.1 5 p) r.1)
      let s5 := modPart p (fun z => { z with mode := m, budget := 16, level := 0, waitEnv := env.map (fun e => (e, 0)) }) s4
      let s6 := recordStep (mkStep 3 0x10 p 0xFF 0 (BitVec.ofNat 128 (modeCode m)) (BitVec.ofNat 128 (modeCode x.mode))) s5
      (modeDone p s6, Ans.waiting)

/-! ### Contexts (R496) -/

def contextCreate (p c save : Nat) (d : Digest) (s : State) : State × Ans :=
  match part? s p with
  | none => (s, Ans.notFound)
  | some x =>
    let w := mget x.windows save
    if save ≠ 255 ∧ w.isNone then (s, Ans.notFound)
    else if mhas x.ctxs c ∨ (x.mode = .confidential ∧ d ≠ x.tenant) then (s, Ans.conflict)
    else if save ≠ 255 ∧ (match w with
        | some v => v.access != 0 || v.use != .plain || s.q.pages.any (fun g => g.part == p && g.window == save) ||
            (v.ctx != 255 && v.ctx != c) || v.save.isSome
        | none => false) = true then (s, Ans.state)
    else match tidIndex d s with
      | none => (s, Ans.exhausted)
      | some (i, s1) =>
        let sv := if save = 255 then none else some save
        let s2 := modPart p (fun y => { y with
          ctxs := mput y.ctxs c { tid := d, save := sv, binds := [] },
          windows := match sv with | some k => mupd y.windows k (fun v => { v with save := some c }) | none => y.windows }) s1
        (recordStep (mkStep 4 0x11 p c 0 (BitVec.ofNat 128 (save + 256 * i)) 0) s2, Ans.ok)

def contextDestroy (p c : Nat) (s : State) : State × Ans :=
  match part? s p with
  | none => (s, Ans.notFound)
  | some x =>
    match mget x.ctxs c with
    | none => (s, Ans.notFound)
    | some k =>
      if c = 0 ∨ c = x.running ∨ x.switchTo = some c then (s, Ans.state)
      else match tidIndex k.tid s with
        | none => (s, Ans.exhausted)
        | some (i, s1) =>
          let ws := (x.windows.filter (fun w => w.2.ctx == c)).map (fun w => (2, w.1))
          let ps := (heldOf s 5 p).filter (fun r => (resOf s 5 r).params.toNat % 256 == c)
          let s2 := ws.foldl (fun t _ => countAct x.tenant t) (deskForget p (some c) s1)
          let r := revokeAll p (ws ++ ps.map (fun r => (5, r))) (fun _ _ _ => .free) s2
          let unsave (w : Nat × Window) : Nat × Window := (w.1, if w.2.save = some c then { w.2 with save := none } else w.2)
          let s3 := modPart p (fun y => { y with ctxs := mdel y.ctxs c, windows := y.windows.map unsave }) r.1
          (recordStep (mkStep 5 0x11 p c 0 0 (BitVec.ofNat 128 (k.save.getD 0xFF + 256 * i))) s3, Ans.ok)

def contextSwitch (p c : Nat) (env : Option Pending) (s : State) : State × Ans :=
  match part? s p with
  | none => (s, Ans.notFound)
  | some x =>
    if !mhas x.ctxs c then (s, Ans.notFound)
    else if x.switchTo.isSome ∨ c = x.running then (s, Ans.state)
    else
      let s1 := modPart p (fun y => { y with switchTo := some c, switchEnv := env }) s
      let s2 := recordStep (mkStep 3 0x11 p c 0 (BitVec.ofNat 128 c) (BitVec.ofNat 128 x.running)) s1
      (if x.state = .running then s2 else applySwitch p 0 s2, Ans.waiting)

/-! ### Arbitration (R217, R239) -/

/-- RTYPE and RID of a path code. -/
def pathOf (v : Nat) : Nat × Nat := if v < 8 then (8, v) else if v = 0x10 then (6, 0) else (7, v % 16)

def setFixed (v : Nat) (on : Bool) (s : State) : State :=
  let x := s.parts
  { s with parts := if v < 8 then { x with fixedMt := setBit x.fixedMt v on } else if v = 0x10 then { x with fixedHt := on }
                    else { x with fixedLt := setBit x.fixedLt (v % 16) on } }

def arbMode (v : Nat) (on : Bool) (s : State) : State × Ans :=
  let r := pathOf v
  if !on ∧ s.parts.parts.any (fun e => e.2.mode == .confidential && (partShare e.2 r.1 r.2).isSome) then (s, Ans.state)
  else if fixedOn s r.1 r.2 = on then (s, Ans.ok)
  else
    let b (z : Bool) : BitVec 128 := if z then 1 else 0
    (recordStep (mkStep 3 0x12 0xFF 0xFF v (b on) (b (fixedOn s r.1 r.2))) (setFixed v on s), Ans.ok)

def arbShare (v p : Nat) (params : BitVec 128) (s : State) : State × Ans :=
  match part? s p with
  | none => (s, Ans.notFound)
  | some x =>
    let r := pathOf v
    match partShare x r.1 r.2 with
    | none => (s, Ans.notFound)
    | some old =>
      let h := shareOf params
      let uses := r.1 ≠ 8 ∨ x.windows.any (fun w => w.2.stack == r.2)
      if !slotsFit s p r.1 r.2 h then (s, Ans.exhausted)
      else if x.mode = .confidential ∧ uses ∧ (h.slotsA = 0 ∨ (r.1 = 6 ∧ h.slotsB = 0)) then (s, Ans.state)
      else if shareParams h = shareParams old then (s, Ans.ok)
      else
        (recordStep (mkStep 3 0x12 p 0xFF v (shareParams h) (shareParams old))
          (modPart p (putShare r.1 r.2 (some h)) s), Ans.ok)

/-! ### Rollback (R220, R221) -/

/-- The inverse of a recorded step, as an ordinary step. -/
def inverse (r : StepRec) (tids : List Digest) (s : State) : State × Ans :=
  let p := r.part.toNat
  let rt := r.rtype.toNat
  let old := r.old.toNat
  match r.action.toNat with
  | 1 => revoke p rt r.rid.toNat none s
  | 2 => grant p rt r.rid.toNat r.old none s
  | 3 =>
    if rt = 0x10 then modeSet p (if old = 1 then .confidential else .open) none s
    else if rt = 0x11 then
      match part? s p with
      | some x =>
        if x.switchTo = some (r.new.toNat % 256) then
          (recordStep (mkStep 3 0x11 p (old % 256) 0 (BitVec.ofNat 128 (old % 256)) r.new)
            (finish? x.switchEnv Ans.ok (modPart p (fun y => { y with switchTo := none, switchEnv := none }) s)), Ans.ok)
        else contextSwitch p (old % 256) none s
      | none => (s, Ans.notFound)
    else if r.part = 0xFF then arbMode r.rid.toNat (old % 2 == 1) s
    else arbShare r.rid.toNat p r.old s
  | 4 => if rt = 0x10 then destroyPart p none s else contextDestroy p r.ctx.toNat s
  | _ =>
    let d := tids.getD (old / 256 % 256) 0
    if rt = 0x10 then createPart p (if old % 256 = 1 then .confidential else .open) d s
    else contextCreate p r.ctx.toNat (old % 256) d s

/-- Whether a rollback has to wait for a scrub or for a destroy. -/
def rollbackBlocked (s : State) : Bool :=
  s.scrub.jobs.any (fun j => !j.tripped) ||
  s.parts.parts.any (fun e => e.2.state == .destroying || e.2.switchTo.isSome && e.2.state != .running)

/-- EPOCH and DIGEST of the current epoch. -/
def epochNow (s : State) : Bytes := leBytes 8 s.parts.current.num.toNat ++ digBytes (epochDigest s.parts.current)

/-- Go on with a rollback as far as it goes without waiting. -/
def runRollback : Nat → State → State
  | 0, s => s
  | n + 1, s =>
    match s.parts.rollback with
    | none => s
    | some r =>
      if rollbackBlocked s then s
      else match r.todo with
        | [] =>
          let s1 := commitEpoch { s with parts := { s.parts with rollback := none } }
          match r.env with
          | some e => reply e.env e.op.toNat (Ans.ok (epochNow s1)) (some s1.twin.mseqOut) s1
          | none => s1
        | (x, tids) :: rest =>
          let a := inverse x tids s
          if a.2.wait ∨ a.2.status = 0 ∨ a.2.status = 8 then
            runRollback n { a.1 with parts := { a.1.parts with rollback := some { r with todo := rest, done := r.done ++ [x] } } }
          else finish? r.env (Ans.conflict (count31 r.done.length)) { a.1 with parts := { a.1.parts with rollback := none } }

/-- Go on with a rollback in progress, if there is one. -/
def pumpRollback (s : State) : State :=
  match s.parts.rollback with | some r => runRollback (r.todo.length + 2) s | none => s

/-! ### Scrub completion (R318–R326) -/

/-- The partition a scrub is run for. -/
def jobOwner (j : ScrubJob) : Nat :=
  match j.next with
  | .grant p _ | .regrant p _ | .context p | .parcel p _ | .firstGrant p _ _ => p
  | .free => j.former

/-- The identifier SCRUB_COMPLETE names: 16 × partition + k for a window. -/
def jobId (j : ScrubJob) : Nat := if j.rtype = 2 then 16 * jobOwner j + j.rid else j.rid

/-- Write a scrub record (R325): the log keeps 1,024; while PD1 sleeps 64 are buffered and a full buffer wakes it. -/
def scrubRecord (r : ScrubRec) (s : State) : State :=
  let x := s.scrub
  let s1 := { s with scrub := { x with log := keepLast 1024 (x.log ++ [r]), logNext := x.logNext + 1 } }
  if domOf s 1 = .off then
    let n := x.buffered + 1
    if 64 ≤ n then wakePd1 { s1 with scrub := { s1.scrub with buffered := 0 } }
    else { s1 with scrub := { s1.scrub with buffered := n } }
  else { s1 with scrub := { s1.scrub with buffered := 0 } }

/-- Increase the generations of what a completed scrub covered. -/
def bumpGens (j : ScrubJob) (s : State) : State :=
  let inc (m : SMap (BitVec 32)) (k : Nat) : SMap (BitVec 32) := mset m k (mgetD m k 0 + 1) 0
  let x := s.scrub
  let g := if j.rtype = 2 then (List.range j.size).foldl (fun m i => inc m (unitKey j.stack (j.base + i))) x.gens
           else inc x.gens (j.rtype * 2 ^ 24 + j.rid)
  { s with scrub := { x with gens := g } }

/-- The state a completed scrub leaves in its resource. -/
def scrubbed (j : ScrubJob) (s : State) : State :=
  if j.rtype = 1 then
    modCore j.rid (fun x => { Core.reset with st := match x.st with | .unassigned => .unassigned | _ => .stopped, parity := x.parity }) s
  else if j.rtype = 2 then
    let s1 := clearLines j.stack (j.base * 32768) (j.size * 32768) s
    let st := stackOf s1 j.stack
    setStack j.stack { st with cleared := (List.range j.size).foldl (fun m i => mset m (j.base + i) true false) st.cleared } s1
  else s

/-- The generation a record shows after completion. -/
def recordGen (j : ScrubJob) (s : State) : BitVec 32 :=
  if j.rtype = 2 then rangeGen s j.stack j.base j.size else genOf s j.rtype j.rid

def jobRecord (j : ScrubJob) (result : Nat) (durUs : BitVec 32) (s : State) : ScrubRec :=
  { tick := tick s, rtype := BitVec.ofNat 8 j.rtype, mode := j.mode, result := BitVec.ofNat 8 result, rid := BitVec.ofNat 32 j.rid,
    former := BitVec.ofNat 8 j.former, gen := recordGen j s, durUs := durUs, units := BitVec.ofNat 32 (if j.rtype = 2 then j.size else 1) }

/-- Whether a mem-share release waits for nothing more, and its reply (R214). -/
def releaseShares (s : State) : State :=
  (s.scrub.jobs.filter (fun j => j.rtype == 8 && !clearing s j.former j.rid)).foldl (fun t j =>
    finish? j.env Ans.ok { t with scrub := { t.scrub with jobs := t.scrub.jobs.filter (fun k => k != j) } }) s

/-- A parcel window after its clear: plain SHADOW space again. -/
def parcelCleared (p k : Nat) (s : State) : State :=
  modPart p (fun x => { x with windows := mupd x.windows k (fun w => { w with exposed := false, use := match w.use with | .sharedParcel i => .sharedParcel i | _ => .plain }) }) s

/-- What follows a scrub. -/
def afterScrub (j : ScrubJob) (fenced : Bool) (s : State) : State :=
  let cur : ResSt := if fenced then .fenced else .free
  let freed (t : State) : State := if j.rtype = 1 ∨ j.rtype = 3 then setRes j.rtype j.rid { Res.free with st := cur } t else t
  let gone (p : Nat) : Bool := match part? s p with | some x => x.state == .destroying | none => true
  match j.next with
  | .free => finish? j.env (if j.dropped = 0 then Ans.ok else Ans.dropped j.dropped) (freed s)
  | .grant p v =>
    if fenced ∨ gone p then finish? j.env Ans.state (freed s)
    else finish? j.env Ans.ok (grantEffect p j.rtype j.rid v (freed s))
  | .regrant p v => modeDone p (if fenced then freed s else grantEffect p j.rtype j.rid v (freed s))
  | .firstGrant p k v =>
    if gone p then finish? j.env Ans.state s
    else finish? j.env Ans.ok (grantEffect p 2 k v s)
  | .parcel p k => parcelCleared p k s
  | .context p =>
    let s1 := if fenced then setRes j.rtype j.rid { Res.free with st := .fenced } (modCore j.rid (fun x => if j.rtype = 1 then { x with st := .unassigned } else x) s) else s
    if s1.scrub.jobs.any (fun k => k.next == .context p) then s1 else loadContext p j.dropped s1

/-- A scrub ends, `ok` with its evidence (R324). A core or way that fails twice is FENCED; a window without the count of
its completions is not done. -/
def scrubComplete (rt rid : Nat) (ok : Bool) (durUs : BitVec 32) (s : State) : State :=
  match s.scrub.jobs.find? (fun j => j.rtype == rt && jobId j == rid && !j.tripped && !j.paused && j.rtype != 8) with
  | none => s
  | some j =>
    let without (t : State) : State := { t with scrub := { t.scrub with jobs := removeFirst (fun k => k == j) t.scrub.jobs } }
    let wrap (t : State) : State := pumpRollback (destroyDone j.former (releaseShares t))
    if ok then
      let s1 := bumpGens j (scrubbed j (without s))
      let s2 : State := if j.rtype = 2 then { s1 with scrub := { s1.scrub with
          rates := mset s1.scrub.rates j.stack (BitVec.ofNat 32 (j.size * 2 ^ 21 / max 1 durUs.toNat)) 0 } } else s1
      wrap (afterScrub j false (scrubRecord (jobRecord j (if j.repeated then 1 else 0) durUs s2) s2))
    else if j.rtype = 2 then s
    else if !j.repeated then
      { s with scrub := { s.scrub with jobs := replaceFirst (fun k => k == j) (fun k => { k with repeated := true }) s.scrub.jobs } }
    else
      let s1 := logFault 0x0D 3 (if j.rtype = 1 then 2 else 3) j.rid 0 j.former 3 0 (without s)
      wrap (afterScrub j true (scrubRecord (jobRecord j 2 durUs s1) s1))

/-! ### Commands: partition group -/

/-- Whether the partition of TARGET can be named: its record, or the answer where it is gone or going (R207). -/
def withPart (e : Env) (s : State) (k : Partition → State × Ans) : State × Ans :=
  match part? s e.target.toNat with
  | none => (s, Ans.notFound)
  | some x =>
    if x.state = .destroying then
      let r := remainMs s
      (r.2, Ans.retry r.1)
    else k x

/-- Room for a configuration envelope's steps (R219), and no rollback under way (R185). -/
def withSteps (n : Nat) (s : State) (k : State × Ans) : State × Ans :=
  if s.parts.rollback.isSome then
    let r := remainMs s
    (r.2, Ans.retry r.1)
  else if stepRoom s n then k else (s, Ans.exhausted)

def pend (e : Env) (op : Nat) : Pending := { env := e, op := BitVec.ofNat 16 op }
def modeOfCode (n : Nat) : Mode := if n = 1 then .confidential else .open
/-- A partition number and path code within the part. -/
def pathOk (s : State) (v : Nat) : Bool := decide (v < nStacks s) || v == 0x10 || (decide (0x20 ≤ v) && decide (v < 0x30))

/-- PARTITION_CREATE (R205). -/
def execPartitionCreate (e : Env) (s : State) : Answer := done s (serve specPartitionCreate e (fun t =>
  checked ([(0, p8 e 0 == 1 || p8 e 0 == 2)] ++ rsv e 1 7) t
    (match part? t e.target.toNat with
     | some x => if x.state = .destroying then withPart e t (fun _ => (t, Ans.ok)) else (t, Ans.conflict)
     | none =>
       if t.eng.entropyFailed then (t, Ans.internal 0x454E)
       else withSteps 1 t (createPart e.target.toNat (modeOfCode (p8 e 0)) (dig e.payload 8) t))) s)

/-- PARTITION_DESTROY (R207). -/
def execPartitionDestroy (e : Env) (s : State) : Answer := done s (serve specPartitionDestroy e (fun t =>
  withPart e t (fun x => withSteps ((allHeld t e.target.toNat x).length + x.ctxs.length) t
    (destroyPart e.target.toNat (some (pend e 0x402)) t))) s)

/-- PARTITION_STATUS_GET (R223). -/
def execPartitionStatusGet (e : Env) (s : State) : Answer := done s (serve specPartitionStatusGet e (fun t =>
  checked (rsv e 12 4) t (withPart e t (fun x =>
    let p := e.target.toNat
    let u := useFree t
    let tid : Option Digest := match e.path with | .vf _ => some x.tenant | .spdm n => sessionTid t n.toNat | _ => none
    let cs := x.ctxs.filter (fun c => match tid with | some d => c.2.tid == d | none => true)
    let held : List Bytes := (match tid with | some d => tenantRes t d p x | none => resList t p x).map (fun (r : Nat × Bytes) => r.2 ++ [1, 0, 0, 0] ++ zeros 4)
    let scr : List Bytes := if tid.isSome then [] else (t.scrub.jobs.filter (fun j => jobOwner j == p && j.rtype != 8)).map (fun j =>
      resRecord t p j.rtype 0xFF j.rid (if j.rtype = 2 then leBytes 2 j.base ++ leBytes 2 j.size ++ [BitVec.ofNat 8 j.stack] else []) ++
        [2, 0, 0, 0] ++ (if j.tripped then leBytes 4 0xFFFFFFFF else leBytes 4 (Config.remaining (u.1 + j.rid) % 2 ^ 32)))
    let head := [BitVec.ofNat 8 (modeCode x.mode), BitVec.ofNat 8 (pstateCode t p)] ++
      leBytes 2 (cs.foldl (fun a c => a + 2 ^ c.1) 0) ++ [BitVec.ofNat 8 x.running, 0, 0, 0] ++ leBytes 8 t.parts.current.num.toNat ++
      leBytes 4 (if tid.isSome then 0 else t.parts.openSteps.length) ++ zeros 4
    let all := held ++ scr
    (u.2, listFrom u.2 e all.length head (all.zipIdx.map (fun (r : Bytes × Nat) => (r.2, r.1))))))) s)

/-- The payload checks of a grant (R4, R20, R476, R497). -/
def grantChecks (s : State) (e : Env) : List Chk :=
  let rt := p8 e 0
  let rid := p32 e 4
  let w := windowFrom (BitVec.ofNat 128 (fld e.payload 8 16))
  [(0, decide (1 ≤ rt ∧ rt ≤ 8))] ++ rsv e 1 3 ++
  [(4, if rt = 1 ∨ rt = 3 then decide (rid < nCores s) else if rt = 2 ∨ rt = 7 then decide (rid < 16)
       else if rt = 4 then decide (rid < 4096) else if rt = 5 then decide (0x180 ≤ rid ∧ rid < 0x400)
       else if rt = 6 then rid == 0 else decide (rid < nStacks s))]
  ++ (if rt = 2 then
       [(8, decide (w.base < 18432)), (12, decide (1 ≤ w.size ∧ w.base + w.size ≤ 18432)), (16, decide (w.stack < nStacks s)),
        (17, decide (p8 e 17 < 8)), (18, decide (w.ctx < 16) || w.ctx == 255)] ++ rsv e 19 5
      else if rt = 4 then
       [(12, decide (p8 e 12 < 4))] ++ rsv e 13 1 ++
       (if p8 e 12 / 2 % 2 = 1 then [(16, decide (p16 e 16 < 4096)), (18, decide (0x10 ≤ p16 e 18))] else rsv e 14 6) ++ rsv e 20 4
      else if rt = 5 then [(8, decide (p8 e 8 < 16))] ++ rsv e 9 15
      else if rt = 6 then rsv e 12 12
      else if 7 ≤ rt then rsv e 10 14
      else rsv e 8 16)

/-- PARTITION_GRANT (R213). -/
def execPartitionGrant (e : Env) (s : State) : Answer := done s (serve specPartitionGrant e (fun t =>
  checked (grantChecks t e) t (withPart e t (fun _ => withSteps 2 t
    (grant e.target.toNat (p8 e 0) (p32 e 4) (BitVec.ofNat 128 (fld e.payload 8 16)) (some (pend e 0x404)) t)))) s)

/-- PARTITION_REVOKE (R214). -/
def execPartitionRevoke (e : Env) (s : State) : Answer := done s (serve specPartitionRevoke e (fun t =>
  checked ((grantChecks t { e with payload := padTo 24 e.payload }).take 5) t (withPart e t (fun _ => withSteps 1 t
    (revoke e.target.toNat (p8 e 0) (p32 e 4) (some (pend e 0x405)) t)))) s)

/-- PARTITION_MODE_SET (R208). -/
def execPartitionModeSet (e : Env) (s : State) : Answer := done s (serve specPartitionModeSet e (fun t =>
  checked ([(0, p8 e 0 == 1 || p8 e 0 == 2)] ++ rsv e 1 7) t (withPart e t (fun x =>
    withSteps (2 * (allHeld t e.target.toNat x).length + 1) t
      (modeSet e.target.toNat (modeOfCode (p8 e 0)) (some (pend e 0x406)) t)))) s)

/-- The owner slots a Confidential partition needs to start (R206, R239). -/
def startable (x : Partition) (s : State) (p : Nat) : Bool :=
  let slots (h : Option Share) (both : Bool) : Bool := match h with
    | some v => decide (0 < v.slotsA) && (!both || decide (0 < v.slotsB)) | none => false
  !(heldOf s 1 p).isEmpty && decide (0 < x.periodUs) &&
  (x.mode == .open ||
    (slots x.host true && s.parts.fixedHt && x.mem.all (fun e => decide (0 < e.2.slotsA) && fixedOn s 8 e.1) &&
     x.link.all (fun e => decide (0 < e.2.slotsA) && fixedOn s 7 e.1) && x.windows.all (fun w => slots (mget x.mem w.2.stack) false)))

/-- PARTITION_START (R206). -/
def execPartitionStart (e : Env) (s : State) : Answer := done s (serve specPartitionStart e (fun t =>
  withPart e t (fun x =>
    let p := e.target.toNat
    if !startable x t p then (t, Ans.state)
    else if x.state = .running then (t, Ans.ok)
    else ((coresOf t p).foldl (fun u c => releaseCore c u) (modPart p (fun y => { y with state := .running }) t), Ans.ok))) s)

/-- PARTITION_STOP (R207); a pending switch is applied (R496). -/
def execPartitionStop (e : Env) (s : State) : Answer := done s (serve specPartitionStop e (fun t =>
  withPart e t (fun x =>
    let p := e.target.toNat
    if x.state ≠ .running then (t, Ans.ok)
    else
      let c := cancelPart p (countAct x.tenant t)
      let s1 := (coresOf c.1 p).foldl (fun u k => modCore k (fun y => { y with
        st := match y.st with | .run | .wait | .gated => .stopped | o => o }) u) c.1
      let s2 := applySwitch p c.2 (modPart p (fun y => { y with state := .held }) s1)
      (s2, if c.2 = 0 then Ans.ok else Ans.dropped c.2))) s)

/-- CONTEXT_CREATE (R496). -/
def execContextCreate (e : Env) (s : State) : Answer := done s (serve specContextCreate e (fun t =>
  checked ([(0, decide (p8 e 0 < 16))] ++ rsv e 1 3 ++ [(4, decide (p8 e 4 < 16) || p8 e 4 == 255)] ++ rsv e 5 3) t
    (withPart e t (fun _ => withSteps 1 t (contextCreate e.target.toNat (p8 e 0) (p8 e 4) (dig e.payload 8) t)))) s)

/-- CONTEXT_DESTROY (R496, R211). -/
def execContextDestroy (e : Env) (s : State) : Answer := done s (serve specContextDestroy e (fun t =>
  checked ([(0, decide (p8 e 0 < 16))] ++ rsv e 1 7) t
    (withPart e t (fun _ => withSteps 1 t (contextDestroy e.target.toNat (p8 e 0) t)))) s)

/-- CONTEXT_SWITCH (R496). -/
def execContextSwitch (e : Env) (s : State) : Answer := done s (serve specContextSwitch e (fun t =>
  checked ([(0, decide (p8 e 0 < 16))] ++ rsv e 1 7) t
    (withPart e t (fun _ => withSteps 1 t (contextSwitch e.target.toNat (p8 e 0) (some (pend e 0x40B)) t)))) s)

/-- ARBITRATION_SET (R239). -/
def execArbitrationSet (e : Env) (s : State) : Answer := done s (serve specArbitrationSet e (fun t =>
  let op := p8 e 1
  let v := p8 e 0
  if (op = 3) ≠ (e.target ≠ 0xFF) ∧ 1 ≤ op ∧ op ≤ 3 then (t, { Ans.malformed 0 with detail := 6 })
  else
    checked ([(0, pathOk t v), (1, decide (1 ≤ op ∧ op ≤ 3))] ++ rsv e 2 6 ++
        (if op = 3 then (if v = 0x10 then rsv e 12 12 else rsv e 10 14) else rsv e 8 16)) t
      (withSteps 1 t
        (if op = 3 then withPart e t (fun _ => arbShare v e.target.toNat (BitVec.ofNat 128 (fld e.payload 8 16)) t)
         else arbMode v (op == 1) t))) s)

/-- EPOCH_COMMIT (R218, R222). -/
def execEpochCommit (e : Env) (s : State) : Answer := done s (serve specEpochCommit e (fun t =>
  if t.parts.rollback.isSome then
    let r := remainMs t
    (r.2, Ans.retry r.1)
  else if t.parts.openSteps = [] then (t, Ans.ok (epochNow t))
  else
    let t1 := commitEpoch t
    (reply e 0x410 (Ans.ok (epochNow t1)) (some t1.twin.mseqOut) t1, Ans.waiting)) s)

/-- EPOCH_ROLLBACK (R220). -/
def execEpochRollback (e : Env) (s : State) : Answer := done s (serve specEpochRollback e (fun t =>
  if t.parts.rollback.isSome then
    let r := remainMs t
    (r.2, Ans.retry r.1)
  else if t.parts.previous.isNone then (t, Ans.notFound)
  else
    let x := t.parts
    let todo := (x.openSteps.reverse.map (fun r => (r, x.openTids))) ++ (x.current.steps.reverse.map (fun r => (r, x.current.tids)))
    (pumpRollback { t with parts := { x with
      rollback := some { env := some (pend e 0x411), todo := todo, done := [] } } }, Ans.waiting)) s)

/-- EPOCH_STATUS_GET (R223). -/
def execEpochStatusGet (e : Env) (s : State) : Answer := done s (serve specEpochStatusGet e (fun t =>
  let op := match e.path with | .pf | .mgmt _ => true | _ => false
  let prev := match t.parts.previous with | some y => leBytes 8 y.num.toNat ++ digBytes (epochDigest y) | none => zeros 56
  (t, Ans.ok (epochNow t ++ (if op then leBytes 4 t.parts.openSteps.length ++ zeros 4 ++ prev else zeros 64)))) s)

/-! ### Programs (R255, R477) -/

/-- The first byte of a CORES bitmap that names a core absent from the part. -/
def coresChecks (s : State) (e : Env) (off : Nat) : List Chk :=
  [(off, !allZero (slice e.payload off 16))] ++
    (List.range 16).map (fun i => (off + i, decide (8 * (i + 1) ≤ nCores s) || p8 e (off + i) == 0))

/-- Whether a caller may act on a context's programs or parcels: a tenant only where the context carries its TID. -/
def ctxOf (s : State) (e : Env) (x : Partition) (c : Nat) : Option Context :=
  match e.path with
  | .spdm n => (mget x.ctxs c).bind (fun k => if sessionTid s n.toNat = some k.tid then some k else none)
  | _ => mget x.ctxs c

def isOperator (e : Env) : Bool := match e.path with | .pf | .mgmt _ => true | _ => false

/-- PROGRAM_BIND's effect. -/
def programBind (e : Env) (x : Partition) (s : State) : State × Ans :=
  let p := e.target.toNat
  let c := p8 e 0
  let w := p8 e 1
  let len := p32 e 4
  let off := p64 e 8
  let cores := BitVec.ofNat 128 (fld e.payload 16 16)
  let cx := ctxOf s e x c
  if (match cx with | some k => (bitsOf cores).any (fun i => (bindOf k i).isSome) | none => false) then (s, Ans.conflict)
  else if x.running = c ∧ x.state = .running then (s, Ans.state)
  else if isOperator e ∧ x.mode = .confidential then (s, Ans.state)
  else match cx, mget x.windows w with
    | some _, some win =>
      if (bitsOf cores).any (fun i => coreHolder s i ≠ some p) then (s, Ans.notFound)
      else if !win.access.getLsbD 0 ∨ win.size * 2 ^ 21 < off + len then (s, Ans.state)
      else
        let r := memRead (.host (BitVec.ofNat 7 p)) w off len s
        if r.2.1 ≠ 0 then (r.1, if 4 ≤ r.2.1 then Ans.integrity (BitVec.ofNat 32 r.2.1) else Ans.state)
        else
          let d := sha384 r.2.2
          let s1 := modPart p (fun y => { y with ctxs := mupd y.ctxs c (fun k =>
            { k with binds := k.binds ++ [.program d w off len cores] }) }) r.1
          let s2 := if x.running = c then (bitsOf cores).foldl (fun t i => putProgram i r.2.2 d t) s1 else s1
          (s2, Ans.ok (digBytes d))
    | _, _ => (s, Ans.notFound)

/-- PROGRAM_BIND (R255). -/
def execProgramBind (e : Env) (s : State) : Answer := done s (serve specProgramBind e (fun t =>
  let len := p32 e 4
  checked ([(0, decide (p8 e 0 < 16)), (1, decide (p8 e 1 < 16))] ++ rsv e 2 2 ++
      [(4, decide (32 ≤ len ∧ len ≤ 524288 ∧ len % 32 = 0))] ++ coresChecks t e 16) t
    (withPart e t (fun x => programBind e x t))) s)

/-- PROGRAM_UNBIND (R255). -/
def execProgramUnbind (e : Env) (s : State) : Answer := done s (serve specProgramUnbind e (fun t =>
  checked ([(0, decide (p8 e 0 < 16))] ++ rsv e 1 7 ++ coresChecks t e 8) t
    (withPart e t (fun x =>
      let p := e.target.toNat
      let c := p8 e 0
      let cores := BitVec.ofNat 128 (fld e.payload 8 16)
      match ctxOf t e x c with
      | none => (t, Ans.notFound)
      | some k =>
        if isOperator e ∧ x.mode = .confidential then (t, Ans.refused)
        else if (bitsOf cores).any (fun i => (bindOf k i).isNone) then (t, Ans.notFound)
        else
          let t1 := modPart p (fun y => { y with ctxs := mupd y.ctxs c (unbindCores cores) }) t
          if x.running = c then
            let r := cancelCores (bitsOf cores) t1
            ((bitsOf cores).foldl (fun u i => dropProgram i u) r.1, Ans.ok)
          else (t1, Ans.ok)))) s)

/-! ### Commands: scrub group and completion -/

/-- SCRUB_COMPLETE (R324). -/
def execScrubComplete (rtype : BitVec 8) (rid : BitVec 32) (ok : Bool) (durUs : BitVec 32) (s : State) : Answer :=
  done s (scrubComplete rtype.toNat rid.toNat ok durUs s)

/-- SCRUB_STATUS_GET (R322). -/
def execScrubStatusGet (e : Env) (s : State) : Answer := done s (serve specScrubStatusGet e (fun t =>
  let u := useFree t
  let js := t.scrub.jobs.filter (fun j => j.rtype != 8)
  let room := (replySpace t e - 40) / 16
  let rows := (js.take room).map (fun j => [BitVec.ofNat 8 j.rtype, 0, 0, 0] ++ leBytes 4 j.rid ++
    leBytes 4 (if j.tripped then 0xFFFFFFFF else Config.remaining (u.1 + j.rid) % 0xFFFFFFFF) ++ [BitVec.ofNat 8 j.former, 0, 0, 0])
  (u.2, Ans.ok (((List.range 8).map (fun n => leBytes 4 (mgetD t.scrub.rates n 0).toNat)).flatten ++ leBytes 4 rows.length ++ zeros 4 ++
    rows.flatten))) s)

/-- A scrub record's bytes (Table 14-3). -/
def scrubRecBytes (r : ScrubRec) : Bytes :=
  leBytes 8 r.tick.toNat ++ [r.rtype, r.mode, r.result, 0] ++ leBytes 4 r.rid.toNat ++ [r.former, 0, 0, 0] ++
    leBytes 4 r.gen.toNat ++ leBytes 4 r.durUs.toNat ++ leBytes 4 r.units.toNat

/-- SCRUB_LOG_READ (R325). -/
def execScrubLogRead (e : Env) (s : State) : Answer := done s (serve specScrubLogRead e (fun t =>
  checked (rsv e 12 4) t
    (let first := t.scrub.logNext - t.scrub.log.length
     (t, listRead t e 1800 (t.scrub.log.zipIdx.map (fun r => (first + r.2, scrubRecBytes r.1)))))) s)

/-- UPKEEP_SET (R327). -/
def execUpkeepSet (e : Env) (s : State) : Answer := done s (serve specUpkeepSet e (fun t =>
  checked ((List.range 8).map (fun i => (i, decide (p8 e i ≤ 16) && (decide (i < nStacks t) || p8 e i == 0)))) t
    (if (List.range 8).any (fun i => p8 e i ≠ 0 ∧ t.power.stackFence.getLsbD i) then (t, Ans.state)
     else ({ t with scrub := { t.scrub with slices := (List.range (nStacks t)).foldl (fun m i => mset m i (byteAt e.payload i) 1) [] } }, Ans.ok))) s)

end Sys2Proof.Machine
end

