-- ==== Sys2Proof/Machine/Keys.lean ====
section
/-! DEFINITION. The key vault's uses and commands (chapter 06): R128, sealing chains and targets (R133–R135), registered
letters (R138–R141), destruction, seal blobs, WRAP_ESTABLISH (R443). -/

namespace Sys2Proof.Machine

/-! ### Uses of a slot (R128, R133–R135) -/

/-- The sealing chain of a context (R133). -/
def chainOf (m : Mode) (x : Context) : Digest :=
  x.binds.foldl (fun h b =>
    let kd : Byte × Digest := match b with
      | .program d _ _ _ _ => (1, d)
      | .parcel false d => (2, d)
      | .parcel true d => (3, d)
    sha384 (digBytes h ++ [kd.1] ++ digBytes kd.2)) (sha384 (zeros 48 ++ digBytes x.tid ++ [BitVec.ofNat 8 (modeCode m)]))

/-- The sealing target T of a context (R134). -/
def targetOf (s : State) (m : Mode) (x : Context) : Digest :=
  sha384 (ascii "U-SEAL-TGT" ++ ([1, 2, 3, 4].map (fun l => digBytes (match mget s.boot.layers l with | some r => r.m | none => 0))).flatten ++
    digBytes (chainOf m x))

/-- T of context `c` of partition `p`. -/
def ctxTarget (s : State) (p c : Nat) : Option Digest :=
  (part? s p).bind (fun x => (mget x.ctxs c).map (targetOf s x.mode))

/-- Whether a slot serves a caller, index, world and use in the present life-cycle state (R128), but for R135. -/
def slotServesUse (s : State) (n caller idx world use : Nat) : Bool :=
  let x := slot s n
  x.attr.getLsbD (16 + caller) && (!(caller == 2 || caller == 4) || x.index == idx) && x.attr.getLsbD (12 + world) &&
    x.attr.getLsbD use && (match lcBit s.fuses.shadow.code with | some b => x.attr.getLsbD b | none => false)

/-- The banks of a slot that serve: valid, and under R135 matching the target of the using context. -/
def banksFor (x : Slot) (t : Option Digest) : List (Bool × Digest) :=
  let fits (g : Digest) : Bool := !x.sealed || t == some g
  (if x.activeValid && fits x.targetA then [(false, x.active)] else []) ++
    (if x.pendingValid && fits x.targetP then [(true, x.pending)] else [])

/-! ### Letters: form (Tables 06-4, 06-9) -/

/-- The lowest bit at fault of an attribute word against what must be set and what may be set. -/
def attrBits (a must may : BitVec 64) : Option Nat := (bitsOf ((a &&& ~~~(must ||| may)) ||| (must &&& ~~~a))).head?

def bitsNat (l : List Nat) : BitVec 64 := l.foldl (fun v i => setBit v i true) 0

/-- The fault of a letter's attribute word, if any (Table 06-9, Table 21-3). -/
def attrFault (n p : Nat) (persistent : Bool) (a : BitVec 64) : Option Nat :=
  let ty := (a.extractLsb' 0 4).toNat
  let tyB := BitVec.ofNat 64 ty
  let lc := bitsNat [32, 33, 34, 35, 36]
  if n < 0x80 then
    let pers := if persistent then bitsNat [41] else 0
    if ty = 2 then attrBits a (tyB ||| bitsNat [7, 13, 19] ||| pers) (bitsNat [17] ||| lc)
    else if ty = 1 then
      let b := attrBits (a &&& ~~~pers) (tyB ||| bitsNat [6, 13, 16]) lc
      if persistent then some (min 41 (b.getD 41)) else b
    else some 0
  else if n < 0x180 then
    if ty = 3 then attrBits a (tyB ||| bitsNat [14, 35]) (bitsNat [8, 11, 16, 22]) else some 0
  else
    let uses : Option (List Nat) := match ty with
      | 1 => some [4, 6, 11] | 2 => some [7] | 3 => some [8] | 5 => some [9, 10] | _ => none
    let idx : BitVec 64 := if a.getLsbD 18 ∨ a.getLsbD 20 then BitVec.ofNat 64 (p % 128 * 2 ^ 24) else 0
    match uses with
    | some u => attrBits a (tyB ||| bitsNat [14, 35] ||| idx) (bitsNat (u ++ [16, 18, 20, 21, 22, 40, 43]))
    | none => some 0

/-- The slots a letter may name (R127). -/
def letterSlot (s : State) (n : Nat) : Bool :=
  (decide (0x40 ≤ n) && decide (n < 0x80)) || (decide (0x100 ≤ n) && decide (n < 0x100 + nParts s)) ||
    (decide (0x180 ≤ n) && decide (n < 0x400))
/-- Whether TARGET pairs with a slot of a fixed range. -/
def slotPairs (n : Nat) (e : Env) : Bool :=
  if n < 0x80 then e.target == 0xFF else if n < 0x100 then e.target.toNat == n - 0x80
  else if n < 0x180 then e.target.toNat == n - 0x100 else true

/-- The form of a letter: check 1 of R138. -/
def letterForm (s : State) (e : Env) : Option Ans :=
  let p := e.payload
  let n := p16 e 6
  let a := BitVec.ofNat 64 (p64 e 8)
  let pers := p8 e 5 == 1
  let pre : List Chk := [(0, byteAt p 0 == 0x4C), (1, byteAt p 1 == 0x52), (2, byteAt p 2 == 0x44), (3, byteAt p 3 == 0x55),
    (4, byteAt p 4 == 1), (5, decide (p8 e 5 ≤ 1) && (!pers || decide (n < 0x80))), (6, letterSlot s n && slotPairs n e)]
  let ty := (a.extractLsb' 0 4).toNat
  let wl := if ty = 1 then 40 else 56
  let z (off len : Nat) (when_ : Bool) : List Chk := if when_ then rsv e off len else []
  let post : List Chk := z 0x40 8 pers ++ z 0x48 48 (!a.getLsbD 40) ++
    [(0x78, decide (p8 e 0x78 ≤ 1)), (0x79, if p8 e 0x78 = 0 then p8 e 0x79 == 0 else decide (p8 e 0x79 ≤ 0x3F)),
     (0x7A, p16 e 0x7A == wl && p.length == 128 + wl)] ++ rsv e 0x7C 4
  match payFault pre with
  | some r => some r
  | none =>
    match attrFault n e.target.toNat pers a with
    | some b => some { Ans.malformed 0 with detail := BitVec.ofNat 32 (0x10000 + b) }
    | none => payFault post

/-! ### Authority -/

/-- Whether a caller has authority over a slot: operators over operator slots, a tenant over the bounce slot of its
partition and the pool slots granted for its contexts (Table 06-7, R211). -/
def slotAuthority (s : State) (e : Env) (n : Nat) : Bool :=
  match e.path with
  | .pf | .mgmt _ => decide (0x40 ≤ n) && decide (n < 0x80)
  | .spdm k =>
    let p := e.target.toNat
    match part? s p, sessionTid s k.toNat with
    | some x, some d =>
      if 0x100 ≤ n ∧ n < 0x180 then n == 0x100 + p && x.tenant == d
      else if 0x180 ≤ n then
        (resOf s 5 n).st == .held p &&
          (match mget x.ctxs ((resOf s 5 n).params.toNat % 256) with | some c => c.tid == d | none => false)
      else false
    | _, _ => false
  | _ => false

/-- The wrap key of a letter: TWK of the carrying session, or an operator wrap key that serves KW. -/
def wrapKey (s : State) (e : Env) : Option (BitVec 256) :=
  match e.path with
  | .spdm k =>
    if p8 e 0x78 = 0 then
      (mget s.att.sessions k.toNat).map (fun x =>
        key256 (kdf (digBytes x.export_) "U-TWRAP" (leBytes 4 x.sessId.toNat) 256))
    else none
  | .pf | .mgmt _ =>
    let n := 0x40 + p8 e 0x79
    if p8 e 0x78 = 1 ∧ (slot s n).type = 1 ∧ (slot s n).activeValid ∧ slotServesUse s n 0 0 1 6 then some (aesKey (slot s n).active)
    else none
  | _ => none

/-- Ratchet steps reserved for pending promotions of persistent credentials (R446). -/
def reservedSteps (s : State) : Nat := (s.vault.slots.filter (fun e => e.2.persist && e.2.pendingValid)).length

/-- The franking counter a letter of a class is held against. -/
def letterLast (s : State) (e : Env) (pers : Bool) : BitVec 64 :=
  match issuerOf s e with
  | some i => if pers then persistCounter s i else lastCounter s i
  | none => 0

def letterReply (n : Nat) (s : State) : Ans := Ans.ok (leBytes 2 n ++ zeros 6 ++ leBytes 8 (slot s n).attr.toNat)

/-- Copy a bounce key's banks to BCE (R132). -/
def copyBounce (n : Nat) (s : State) : State :=
  if 0x100 ≤ n ∧ n < 0x180 then
    let x := slot s n
    let c : KeyCopy := { active := x.active, pending := if x.pendingValid then some x.pending else none }
    { s with vault := { s.vault with bce := mput s.vault.bce (n - 0x100) c } }
  else s

/-- BK_n installed into its empty slot: every COUNT record starts afresh (R243). -/
def freshCounts (n : Nat) (s : State) : State :=
  if 0x100 ≤ n ∧ n < 0x180 then
    { s with mem := { s.mem with h2d := mclear s.mem.h2d (65 * (n - 0x100)) 65, d2h := mdel s.mem.d2h (n - 0x100) } }
  else s

/-- Write a pending bank (R140). -/
def installPending (n : Nat) (key target : Digest) (s : State) : State :=
  let x := slot s n
  copyBounce n (setSlot n { x with pending := key, targetP := target, attr := x.attr ||| bitsNat [45] } s)

/-- Hold the fuse path for a persistent job and write its store and block first (R139). -/
def beginPersistent (job : FuseJob) (env : Pending) (s : State) : State :=
  { s with fuses := { s.fuses with op := some { job := job, env := some env, ready := false } },
           flash := { s.flash with jobs := s.flash.jobs ++ [.store (some env) job { gen := 0, entries := [] }] } }

/-- Checks 5 to 9 of R138, the counter recorded. -/
def letterRest (e : Env) (replace : Bool) (kek : BitVec 256) (s : State) : State × Ans :=
  let n := p16 e 6
  let a := BitVec.ofNat 64 (p64 e 8)
  let pers := p8 e 5 == 1
  let x := slot s n
  let ver : BitVec 32 := x.version.zeroExtend 32
  let lcOk := match lcBit s.fuses.shadow.code with | some b => a.getLsbD b | none => false
  let left := 4096 - s.fuses.shadow.ratchet - (reservedSteps s - (if x.persist ∧ x.pendingValid then 1 else 0))
  if s.boot.fuseDegraded then (s, (Ans.state 0x4644).at_ 5)
  else if pers ∧ s.boot.unanchored then (s, (Ans.state 0x554E).at_ 5)
  else if !lcOk then (s, Ans.state.at_ 5)
  else if !replace ∧ !x.isEmpty then (s, (Ans.conflict 1).at_ 6)
  else if replace ∧ x.isEmpty then (s, (Ans.notFound ver).at_ 6)
  else if replace ∧ (x.attr &&& attrRw) ≠ (a &&& attrRw) then (s, (Ans.conflict 3).at_ 6)
  else if x.version = 0xFFFF ∨ (pers ∧ left < (if replace then 2 else 1)) then (s, Ans.exhausted.at_ 7)
  else match kwUnwrap kek (e.payload.drop 0x80) with
    | none => (s, Ans.integrity.at_ 8)
    | some b =>
      let key : Digest := BitVec.ofNat 384 (beNat b)
      let target := dig e.payload 0x48
      if replace ∧ x.activeValid ∧ key = x.active ∧ !(x.sealed && target != x.targetA) then (s, (Ans.conflict 2).at_ 9)
      else if pers then
        (beginPersistent (.letter n a key target replace) (pend e (if replace then 0x302 else 0x301)) s, Ans.waiting)
      else if replace then
        let s1 := installPending n key target s
        (s1, letterReply n s1)
      else
        let s1 := freshCounts n (copyBounce n (installSlot n a key target s))
        (s1, letterReply n s1)

/-- A registered letter (R138). -/
def letter (e : Env) (replace : Bool) (s : State) : State × Ans :=
  match letterForm s e with
  | some a => (s, a.at_ 1)
  | none =>
    let pers := p8 e 5 == 1
    match wrapKey s e with
    | none => (s, Ans.refused.at_ 2)
    | some kek =>
      if !slotAuthority s e (p16 e 6) then (s, Ans.refused.at_ 2)
      else if dig e.payload 0x10 ≠ s.vault.did then (s, Ans.refused.at_ 3)
      else if pers ∧ s.fuses.op.isSome then (s, (Ans.retry 100).at_ 3)
      else
        let last := letterLast s e pers
        if (!pers ∧ fld e.payload 0x40 8 ≠ s.boot.bn.toNat) ∨ e.franking.toNat ≤ last.toNat then (s, (Ans.stale last).at_ 4)
        else
          let s1 := match issuerOf s e with
            | some i => if pers then recordPersist i e.franking s else recordCounter i e.franking s
            | none => s
          let r := letterRest e replace kek s1
          (r.1, r.2.noted)

/-! ### KEY_DESTROY, KEY_ABANDON_PENDING, KEY_INFO -/

/-- The slots a key command that is no letter may name. -/
def keySlotChecks (s : State) (e : Env) : List Chk :=
  let n := p16 e 0
  [(0, (letterSlot s n || (decide (0x80 ≤ n) && decide (n < 0x80 + nParts s))) && slotPairs n e)] ++ rsv e 2 6

/-- A destroy or abandon: form, authority, the fuse path, the counter (R138's order), then `k`. -/
def keyOp (sp : OpSpec) (e : Env) (fusePath : Slot → Bool) (k : Nat → State → State × Ans) (s : State) : State × Ans :=
  match payFault (keySlotChecks s e) with
  | some a => (s, a.at_ 1)
  | none =>
    let n := p16 e 0
    if !slotAuthority s e n then (s, Ans.refused.at_ 2)
    else if fusePath (slot s n) ∧ s.fuses.op.isSome then (s, (Ans.retry 100).at_ 3)
    else match staleCounter s sp e with
      | some c => (s, (Ans.stale c).at_ 4)
      | none =>
        let r := k n (recordFranking e s)
        (r.1, r.2.noted)

def keyDestroyBody (e : Env) (n : Nat) (s : State) : State × Ans :=
  let x := slot s n
  if x.isEmpty then (s, Ans.notFound (x.version.zeroExtend 32))
  else if x.persist then (beginPersistent (.destroy n) (pend e 0x303) s, Ans.waiting)
  else (destroySlot n s, Ans.ok)

/-- KEY_INSTALL (R138). -/
def execKeyInstall (e : Env) (s : State) : Answer := done s (serve specKeyInstall e (letter e false) s)
/-- KEY_REPLACE (R140). -/
def execKeyReplace (e : Env) (s : State) : Answer := done s (serve specKeyReplace e (letter e true) s)
/-- KEY_DESTROY (R145, R139). -/
def execKeyDestroy (e : Env) (s : State) : Answer :=
  done s (serve specKeyDestroy e (keyOp specKeyDestroy e (fun x => x.persist) (keyDestroyBody e)) s)
/-- KEY_ABANDON_PENDING (R141, R498). -/
def execKeyAbandonPending (e : Env) (s : State) : Answer :=
  done s (serve specKeyAbandonPending e (keyOp specKeyAbandonPending e (fun _ => false) (fun n t =>
    if (slot t n).pendingValid then (abandonPending n t, Ans.ok) else (t, Ans.notFound))) s)
/-- KEY_INFO (R498). -/
def execKeyInfo (e : Env) (s : State) : Answer := done s (serve specKeyInfo e (fun t =>
  checked (keySlotChecks t e) t
    (let n := p16 e 0
     let x := slot t n
     if !slotAuthority t e n then (t, Ans.refused)
     else if x.isEmpty then (t, Ans.notFound (x.version.zeroExtend 32))
     else (t, Ans.ok (leBytes 8 x.attr.toNat ++ digBytes x.targetA ++ digBytes x.targetP)))) s)

/-! ### Seal blobs (R136) -/

/-- SK of a target: KDF(CDI_O, "U-SEAL", T, 256). -/
def sealKey (s : State) (t : Digest) : BitVec 256 := key256 (kdf (digBytes (slot s 6).active) "U-SEAL" (digBytes t) 256)

/-- T of the context a pool slot is granted for. -/
def slotTarget (s : State) (p n : Nat) : Option Digest := ctxTarget s p ((resOf s 5 n).params.toNat % 256)

/-- KEY_SEAL_EXPORT (R136). -/
def execKeySealExport (e : Env) (s : State) : Answer := done s (serve specKeySealExport e (fun t =>
  checked (keySlotChecks t e) t
    (let n := p16 e 0
     let x := slot t n
     if !slotAuthority t e n then (t, Ans.refused)
     else if t.boot.fuseDegraded then (t, Ans.state 0x4644)
     else if !x.activeValid then (t, Ans.notFound (x.version.zeroExtend 32))
     else if !x.exportable then (t, Ans.state 0x4558)
     else match slotTarget t e.target.toNat n with
       | none => (t, Ans.notFound)
       | some g =>
         if x.sealed ∧ x.targetA ≠ g then (t, Ans.state 0x5345)
         else
           (t, Ans.ok (leBytes 4 0x55445342 ++ [1, 0, 0, 0] ++ digBytes t.vault.did ++
             kwWrap (sealKey t g) (leBytes 8 x.attr.toNat ++ digBytes x.active))))) s)

/-- KEY_SEAL_IMPORT (R136). -/
def execKeySealImport (e : Env) (s : State) : Answer := done s (serve specKeySealImport e (fun t =>
  checked (keySlotChecks t e ++ [(8, p8 e 8 == 0x42), (9, p8 e 9 == 0x53), (10, p8 e 10 == 0x44), (11, p8 e 11 == 0x55), (12, p8 e 12 == 1)] ++
      rsv e 13 3) t
    (let n := p16 e 0
     let x := slot t n
     if !slotAuthority t e n then (t, Ans.refused)
     else if t.boot.fuseDegraded then (t, Ans.state 0x4644)
     else if !x.isEmpty then (t, Ans.conflict 1)
     else if dig e.payload 16 ≠ t.vault.did then (t, Ans.integrity)
     else match slotTarget t e.target.toNat n with
       | none => (t, Ans.refused)
       | some g =>
         match kwUnwrap (sealKey t g) (slice e.payload 64 64) with
         | none => (t, Ans.integrity)
         | some b =>
           let a := BitVec.ofNat 64 (fld b 0 8)
           let t1 := copyBounce n (installSlot n a (dig b 8) (if a.getLsbD 40 then g else 0) t)
           (t1, Ans.ok (leBytes 8 (slot t1 n).attr.toNat)))) s)

/-! ### WRAP_ESTABLISH (R443) -/

/-- The AK seeds, slots 0x012 and 0x013 (log 12). -/
def akEc (s : State) : Digest := (slot s 0x12).active
def akMl (s : State) : Digest := (slot s 0x13).active

/-- Both signatures over a transcript digest TH: ECDSA over TH itself, ML-DSA-87 over its bytes in pure mode. -/
def signTh (ec ml th : Digest) (ctx : String) (draw : Nat) : Bytes × Bytes :=
  (padTo 96 (Config.ecdsaSign ec th draw), padTo 4627 ((Config.mldsaSign (seed256 ml) (digBytes th) (ascii ctx) (draw + 1)).getD []))

/-- WRAP_ESTABLISH (R443). -/
def execWrapEstablish (e : Env) (s : State) : Answer := done s (serve specWrapEstablish e (fun t =>
  checked ([(0, decide (p8 e 0 ≤ 0x3F))] ++ rsv e 1 7) t
    (let n := 0x40 + p8 e 0
     if t.boot.fuseDegraded then (t, Ans.state 0x4644)
     else if !(slot t n).isEmpty then (t, Ans.conflict)
     else needPke t <|
       let u := useFree t
       let eph : Digest := BitVec.ofNat 384 (beNat (drawBytes u.1 48))
       match Config.ecdhShared eph (slice e.payload 8 97), Config.mlkemEncaps (slice e.payload 105 1568) (u.1 + 1) with
       | none, _ => (t, Ans.malformed (payOff 8))
       | some _, none => (t, Ans.malformed (payOff 105))
       | some ec, some (ct, kem) =>
         let pub := padTo 97 (Config.ecdhPublic eph)
         let body := pub ++ padTo 1568 ct
         let th := sha384 (e.payload ++ body)
         let sg := signTh (akEc t) (akMl t) th "U-OPWRAP" (u.1 + 2)
         let key := key256 (hybridKey ec kem "U-HYB-OPWRAP" (digBytes th) 256)
         let lc := match lcBit t.fuses.shadow.code with | some b => bitsNat [b] | none => 0
         let t1 := installSlot n (1 ||| bitsNat [6, 13, 16] ||| lc) (key.zeroExtend 384) 0 { u.2 with free := u.2.free + 3 }
         (t1, Ans.ok (body ++ sg.1 ++ sg.2)))) s)

end Sys2Proof.Machine
end

