-- ==== Sys2Proof/Machine/Report.lean ====
section
/-! DEFINITION. Reports (R335–R341), member statements (R350, Table 15-11), postcards (R344) and the certificates a
handshake or report carries (R331–R333). -/

namespace Sys2Proof.Machine

/-! ### Sections (R336, Table 15-3) -/

/-- A section: its header, then its body padded to a multiple of 8. -/
def sectionOf (ty : Nat) (body : Bytes) : Bytes :=
  let n := 8 * ceilDiv body.length 8
  leBytes 2 ty ++ zeros 2 ++ leBytes 4 (8 + n) ++ padTo n body

/-- DEVICE, FIRMWARE and POSTMARKS. -/
def threeSections (s : State) : Bytes :=
  sectionOf 1 (deviceBody s) ++ sectionOf 2 (firmwareBody s) ++ sectionOf 3 (postmarksBody s)

/-- The digest of a parcel policy (Table 15-5). -/
def policyDigest (y : ParcelPolicy) : Digest := sha384 (policyBytes y)

/-- The contexts of a partition that a report shows (R337). -/
def shownCtxs (manifest : Bool) (tid : Option Digest) (x : Partition) : SMap Context :=
  if !manifest then []
  else match tid with
    | some d => x.ctxs.filter (fun c => c.2.tid == d)
    | none => if x.mode = .confidential then [] else x.ctxs

/-- A PARTITION section (Tables 15-5 and 15-6). -/
def partitionSection (s : State) (manifest : Bool) (tid : Option Digest) (e : Nat × Partition) : Bytes :=
  let rs := match tid with | some d => tenantRes s d e.1 e.2 | none => resList s e.1 e.2
  sectionOf 5 (partRaw s e.1 e.2 (shownCtxs manifest tid e.2).length rs.length ++
    (if manifest then digBytes (policyDigest e.2.policy) else zeros 48) ++ zeros 16 ++ (rs.map Prod.snd).flatten)

/-- A CONTEXT section (Table 15-7). -/
def contextSection (s : State) (p : Nat) (m : Mode) (c : Nat × Context) : Bytes :=
  let y : Context := { c.2 with binds := shownBinds s p c.1 c.2 }
  let raw := contextRaw s p c.1 c.2
  sectionOf 6 (raw.take 56 ++ digBytes (chainOf m y) ++ digBytes (targetOf s m y) ++ raw.drop 56)

def roleCode : TwinRole → Nat | .none => 0 | .primary => 1 | .secondary => 2
def twinStCode : TwinSt → Nat | .unpaired => 0 | .pairing => 1 | .paired => 2 | .solo => 3

/-- The TWIN section of a bonded device (R402). -/
def twinSection (s : State) : List Bytes :=
  match s.twin.bond with
  | some b => [sectionOf 8 (leBytes 1 (roleCode s.twin.role) ++ leBytes 1 (twinStCode s.twin.st) ++ zeros 6 ++
      leBytes 8 s.twin.failovers.toNat ++ digBytes b.partner)]
  | none => []

/-- ROUND and ROOT of the latest roll-up. -/
def rollupRound (s : State) : Bytes :=
  match s.att.rollup with | some r => slice r.1 8 8 ++ slice r.1 0x60 48 | none => zeros 56

/-- The CARAVAN section of a joined device; a lead of none reads 0xFFFF. -/
def caravanSection (s : State) : List Bytes :=
  match s.car.join with
  | some j => [sectionOf 9 (leBytes 2 j.post.toNat ++ leBytes 2 ((lead s).getD 0xFFFF) ++ zeros 4 ++ rollupRound s)]
  | none => []

/-- Every section of a report of a kind and scope, in order. -/
def sectionsOf (s : State) (manifest : Bool) (tid : Option Digest) : List Bytes :=
  let ps := s.parts.parts.filter (fun e => match tid with | some d => e.2.ctxs.any (fun c => c.2.tid == d) | none => true)
  [sectionOf 1 (deviceBody s), sectionOf 2 (firmwareBody s), sectionOf 3 (postmarksBody s)] ++
    (if tid.isSome then [] else [sectionOf 4 (tilesBody s)]) ++ ps.map (partitionSection s manifest tid) ++
    ps.flatMap (fun e => (shownCtxs manifest tid e.2).map (contextSection s e.1 e.2.mode)) ++
    (match tid with
     | some d =>
       let o := othersOf s d
       [sectionOf 7 (leBytes 2 o.1 ++ zeros 2 ++ leBytes 2 o.2.1 ++ zeros 2 ++ leBytes 4 o.2.2 ++ zeros 4)]
     | none => []) ++ twinSection s ++ caravanSection s

/-! ### Reports (R331, R335) -/

/-- SIGNER with its ECDSA scalar and ML-DSA seed: AK, or LAK under LAYER_FAILED; none under FUSE_DEGRADED (R331). -/
def signerOf (s : State) : Option (Nat × Digest × Digest) :=
  if s.boot.fuseDegraded then none
  else if s.boot.outcome = .layerFailed then some (2, (slot s 0x10).active, (slot s 0x11).active)
  else some (1, akEc s, akMl s)

/-- A signature block: both signatures and 5 reserved bytes. -/
def sigBlock (ec ml : Digest) (region : Bytes) (ctx : String) (draw : Nat) : Bytes :=
  let g := dualSign ec ml region ctx draw
  g.1 ++ g.2 ++ zeros 5

/-- The generation of a scope (R338). -/
def scopeGen (s : State) : Option Digest → BitVec 64
  | some d => viewGen s d
  | none => s.att.gen

/-- A report of the present snapshot; two draws. -/
def buildReport (s : State) (kind : Nat) (tid : Option Digest) (nonce : Bytes) (signer : Nat × Digest × Digest) : Bytes :=
  let secs := sectionsOf s (kind == 2) tid
  let body := cat secs
  let ep := s.parts.current
  let region := leBytes 4 0x55445250 ++ [1, BitVec.ofNat 8 kind, if tid.isSome then 2 else 1, BitVec.ofNat 8 signer.1] ++
    leBytes 4 (256 + body.length + 4728) ++ leBytes 2 secs.length ++ zeros 2 ++ padTo 32 nonce ++ digBytes s.vault.did ++
    leBytes 8 s.boot.bn.toNat ++ leBytes 8 (scopeGen s tid).toNat ++ leBytes 8 (tick s).toNat ++ leBytes 8 ep.num.toNat ++
    digBytes (epochDigest ep) ++ digBytes (tid.getD 0) ++ zeros 32 ++ body
  region ++ sigBlock signer.2.1 signer.2.2 region "U-REPORT" s.free

/-! ### Member statements (Table 15-11) -/

/-- DEVICE_DIGEST of the present snapshot. -/
def deviceDigest (s : State) : Digest := sha384 (threeSections s)

/-- AK_DIGEST. -/
def akDigest (s : State) : Digest := sha384 s.vault.akPub

/-- A member statement, signed under AK; two draws. -/
def memberStatement (s : State) (round : Nat) (nonce : Bytes) : Bytes :=
  let region := padTo 256 (leBytes 4 0x55444D53 ++ [1, 0] ++ leBytes 2 (myPost s) ++ leBytes 8 round ++ padTo 32 nonce ++
    digBytes s.vault.did ++ leBytes 8 s.boot.bn.toNat ++ leBytes 8 s.att.gen.toNat ++ leBytes 8 s.parts.current.num.toNat ++
    zeros 24 ++ digBytes (deviceDigest s) ++ digBytes (akDigest s))
  region ++ sigBlock (akEc s) (akMl s) region "U-MEMBER" s.free

/-! ### Certificates (R332, R333) -/

/-- The ROLE 0x01 certificate that IDK signs for itself (R333); two draws. -/
def idkSelfCert (s : State) : Bytes :=
  let p := s.vault.idkPub
  dualCert s.fuses.shadow 1 s.vault.did 0 (p.take 97) (p.drop 97) p (slot s 1).active (slot s 2).active s.free

/-- The LAK and AK dual certificates. -/
def aliasCerts (s : State) : Bytes := mgetD s.att.certs 2 [] ++ mgetD s.att.certs 3 []

/-- Slot 0 of SPDM (R334): the installed chain, then the X.509 certificates for LAK and AK. -/
def slot0Chain (s : State) : Bytes := s.att.idChain ++ mgetD s.att.certs 0x12 [] ++ mgetD s.att.certs 0x13 []

/-! ### Postcards (R344, Table 15-8) -/

/-- The postcard of a snapshot for a session's tenant and partition. -/
def postcard (s : State) (kind p : Nat) (nonce : BitVec 256) (beat : BitVec 64) (tid secret : Digest) : Bytes :=
  let b := leBytes 4 0x5544504B ++ [1, BitVec.ofNat 8 kind, BitVec.ofNat 8 p, 0] ++ beBytes 32 nonce.toNat ++
    leBytes 8 s.boot.bn.toNat ++ leBytes 8 beat.toNat ++ leBytes 8 (viewGen s tid).toNat ++
    leBytes 8 s.parts.current.num.toNat ++ digBytes (sha384 (cat (sectionsOf s true (some tid)))) ++
    leBytes 8 (actsOf s tid).toNat ++ zeros 32
  b ++ hmac384 (digBytes secret) b

end Sys2Proof.Machine
end

