-- ==== Sys2Proof/Machine/Attest.lean ====
section
/-! DEFINITION. The attestation group but for roll-ups (Table 23-10, R333, R344, R345, R348, R353, R479) and the ends of
sessions and kept reports (R349, R353). -/

namespace Sys2Proof.Machine

/-! ### Sessions (R349) -/

/-- The postcard slot of session `n` (R349; the number is the model's, log 12). -/
def postcardSlot (n : Nat) : Nat := 0x014 + n

def setSession (n : Nat) (x : Session) (s : State) : State :=
  { s with att := { s.att with sessions := mput s.att.sessions n x } }

/-- The caller of a kept report: a credential stands for the management path (R353). -/
def reportOwner (e : Env) : Path := match e.path with | .mgmt _ => .mgmt (e.cred.zeroExtend 128) | p => p

/-- A session ends: its postcard slot and standing ticket are destroyed, its replies discarded (R349, R198). -/
def endSession (n : Nat) (s : State) : State :=
  if !mhas s.att.sessions n then s
  else
    let p : Path := .spdm (BitVec.ofNat 4 n)
    let s1 := destroySlot (postcardSlot n) s
    { s1 with att := { s1.att with sessions := mdel s1.att.sessions n, kept := s1.att.kept.filter (fun k => k.owner != p) },
              mail := { s1.mail with held := s1.mail.held.filter (fun h => h.reply.env.path != p) } }

/-- The session of an SPDM envelope. -/
def sessionOf (s : State) (e : Env) : Option (Nat × Session) :=
  match e.path with | .spdm n => (mget s.att.sessions n.toNat).map (fun x => (n.toNat, x)) | _ => none

/-! ### Reports (R353) -/

/-- REPORT_GET: operator scope, or the session's tenant scope. -/
def reportGet (e : Env) (s : State) : State × Ans :=
  let kind := p8 e 0
  let tid := match e.path with | .spdm n => sessionTid s n.toNat | _ => none
  match signerOf s with
  | none => (s, Ans.state 0x4644)
  | some sg => needPke s
    (let r := buildReport s kind tid (slice e.payload 8 32) sg
     let room := space s e
     let own := reportOwner e
     let rest := s.att.kept.filter (fun k => k.owner != own)
     let kept := if room < r.length then rest ++ [{ owner := own, bytes := r : KeptReport }] else rest
     ({ s with free := s.free + 2, att := { s.att with kept := kept } }, Ans.okD (count31 r.length) (r.take room)))

/-- REPORT_READ: a later part of the kept report. -/
def reportRead (e : Env) (s : State) : State × Ans :=
  match s.att.kept.find? (fun k => k.owner == reportOwner e) with
  | none => (s, Ans.notFound)
  | some k => (s, Ans.ok (slice k.bytes (p32 e 0) (min (p32 e 4) (space s e))))

/-! ### Certificates (R333, R479) -/

/-- CERT_CHAIN_GET. -/
def certChainGet (e : Env) (s : State) : State × Ans :=
  if s.boot.fuseDegraded then (s, Ans.state 0x4644)
  else
    let b := match p8 e 0 with
      | 0 => aliasCerts s ++ s.att.idDual
      | 1 => slot0Chain s
      | _ => s.att.idChain ++ s.att.idDual
    (s, Ans.ok (leBytes 4 b.length ++ zeros 4 ++ slice b (p32 e 4) (space s e - 8)))

/-- One DER value: its content and the bytes that follow. -/
def derTake (b : Bytes) : Option (Bytes × Bytes) :=
  match b with
  | _ :: l :: r =>
    let n := l.toNat
    let hd : Option (Nat × Bytes) :=
      if n < 128 then some (n, r) else if n = 0x81 then some (fld r 0 1, r.drop 1)
      else if n = 0x82 then some (beNat (r.take 2), r.drop 2) else none
    match hd with
    | some (k, c) => if k ≤ c.length then some (c.take k, c.drop k) else none
    | none => none
  | _ => none

/-- The values of a DER content, at most `n`. -/
def derList : Nat → Bytes → List Bytes
  | 0, _ => []
  | n + 1, b => match derTake b with | some (c, r) => c :: derList n r | none => []

/-- The subject key of a certificate: the BIT STRING of its SubjectPublicKeyInfo, the seventh field of a v3 tbs. -/
def certKey (cert : Bytes) : Bytes :=
  let tbs := (derList 1 cert).getD 0 []
  let spki := (derList 8 tbs).getD 6 []
  ((derList 2 spki).getD 1 []).drop 1

/-- The certificates of a DER chain. -/
def chainCerts (b : Bytes) : List Bytes := derList 64 b

/-- Whether every leaf subject key of an identity set equals IDK's key (R333). -/
def identityFits (s : State) (chain dual : Bytes) : Bool :=
  (match (chainCerts chain).getLast? with | some c => certKey c == s.vault.idkPub.take 97 | none => false) &&
  (dual.isEmpty || (slice dual 0xA0 97 == s.vault.idkPub.take 97 && slice dual 0x120 2592 == s.vault.idkPub.drop 97))

/-- IDENTITY_CERT_SET: the set is stored in flash, the reply waits for it (R430). -/
def identityCertSet (e : Env) (s : State) : State × Ans :=
  let c := p32 e 0
  let d := p32 e 4
  if d ≠ 0 ∧ d ≠ 7616 then (s, Ans.malformed (payOff 4))
  else if e.payload.length ≠ 8 + c + d then (s, { Ans.malformed 0 with detail := 0xFFFFFFFF })
  else if 32768 < c + d then (s, Ans.exhausted)
  else if s.boot.fuseDegraded then (s, Ans.state 0x4644)
  else
    let chain := slice e.payload 8 c
    let dual := slice e.payload (8 + c) d
    if !identityFits s chain dual then (s, Ans.conflict)
    else (queueConfig (some { env := e, op := 0x605 }) { s with att := { s.att with idChain := chain, idDual := dual } }, Ans.waiting)

/-! ### Tenants, postcards, heartbeats (R344, R345, R348) -/

/-- TENANT_BIND: both keys and the signature over TH2; the TID and the postcard secret. -/
def tenantBind (e : Env) (s : State) : State × Ans :=
  match sessionOf s e with
  | none => (s, Ans.refused)
  | some (n, x) =>
    if x.tid.isSome then (s, Ans.state)
    else if s.eng.pkeFenced then internalFree s
    else
      let ec := slice e.payload 0 97
      let ml := slice e.payload 104 2592
      if ec ≠ x.leaf ∨ !Config.mldsaVerify ml (digBytes x.th2) (ascii "U-TENANT") (slice e.payload 2696 4627) then (s, Ans.refused)
      else
        let d := sha384 (ec ++ ml)
        let k := dOf (kdf (digBytes x.export_) "U-POSTCARD" (leBytes 4 x.sessId.toNat) 384)
        (installSlot (postcardSlot n) (wenistAttr 2 7 false) k 0 (setSession n { x with tid := some d } s), Ans.ok (digBytes d))

/-- The postcard secret of a session. -/
def postcardKey (s : State) (n : Nat) : Digest := (slot s (postcardSlot n)).active

/-- POSTCARD_GET; STANDING arms heartbeats under a new ticket. -/
def postcardGet (e : Env) (s : State) : State × Ans :=
  match sessionOf s e with
  | none => (s, Ans.refused)
  | some (n, x) =>
    match x.tid with
    | none => (s, Ans.refused)
    | some d =>
      let p := e.target.toNat
      let nonce : BitVec 256 := BitVec.ofNat 256 (beNat (slice e.payload 0 32))
      if !partHasTid s p d then (s, Ans.notFound)
      else
        let s1 := if (byteAt e.payload 32).getLsbD 0 then
            setSession n { x with standing := some { nonce := nonce, part := p, beat := 0, latest := none } } s else s
        (s1, Ans.ok (postcard s 1 p nonce 0 d (postcardKey s n)))

/-- HEARTBEAT_GET: the latest heartbeat of the session's standing ticket for TARGET. -/
def heartbeatGet (e : Env) (s : State) : State × Ans :=
  match sessionOf s e with
  | some (_, x) =>
    (match x.standing, x.tid with
     | some t, some d => if t.part = e.target.toNat ∧ partHasTid s t.part d then
         (match t.latest with | some b => (s, Ans.ok b) | none => (s, Ans.notFound)) else (s, Ans.notFound)
     | _, _ => (s, Ans.notFound))
  | none => (s, Ans.refused)

/-- The heartbeats of a tenth frame edge (R345): BEAT counts on; one whose tenant has left the partition is not computed. -/
def heartbeats (s : State) : State :=
  s.att.sessions.foldl (fun t e =>
    match e.2.standing, e.2.tid with
    | some k, some d =>
      let b := k.beat + 1
      let pc := if partHasTid t k.part d then some (postcard t 2 k.part k.nonce b d (postcardKey t e.1)) else k.latest
      setSession e.1 { e.2 with standing := some { k with beat := b, latest := pc } } t
    | _, _ => t) s

/-! ### The postmark log (R343) -/

/-- A log entry (Table 04-6). -/
def pmEntryBytes (x : PmEntry) : Bytes :=
  padTo (pmEntryLen x) (leBytes 2 (pmEntryLen x) ++ [x.reg, x.etype] ++ leBytes 2 x.data.length ++ zeros 2 ++ leBytes 8 x.seq.toNat ++
    leBytes 8 x.tick.toNat ++ digBytes x.d ++ x.data)

/-- POSTMARK_LOG_READ. -/
def postmarkLogRead (e : Env) (s : State) : Ans :=
  listRead s e 65536 (s.boot.log.map (fun x => (x.seq.toNat, pmEntryBytes x)))

/-! ### Commands -/

/-- The request checks of a list read: its reserved bytes. -/
def listChecks (e : Env) : List Chk := rsv e 12 4

/-- REPORT_GET (R338). -/
def execReportGet (e : Env) (s : State) : Answer := done s (serve specReportGet e (fun t =>
  checked ([(0, decide (p8 e 0 = 1 ∨ p8 e 0 = 2))] ++ rsv e 1 7) t (reportGet e t)) s)

/-- REPORT_READ (R353). -/
def execReportRead (e : Env) (s : State) : Answer := done s (serve specReportRead e (reportRead e) s)

/-- CERT_CHAIN_GET (R479). -/
def execCertChainGet (e : Env) (s : State) : Answer := done s (serve specCertChainGet e (fun t =>
  checked ([(0, decide (p8 e 0 ≤ 2))] ++ rsv e 1 3) t (certChainGet e t)) s)

/-- IDENTITY_CSR_GET (R333). -/
def execIdentityCsrGet (e : Env) (s : State) : Answer := done s (serve specIdentityCsrGet e (fun t =>
  if t.boot.fuseDegraded then (t, Ans.state 0x4644)
  else needPke t ({ t with free := t.free + 2 }, Ans.ok (idkSelfCert t))) s)

/-- IDENTITY_CERT_SET (R333). -/
def execIdentityCertSet (e : Env) (s : State) : Answer := done s (serve specIdentityCertSet e (identityCertSet e) s)

/-- TENANT_BIND (R348). -/
def execTenantBind (e : Env) (s : State) : Answer := done s (serve specTenantBind e (fun t =>
  checked (rsv e 97 7 ++ rsv e 7323 5) t (tenantBind e t)) s)

/-- POSTCARD_GET (R344). -/
def execPostcardGet (e : Env) (s : State) : Answer := done s (serve specPostcardGet e (fun t =>
  checked ([(32, decide (p8 e 32 ≤ 1))] ++ rsv e 33 7) t (postcardGet e t)) s)

/-- HEARTBEAT_GET (R345). -/
def execHeartbeatGet (e : Env) (s : State) : Answer := done s (serve specHeartbeatGet e (heartbeatGet e) s)

/-- POSTMARK_LOG_READ (R343). -/
def execPostmarkLogRead (e : Env) (s : State) : Answer := done s (serve specPostmarkLogRead e (fun t =>
  checked (listChecks e) t (t, postmarkLogRead e t)) s)

/-- SESSION_TIMEOUT (R349). -/
def execSessionTimeout (n : BitVec 4) (s : State) : Answer := done s (endSession n.toNat s)

/-- REPORT_EXPIRY (R353): the `n`th kept report has been kept for 10 s. -/
def execReportExpiry (n : BitVec 4) (s : State) : Answer :=
  done s { s with att := { s.att with kept := s.att.kept.eraseIdx n.toNat } }

end Sys2Proof.Machine
end

