-- ==== Sys2Proof/Machine/Route.lean ====
section
/-! DEFINITION. Ports and frames (R245–R250, R408–R411, R415–R417, R457): sending under credits, receiving with the
counter and tag checks, acknowledgements, routes and held frames, channels and token signals. A port is a device link
`some n` or the twin port `none`. -/

namespace Sys2Proof.Machine

/-! ### Ports -/

def linkOf (s : State) (n : Nat) : Link := mgetD s.car.links n Link.reset
def setLink (n : Nat) (l : Link) (s : State) : State :=
  { s with car := { s.car with links := mset s.car.links n l Link.reset } }
def modLink (n : Nat) (f : Link → Link) (s : State) : State := setLink n (f (linkOf s n)) s

def wireOf (s : State) : Option Nat → Wire
  | some n => (linkOf s n).wire
  | none => s.port.wire
def modWire (port : Option Nat) (f : Wire → Wire) (s : State) : State :=
  match port with
  | some n => modLink n (fun l => { l with wire := f l.wire }) s
  | none => { s with port := { s.port with wire := f s.port.wire } }
def modCipher (port : Option Nat) (f : Cipher → Cipher) (s : State) : State :=
  modWire port (fun w => { w with cipher := f w.cipher }) s

/-- The slot of a port's key (Table 06-1). -/
def portSlot : Option Nat → Nat | some n => 0x20 + n | none => 0x30
/-- The key copy in the port's engine. -/
def portKeys (s : State) : Option Nat → Option KeyCopy
  | some n => mget s.vault.lce n
  | none => s.vault.tce
/-- Whether the port's turnstile is closed (R27). -/
def portShut (s : State) : Option Nat → Bool
  | some n => s.mem.ltClosed.getLsbD n
  | none => s.mem.ttClosed
/-- Whether this end is A (R246): the lower postcode, or the initiator of the pairing that made the key. -/
def portA (s : State) : Option Nat → Bool
  | some n => decide (myPost s < (linkOf s n).peerPost.toNat)
  | none => s.port.isA
/-- The transmitter's label under the key it uses. -/
def txLabel (s : State) (port : Option Nat) : String :=
  let c := (wireOf s port).cipher
  frameLabel port.isNone (match port with
    | some _ => portA s port
    | none => if c.old.isSome then s.port.oldA else if c.txNew then s.port.newA else s.port.isA)
/-- The receiver's label under the active or the pending key. -/
def rxLabel (s : State) (port : Option Nat) (pend : Bool) : String :=
  frameLabel port.isNone (!(match port with | some _ => portA s port | none => if pend then s.port.newA else s.port.isA))

/-- The key the transmitter uses (R249). -/
def txKey (s : State) (port : Option Nat) : Option Digest :=
  let c := (wireOf s port).cipher
  match c.old with
  | some k => some k
  | none => (portKeys s port).map (fun k => match c.txNew, k.pending with | true, some p => p | _, _ => k.active)

/-- The counter at which a port without a completed rekey enters KEY_FAULT (R249). -/
def counterLimit : Nat := 2 ^ 32 + 2 ^ 24

/-- Add a caravan log entry (Table 23-14); entries are numbered from boot. -/
def carLog (event : Nat) (link post : Nat) (id : Digest) (s : State) : State :=
  let r : EventRec := { tick := tick s, event := BitVec.ofNat 8 event, link := BitVec.ofNat 8 link, post := BitVec.ofNat 16 post, id := id }
  { s with car := { s.car with log := keepLast 1024 (s.car.log ++ [r]), logNext := s.car.logNext + 1 } }

/-- The reachable route of a postcode over a keyed link. -/
def routeOf (s : State) (post : Nat) : Option RouteEntry :=
  match mget s.car.routes post with
  | some r => if r.ok ∧ (linkOf s r.link).st = .keyed then some r else none
  | none => none

/-! ### Sending (R247, R411, R417) -/

/-- Whether a frame is an acknowledgement; those are neither held for resending nor acknowledged themselves. -/
def isAck (f : Frame) : Bool := f.ftype == 3

/-- Send a frame at once under the transmit key and its next COUNTER. -/
def sendNow (port : Option Nat) (f : Frame) (s : State) : State :=
  match txKey s port with
  | none => s
  | some k =>
    let c := (wireOf s port).cipher
    let w := sealFrame k (txLabel s port) c.txCount f
    let s1 := modWire port (fun x =>
      { x with cipher := { c with txCount := c.txCount + 1 },
               retry := if isAck f then x.retry else x.retry ++ [(c.txCount, f)] }) s
    emit (match port with | some n => .frame n w | none => .twinFrame w) s1

/-- The addresses of a frame that stays on its port. -/
def localFrame (s : State) (port : Option Nat) (ftype cls channel : Nat) (payload : Bytes) : Frame :=
  { ftype := BitVec.ofNat 8 ftype, cls := BitVec.ofNat 8 cls, hops := 0,
    dst := match port with | some n => (linkOf s n).peerPost | none => 0,
    src := match port with | some _ => BitVec.ofNat 16 (myPost s) | none => 0,
    channel := BitVec.ofNat 16 channel, payload := payload }

/-- An acknowledgement frame: the frames received under the current key, then the class and HOPS of each returned credit. -/
def sendAck (port : Option Nat) (received : BitVec 64) (credits : List (BitVec 8 × BitVec 8)) (s : State) : State :=
  sendNow port (localFrame s port 3 0 0 (leBytes 8 received.toNat ++ credits.flatMap (fun c => [c.1, c.2]))) s

/-- Shared credits of a class (Table 19-3; the twin port's are Table 22-2's). -/
def sharedMax (cls : Nat) : Nat := if cls = 0 then 16 else if cls = 5 then 128 else 32

/-- The credit a frame can take: a shared one of its class, else the escape credit of its HOPS on a device link. -/
def creditFor (w : Wire) (twin : Bool) (f : Frame) : Option Bool :=
  let c := f.cls.toNat
  if c = 0 ∨ mgetD w.shared c 0 < sharedMax c then some true
  else if !twin ∧ !mgetD w.escape (32 * c + f.hops.toNat) false then some false
  else none

/-- Take that credit. -/
def takeCredit (f : Frame) (shared : Bool) (w : Wire) : Wire :=
  let c := f.cls.toNat
  if c = 0 then w
  else if shared then { w with shared := mset w.shared c (mgetD w.shared c 0 + 1) 0 }
  else { w with escape := mset w.escape (32 * c + f.hops.toNat) true false }

/-- Take back a credit that the peer returned: the escape credit of that class and HOPS if it is in use, else a shared one. -/
def returnCredit (cls hops : Nat) (w : Wire) : Wire :=
  if mgetD w.escape (32 * cls + hops) false then { w with escape := mset w.escape (32 * cls + hops) false false }
  else { w with shared := mset w.shared cls (mgetD w.shared cls 0 - 1) 0 }

/-- The local partition that a channel frame of this device belongs to: its sending partition, or the holder of
the import binding whose credits it returns. -/
def framePart (s : State) (f : Frame) : Option Nat :=
  if f.src.toNat ≠ myPost s ∨ f.channel.toNat < 0x10 then none
  else match mget s.car.channels f.channel.toNat with
    | some c => if c.dst = f.dst then some c.part else none
    | none =>
      (s.q.tokens.find? (fun t => match t.2.imp with | some i => i.src == f.dst && i.channel == f.channel | none => false)).bind
        (fun t => match (mgetD s.parts.tokens t.1 Res.free).st with | .held p => some p | _ => none)

/-- Whether a link's slots serve a frame (R417): a Confidential partition's channel frames need its own owner slots. -/
def linkServes (s : State) (n : Nat) (f : Frame) : Bool :=
  match framePart s f with
  | none => true
  | some p => !isConf s p || (match part? s p with
      | some x => (match mget x.link n with | some h => decide (0 < h.slotsA) | none => false)
      | none => false)

/-- Whether two frames must keep their order: one source, one destination, one class (R410). -/
def sameFlow (a b : TxFrame) : Bool := a.frame.src == b.frame.src && a.frame.dst == b.frame.dst && a.frame.cls == b.frame.cls

/-- The first waiting frame that may leave, with the credit it takes, and the frames that stay. -/
def pickFrame (s : State) (port : Option Nat) : (before after : List TxFrame) → Option (TxFrame × Bool × List TxFrame)
  | _, [] => none
  | b, t :: ts =>
    let ok := (match port with | some n => linkServes s n t.frame | none => true) && !b.any (sameFlow t)
    match ok, creditFor (wireOf s port) port.isNone t.frame with
    | true, some c => some (t, c, b ++ ts)
    | _, _ => pickFrame s port (b ++ [t]) ts

/-- Switch the transmitter to the new key once no frame under the old one is unacknowledged (R249). -/
def maybeSwitch (port : Option Nat) (s : State) : State :=
  let w := wireOf s port
  if w.retry ≠ [] then s
  else if w.cipher.old.isSome then modCipher port (fun c => { c with old := none, txCount := 0, rekey := false, keyedAt := tick s }) s
  else match portKeys s port with
    | some k => if k.pending.isSome ∧ !w.cipher.txNew then modCipher port (fun c => { c with txNew := true, txCount := 0 }) s else s
    | none => s

/-! ### Routes and held frames (R408, R410, R420) -/

def queueOn (n : Nat) (t : TxFrame) (s : State) : State :=
  let s1 := modWire (some n) (fun w => { w with txWait := w.txWait ++ [t] }) s
  if linkServes s n t.frame then s1
  else carLog 7 n t.frame.dst.toNat 0 { s1 with car := { s1.car with hold := satInc s1.car.hold } }

/-- Give a frame its way: the frames held for its postcode, its route's link, or the hold of an unreachable postcode. -/
def routeFrame (t : TxFrame) (s : State) : State :=
  let post := t.frame.dst.toNat
  if s.car.held.any (fun h => h.post == post) then
    { s with car := { s.car with held := s.car.held.map (fun h => if h.post = post then { h with frames := h.frames ++ [t] } else h) } }
  else match routeOf s post with
    | some r => queueOn r.link t s
    | none => { s with car := { s.car with held := s.car.held ++ [{ post := post, frames := [t], reorder := false, since := tick s }] } }

/-- Release the frames held for a postcode to its route. -/
def releaseFrames (post : Nat) (s : State) : State :=
  let hs := s.car.held.filter (fun h => h.post == post)
  (hs.flatMap (·.frames)).foldl (fun t f => routeFrame f t)
    { s with car := { s.car with held := s.car.held.filter (fun h => h.post != post) } }

/-- Whether frames toward a postcode are still unacknowledged or waiting on a link. -/
def onTheWay (s : State) (n post : Nat) : Bool :=
  let w := wireOf s (some n)
  w.retry.any (fun e => e.2.dst.toNat == post) || w.txWait.any (fun t => t.frame.dst.toNat == post)

/-- Whether every frame already sent toward a postcode on another link than its route's has been acknowledged. -/
def settledElsewhere (s : State) (post : Nat) : Bool :=
  (mkeys s.car.links).all (fun n => (match mget s.car.routes post with | some r => r.link == n | none => false) || !onTheWay s n post)

/-- Release what is held for a route change once the old links are clear of it. -/
def settleHeld (s : State) : State :=
  (s.car.held.filter (fun h => h.reorder && settledElsewhere s h.post)).foldl (fun t h => releaseFrames h.post t) s

/-- A route changes (R408): a postcode that becomes reachable gets its held frames; a move to another link holds new
frames while the old one still carries some (R410). -/
def setRoute (post : Nat) (r : RouteEntry) (s : State) : State :=
  let old := mget s.car.routes post
  let s1 : State := { s with car := { s.car with routes := mput s.car.routes post r } }
  match r.ok, old with
  | true, some o =>
    if o.ok ∧ o.link ≠ r.link ∧ onTheWay s1 o.link post ∧ !s1.car.held.any (fun h => h.post == post) then
      { s1 with car := { s1.car with held := s1.car.held ++ [{ post := post, frames := [], reorder := true, since := tick s }] } }
    else if !o.ok then releaseFrames post s1
    else s1
  | true, none => releaseFrames post s1
  | false, _ => s1

/-- Withdraw every route over a link (R408, R420): unreachable, to be advertised; frames still waiting to leave go back
to their postcodes. Directory members whose route went start their 2.0 s. -/
def withdraw (n : Nat) (s : State) : State :=
  let gone := (s.car.routes.filter (fun e => e.2.ok && e.2.link == n)).map Prod.fst
  let back := (wireOf s (some n)).txWait.filter (fun t => t.frame.cls != 0)
  let s1 := modWire (some n) (fun w => { w with txWait := [] }) s
  let s2 : State := { s1 with car := { s1.car with
    routes := s1.car.routes.map (fun e => if gone.contains e.1 then (e.1, { e.2 with dist := 25, changed := true }) else e),
    dir := s1.car.dir.map (fun e => if gone.contains e.1 then (e.1, { e.2 with lost := some (tick s) }) else e) } }
  let s3 := gone.foldl (fun t p => carLog 2 n p ((mget t.car.dir p).map (·.did) |>.getD 0) t) s2
  settleHeld (back.foldl (fun t f => routeFrame f t) s3)

/-- A port's keying ends: its key is destroyed, counters start again, and unacknowledged frames wait to be resent under
the next key (R248, Table 22-5). -/
def unkey (port : Option Nat) (s : State) : State :=
  let w := wireOf s port
  let back : List TxFrame := w.retry.map (fun e => { frame := e.2, via := none })
  let s1 := destroySlot (portSlot port) (modWire port (fun w =>
    { Wire.reset with txWait := back ++ w.txWait }) s)
  match port with
  | some n => withdraw n (modLink n (fun l => { l with hs := none, readySent := false }) s1)
  | none => { s1 with port := { s1.port with fresh := true } }

/-- KEY_FAULT (R248): reported, counted, the key destroyed; the port trains again. -/
def keyFault (port : Option Nat) (s : State) : State :=
  let s1 := logFault 6 2 5 (match port with | some n => n | none => 16) (wireOf s port).cipher.rxCount.toNat 0xFF 0 0 s
  match port with
  | some n =>
    let s2 := unkey port s1
    modLink n (fun l => { l with st := .training, keyFaults := satInc l.keyFaults }) s2
  | none =>
    let s2 := unkey none s1
    { s2 with twin := { s2.twin with trained := false, hs := none, confirmIn := false } }

/-- LINK_FRAME_SEND: one waiting frame leaves; a transit frame's own buffer is then free again (R457). -/
def frameSend (port : Option Nat) (s : State) : State :=
  let w := wireOf s port
  let up : Bool := match port with | some n => (linkOf s n).st == .keyed | none => s.vault.tce.isSome
  if !up ∨ portShut s port then s
  else if counterLimit ≤ w.cipher.txCount.toNat then keyFault port s
  else match pickFrame s port [] w.txWait with
    | none => s
    | some (t, c, rest) =>
      let s1 := modWire port (fun x => takeCredit t.frame c { x with txWait := rest }) s
      let s2 := sendNow port t.frame s1
      match t.via with
      | some (m, cls, hops) => sendAck (some m) 0 [(cls, hops)] s2
      | none => s2

/-! ### Receiving (R245–R250) -/

/-- A verified frame under the pending bank promotes it (R249, R141): the receiver goes on at COUNTER 1, and a
transmitter that still has frames unacknowledged keeps the old key until they are. -/
def promotePort (port : Option Nat) (s : State) : State :=
  let old := (portKeys s port).map (·.active)
  let s0 : State := match port with
    | none => { s with port := { s.port with oldA := s.port.isA, isA := s.port.newA } }
    | some _ => s
  let s1 := promoteSlot (portSlot port) s0
  let s2 := modCipher port (fun c =>
    if c.txNew then { c with txNew := false, rxCount := 1, rekey := false, keyedAt := tick s }
    else { c with old := old, rxCount := 1 }) s1
  maybeSwitch port s2

/-- Receive a frame: COUNTER and tag (R248), acknowledgement and credit, transit (R250). A frame for this device is
handed on. A frame on an unkeyed port, or a handshake frame on a keyed one, is discarded. -/
def receiveFrame (port : Option Nat) (w : WireFrame) (s : State) : State × Option Frame :=
  match portKeys s port with
  | none => (s, none)
  | some k =>
    if portShut s port ∨ w.ftype = 5 then (s, none)
    else
      let c := (wireOf s port).cipher
      let fresh (t : State) (f : Frame) : State × Option Frame :=
        let me := match port with | some _ => f.dst.toNat == myPost s || f.cls == 0 | none => true
        let ack (u : State) (cr : List (BitVec 8 × BitVec 8)) : State :=
          if isAck f then u else sendAck port (wireOf u port).cipher.rxCount (if f.cls = 0 then [] else cr) u
        if me then (ack t [(f.cls, f.hops)], some f)
        else if f.hops = 0 then
          ({ ack t [(f.cls, f.hops)] with car := { (ack t [(f.cls, f.hops)]).car with hops0 := satInc t.car.hops0 } }, none)
        else
          let f1 : Frame := { f with hops := f.hops - 1 }
          let via : Option (Nat × BitVec 8 × BitVec 8) := port.map (fun n => (n, f.cls, f.hops))
          (routeFrame { frame := f1, via := via } (ack t []), none)
      let good (pend : Bool) (d : Digest) : Option Frame := openFrame d (rxLabel s port pend) w
      let okLen : Bool := decide (w.length.toNat = w.cipher.length ∧ w.cipher.length ≤ 1024)
      match (if w.counter = c.rxCount ∧ okLen then good false k.active else none), (if w.counter = 0 ∧ okLen then k.pending.bind (good true) else none) with
      | some f, _ =>
        if counterLimit ≤ c.rxCount.toNat then (keyFault port s, none)
        else fresh (modCipher port (fun x => { x with rxCount := x.rxCount + 1 }) s) f
      | none, some f => fresh (promotePort port s) f
      | none, none => (keyFault port s, none)

/-- Pairs of bytes. -/
def pairs : Bytes → List (BitVec 8 × BitVec 8)
  | a :: b :: r => (a, b) :: pairs r
  | _ => []

/-- The effect of a verified acknowledgement frame: acknowledged frames leave the retry buffer and credits return; a
rekey or a held route change may go on. -/
def ackEffect (port : Option Nat) (f : Frame) (s : State) : State :=
  let n := fld f.payload 0 8
  let s1 := modWire port (fun w =>
    (pairs (f.payload.drop 8)).foldl (fun v c => returnCredit c.1.toNat c.2.toNat v)
      { w with retry := w.retry.filter (fun e => n ≤ e.1.toNat) }) s
  settleHeld (maybeSwitch port s1)

/-- LINK_REPLAY: the link layer resends an unacknowledged frame, the same ciphertext under the same COUNTER (R247). -/
def replay (port : Option Nat) (counter : BitVec 64) (s : State) : State :=
  match (wireOf s port).retry.find? (fun e => e.1 == counter), txKey s port with
  | some (c, f), some k =>
    let s1 := logFault 5 1 5 (match port with | some n => n | none => 16) 0 0xFF 1 0 s
    let w := sealFrame k (txLabel s port) c f
    emit (match port with | some n => .frame n w | none => .twinFrame w) s1
  | _, _ => s

/-! ### Fragmented messages -/

/-- Split a message into payloads of 1,020 bytes, each behind MSG, FRAG, FRAGS and a reserved byte. -/
def fragments (msg : Nat) (b : Bytes) : List Bytes :=
  let n := max 1 (ceilDiv b.length 1020)
  (List.range n).map (fun i => [BitVec.ofNat 8 msg, BitVec.ofNat 8 i, BitVec.ofNat 8 n, 0] ++ slice b (1020 * i) 1020)

/-- Receive the fragments of one message in order: its bytes where all are there. -/
def receiveAll (port : Option Nat) (msg : Nat) (ok : Frame → Bool) (fs : List WireFrame) (s : State) : State × Option (Frame × Bytes) :=
  let r := fs.foldl (fun (a : State × List Frame) w =>
    let x := receiveFrame port w a.1
    (x.1, a.2 ++ x.2.toList)) (s, [])
  let good := r.2.zipIdx.all (fun e => ok e.1 && byteAt e.1.payload 0 == BitVec.ofNat 8 msg && byteAt e.1.payload 1 == BitVec.ofNat 8 e.2 &&
    byteAt e.1.payload 2 == BitVec.ofNat 8 r.2.length)
  match r.2 with
  | f :: _ => if good ∧ r.2.length = fs.length then (r.1, some (f, cat (r.2.map (fun x => x.payload.drop 4)))) else (r.1, none)
  | [] => (r.1, none)

/-- Send a message as control frames toward a postcode. -/
def sendControl (cls channel : Nat) (dst : Nat) (msg : Nat) (b : Bytes) (s : State) : State :=
  (fragments msg b).foldl (fun t p =>
    routeFrame { frame := { ftype := 4, cls := BitVec.ofNat 8 cls, hops := 24, dst := BitVec.ofNat 16 dst, src := BitVec.ofNat 16 (myPost s),
                            channel := BitVec.ofNat 16 channel, payload := p }, via := none } t) s

/-! ### Channels of Confidential partitions (R418) -/

/-- The DID a device knows for a postcode: its own, a keyed neighbour's, or a directory entry's. -/
def postDid (s : State) (post : Nat) : Option Digest :=
  if post = myPost s then some s.vault.did
  else match s.car.links.find? (fun l => l.2.st == .keyed && l.2.peerPost.toNat == post) with
    | some l => some l.2.peerDid
    | none => (mget s.car.dir post).map (·.did)

/-- The circle base digest of a channel. -/
def chdOf (fromDid : Digest) (fromPart : Nat) (toDid : Digest) (toPart ch : Nat) : Digest :=
  sha384 (ascii "U-CHANNEL" ++ digBytes fromDid ++ [BitVec.ofNat 8 fromPart] ++ digBytes toDid ++ [BitVec.ofNat 8 toPart] ++ beBytes 2 ch)

/-- The circle base digest among a policy's that a channel with partition `p` has for some partition of the other
device; `out` says that `p` sends. -/
def channelCircle (s : State) (y : ParcelPolicy) (p post ch : Nat) (out : Bool) : Option Digest :=
  match postDid s post with
  | none => none
  | some d => ((List.range 128).map (fun q => if out then chdOf s.vault.did p d q ch else chdOf d q s.vault.did p ch)).find?
      (fun h => y.bases.contains h)

/-- The circle base digests of a partition's channels, those it sends on and those it receives on. -/
def channelBases (s : State) (p : Nat) : List Digest :=
  (s.car.channels.filterMap (fun c => if c.2.part = p then c.2.chd else none)) ++
  (s.q.tokens.filterMap (fun t => if (mgetD s.parts.tokens t.1 Res.free).st = .held p then t.2.imp.bind (·.chd) else none))

/-! ### Tokens and channels (R290, R291, R415, R416, R419) -/

def setToken (t : Nat) (k : Token) (s : State) : State := { s with q := { s.q with tokens := mput s.q.tokens t k } }

/-- Serve a token's waiters in arrival order while its count lasts. -/
def serveWaiters (t : Nat) : List Nat → State → State
  | [], s => s
  | c :: cs, s =>
    match mget s.q.tokens t with
    | none => s
    | some k =>
      if k.count = 0 then s
      else
        let s1 := setToken t { k with count := k.count - 1, waiters := cs } s
        serveWaiters t cs (match (core s1 c).waiting with
          | .token _ rd => endTwait c rd.toNat 0 s1
          | _ => s1)

/-- TSIG on a home token: its count, saturating with OVERFLOW, then its waiters. -/
def homeSignal (t : Nat) (n : BitVec 32) (s : State) : State :=
  match mget s.q.tokens t with
  | none => s
  | some k =>
    let sum := k.count.toNat + n.toNat
    let k1 : Token := { k with count := BitVec.ofNat 32 (min sum (2 ^ 32 - 1)), overflow := k.overflow || decide (2 ^ 32 ≤ sum) }
    serveWaiters t k1.waiters (setToken t k1 s)

/-- A frame of this device toward another. -/
def outFrame (s : State) (ftype cls : Nat) (dst channel : BitVec 16) (payload : Bytes) : TxFrame :=
  { frame := { ftype := BitVec.ofNat 8 ftype, cls := BitVec.ofNat 8 cls, hops := 24, dst := dst, src := BitVec.ofNat 16 (myPost s),
               channel := channel, payload := payload }, via := none }

/-- The token-signal frame of a proxy (R291). -/
def signalFrame (t : Nat) (n : BitVec 32) (s : State) : State :=
  match mget s.q.tokens t with
  | none => s
  | some k =>
    let s1 := setToken t { k with sigSeq := k.sigSeq + 1 } s
    routeFrame (outFrame s 2 4 k.homePost k.channel (leBytes 2 k.homeTok.toNat ++ zeros 2 ++ leBytes 4 n.toNat ++ leBytes 8 k.sigSeq.toNat)) s1

/-- The PROXY token of a channel. -/
def proxyOf (s : State) (ch : Nat) : Option Nat :=
  (s.q.tokens.find? (fun t => t.2.proxy && t.2.channel.toNat == ch)).map Prod.fst

/-- The data frames of one outbox block (R415): up to 15 lines each, read through MT_n. A line that is refused leaves its
frame unsent, so the home sees its SEQ skipped. -/
def blockFrames (ch : Nat) (c : Channel) : (left : Nat) → (line : Nat) → State → State
  | 0, _, s => s
  | n + 1, line, s =>
    let lines := min 15 (c.block / 64 - line)
    if lines = 0 then s
    else
      let r := memRead (.engine (BitVec.ofNat 7 c.part)) c.outbox (c.offset + c.block * c.next + 64 * line) (64 * lines) s
      let x := mgetD r.1.car.channels ch c
      let s1 : State := { r.1 with car := { r.1.car with channels := mput r.1.car.channels ch { x with seq := x.seq + 1 } } }
      let hd := leBytes 8 x.seq.toNat ++ leBytes 4 c.next ++ leBytes 2 line ++ [BitVec.ofNat 8 lines] ++ zeros 17
      let s2 := if r.2.1 = 0 then routeFrame (outFrame s1 1 5 c.dst (BitVec.ofNat 16 ch) (hd ++ r.2.2)) s1 else s1
      blockFrames ch c n (line + lines) s2

/-- Send one waiting block of a data channel where a credit is held, and the signal that follows its last block. -/
def blockSend (ch : Nat) (s : State) : State :=
  match mget s.car.channels ch with
  | none => s
  | some c =>
    match c.wait with
    | [] => s
    | (left, n) :: rest =>
      let finish (t : State) : State :=
        let t1 : State := { t with car := { t.car with channels := mupd t.car.channels ch (fun x => { x with wait := rest }) } }
        match proxyOf t1 ch with | some k => signalFrame k (BitVec.ofNat 32 n) t1 | none => t1
      if left = 0 then finish s
      else if c.credits = 0 then s
      else
        let s1 := blockFrames ch c 70 0 s
        let s2 : State := { s1 with car := { s1.car with channels := mupd s1.car.channels ch (fun x =>
          { x with credits := x.credits - 1, next := (x.next + 1) % x.ring, wait := (left - 1, n) :: rest }) } }
        if left = 1 then finish s2 else s2

/-- Send blocks while credits are held. -/
def pumpChannel (ch : Nat) : Nat → State → State
  | 0, s => s
  | n + 1, s =>
    match mget s.car.channels ch with
    | none => s
    | some c => (match c.wait with
      | [] => s
      | (left, _) :: _ => if left ≠ 0 ∧ c.credits = 0 then s else pumpChannel ch n (blockSend ch s))

/-- The import binding of a data channel that a proxy names as its release token (R416). -/
def isRelease (s : State) (k : Token) : Bool :=
  s.q.tokens.any (fun t => match t.2.imp with
    | some i => i.src == k.homePost && i.channel == k.channel && i.inbox != 0xFF
    | none => false)

/-- TSIG on a PROXY token: blocks and a signal on a data channel, credits on a release token, else one signal. -/
def proxySignal (t : Nat) (n : BitVec 32) (s : State) : State :=
  match mget s.q.tokens t with
  | none => s
  | some k =>
    match mget s.car.channels k.channel.toNat with
    | some c =>
      if c.data ∧ c.dst = k.homePost then
        pumpChannel k.channel.toNat (2 * c.credits + 2) { s with car := { s.car with
          channels := mupd s.car.channels k.channel.toNat (fun x => { x with wait := x.wait ++ [(n.toNat, n.toNat)] }) } }
      else signalFrame t n s
    | none =>
      if isRelease s k then routeFrame (outFrame s 4 1 k.homePost k.channel (leBytes 4 n.toNat)) s
      else signalFrame t n s

/-- TSIG on any token. -/
def signalToken (t : Nat) (n : BitVec 32) (s : State) : State :=
  match mget s.q.tokens t with
  | none => s
  | some k => if k.proxy then proxySignal t n s else homeSignal t n s

/-- The home token bound to a sender's postcode and channel. -/
def boundToken (s : State) (f : Frame) : Option (Nat × Token × Import) :=
  (s.q.tokens.findSome? (fun t => match t.2.imp with
    | some i => if i.src = f.src ∧ i.channel = f.channel then some (t.1, t.2, i) else none
    | none => none))

def setImport (t : Nat) (i : Import) (s : State) : State :=
  match mget s.q.tokens t with | some k => setToken t { k with imp := some i } s | none => s

/-- A binding becomes BROKEN (R419). -/
def breakImport (t : Nat) (i : Import) (s : State) : State :=
  setImport t { i with broken := true, waiting := [] } { s with car := { s.car with broken := satInc s.car.broken } }

/-- Apply the signals whose blocks have all arrived. -/
def drainSignals (t : Nat) (i : Import) : List (BitVec 32) → State → State
  | [], s => setImport t { i with waiting := [] } s
  | n :: ns, s =>
    if n.toNat ≤ i.blocks then drainSignals t { i with blocks := i.blocks - n.toNat } ns (homeSignal t n s)
    else setImport t { i with waiting := n :: ns } s

/-- Whether a sequence is the expected one; the first after the binding was set starts it. -/
def seqOk (expected : Option (BitVec 64)) (v : BitVec 64) : Bool := match expected with | some e => e == v | none => true

/-- A token-signal frame at the home (R291, R415, R419). -/
def signalArrives (f : Frame) (s : State) : State :=
  let discard (t : State) : State := { t with q := { t.q with importErr := t.q.importErr + 1 } }
  match boundToken s f with
  | none => discard s
  | some (t, k, i) =>
    let n : BitVec 32 := BitVec.ofNat 32 (fld f.payload 4 4)
    let v : BitVec 64 := BitVec.ofNat 64 (fld f.payload 8 8)
    if k.proxy ∨ fld f.payload 0 2 ≠ t then discard s
    else if i.broken then setImport t { i with dropped := i.dropped + 1 } s
    else if !seqOk i.nextSig v then breakImport t i s
    else
      let j : Import := { i with nextSig := some (v + 1) }
      if i.inbox = 0xFF then homeSignal t n (setImport t j s) else drainSignals t j (j.waiting ++ [n]) s

/-- A channel data frame at the home (R415, R419): SEQ and geometry, then the lines into the inbox through MT_n. -/
def dataArrives (f : Frame) (s : State) : State :=
  let discard (t : State) : State := { t with q := { t.q with importErr := t.q.importErr + 1 } }
  match boundToken s f with
  | none => discard s
  | some (t, _, i) =>
    let v : BitVec 64 := BitVec.ofNat 64 (fld f.payload 0 8)
    let blk := fld f.payload 8 4
    let line := fld f.payload 12 2
    let lines := (byteAt f.payload 14).toNat
    let holder := match (mgetD s.parts.tokens t Res.free).st with | .held p => p | _ => 0
    if i.inbox = 0xFF then discard s
    else if i.broken then setImport t { i with dropped := i.dropped + 1 } s
    else if !seqOk i.nextSeq v ∨ (i.nextSeq.isNone ∧ line ≠ 0) ∨ i.ring.toNat ≤ blk ∨ lines = 0 ∨ 15 < lines ∨
        i.block.toNat < 64 * (line + lines) ∨ f.payload.length ≠ 32 + 64 * lines then breakImport t i s
    else
      let r := memWrite (.engine (BitVec.ofNat 7 holder)) i.inbox.toNat (i.offset.toNat + i.block.toNat * blk + 64 * line) (f.payload.drop 32) s
      if r.2 ≠ 0 then breakImport t i r.1
      else
        let j : Import := { i with nextSeq := some (v + 1), blocks := if i.block.toNat = 64 * (line + lines) then i.blocks + 1 else i.blocks }
        drainSignals t j j.waiting r.1

/-- A channel credit frame at the sender (R416): its blocks go on. -/
def creditArrives (f : Frame) (s : State) : State :=
  match mget s.car.channels f.channel.toNat with
  | none => s
  | some c =>
    if c.dst ≠ f.src then s
    else
      let n := fld f.payload 0 4
      { s with car := { s.car with channels := mupd s.car.channels f.channel.toNat (fun x => { x with credits := min x.ring (x.credits + n) }) } }

end Sys2Proof.Machine
end

