-- ==== Sys2Proof/Machine/Dir.lean ====
section
/-! DEFINITION. The L2 lines of tiles (R268, R269) and the hub directory (R292–R294, R359). -/

namespace Sys2Proof.Machine

/-! ### L2 lines -/

/-- Whether a partition holds an L2 way on a tile (R204, R268). -/
def hasWay (s : State) (t p : Nat) : Bool := (heldOf s 3 p).any (fun w => w / 16 == t)

/-- Whether a line is the line of a tile's partition. -/
def L2Line.is (l : L2Line) (t p n line : Nat) : Bool := l.tile == t && l.part == p && l.stack == n && l.line == line
/-- Whether a tile holds a line for any partition. -/
def L2Line.on (l : L2Line) (t n line : Nat) : Bool := l.tile == t && l.stack == n && l.line == line

def l2Find (s : State) (t p n line : Nat) : Option L2Line := s.mem.l2.find? (fun l => l.is t p n line)

/-- Put a line into a partition's ways of a tile. -/
def l2Put (l : L2Line) (s : State) : State :=
  { s with mem := { s.mem with l2 := s.mem.l2.filter (fun o => !o.is l.tile l.part l.stack l.line) ++ [l] } }

/-- Forget a partition's copy of a line. -/
def l2Drop (t p n line : Nat) (s : State) : State :=
  { s with mem := { s.mem with l2 := s.mem.l2.filter (fun o => !o.is t p n line) } }

/-- The gate of an L2 line: the holder's window over it, or the holder's own key. -/
def lineGate (s : State) (p n line : Nat) : Gate :=
  let own : Wd := { Wd.none with stack := n, tagged := isConf s p, part := p }
  match part? s p with
  | none => { wd := own, key := none, tweak := p }
  | some x =>
    match x.windows.find? (fun w => w.2.stack == n && decide (w.2.base * 2 ^ 15 ≤ line) && decide (line < (w.2.base + w.2.size) * 2 ^ 15)) with
    | some (k, w) => gateOf s p k (wdOf s p w)
    | none => { wd := own, key := mget s.vault.mce (128 * n + p), tweak := p }

/-- Write a dirty line through MT_n; its poison stays poison (R234). While the turnstile refuses it the line stays. -/
def writeBack (l : L2Line) (s : State) : State × Bool :=
  let s1 := needStack l.stack s
  let g := lineGate s1 l.part l.stack l.line
  if g.key.isNone ∨ stackShut s1 l.stack then (s1, false)
  else (if l.poison then poisonLine l.stack l.line s1 else writeLine g l.line l.data s1, true)

/-- Write back a line and keep it clean. -/
def cleanLine (l : L2Line) (s : State) : State :=
  let r := writeBack l s
  if r.2 then l2Put { l with dirty := false } r.1 else r.1

/-! ### The directory -/

/-- A directory key. -/
def dirKey (n line : Nat) : Nat := n * 2 ^ 30 + line

/-- Whether a line of a window is coherent across tiles: a shared-parcel window or a token page (R292). -/
def tracked (s : State) (p k off : Nat) : Bool :=
  (match windowOf s p k with
   | some w => (match w.use with | .sharedParcel _ => true | _ => false)
   | none => false) ||
  s.q.pages.any (fun g => g.part == p && g.window == k && decide (g.offset ≤ off) && decide (off < g.offset + 65536))

/-- The tiles of a sharer mask but for one. -/
def otherTiles (d : DirEntry) (t : Nat) : List Nat := (bitsOf d.sharers).filter (· ≠ t)

/-- A snoop identifier that is not outstanding. -/
def freshSid (s : State) : BitVec 12 :=
  match (List.range 4096).find? (fun i => !s.q.snoops.any (fun x => x.sid == s.q.nextSid + BitVec.ofNat 12 i)) with
  | some i => s.q.nextSid + BitVec.ofNat 12 i
  | none => s.q.nextSid

/-- Send a snoop of a line to a tile, once. -/
def sendSnoop (key t : Nat) (fetch : Bool) (s : State) : State :=
  if s.q.snoops.any (fun x => x.line == key && x.tile == t) then s
  else
    let sid := freshSid s
    emit (.snoop sid.toNat t key fetch)
      { s with q := { s.q with nextSid := sid + 1, snoops := s.q.snoops ++ [{ sid := sid, line := key, tile := t, fetch := fetch }] } }

/-- The entries a partition's ways reserve (R359). -/
def dirRoom (s : State) (p : Nat) : Nat := 16384 * (heldOf s 3 p).length

/-- Answer a directory read: the line from memory through MT_n into the reader's ways, and the entry (R293). A refused
read leaves the entry as it was. -/
def dirGrant (w : DirWait) (s : State) : State :=
  let n := w.line / 2 ^ 30
  let line := w.line % 2 ^ 30
  let s1 : State := { s with q := { s.q with dirWaits := removeFirst (fun x => x == w) s.q.dirWaits } }
  let s2 := needStack n s1
  let g := lineGate s2 w.part n line
  let r : State × Nat × Bytes :=
    match l2Find s2 w.tile w.part n line with
    | some l => (s2, 0, l.data)
    | none => if g.key.isNone ∨ stackShut s2 n then (s2, 7, []) else readLine g w.part line s2
  if r.2.1 ≠ 0 then emit (.memRefused (.engine (BitVec.ofNat 7 w.part)) (refusalName r.2.1)) r.1
  else
    let d := mgetD s.q.dir w.line { st := .s, sharers := 0, owner := w.part }
    let d1 : DirEntry := { d with st := if w.own then .m else .s, sharers := if w.own then BitVec.ofNat 8 (2 ^ w.tile) else setBit d.sharers w.tile true }
    let s3 : State := { r.1 with q := { r.1.q with dir := mput r.1.q.dir w.line d1 } }
    let s4 := if (l2Find s3 w.tile w.part n line).isSome then s3
      else l2Put { tile := w.tile, part := w.part, stack := n, line := line, dirty := false, poison := false, data := r.2.2 } s3
    emit (.dirData w.tile n line w.own) s4

/-- Go on with the oldest read that waits for a line: snoop the other holders, or answer it. A new entry beyond the
partition's reservation first evicts one of its own (R293, R359). -/
def dirStep (key : Nat) (s : State) : State :=
  match s.q.dirWaits.find? (fun w => w.line == key) with
  | none => s
  | some w =>
    match mget s.q.dir key with
    | some d =>
      let os := otherTiles d w.tile
      match d.st, w.own with
      | .m, _ => if os = [] then dirGrant w s else os.foldl (fun t o => sendSnoop key o true t) s
      | .s, true => if os = [] then dirGrant w s else os.foldl (fun t o => sendSnoop key o false t) s
      | .s, false => dirGrant w s
    | none =>
      let mine := s.q.dir.filter (fun e => e.2.owner == w.part)
      if mine.length < dirRoom s w.part then dirGrant w s
      else match mine with
        | (k, d) :: _ => (bitsOf d.sharers).foldl (fun t o => sendSnoop k o false t) s
        | [] => s

/-- Go on with every line that is waited for. -/
def dirAll (s : State) : State := ((s.q.dirWaits.map (·.line)).dedup).foldl (fun t k => dirStep k t) s

/-- RD_S or RD_M of a tile (R293). -/
def dirRead (t p n line : Nat) (own : Bool) (s : State) : State :=
  if domOf s 2 ≠ .on ∨ domOf s (tilePd t) ≠ .on ∨ !hasWay s t p then s
  else
    let w : DirWait := { line := dirKey n line, tile := t, own := own, part := p }
    dirAll (if s.q.dirWaits.contains w then s else { s with q := { s.q with dirWaits := s.q.dirWaits ++ [w] } })

/-- A tile leaves a line's sharers. -/
def unshare (key t : Nat) (s : State) : State :=
  match mget s.q.dir key with
  | none => s
  | some d =>
    let m := setBit d.sharers t false
    { s with q := { s.q with dir := if m = 0 then mdel s.q.dir key else mput s.q.dir key { d with sharers := m } } }

/-- Complete a snoop; `kept` says that the tile keeps the line clean. -/
def endSnoop (x : Snoop) (kept : Bool) (s : State) : State :=
  let s1 : State := { s with q := { s.q with snoops := removeFirst (fun y => y == x) s.q.snoops } }
  dirAll (if kept then
      match mget s1.q.dir x.line with
      | some d => { s1 with q := { s1.q with dir := mput s1.q.dir x.line { d with st := .s } } }
      | none => s1
    else unshare x.line x.tile s1)

/-- EVICT: a clean drop, which answers a snoop of the line that is outstanding to the tile (R294). -/
def evict (t n line : Nat) (s : State) : State :=
  if s.mem.l2.any (fun l => l.on t n line && l.dirty) then s
  else
    let key := dirKey n line
    let s1 : State := { s with mem := { s.mem with l2 := s.mem.l2.filter (fun l => !l.on t n line) } }
    match s1.q.snoops.find? (fun x => x.line == key && x.tile == t) with
    | some x => endSnoop x false s1
    | none => emit (.dirAck t line) (dirAll (unshare key t s1))

/-- WB: a dirty drop, written through MT_n; its data answers an outstanding snoop (R294). -/
def wb (t p n line : Nat) (s : State) : State :=
  match l2Find s t p n line with
  | none => s
  | some l =>
    if !l.dirty then s
    else
      let r := writeBack l s
      if !r.2 then r.1
      else
        let key := dirKey n line
        let s1 := l2Drop t p n line r.1
        match s1.q.snoops.find? (fun x => x.line == key && x.tile == t) with
        | some x => endSnoop x false s1
        | none => emit (.dirAck t line) (dirAll (unshare key t s1))

/-- A tile receives a snoop (R293, R294): SNP_INV drops the line, SNP_FETCH writes it back and keeps it clean; a line the
tile no longer holds is answered NOT_PRESENT. -/
def snooped (t n line : Nat) (fetch : Bool) (s : State) : State :=
  match s.q.snoops.find? (fun x => x.line == dirKey n line && x.tile == t && x.fetch == fetch) with
  | none => s
  | some x =>
    let mine := s.mem.l2.filter (fun l => l.on t n line)
    if mine = [] then emit (.snoopAnswer x.sid.toNat "NOT_PRESENT") s
    else if fetch then
      emit (.snoopAnswer x.sid.toNat "ACK_DATA") (mine.foldl (fun u l => if l.dirty then cleanLine l u else u) s)
    else
      let s1 := mine.foldl (fun u l => if l.dirty then (writeBack l u).1 else u) s
      emit (.snoopAnswer x.sid.toNat "ACK") { s1 with mem := { s1.mem with l2 := s1.mem.l2.filter (fun l => !l.on t n line) } }

/-- The directory receives a snoop's answer, an ACK_DATA where `present`; one that names a completed identifier is discarded (R294). -/
def snoopAck (sid : BitVec 12) (present : Bool) (s : State) : State :=
  match s.q.snoops.find? (fun x => x.sid == sid) with
  | none => s
  | some x => endSnoop x (present && x.fetch) s

/-! ### Commands -/

/-- RD_S (R293). -/
def execRdS (tile stack : BitVec 3) (line : BitVec 30) (part : BitVec 7) (s : State) : Answer :=
  done s (dirRead tile.toNat part.toNat stack.toNat line.toNat false s)

/-- RD_M (R293). -/
def execRdM (tile stack : BitVec 3) (line : BitVec 30) (part : BitVec 7) (s : State) : Answer :=
  done s (dirRead tile.toNat part.toNat stack.toNat line.toNat true s)

/-- EVICT (R294). -/
def execEvict (tile stack : BitVec 3) (line : BitVec 30) (s : State) : Answer := done s (evict tile.toNat stack.toNat line.toNat s)

/-- WB (R294). -/
def execWb (tile stack : BitVec 3) (line : BitVec 30) (part : BitVec 7) (s : State) : Answer :=
  done s (wb tile.toNat part.toNat stack.toNat line.toNat s)

/-- SNP_INV (R293). -/
def execSnpInv (tile stack : BitVec 3) (line : BitVec 30) (s : State) : Answer := done s (snooped tile.toNat stack.toNat line.toNat false s)

/-- SNP_FETCH (R293). -/
def execSnpFetch (tile stack : BitVec 3) (line : BitVec 30) (s : State) : Answer := done s (snooped tile.toNat stack.toNat line.toNat true s)

/-- ACK (R294). -/
def execAck (sid : BitVec 12) (data : Bool) (s : State) : Answer :=
  done s (snoopAck sid data s)

/-- NOT_PRESENT (R294). -/
def execNotPresent (sid : BitVec 12) (s : State) : Answer := done s (snoopAck sid false s)

end Sys2Proof.Machine
end

