-- ==== Sys2Proof/Machine/Operands.lean ====
section
/-! DEFINITION. Operand forms of the wide core (chapter 11): the unused-field rules of R258, local-store and
wide-register operands (R259), and the binary32 and bfloat16 arithmetic of R262 to R264. -/

namespace Sys2Proof.Machine

/-! ### Field rules (R258, Tables 11-4 to 11-9) -/

/-- A descriptor with every field zero. -/
def Desc.zero : Desc := { base := 0, imm := 0, stride := 0, space := 0, win := 0, rsv := 0 }

/-- An unused descriptor. -/
def descNone (d : Desc) : Bool := d == Desc.zero
/-- A local-store descriptor. -/
def descLs (d : Desc) : Bool := d.space == 0 && d.win == 0 && d.rsv == 0
/-- A wide-register descriptor: IMM[5:0] names it and every other field is zero. -/
def descW (d : Desc) : Bool := d.space == 1 && d.base == 0 && decide (d.imm.toNat < 64) && d.stride == 0 && d.win == 0 && d.rsv == 0
/-- A window descriptor. -/
def descWin (d : Desc) : Bool := d.space == 2 && d.rsv == 0
/-- The register a wide-register descriptor names. -/
def wIndex (d : Desc) : Nat := d.imm.toNat % 64

/-- The fields of a W-form word beyond the descriptors: which ones an operation uses. -/
structure WUse where
  pred  : Bool := false
  acc   : Bool := false
  aclr  : Bool := false
  dtype : Bool := false
  nospec : Bool := false
  cache : Bool := false
  m     : Bool := false
  n     : Bool := false
  k     : Bool := false
  mask  : Bool := false
  scale : Bool := false
  shift : Bool := false
  sreg  : Bool := false

/-- Every unused field of a W-form word is zero, and its reserved field. -/
def wUnused (u : WUse) (w : WWord) : Bool :=
  w.rsv == 0 && (u.pred || (w.pred == 0 && !w.pneg)) && (u.acc || w.acc == 0) && (u.aclr || !w.aclr) && (u.dtype || w.dtype == 0) &&
  (u.nospec || !w.nospec) && (u.cache || (w.cache == 0 && w.xtag == 0)) && (u.m || w.mM1 == 0) && (u.n || w.nM1 == 0) &&
  (u.k || w.kM1 == 0) && (u.mask || (w.mrow == 0 && w.mcol == 0)) && (u.scale || (w.smode == 0 && w.zp == 0)) &&
  (u.shift || w.shift == 0) && (u.sreg || w.sreg == 0)

/-- The fields of a scalar slot that an operation uses. -/
structure SUse where
  rd  : Bool := false
  ra  : Bool := false
  b   : Bool := false      -- operand B: RB, or IMM with IMMSEL
  rb  : Bool := false      -- RB alone
  imm : Bool := false      -- IMM alone

/-- Every unused field of a scalar slot is zero; the reserved bits of slots 1–3 too. -/
def sUnused (u : SUse) (l : SSlot) : Bool :=
  (l.slot == 0 || l.rsv == 0) && (u.rd || l.rd == 0) && (u.ra || l.ra == 0) &&
  (if u.b then (if l.immsel then l.rb == 0 else l.imm == 0)
   else !l.immsel && (u.rb || l.rb == 0) && (u.imm || l.imm == 0))

/-- The fields of a C-form word that an operation uses. -/
structure CUse where
  ra : Bool := false
  rb : Bool := false
  rd : Bool := false
  cond : Bool := false
  target : Bool := false
  imm : Bool := false

def cUnused (u : CUse) (w : CWord) : Bool :=
  w.rsv1 == 0 && w.rsv2 == 0 && (u.ra || w.ra == 0) && (u.rb || w.rb == 0) && (u.rd || w.rd == 0) &&
  (if u.cond then w.cond != 7 else w.cond == 0) && (u.target || w.target == 0) && (u.imm || w.imm16 == 0)

/-! ### Registers -/

/-- X registers: X0 reads zero and discards writes (R254). -/
def getX (c : Core) (r : Nat) : BitVec 64 := if r = 0 then 0 else mgetD c.x r 0
def setX (r : Nat) (v : BitVec 64) (c : Core) : Core := if r = 0 then c else { c with x := mset c.x r v 0 }
/-- M registers: M0 reads all ones and discards writes (R254). -/
def getM (c : Core) (r : Nat) : BitVec 64 := if r = 0 then BitVec.allOnes 64 else mgetD c.m r 0
def setM (r : Nat) (v : BitVec 64) (c : Core) : Core := if r = 0 then c else { c with m := mset c.m r v 0 }
def getW (c : Core) (r : Nat) : BitVec 8192 := mgetD c.w r 0
def setW (r : Nat) (v : BitVec 8192) (c : Core) : Core := { c with w := mset c.w r v 0 }
def accKey (a i j : Nat) : Nat := 4096 * a + 64 * i + j
def getAcc (c : Core) (a i j : Nat) : BitVec 32 := mgetD c.acc (accKey a i j) 0
def setAcc (a i j : Nat) (v : BitVec 32) (c : Core) : Core := { c with acc := mset c.acc (accKey a i j) v 0 }

/-- A wide register's bytes, byte 0 first. -/
def wBytes (v : BitVec 8192) : Bytes := leBytes 1024 v.toNat
def wOfBytes (b : Bytes) : BitVec 8192 := BitVec.ofNat 8192 (leNat b)

/-! ### Local store (R259, R271) -/

/-- 8 MiB of local store. -/
def lsSize : Nat := 8388608

/-- A local-store address: X[BASE] + IMM modulo 2^64, row `r` at STRIDE spacing. -/
def descAddr (c : Core) (d : Desc) (r : Nat) : Nat :=
  ((getX c d.base.toNat).toNat + d.imm.toNat + r * d.stride.toNat) % 2 ^ 64

/-- An extent: address and length. -/
abbrev Extent := Nat × Nat

/-- Whether every byte of every extent lies in local store. -/
def lsOk (es : List Extent) : Bool := es.all (fun e => decide (e.1 + e.2 ≤ lsSize))

/-- The first poison mark that a read of extents meets: fault code and address (R271). -/
def lsPoison (c : Core) : List Extent → Option (Nat × Nat)
  | [] => none
  | (a, n) :: es =>
    match ((List.range ((a + n + 63) / 64 - a / 64)).map (· + a / 64)).findSome? (fun l => (mget c.lsMark l).map (fun k => (k.toNat, 64 * l))) with
    | some p => if n = 0 then lsPoison c es else some p
    | none => lsPoison c es

/-- A read of local store. -/
def lsRead (c : Core) (a n : Nat) : Bytes := mread c.ls a n

/-- A write of local store: a write to a whole line removes its mark. -/
def lsWrite (a : Nat) (b : Bytes) (c : Core) : Core :=
  { c with ls := mwrite c.ls a b,
           lsMark := c.lsMark.filter (fun e => !(decide (a ≤ 64 * e.1) && decide (64 * e.1 + 64 ≤ a + b.length))) }

/-- Mark the lines of an extent with a fault code. -/
def lsPoisonAt (a n code : Nat) (c : Core) : Core :=
  { c with lsMark := ((List.range ((a + n + 63) / 64 - a / 64)).map (· + a / 64)).foldl (fun m l => mput m l (BitVec.ofNat 8 code)) c.lsMark }

/-! ### Binary floating point -/

/-- A format: exponent bits and fraction bits. -/
structure FpFmt where
  eb : Nat
  fb : Nat

def fmt32 : FpFmt := { eb := 8, fb := 23 }
def fmt16 : FpFmt := { eb := 8, fb := 7 }

/-- A value: NaN, an infinity, or a signed m × 2^e. -/
inductive Fp where | nan | inf (neg : Bool) | fin (neg : Bool) (m : Nat) (e : Int)
  deriving DecidableEq, Repr

def FpFmt.bias (f : FpFmt) : Int := 2 ^ (f.eb - 1) - 1
/-- The exponent of a subnormal's unit. -/
def FpFmt.emin (f : FpFmt) : Int := 1 - f.bias - f.fb

/-- The value of a bit pattern; with `flush`, a subnormal reads as a zero of its sign (R264). -/
def fpOf (f : FpFmt) (flush : Bool) (b : Nat) : Fp :=
  let fr := b % 2 ^ f.fb
  let ex := b / 2 ^ f.fb % 2 ^ f.eb
  let neg := decide (b / 2 ^ (f.fb + f.eb) % 2 = 1)
  if ex = 2 ^ f.eb - 1 then (if fr = 0 then .inf neg else .nan)
  else if ex = 0 then .fin neg (if flush then 0 else fr) f.emin
  else .fin neg (fr + 2 ^ f.fb) (f.emin + (ex - 1))

/-- m / 2^k rounded to nearest, ties to even. -/
def rne (m k : Nat) : Nat :=
  let q := m / 2 ^ k
  let r := m % 2 ^ k
  if k = 0 then m else if 2 ^ (k - 1) < r ∨ (r = 2 ^ (k - 1) ∧ q % 2 = 1) then q + 1 else q

/-- The bit pattern of a value rounded to nearest even; `nan` is the pattern of a NaN; with `flush`, a subnormal result
becomes a zero of its sign. -/
def fpRound (f : FpFmt) (flush : Bool) (nan : Nat) : Fp → Nat
  | .nan => nan
  | .inf neg => (if neg then 2 ^ (f.fb + f.eb) else 0) + (2 ^ f.eb - 1) * 2 ^ f.fb
  | .fin neg m e =>
    let sg := if neg then 2 ^ (f.fb + f.eb) else 0
    if m = 0 then sg
    else
      let top : Int := e + Nat.log2 m - f.fb
      let u : Int := if top < f.emin then f.emin else top
      let q : Nat := if e < u then rne m (u - e).toNat else m * 2 ^ (e - u).toNat
      let u1 : Int := if q = 2 ^ (f.fb + 1) then u + 1 else u
      let q1 : Nat := if q = 2 ^ (f.fb + 1) then 2 ^ f.fb else q
      if q1 < 2 ^ f.fb then (if flush then sg else sg + q1)
      else
        let ex : Nat := (u1 - f.emin + 1).toNat
        if 2 ^ f.eb - 1 ≤ ex then sg + (2 ^ f.eb - 1) * 2 ^ f.fb else sg + ex * 2 ^ f.fb + (q1 - 2 ^ f.fb)

def fpNeg : Fp → Fp | .nan => .nan | .inf n => .inf (!n) | .fin n m e => .fin (!n) m e

/-- The exact sum; an exact zero is +0 but for the sum of two −0. -/
def fpAdd : Fp → Fp → Fp
  | .nan, _ | _, .nan => .nan
  | .inf a, .inf b => if a = b then .inf a else .nan
  | .inf a, _ => .inf a
  | _, .inf b => .inf b
  | .fin a m e, .fin b n g =>
    let lo := min e g
    let x : Int := m * 2 ^ (e - lo).toNat
    let y : Int := n * 2 ^ (g - lo).toNat
    let t := (if a then -x else x) + (if b then -y else y)
    if t = 0 then .fin (a && b) 0 lo else .fin (decide (t < 0)) t.natAbs lo

/-- The exact product. -/
def fpMul : Fp → Fp → Fp
  | .nan, _ | _, .nan => .nan
  | .inf a, .inf b => .inf (a != b)
  | .inf a, .fin b n _ => if n = 0 then .nan else .inf (a != b)
  | .fin a m _, .inf b => if m = 0 then .nan else .inf (a != b)
  | .fin a m e, .fin b n g => .fin (a != b) (m * n) (e + g)

/-- Whether a value is greater than another; false with a NaN. -/
def fpGt : Fp → Fp → Bool
  | .nan, _ | _, .nan => false
  | .inf a, .inf b => !a && b
  | .inf a, _ => !a
  | _, .inf b => b
  | x, y => match fpAdd x (fpNeg y) with | .fin neg m _ => !neg && m != 0 | _ => false

/-- Whether two values are equal; zeros of either sign are. -/
def fpEq : Fp → Fp → Bool
  | .nan, _ | _, .nan => false
  | .inf a, .inf b => a == b
  | .fin a m e, .fin b n g => match fpAdd (.fin a m e) (.fin (!b) n g) with | .fin _ k _ => k == 0 | _ => false
  | _, _ => false

def isZero : Fp → Bool | .fin _ m _ => m == 0 | _ => false

/-! ### Lanes -/

/-- The signed value of `w` bits. -/
def sgn (w n : Nat) : Int := if 2 ^ (w - 1) ≤ n % 2 ^ w then (n % 2 ^ w : Nat) - (2 ^ w : Nat) else (n % 2 ^ w : Nat)
/-- The low `w` bits of an integer. -/
def wrapTo (w : Nat) (z : Int) : Nat := (z % (2 ^ w : Nat)).toNat
/-- An integer saturated between two bounds. -/
def clamp (lo hi z : Int) : Int := if z < lo then lo else if hi < z then hi else z
/-- Saturation to an output type (R263, R264): DTYPE 0 int8, 1 uint8, 3 int32. -/
def satTo (dtype : Nat) (z : Int) : Nat :=
  if dtype = 0 then wrapTo 8 (clamp (-128) 127 z) else if dtype = 1 then wrapTo 8 (clamp 0 255 z)
  else wrapTo 32 (clamp (-(2 ^ 31)) (2 ^ 31 - 1) z)

/-- Lane width in bits of a DTYPE. -/
def laneBits (dtype : Nat) : Nat := if dtype ≤ 1 then 8 else if dtype = 2 then 16 else 32
/-- Lane `i` of a wide register. -/
def lane (v : BitVec 8192) (bits i : Nat) : Nat := (v.extractLsb' (bits * i) bits).toNat
/-- A wide register from lanes, lane 0 first. -/
def ofLanes (bits : Nat) (ls : List Nat) : BitVec 8192 :=
  BitVec.ofNat 8192 (ls.foldr (fun n a => n % 2 ^ bits + a * 2 ^ bits) 0)

/-- The float format of a DTYPE and its canonical NaN (R264). -/
def fmtOf (dtype : Nat) : FpFmt := if dtype = 2 then fmt16 else fmt32
def canonNaN (dtype : Nat) : Nat := if dtype = 2 then 0x7FC0 else 0x7FC00000

/-- Whether a DTYPE is a float type. -/
def isFloat (dtype : Nat) : Bool := dtype == 2 || dtype == 4

/-- The value of an integer lane. -/
def laneInt (dtype n : Nat) : Int := if dtype = 1 then (n : Int) else sgn (laneBits dtype) n

/-- The lane operations of Table 11-7. -/
inductive LaneOp where | add | sub | mul | max | min | gt | eq
  deriving DecidableEq, Repr

/-- A float VMAX or VMIN: with a NaN operand, or with zeros of both signs, the value is open (`open_`). -/
def fpPick (op : LaneOp) (dtype open_ a b : Nat) : Nat :=
  let x := fpOf (fmtOf dtype) true a
  let y := fpOf (fmtOf dtype) true b
  if x = .nan ∨ y = .nan then open_ % 2 ^ laneBits dtype
  else
    let px := fpRound (fmtOf dtype) true (canonNaN dtype) x
    let py := fpRound (fmtOf dtype) true (canonNaN dtype) y
    if isZero x ∧ isZero y then (if open_ % 2 = 0 then px else py)
    else if (if op = .max then fpGt x y else fpGt y x) then px else py

/-- One lane of a vector operation (R264). -/
def laneOp (op : LaneOp) (dtype open_ a b : Nat) : Nat :=
  if isFloat dtype then
    let f := fmtOf dtype
    let x := fpOf f true a
    let y := fpOf f true b
    match op with
    | .add => fpRound f true (canonNaN dtype) (fpAdd x y)
    | .sub => fpRound f true (canonNaN dtype) (fpAdd x (fpNeg y))
    | .mul => fpRound f true (canonNaN dtype) (fpMul x y)
    | .max | .min => fpPick op dtype open_ a b
    | .gt => if fpGt x y then 2 ^ laneBits dtype - 1 else 0
    | .eq => if fpEq x y then 2 ^ laneBits dtype - 1 else 0
  else
    let x := laneInt dtype a
    let y := laneInt dtype b
    let fit (z : Int) : Nat := if dtype = 3 then wrapTo 32 z else satTo dtype z
    match op with
    | .add => fit (x + y)
    | .sub => fit (x - y)
    | .mul => fit (x * y)
    | .max => if x < y then b else a
    | .min => if x < y then a else b
    | .gt => if y < x then 2 ^ laneBits dtype - 1 else 0
    | .eq => if x = y then 2 ^ laneBits dtype - 1 else 0

/-- VSHL and VSHR of one lane (R264). -/
def laneShift (left : Bool) (dtype sh a : Nat) : Nat :=
  let w := laneBits dtype
  if left then (if w ≤ sh then 0 else a * 2 ^ sh % 2 ^ w)
  else if dtype = 1 then a / 2 ^ sh
  else wrapTo w (laneInt dtype a / (2 ^ sh : Nat))

/-- Merge a result into a destination under the granule mask (R264). -/
def granules (mask : BitVec 64) (old new_ : BitVec 8192) : BitVec 8192 :=
  let m : BitVec 8192 := ofLanes 128 ((List.range 64).map (fun g => if mask.getLsbD g then 2 ^ 128 - 1 else 0))
  (new_ &&& m) ||| (old &&& ~~~m)

end Sys2Proof.Machine
end

