-- ==== Sys2Proof/Machine/CoreBase.lean ====
section
/-! DEFINITION. Issue, retirement and faults of a core (R257, R258, R270, R273, R450). -/

namespace Sys2Proof.Machine

/-! ### Retirement -/

/-- Bytes of a trace record; the spec names no format. -/
def traceBytes : Nat := 8

/-- A traced core writes one record into its trace area until the area is full (R450). -/
def traceWord (c : Nat) (s : State) : State :=
  let x := core s c
  match x.dbg.trace, coreHolder s c with
  | some (w, off, len, n), some p =>
    if len < n + traceBytes then s
    else
      let f := useFree s
      let r := memWrite (.host (BitVec.ofNat 7 p)) w (off + n) (leBytes traceBytes (Config.open64 f.1).toNat) f.2
      modCore c (fun k => { k with dbg := { k.dbg with trace := some (w, off, len, n + traceBytes) } }) r.1
  | _, _ => s

/-- A broad word retires: its count, a step of DEBUG_RESUME, its trace. -/
def retire (c : Nat) (s : State) : State :=
  traceWord c (modCore c (fun x =>
    let n := x.dbg.stepsLeft
    { x with counts := { x.counts with issued := satInc x.counts.issued },
             dbg := { x.dbg with stepsLeft := n - 1 },
             st := if n = 1 ∧ x.st = .run then .debugHalt else x.st }) s)

/-- Go on at a word. -/
def goTo (c pc : Nat) (s : State) : State := retire c (modCore c (fun x => { x with pc := pc }) s)

/-- Go on with the next word. -/
def nextWord (c : Nat) (s : State) : State := goTo c ((core s c).pc + 1) s

/-- A core waits; the word it waits on issues again once it runs. -/
def coreWait (c : Nat) (w : WaitFor) (s : State) : State := modCore c (fun x => { x with st := .wait, waiting := w }) s

/-! ### Faults (R270, R273) -/

/-- The limit of R273. -/
def faultLimit : Nat := 64

/-- The completion of a fault: of the entry the core holds, or of tag 0. -/
def faultRecord (c code slot : Nat) (addr : BitVec 64) (s : State) : State :=
  let x := core s c
  match coreHolder s c with
  | none => s
  | some p =>
    let none_ : WorkEntry :=
      { part := p, ring := 0, tag := 0, period := match part? s p with | some q => q.periodSeq | none => 0, x := [], outAddr := 0,
        outWin := 0, outOff := 0, outLen := 0, irq := true }
    let r : CompRec := { recordOf (logicalOf s c) (x.entry.getD none_) 0x10 1 with
      fcode := BitVec.ofNat 8 code, fslot := BitVec.ofNat 8 slot, fpc := BitVec.ofNat 32 x.pc, faddr := addr }
    let s1 := if x.entry.isSome then s
      else modRegs (fnOf p) (fun g => { g with comp := { g.comp with reserved := g.comp.reserved + 1 } }) s
    countRecord p c 0x10 (writeRecord (fnOf p) r s1)

/-- A fault of the word at PC: the completion, then entry, DEBUG_HALT under HALT_ON_FAULT, or HALTED_FAULT at the limit. -/
def coreFault (c code slot : Nat) (addr : BitVec 64) (s : State) : State :=
  let s1 := faultRecord c code slot addr s
  let open_ : Bool := match coreHolder s c with | some p => isOpenPart s p | none => false
  modCore c (fun x =>
    let n := x.faultRun + 1
    let y : Core := { x with faultRun := n, entry := none, deferTag := [], dbg := { x.dbg with stepsLeft := 0 } }
    if x.dbg.haltOnFault ∧ open_ then { y with st := .debugHalt, waiting := .none }
    else if faultLimit ≤ n then { atEntry y with st := .haltedFault }
    else atEntry y) s1

/-! ### Issue -/

/-- Issue a word of core `c`: nothing happens unless the core runs; a word beyond the program is ISTORE_RANGE, an
ill-formed one ILLEGAL. -/
def issue (c slot : Nat) (ok : Bool) (f : Core → State → State) (s : State) : State :=
  let x := core s c
  if x.st ≠ .run then s
  else if x.progLen / 32 ≤ x.pc then coreFault c 3 slot 0 s
  else if !ok then coreFault c 1 slot 0 s
  else f x s

/-- Whether a predicate lets a scalar or control operation execute (R261). -/
def predOn (x : Core) (pred : BitVec 3) (pbit : BitVec 6) (pneg : Bool) : Bool :=
  (getM x pred.toNat).getLsbD pbit.toNat != pneg

/-- After a scalar slot: the word retires with slot 3. -/
def slotDone (c : Nat) (l : SSlot) (s : State) : State := if l.slot = 3 then nextWord c s else s

/-- A scalar slot: its form, its predicate, its effect. `f` answers a core, or a fault's code and address. -/
def slotOp (c : Nat) (l : SSlot) (ok : Bool) (f : Core → Except (Nat × Nat) Core) (s : State) : State :=
  issue c l.slot.toNat ok (fun x t =>
    if predOn x l.pred l.pbit l.pneg then
      match f x with
      | .ok y => slotDone c l (setCore c y t)
      | .error e => coreFault c e.1 l.slot.toNat (BitVec.ofNat 64 e.2) t
    else slotDone c l t) s

/-- A control word: its form, its predicate, its effect. -/
def controlOp (c : Nat) (w : CWord) (ok : Bool) (f : Core → State → State) (s : State) : State :=
  issue c 0 ok (fun x t => if predOn x w.pred w.pbit w.pneg then f x t else nextWord c t) s

/-- A wide word: its form and its effect on the core, or a fault. -/
def wideOp (c : Nat) (ok : Bool) (f : Core → Except (Nat × Nat) Core) (s : State) : State :=
  issue c 0 ok (fun x t =>
    match f x with
    | .ok y => nextWord c (setCore c y t)
    | .error e => coreFault c e.1 0 (BitVec.ofNat 64 e.2) t) s

/-- Local-store extents in range, and none poisoned among those read (R259, R271). -/
def lsCheck (x : Core) (reads writes : List Extent) : Option (Nat × Nat) :=
  match (reads ++ writes).find? (fun e => decide (lsSize < e.1 + e.2)) with
  | some e => some (2, e.1)
  | none => lsPoison x reads

end Sys2Proof.Machine
end

