-- ==== Sys2Proof/Machine/Xfer.lean ====
section
/-! DEFINITION. Transfers between windows and local store (R265, R268, R271, R272). A transfer's rows are cut into pieces
of one memory line each; a piece ends with XLD_LINE_ARRIVAL or XST_RESPONSE. -/

namespace Sys2Proof.Machine

/-- Rows and bytes of a row. -/
def wRows (w : WWord) : Nat := w.mM1.toNat + 1
def wLen (w : WWord) : Nat := w.kM1.toNat + 1

/-- The pieces of one row: window offset, local-store address, length. -/
def rowPieces (wo la len : Nat) : List (Nat × Nat × Nat) :=
  (chunks wo len).map (fun k => (64 * k.1 + k.2.1, la + (64 * k.1 + k.2.1 - wo), k.2.2))

/-- The rows of a transfer: window offset and local-store address. -/
def xferRows (x : Core) (w : WWord) (dwin dls : Desc) : List (Nat × Nat) :=
  (List.range (wRows w)).map (fun r => (descAddr x dwin r, descAddr x dls r))

/-- The local-store extents of a transfer. -/
def xferExtents (rows : List (Nat × Nat)) (len : Nat) : List Extent := rows.map (fun r => (r.2, len))

/-- Checks 1–3 of Table 10-2 against the core's descriptor, for every row (R251, R265): fault code and offset. -/
def xferCheck (x : Core) (k : Nat) (write : Bool) (rows : List (Nat × Nat)) (len : Nat) : Option (Nat × Nat) :=
  let w := Wd.ofBits (mgetD x.wd k 0)
  rows.findSome? (fun r =>
    if !w.valid then some (0x11, r.1)
    else if !(if write then w.write else w.read) then some (0x12, r.1)
    else if w.size * 2 ^ 21 < r.1 + len then some (0x13, r.1)
    else none)

/-- The numbered lines of a transfer. -/
def xferLines (rows : List (Nat × Nat)) (len : Nat) (bytes : Nat → Nat → Bytes) : List XferLine :=
  let ps := rows.flatMap (fun r => rowPieces r.1 r.2 len)
  ((List.range ps.length).zip ps).map (fun e =>
    { idx := e.1, off := e.2.1, ls := e.2.2.1, len := e.2.2.2, data := bytes e.2.2.1 e.2.2.2 })

/-- The mask of a tag. -/
def tagBit (t : BitVec 4) : BitVec 16 := BitVec.ofNat 16 (2 ^ t.toNat)

/-- Whether a transfer under a tag of a mask is outstanding. -/
def xferOut (x : Core) (m : BitVec 16) : Bool := x.xfers.any (fun f => m.getLsbD f.tag.toNat)

/-- Whether an XST has no response yet. -/
def xstOut (x : Core) : Bool := x.xfers.any (·.isSt)

/-- End the wait of a core whose transfers have completed. -/
def xferWake (c : Nat) (s : State) : State :=
  let x := core s c
  match x.waiting with
  | .transfers m => if xferOut x m then s else wakeCore c s
  | .fence => if xstOut x then s else wakeCore c s
  | _ => s

/-- The line of a transfer has its answer. -/
def xferEnd (c : Nat) (tag : BitVec 4) (isSt : Bool) (idx : Nat) (s : State) : State :=
  let cut (f : Xfer) : Option Xfer :=
    if f.tag = tag ∧ f.isSt = isSt then
      let rs := f.rows.filter (fun r => r.idx != idx)
      if rs = [] then none else some { f with rows := rs }
    else some f
  xferWake c (modCore c (fun x => { x with xfers := x.xfers.filterMap cut }) s)

/-- Record a deferred fault (R272). -/
def defer (c code : Nat) (tag : BitVec 4) (s : State) : State :=
  modCore c (fun x => { x with lastDefer := BitVec.ofNat 64 (0x10 + code), deferTag := x.deferTag ++ [tag] }) s

/-- The first outstanding line of a transfer with an index. -/
def xferFind (x : Core) (tag : BitVec 4) (isSt : Bool) (idx : Nat) : Option (Xfer × XferLine) :=
  (x.xfers.find? (fun f => f.tag == tag && f.isSt == isSt)).bind (fun f =>
    (f.rows.find? (fun r => r.idx == idx)).map (fun r => (f, r)))

/-- XLD (R265). -/
def xld (c : Nat) (w : WWord) (s : State) : State :=
  issue c 0 (wUnused { m := true, k := true, nospec := true, cache := true } w && descWin w.da && descNone w.db && descLs w.dd &&
      w.cache != 3) (fun x t =>
    let rows := xferRows x w w.da w.dd
    if xferOut x (tagBit w.xtag) then coreWait c (.transfers (tagBit w.xtag)) t
    else match lsCheck x [] (xferExtents rows (wLen w)) with
    | some e => coreFault c e.1 0 (BitVec.ofNat 64 e.2) t
    | none =>
      match xferCheck x w.da.win.toNat false rows (wLen w) with
      | some e => coreFault c e.1 0 (BitVec.ofNat 64 e.2) t
      | none =>
        let f : Xfer := { tag := w.xtag, isSt := false, win := w.da.win.toNat, cache := w.cache,
                          rows := xferLines rows (wLen w) (fun _ _ => []) }
        nextWord c (modCore c (fun k => { k with xfers := k.xfers ++ [f] }) t)) s

/-- Whether a transfer's lines go through the partition's L2 ways of the tile (R204, R268). -/
def cached (s : State) (c p : Nat) (cache : BitVec 2) : Bool := cache != 2 && hasWay s (c / 16) p

/-- The aligned line of a window offset, read into the partition's ways. -/
def l2Fill (c p k off : Nat) (s : State) : State × Nat × Bytes :=
  let g := resolve s (.core (BitVec.ofNat 7 c)) k
  let r := memRead (.core (BitVec.ofNat 7 c)) k (64 * (off / 64)) 64 s
  if r.2.1 ≠ 0 then r
  else
    (l2Put { tile := c / 16, part := p, stack := g.wd.stack, line := gateAddr g off / 64, dirty := false, poison := false,
             data := r.2.2 } r.1, 0, r.2.2)

/-- Snoop the other tiles that hold a tracked line; true where none does. -/
def othersGone (n line t : Nat) (write : Bool) (s : State) : State × Bool :=
  match mget s.q.dir (dirKey n line) with
  | none => (s, true)
  | some d =>
    let os := otherTiles d t
    if os = [] ∨ (d.st = .s ∧ !write) then (s, true)
    else (os.foldl (fun u o => sendSnoop (dirKey n line) o (d.st == .m && !write) u) s, false)

/-- What a line of an XLD gets: nothing yet, or a code and its bytes. -/
def lineData (c p : Nat) (f : Xfer) (r : XferLine) (s : State) : State × Option (Nat × Bytes) :=
  let g := resolve s (.core (BitVec.ofNat 7 c)) f.win
  let n := g.wd.stack
  let line := gateAddr g r.off / 64
  let t := c / 16
  let pre := match xferCheck (core s c) f.win false [(r.off, r.ls)] r.len with | some e => e.1 - 0x10 | none => 0
  let take (b : Bytes) : Option (Nat × Bytes) := some (0, slice b (r.off % 64) r.len)
  if pre ≠ 0 then (s, some (pre, []))
  else if cached s c p f.cache then
    match l2Find s t p n line with
    | some l => (s, if l.poison then some (4, []) else take l.data)
    | none =>
      if tracked s p f.win r.off then
        let s1 := dirRead t p n line false s
        (s1, match l2Find s1 t p n line with | some l => take l.data | none => none)
      else
        let q := l2Fill c p f.win r.off s
        (q.1, if q.2.1 ≠ 0 then some (q.2.1, []) else take q.2.2)
  else
    let o : State × Bool := if tracked s p f.win r.off then othersGone n line t false s else (s, true)
    if !o.2 then (o.1, none)
    else
      let q := memRead (.core (BitVec.ofNat 7 c)) f.win r.off r.len o.1
      (q.1, some (q.2.1, q.2.2))

/-- XLD_LINE_ARRIVAL: a line arrives and is committed to local store, or its destination lines are marked (R271). -/
def xldArrives (c : Nat) (tag : BitVec 4) (idx : Nat) (upset : List (BitVec 30 × Bool)) (s : State) : State :=
  match xferFind (core s c) tag false idx, coreHolder s c with
  | some (f, r), some p =>
    let s1 := touch p f.win (upsetLines (resolve s (.core (BitVec.ofNat 7 c)) f.win).wd.stack upset s)
    let q := lineData c p f r s1
    match q.2 with
    | none => q.1
    | some (code, b) =>
      xferEnd c tag false idx (modCore c (if code = 0 then lsWrite r.ls b else lsPoisonAt r.ls r.len (0x10 + code)) q.1)
  | _, _ => s

/-- A line of an XST put into the partition's ways: a part line is merged into the line read through MT_n. -/
def l2Store (c p : Nat) (f : Xfer) (r : XferLine) (s : State) : State × Nat :=
  let g := resolve s (.core (BitVec.ofNat 7 c)) f.win
  let n := g.wd.stack
  let line := gateAddr g r.off / 64
  let t := c / 16
  let have_ : State × Nat × Option L2Line :=
    match l2Find s t p n line with
    | some l => (s, 0, some l)
    | none =>
      if r.len = 64 then (s, 0, some { tile := t, part := p, stack := n, line := line, dirty := true, poison := false, data := [] })
      else
        let q := l2Fill c p f.win r.off s
        (q.1, q.2.1, l2Find q.1 t p n line)
  match have_.2.2 with
  | some l =>
    let b := l.data.take (r.off % 64) ++ r.data ++ l.data.drop (r.off % 64 + r.len)
    (l2Put { l with dirty := true, poison := l.poison && r.len != 64, data := b } have_.1, 0)
  | none => (have_.1, have_.2.1)

/-- The lines of an XST that retire into L2; the others stay outstanding. -/
def xstRetire (c p : Nat) (f : Xfer) : List XferLine → State → State × List XferLine
  | [], s => (s, [])
  | r :: rs, s =>
    if cached s c p f.cache && !tracked s p f.win r.off then
      let q := l2Store c p f r s
      xstRetire c p f rs (if q.2 = 0 then q.1 else defer c q.2 f.tag q.1)
    else
      let t := xstRetire c p f rs s
      (t.1, r :: t.2)

/-- XST (R265): its local-store rows are read at retirement. -/
def xst (c : Nat) (w : WWord) (s : State) : State :=
  issue c 0 (wUnused { m := true, k := true, cache := true } w && descLs w.da && descNone w.db && descWin w.dd && w.cache != 3)
    (fun x t =>
      let rows := xferRows x w w.dd w.da
      if xferOut x (tagBit w.xtag) then coreWait c (.transfers (tagBit w.xtag)) t
      else match lsCheck x (xferExtents rows (wLen w)) [] with
      | some e => coreFault c e.1 0 (BitVec.ofNat 64 e.2) t
      | none =>
        match xferCheck x w.dd.win.toNat true rows (wLen w) with
        | some e => coreFault c e.1 0 (BitVec.ofNat 64 e.2) t
        | none =>
          let f : Xfer := { tag := w.xtag, isSt := true, win := w.dd.win.toNat, cache := w.cache,
                            rows := xferLines rows (wLen w) (lsRead x) }
          let p := (coreHolder t c).getD 0
          let r := xstRetire c p f f.rows t
          let t1 := if r.2 = [] then r.1 else modCore c (fun k => { k with xfers := k.xfers ++ [{ f with rows := r.2 }] }) r.1
          nextWord c t1) s

/-- A line of an outstanding XST reaches memory, or the owned line in L2: nothing yet, or its code. -/
def lineStore (c p : Nat) (f : Xfer) (r : XferLine) (s : State) : State × Option Nat :=
  let g := resolve s (.core (BitVec.ofNat 7 c)) f.win
  let n := g.wd.stack
  let line := gateAddr g r.off / 64
  let t := c / 16
  let key := dirKey n line
  let tr := g.wd.valid && tracked s p f.win r.off
  if tr && cached s c p f.cache then
    let owned (u : State) : Bool := match mget u.q.dir key with
      | some d => d.st == .m && d.sharers == BitVec.ofNat 8 (2 ^ t)
      | none => false
    let s1 := if owned s then s else dirRead t p n line true s
    if owned s1 ∧ (l2Find s1 t p n line).isSome then
      let q := l2Store c p f r s1
      (q.1, some q.2)
    else (s1, none)
  else
    let o : State × Bool := if tr then othersGone n line t true s else (s, true)
    if !o.2 then (o.1, none)
    else
      let q := memWrite (.core (BitVec.ofNat 7 c)) f.win r.off r.data (l2Drop t p n line o.1)
      (if tr then unshare key t q.1 else q.1, some q.2)

/-- XST_RESPONSE: the write response of a line; a refusal is a deferred fault (R272). -/
def xstResponds (c : Nat) (tag : BitVec 4) (idx : Nat) (upset : List (BitVec 30 × Bool)) (s : State) : State :=
  match xferFind (core s c) tag true idx, coreHolder s c with
  | some (f, r), some p =>
    let s1 := upsetLines (resolve s (.core (BitVec.ofNat 7 c)) f.win).wd.stack upset s
    let q := lineStore c p f r s1
    match q.2 with
    | none => q.1
    | some code => xferEnd c tag true idx (if code = 0 then q.1 else defer c code tag q.1)
  | _, _ => s

/-! ### Program reload (R67) -/

/-- The next program reload of a tile that has powered up: the sequencer reads, digests and loads the program of its
running context; an equal digest releases the core. -/
def programReload (c : BitVec 7) (upset : List (BitVec 30 × Bool)) (s : State) : State :=
  if !s.power.reload.contains c ∨ domOf s (tilePd (c.toNat / 16)) ≠ .on then s
  else
    let s1 : State := { s with power := { s.power with reload := removeFirst (· == c) s.power.reload } }
    match coreHolder s1 c.toNat with
    | none => s1
    | some p =>
      match (part? s1 p).bind (fun x => (mget x.ctxs x.running).bind (fun y => bindOf y c.toNat)) with
      | none => s1
      | some b =>
        let n := match b with | .program _ w _ _ _ => (resolve s1 (.host (BitVec.ofNat 7 p)) w).wd.stack | _ => 0
        let t := reloadProgram p c.toNat b (upsetLines n upset s1)
        if (core t c.toNat).verified then releaseCore c.toNat t
        else modCore c.toNat (fun x => { x with st := .unassigned }) t

/-! ### Commands -/

/-- XLD (R265). -/
def execXld (c : BitVec 7) (w : WWord) (s : State) : Answer := done s (xld c.toNat w s)

/-- XLD_LINE_ARRIVAL (R271). -/
def execXldLineArrival (c : BitVec 7) (tag : BitVec 4) (index : BitVec 16) (upset : List (BitVec 30 × Bool)) (s : State) : Answer :=
  done s (xldArrives c.toNat tag index.toNat upset s)

/-- XST (R265). -/
def execXst (c : BitVec 7) (w : WWord) (s : State) : Answer := done s (xst c.toNat w s)

/-- XST_RESPONSE (R272). -/
def execXstResponse (c : BitVec 7) (tag : BitVec 4) (index : BitVec 16) (upset : List (BitVec 30 × Bool)) (s : State) : Answer :=
  done s (xstResponds c.toNat tag index.toNat upset s)

/-- PROGRAM_RELOAD (R67). -/
def execProgramReload (c : BitVec 7) (upset : List (BitVec 30 × Bool)) (s : State) : Answer := done s (programReload c upset s)

end Sys2Proof.Machine
end

