-- ==== Sys2Proof/Machine/Control.lean ====
section
/-! DEFINITION. The control operations of Table 11-9: branches, entries, tokens, fences (R260, R261, R266, R272, R274,
R283, R284, R290). -/

namespace Sys2Proof.Machine

/-- COND of a branch (Table 11-6). -/
def condHolds (cond : BitVec 3) (a b : BitVec 64) : Bool :=
  match cond.toNat with
  | 0 => true
  | 1 => a == b
  | 2 => a != b
  | 3 => decide (a.toInt < b.toInt)
  | 4 => decide (b.toInt ≤ a.toInt)
  | 5 => decide (a.toNat < b.toNat)
  | _ => decide (b.toNat ≤ a.toNat)

/-- The word at a signed offset from this one; a negative index lies beyond every program. -/
def targetPc (pc : Nat) (t : BitVec 24) : Nat :=
  let v : Int := pc + t.toInt
  if v < 0 then 2 ^ 63 else v.toNat

/-- The branch predictors hold something. -/
def predicted (c : Nat) (s : State) : State := modCore c (fun x => { x with warm := true }) s

/-- BR. -/
def branch (c : Nat) (w : CWord) (s : State) : State :=
  controlOp c w (cUnused { ra := true, rb := true, cond := true, target := true } w) (fun x t =>
    if condHolds w.cond (getX x w.ra.toNat) (getX x w.rb.toNat) then goTo c (targetPc x.pc w.target) (predicted c t)
    else nextWord c (predicted c t)) s

/-- CALL. -/
def callOp (c : Nat) (w : CWord) (s : State) : State :=
  controlOp c w (cUnused { target := true } w) (fun x t =>
    if 64 ≤ x.rstack.length then coreFault c 4 0 0 t
    else goTo c (targetPc x.pc w.target) (predicted c (modCore c (fun k => { k with rstack := (k.pc + 1) :: k.rstack }) t))) s

/-- RET. -/
def retOp (c : Nat) (w : CWord) (s : State) : State :=
  controlOp c w (cUnused {} w) (fun x t =>
    match x.rstack with
    | [] => coreFault c 4 0 0 t
    | a :: as => goTo c a (predicted c (modCore c (fun k => { k with rstack := as }) t))) s

/-- JR. -/
def jrOp (c : Nat) (w : CWord) (s : State) : State :=
  controlOp c w (cUnused { ra := true } w) (fun x t => goTo c (getX x w.ra.toNat).toNat (predicted c t)) s

/-- X24–X31 from an entry (Table 12-4). -/
def loadEntry (e : WorkEntry) (x : Core) : Core :=
  { (List.range 8).foldl (fun y i => setX (24 + i) (e.x.getD i 0) y) x with entry := some e }

/-- QTAKE (R283): the next entry of a period that has begun; a core that holds an entry waits for the queue too. -/
def qtake (c : Nat) (w : CWord) (s : State) : State :=
  controlOp c w (cUnused {} w) (fun x t =>
    let seq : BitVec 64 := match (coreHolder t c).bind (part? t) with | some q => q.periodSeq | none => 0
    match x.queue.find? (fun e => decide (e.period.toNat ≤ seq.toNat)) with
    | some e =>
      if x.entry.isSome then coreWait c .queue t
      else nextWord c (modCore c (fun k => loadEntry e { k with queue := removeFirst (fun z => z == e) k.queue }) t)
    | none => coreWait c .queue t) s

/-- Raise the deferred fault that is pending; its address is not stated. -/
def raiseDeferred (c : Nat) (s : State) : State :=
  let f := useFree s
  coreFault c (core s c).lastDefer.toNat 0 (Config.open64 f.1) f.2

/-- What waits for the write responses of every earlier XST and then raises a deferred fault (R266, R272). -/
def afterStores (c : Nat) (f : State → State) (s : State) : State :=
  let x := core s c
  if xstOut x then coreWait c .fence s
  else if x.deferTag ≠ [] then raiseDeferred c s
  else f s

/-- Commit an entry: its output copy begins, or a length beyond OUT_CAP makes its completion MALFORMED (R284). -/
def commit (c : Nat) (e : WorkEntry) (res : BitVec 64) (s : State) : State :=
  let len := res.extractLsb' 0 32
  let r : CompRec := { recordOf (logicalOf s c) e 0 1 with outLen := len, result := res.extractLsb' 32 32 }
  if e.outLen < len.toNat then writeRecord (fnOf e.part) { r with status := 3, outLen := 0 } s
  else
    let lost := len ≠ 0 ∧ windowOf s e.part e.outWin = none
    let o : OutCopy := { fn := fnOf e.part, part := e.part, win := e.outWin, off := e.outOff, len := len.toNat,
                         addr := e.outAddr, lost := decide lost, record := r }
    { s with q := { s.q with outs := s.q.outs ++ [o] } }

/-- QDONE (R284). -/
def qdone (c : Nat) (w : CWord) (s : State) : State :=
  controlOp c w (cUnused { ra := true } w) (fun x t =>
    afterStores c (fun u =>
      match x.entry with
      | none => coreFault c 5 0 0 u
      | some e => nextWord c (commit c e (getX x w.ra.toNat) (modCore c (fun k => { k with entry := none, faultRun := 0 }) u))) t) s

/-- The token X[RA] + IMM16, if the core's partition holds it. -/
def tokenAt (s : State) (c : Nat) (x : Core) (w : CWord) : Option (Nat × Token) :=
  let n := (getX x w.ra.toNat + w.imm16.zeroExtend 64).toNat
  match coreHolder s c with
  | some p => if n < 4096 ∧ (resOf s 4 n).st = .held p then (mget s.q.tokens n).map (fun k => (n, k)) else none
  | none => none

/-- TWAIT and TTRY: take 1 where the count is not zero (R290). -/
def takeToken (c : Nat) (w : CWord) (empty : Nat → Token → State → State) (s : State) : State :=
  let x := core s c
  match tokenAt s c x w with
  | none => coreFault c 0x20 0 0 s
  | some (n, k) =>
    if k.proxy then coreFault c 0x20 0 0 s
    else if k.count = 0 then empty n k s
    else nextWord c (modCore c (setX w.rd.toNat 0) (setToken n { k with count := k.count - 1 } s))

/-- TWAIT. -/
def twait (c : Nat) (w : CWord) (s : State) : State :=
  controlOp c w (cUnused { ra := true, rd := true, imm := true } w) (fun _ t =>
    takeToken c w (fun n k u => coreWait c (.token n w.rd) (setToken n { k with waiters := k.waiters ++ [c] } u)) t) s

/-- TTRY. -/
def ttry (c : Nat) (w : CWord) (s : State) : State :=
  controlOp c w (cUnused { ra := true, rd := true, imm := true } w) (fun _ t =>
    afterStores c (takeToken c w (fun _ _ u => nextWord c (modCore c (setX w.rd.toNat 2) u))) t) s

/-- TSIG. -/
def tsig (c : Nat) (w : CWord) (s : State) : State :=
  controlOp c w (cUnused { ra := true, rb := true, imm := true } w) (fun x t =>
    afterStores c (fun u =>
      match tokenAt u c x w with
      | none => coreFault c 0x20 0 0 u
      | some (n, _) => nextWord c (signalToken n ((getX x w.rb.toNat).truncate 32) u)) t) s

/-- FENCE. -/
def fenceOp (c : Nat) (w : CWord) (s : State) : State :=
  controlOp c w (cUnused {} w) (fun _ t => afterStores c (nextWord c) t) s

/-- XWAIT: every transfer whose tag is set in IMM16 has completed (R265); a deferred fault of one of them is raised. -/
def xwait (c : Nat) (w : CWord) (s : State) : State :=
  controlOp c w (cUnused { imm := true } w) (fun x t =>
    if xferOut x w.imm16 then coreWait c (.transfers w.imm16) t
    else if x.deferTag.any (fun g => w.imm16.getLsbD g.toNat) then raiseDeferred c t
    else nextWord c t) s

/-- L2WB: the partition's dirty lines on this tile are written back and kept (R269). -/
def l2wb (c : Nat) (w : CWord) (s : State) : State :=
  controlOp c w (cUnused {} w) (fun _ t =>
    let p := (coreHolder t c).getD 0
    nextWord c ((t.mem.l2.filter (fun l => l.tile == c / 16 && l.part == p && l.dirty)).foldl (fun u l => cleanLine l u) t)) s

/-! ### Commands -/

/-- CNOP. -/
def execCnop (c : BitVec 7) (i : CWord) (s : State) : Answer :=
  done s (controlOp c.toNat i (cUnused {} i) (fun _ t => nextWord c.toNat t) s)
/-- BR. -/
def execBr (c : BitVec 7) (i : CWord) (s : State) : Answer := done s (branch c.toNat i s)
/-- CALL. -/
def execCall (c : BitVec 7) (i : CWord) (s : State) : Answer := done s (callOp c.toNat i s)
/-- RET. -/
def execRet (c : BitVec 7) (i : CWord) (s : State) : Answer := done s (retOp c.toNat i s)
/-- JR. -/
def execJr (c : BitVec 7) (i : CWord) (s : State) : Answer := done s (jrOp c.toNat i s)
/-- QTAKE. -/
def execQtake (c : BitVec 7) (i : CWord) (s : State) : Answer := done s (qtake c.toNat i s)
/-- QDONE. -/
def execQdone (c : BitVec 7) (i : CWord) (s : State) : Answer := done s (qdone c.toNat i s)
/-- TWAIT. -/
def execTwait (c : BitVec 7) (i : CWord) (s : State) : Answer := done s (twait c.toNat i s)
/-- TSIG. -/
def execTsig (c : BitVec 7) (i : CWord) (s : State) : Answer := done s (tsig c.toNat i s)
/-- TTRY. -/
def execTtry (c : BitVec 7) (i : CWord) (s : State) : Answer := done s (ttry c.toNat i s)
/-- FENCE. -/
def execFence (c : BitVec 7) (i : CWord) (s : State) : Answer := done s (fenceOp c.toNat i s)
/-- XWAIT. -/
def execXwait (c : BitVec 7) (i : CWord) (s : State) : Answer := done s (xwait c.toNat i s)
/-- L2WB. -/
def execL2wb (c : BitVec 7) (i : CWord) (s : State) : Answer := done s (l2wb c.toNat i s)

end Sys2Proof.Machine
end

