-- ==== Sys2Proof/Machine/Scalar.lean ====
section
/-! DEFINITION. The scalar operations of Table 11-8. -/

namespace Sys2Proof.Machine

/-- Operand B: X[RB], or the sign-extended IMM. -/
def bVal (x : Core) (l : SSlot) : BitVec 64 := if l.immsel then l.imm.signExtend 64 else getX x l.rb.toNat

/-- RD ← RA op B. -/
def aluOp (c : Nat) (l : SSlot) (op : BitVec 64 → BitVec 64 → BitVec 64) (s : State) : State :=
  slotOp c l (sUnused { rd := true, ra := true, b := true } l) (fun x => .ok (setX l.rd.toNat (op (getX x l.ra.toNat) (bVal x l)) x)) s

/-- A truth value in a register. -/
def flag (b : Bool) : BitVec 64 := if b then 1 else 0

/-- The high 64 bits of a signed product. -/
def mulHigh (a b : BitVec 64) : BitVec 64 := BitVec.ofInt 64 (a.toInt * b.toInt / (2 ^ 64 : Int))

/-- The address of LDS and STS. -/
def scalarAddr (x : Core) (l : SSlot) : Nat := (getX x l.ra.toNat + l.imm.signExtend 64).toNat

/-- The read of a core status register (Table 11-2). CYCLES advances by an amount the spec does not fix, at least 1. -/
def readCsr (s : State) (c i : Nat) : BitVec 64 × State :=
  let x := core s c
  let q := (coreHolder s c).bind (part? s)
  let conf : Bool := match q with | some y => y.mode == .confidential | none => false
  if i = 0 then (BitVec.ofNat 64 c, s)
  else if i = 1 then (BitVec.ofNat 64 ((coreHolder s c).getD 0), s)
  else if i = 2 then (BitVec.ofNat 64 (match q with | some y => y.running | none => 0), s)
  else if i = 3 then (match q with | some y => y.periodSeq | none => 0, s)
  else if i = 4 then
    let f := useFree s
    let v := x.cycles + 1 + BitVec.ofNat 64 ((Config.open64 f.1).toNat % 2 ^ 31)
    (if conf then v &&& 0xFFFFFFFFFFFFFC00#64 else v, modCore c (fun k => { k with cycles := v }) f.2)
  else if i = 5 then (BitVec.ofNat 64 (match q with | some y => if conf then y.level else x.step | none => 0), s)
  else if i = 6 then (x.lastDefer, s)
  else (0, s)

/-! ### Commands -/

/-- SNOP. -/
def execSnop (c : BitVec 7) (i : SSlot) (s : State) : Answer := done s (slotOp c.toNat i (sUnused {} i) (fun x => .ok x) s)
/-- ADD. -/
def execAdd (c : BitVec 7) (i : SSlot) (s : State) : Answer := done s (aluOp c.toNat i (· + ·) s)
/-- SUB. -/
def execSub (c : BitVec 7) (i : SSlot) (s : State) : Answer := done s (aluOp c.toNat i (· - ·) s)
/-- MUL. -/
def execMul (c : BitVec 7) (i : SSlot) (s : State) : Answer := done s (aluOp c.toNat i (· * ·) s)
/-- MULH. -/
def execMulh (c : BitVec 7) (i : SSlot) (s : State) : Answer := done s (aluOp c.toNat i mulHigh s)
/-- AND. -/
def execAnd (c : BitVec 7) (i : SSlot) (s : State) : Answer := done s (aluOp c.toNat i (· &&& ·) s)
/-- OR. -/
def execOr (c : BitVec 7) (i : SSlot) (s : State) : Answer := done s (aluOp c.toNat i (· ||| ·) s)
/-- XOR. -/
def execXor (c : BitVec 7) (i : SSlot) (s : State) : Answer := done s (aluOp c.toNat i (· ^^^ ·) s)
/-- SHL. -/
def execShl (c : BitVec 7) (i : SSlot) (s : State) : Answer := done s (aluOp c.toNat i (fun a b => a <<< (b.toNat % 64)) s)
/-- SHR. -/
def execShr (c : BitVec 7) (i : SSlot) (s : State) : Answer := done s (aluOp c.toNat i (fun a b => a >>> (b.toNat % 64)) s)
/-- SAR. -/
def execSar (c : BitVec 7) (i : SSlot) (s : State) : Answer := done s (aluOp c.toNat i (fun a b => a.sshiftRight (b.toNat % 64)) s)
/-- MIN. -/
def execMin (c : BitVec 7) (i : SSlot) (s : State) : Answer := done s (aluOp c.toNat i (fun a b => if b.slt a then b else a) s)
/-- MAX. -/
def execMax (c : BitVec 7) (i : SSlot) (s : State) : Answer := done s (aluOp c.toNat i (fun a b => if a.slt b then b else a) s)
/-- SLT. -/
def execSlt (c : BitVec 7) (i : SSlot) (s : State) : Answer := done s (aluOp c.toNat i (fun a b => flag (a.slt b)) s)
/-- SLTU. -/
def execSltu (c : BitVec 7) (i : SSlot) (s : State) : Answer := done s (aluOp c.toNat i (fun a b => flag (a.ult b)) s)
/-- SEQ. -/
def execSeq (c : BitVec 7) (i : SSlot) (s : State) : Answer := done s (aluOp c.toNat i (fun a b => flag (a == b)) s)

/-- LDI. -/
def execLdi (c : BitVec 7) (i : SSlot) (s : State) : Answer :=
  done s (slotOp c.toNat i (sUnused { rd := true, imm := true } i) (fun x => .ok (setX i.rd.toNat (i.imm.signExtend 64) x)) s)

/-- LDHI. -/
def execLdhi (c : BitVec 7) (i : SSlot) (s : State) : Answer :=
  done s (slotOp c.toNat i (sUnused { rd := true, ra := true, imm := true } i)
    (fun x => .ok (setX i.rd.toNat ((getX x i.ra.toNat &&& 0x3FFFFFFFF#64) ||| (i.imm.zeroExtend 64 <<< 34)) x)) s)

/-- LDS. -/
def execLds (c : BitVec 7) (i : SSlot) (s : State) : Answer :=
  done s (slotOp c.toNat i (sUnused { rd := true, ra := true, imm := true } i) (fun x =>
    let a := scalarAddr x i
    if a % 8 ≠ 0 then .error (2, a)
    else match lsCheck x [(a, 8)] [] with
      | some e => .error e
      | none => .ok (setX i.rd.toNat (BitVec.ofNat 64 (leNat (lsRead x a 8))) x)) s)

/-- STS. -/
def execSts (c : BitVec 7) (i : SSlot) (s : State) : Answer :=
  done s (slotOp c.toNat i (sUnused { ra := true, rb := true, imm := true } i) (fun x =>
    let a := scalarAddr x i
    if a % 8 ≠ 0 then .error (2, a)
    else match lsCheck x [] [(a, 8)] with
      | some e => .error e
      | none => .ok (lsWrite a (leBytes 8 (getX x i.rb.toNat).toNat) x)) s)

/-- MSET. -/
def execMset (c : BitVec 7) (i : SSlot) (s : State) : Answer :=
  done s (slotOp c.toNat i (sUnused { rd := true, ra := true } i && decide (i.rd.toNat < 8))
    (fun x => .ok (setM i.rd.toNat (getX x i.ra.toNat) x)) s)

/-- MGET. -/
def execMget (c : BitVec 7) (i : SSlot) (s : State) : Answer :=
  done s (slotOp c.toNat i (sUnused { rd := true, ra := true } i && decide (i.ra.toNat < 8))
    (fun x => .ok (setX i.rd.toNat (getM x i.ra.toNat) x)) s)

/-- CSRR. -/
def execCsrr (c : BitVec 7) (i : SSlot) (s : State) : Answer :=
  done s (issue c.toNat i.slot.toNat (sUnused { rd := true, imm := true } i && decide (i.imm.toNat ≤ 0xFFF)) (fun x t =>
    if predOn x i.pred i.pbit i.pneg then
      let r := readCsr t c.toNat i.imm.toNat
      slotDone c.toNat i (modCore c.toNat (setX i.rd.toNat r.1) r.2)
    else slotDone c.toNat i t) s)

end Sys2Proof.Machine
end

