-- ==== Sys2Proof/Machine/Debug.lean ====
section
/-! DEFINITION. The debug state and the debug group (R224, R225, R449, R450, Table 23-16). -/

namespace Sys2Proof.Machine

/-! ### The debug state -/

/-- DEBUG_STATE_SET (R449): OPEN only in OWNED, with no Confidential partition, bond or join set. -/
def debugStateSet (e : Env) (s : State) : State × Ans :=
  let want := p8 e 0 == 1
  if want && (decide (s.fuses.shadow.code ≠ 7) || anyConf s || s.twin.bond.isSome || s.car.join.isSome) then (s, Ans.state)
  else if want = s.parts.debugOpen then (s, Ans.ok)
  else
    let b (x : Bool) : Byte := if x then 1 else 0
    let data : Bytes := [b s.parts.debugOpen, b want]
    let s1 := extend 6 8 data (sha384 data) { s with parts := { s.parts with debugOpen := want } }
    (if want then alert 7 s1 else s1, Ans.ok)

/-! ### Cores named (R450) -/

/-- The cores of a CORES mask at an offset. -/
def coresArg (e : Env) (off : Nat) : List Nat := bitsOf (BitVec.ofNat 128 (fld e.payload off 16))
/-- No bit beyond the part. -/
def maskFits (s : State) (e : Env) (off : Nat) : List Chk := [(off, decide (fld e.payload off 16 < 2 ^ nCores s))]

/-- Why a command on some cores of TARGET is refused: a partition that does not exist, a core held by no Open partition,
or a core that another partition holds. -/
def debugRefused (s : State) (p : Nat) (cs : List Nat) : Option Ans :=
  if (part? s p).isNone then some Ans.notFound
  else if cs.any (fun c => match coreHolder s c with | some q => !isOpenPart s q | none => true) then some Ans.state
  else if cs.any (fun c => coreHolder s c != some p) then some Ans.notFound
  else none

/-- Run a body on cores that may be reached. -/
def reachable (s : State) (p : Nat) (cs : List Nat) (k : State × Ans) : State × Ans :=
  match debugRefused s p cs with | some a => (s, a) | none => k

/-- Whether a core runs, waits or is halted by debug; a STOPPED or HALTED_FAULT core reaches no broad-word boundary. -/
def coreLive (s : State) (c : Nat) : Bool :=
  match (core s c).st with | .run | .wait | .gated | .debugHalt => true | _ => false

/-- DEBUG_HALT: a word on which a core waits issues again once it resumes. -/
def debugHalt (cs : List Nat) (s : State) : State × Ans :=
  if cs.any (fun c => !coreLive s c) then (s, Ans.state)
  else
    (cs.foldl (fun t c => modCore c (fun x => { x with st := .debugHalt, waiting := .none, dbg := { x.dbg with stepsLeft := 0 } }) (unwait c t)) s,
     Ans.ok)

/-- DEBUG_RESUME: run free, or for COUNT broad words. A core whose partition or program no longer lets it run is STOPPED. -/
def debugResume (cs : List Nat) (n : Nat) (s : State) : State × Ans :=
  if cs.any (fun c => (core s c).st != .debugHalt) then (s, Ans.state)
  else
    (cs.foldl (fun t c => modCore c (fun x => { x with st := if canRun t c then .run else .stopped, dbg := { x.dbg with stepsLeft := n } }) t) s,
     Ans.ok)

/-- DEBUG_FAULT_POLICY. -/
def debugFaultPolicy (cs : List Nat) (on : Bool) (s : State) : State :=
  cs.foldl (fun t c => modCore c (fun x => { x with dbg := { x.dbg with haltOnFault := on } }) t) s

/-! ### Spaces of DEBUG_READ and DEBUG_WRITE -/

/-- The number of indexes of a SPACE and the bytes of one. PC is a word index in 4 bytes. -/
def spaceSize (sp : Nat) : Nat × Nat :=
  match sp with
  | 1 => (32, 8) | 2 => (8, 8) | 3 => (64, 1024) | 4 => (8, 16384) | 5 => (4096, 8) | 6 => (1, 4) | _ => (1, lsSize)

/-- The payload checks of a read or write. -/
def spaceChecks (s : State) (e : Env) (write : Bool) : List Chk :=
  let z := spaceSize (p8 e 1)
  [(0, decide (p8 e 0 < nCores s)), (1, decide (1 ≤ p8 e 1 ∧ p8 e 1 ≤ 7) && !(write && p8 e 1 == 5)), (2, decide (p16 e 2 < z.1)),
   (4, decide (p32 e 4 + p32 e 8 ≤ z.2))] ++ rsv e 12 4

/-- Bytes of a core's state. -/
def spaceRead (x : Core) (sp i off n : Nat) : Bytes :=
  match sp with
  | 1 => slice (leBytes 8 (getX x i).toNat) off n
  | 2 => slice (leBytes 8 (getM x i).toNat) off n
  | 3 => slice (wBytes (getW x i)) off n
  | 4 => (List.range n).map (fun k => let a := off + k; byteAt (leBytes 4 (getAcc x i (a / 4 / 64) (a / 4 % 64)).toNat) (a % 4))
  | 6 => slice (leBytes 4 x.pc) off n
  | _ => lsRead x off n

/-- Some bytes of a field replaced. -/
def overlay (b : Bytes) (off : Nat) (d : Bytes) : Bytes := b.take off ++ d ++ b.drop (off + d.length)

/-- Write bytes of a core's state. -/
def spaceWrite (sp i off : Nat) (d : Bytes) (x : Core) : Core :=
  match sp with
  | 1 => setX i (BitVec.ofNat 64 (leNat (overlay (leBytes 8 (getX x i).toNat) off d))) x
  | 2 => setM i (BitVec.ofNat 64 (leNat (overlay (leBytes 8 (getM x i).toNat) off d))) x
  | 3 => setW i (wOfBytes (overlay (wBytes (getW x i)) off d)) x
  | 4 =>
    d.zipIdx.foldl (fun y b =>
      let a := off + b.2
      let r := a / 4 / 64
      let k := a / 4 % 64
      setAcc i r k (BitVec.ofNat 32 (leNat (overlay (leBytes 4 (getAcc y i r k).toNat) (a % 4) [b.1]))) y) x
  | 6 => { x with pc := leNat (overlay (leBytes 4 x.pc) off d) }
  | _ => lsWrite off d x

/-- DEBUG_READ of a halted core: as many bytes as the reply has room for. -/
def debugRead (e : Env) (s : State) : State × Ans :=
  let c := p8 e 0
  let n := min (p32 e 8) (space s e)
  if (core s c).st ≠ .debugHalt then (s, Ans.state)
  else if p8 e 1 = 5 then
    let r := readCsr s c (p16 e 2)
    (r.2, Ans.ok (slice (leBytes 8 r.1.toNat) (p32 e 4) n))
  else (s, Ans.ok (spaceRead (core s c) (p8 e 1) (p16 e 2) (p32 e 4) n))

/-- DEBUG_WRITE of a halted core. -/
def debugWrite (e : Env) (s : State) : State × Ans :=
  let c := p8 e 0
  if (core s c).st ≠ .debugHalt then (s, Ans.state)
  else (modCore c (spaceWrite (p8 e 1) (p16 e 2) (p32 e 4) (e.payload.drop 16)) s, Ans.ok)

/-! ### Trace -/

/-- DEBUG_TRACE_SET: each named core gets an equal part of the range, in ascending core number. A window that is missing
is NOT_FOUND, one that holds more than plain data STATE, a range beyond it EXHAUSTED. -/
def debugTraceSet (e : Env) (p : Nat) (cs : List Nat) (s : State) : State × Ans :=
  let k := p8 e 16
  let setTrace (c : Nat) (v : Option (Nat × Nat × Nat × Nat)) (t : State) : State :=
    modCore c (fun x => { x with dbg := { x.dbg with trace := v } }) t
  if p8 e 17 = 0 then (cs.foldl (fun t c => setTrace c none t) s, Ans.ok)
  else match (part? s p).bind (fun x => mget x.windows k) with
    | none => (s, Ans.notFound)
    | some w =>
      let off := p64 e 24
      let part := p64 e 32 / max 1 cs.length
      if w.use ≠ .plain ∨ w.save.isSome ∨ !w.access.getLsbD 1 then (s, Ans.state)
      else if w.size * 2097152 < off + p64 e 32 then (s, Ans.exhausted)
      else (cs.zipIdx.foldl (fun t c => setTrace c.1 (some (k, off + part * c.2, part, 0)) t) s, Ans.ok)

/-! ### Meanings -/

/-- DEBUG_STATE_SET (R224, R449). -/
def execDebugStateSet (e : Env) (s : State) : Answer := done s (serve specDebugStateSet e (fun t =>
  checked ([(0, decide (p8 e 0 ≤ 1))] ++ rsv e 1 7) t (debugStateSet e t)) s)
/-- DEBUG_HALT (R450). -/
def execDebugHalt (e : Env) (s : State) : Answer := done s (serve specDebugHalt e (fun t =>
  checked (maskFits t e 0) t (reachable t e.target.toNat (coresArg e 0) (debugHalt (coresArg e 0) t))) s)
/-- DEBUG_RESUME (R450). -/
def execDebugResume (e : Env) (s : State) : Answer := done s (serve specDebugResume e (fun t =>
  checked (maskFits t e 0 ++ rsv e 18 6) t
    (reachable t e.target.toNat (coresArg e 0) (debugResume (coresArg e 0) (p16 e 16) t))) s)
/-- DEBUG_READ (R450). -/
def execDebugRead (e : Env) (s : State) : Answer := done s (serve specDebugRead e (fun t =>
  checked (spaceChecks t e false) t (reachable t e.target.toNat [p8 e 0] (debugRead e t))) s)
/-- DEBUG_WRITE (R450). -/
def execDebugWrite (e : Env) (s : State) : Answer := done s (serve specDebugWrite e (fun t =>
  checked (spaceChecks t e true) t
    (if e.payload.length ≠ 16 + p32 e 8 then (t, { Ans.malformed 0 with detail := 0xFFFFFFFF })
     else reachable t e.target.toNat [p8 e 0] (debugWrite e t))) s)
/-- DEBUG_FAULT_POLICY (R273, R450). -/
def execDebugFaultPolicy (e : Env) (s : State) : Answer := done s (serve specDebugFaultPolicy e (fun t =>
  checked (maskFits t e 0 ++ [(16, decide (p8 e 16 ≤ 1))] ++ rsv e 17 7) t
    (reachable t e.target.toNat (coresArg e 0) (debugFaultPolicy (coresArg e 0) (p8 e 16 == 1) t, Ans.ok))) s)
/-- DEBUG_TRACE_SET (R450). -/
def execDebugTraceSet (e : Env) (s : State) : Answer := done s (serve specDebugTraceSet e (fun t =>
  checked (maskFits t e 0 ++ [(16, decide (p8 e 16 < 16)), (17, decide (p8 e 17 ≤ 1))] ++ rsv e 18 6) t
    (reachable t e.target.toNat (coresArg e 0) (debugTraceSet e e.target.toNat (coresArg e 0) t))) s)

end Sys2Proof.Machine
end

