-- ==== Sys2Proof/Machine/Desk.lean ====
section
/-! DEFINITION. The parcel desk (chapter 13): parcel headers, admissions from acceptance to release, eviction, sharing
circles and the parcel group's commands. -/

namespace Sys2Proof.Machine

/-! ### Headers (R295–R298) -/

/-- [i]_64: eight bytes, big-endian. -/
def be64 (i : Nat) : Bytes := beBytes 8 i

/-- The checks of a header's fields (R296), in ascending offset. -/
def headChecks (e : Env) : List Chk :=
  let kind := p8 e 6
  let len := p64 e 8
  [(0, p32 e 0 == 0x55445043), (4, p16 e 4 == 1), (6, decide (1 ≤ kind ∧ kind ≤ 3)),
   (7, if kind = 2 then decide (p8 e 7 ≤ 1) else p8 e 7 == 0), (8, decide (64 ≤ len ∧ len ≤ 2 ^ 35 ∧ len % 64 = 0)),
   (0x10, p32 e 0x10 == ceilDiv len (2 ^ 20)), (0x60, kind == 3 || allZero (slice e.payload 0x60 48))] ++
  rsv e 0xA0 96 ++ rsv e 0x161 31 ++ rsv e 0x1E13 493

/-- The fields the device keeps of a header. -/
def parseHead (b : Bytes) : ParcelHead :=
  { kind := byteAt b 6, shareable := (byteAt b 7).getLsbD 0, plainLen := fld b 8 8, chunks := fld b 0x10 4,
    ivSalt := BitVec.ofNat 32 (beNat (slice b 0x14 4)), root := dig b 0x30, base := dig b 0x60,
    kcv := BitVec.ofNat 128 (beNat (slice b 0x90 16)), hd := sha384 (b.take 0xBA0),
    pbd := sha384 (slice b 0x100 97 ++ slice b 0x180 2592), ecPub := slice b 0x100 97, mlPub := slice b 0x180 2592,
    ecSig := slice b 0xBA0 96, mlSig := slice b 0xC00 4627, signed := b.take 0xBA0 }

/-- Both signatures of a header (R297). -/
def headSigned (h : ParcelHead) : Bool :=
  Config.ecdsaVerify h.ecPub (sha384 h.signed) h.ecSig && Config.mldsaVerify h.mlPub h.signed (ascii "U-PARCEL") h.mlSig

/-- Entries of a chunk table (R298). -/
def tableEntries : Nat → Bytes → List (Digest × BitVec 128)
  | 0, _ => []
  | n + 1, b => (dig b 0, BitVec.ofNat 128 (beNat (slice b 48 16))) :: tableEntries n (b.drop 64)

/-- Leaves of the Merkle tree over a table. -/
def merkleLeaves : Nat → Nat → Bytes → List Bytes
  | _, 0, _ => []
  | i, n + 1, b => sha384b ([0] ++ be64 i ++ b.take 64) :: merkleLeaves (i + 1) n (b.drop 64)

/-- One level of a Merkle tree; an unpaired last node moves up unchanged. -/
def merkleLevel : List Bytes → List Bytes
  | a :: b :: r => sha384b ([1] ++ a ++ b) :: merkleLevel r
  | r => r

/-- The top of a Merkle tree. -/
def merkleTop : Nat → List Bytes → Bytes
  | 0, l => l.headD []
  | n + 1, l => if l.length ≤ 1 then l.headD [] else merkleTop n (merkleLevel l)

/-- ROOT of a chunk table of `n` entries. -/
def tableRoot (n : Nat) (b : Bytes) : Digest := BitVec.ofNat 384 (beNat (merkleTop 16 (merkleLeaves 0 n b)))

/-- The GCM IV of chunk `i` (R299). -/
def chunkIv (h : ParcelHead) (i : Nat) : BitVec 96 := h.ivSalt ++ BitVec.ofNat 64 i

/-- The key confirmation value under a weight key (R299). -/
def kcvOf (h : ParcelHead) (key : BitVec 256) : BitVec 128 :=
  Config.gcmTag key (chunkIv h (2 ^ 64 - 1)) (ascii "U-KCV" ++ digBytes h.hd) []

/-! ### Windows and eviction (R301, R314, R315) -/

/-- Windows of the partition that an admission runs into. -/
def inAdmission (s : State) (p k : Nat) : Bool := s.desk.adms.any (fun a => a.part == p && a.window == k)
def residentIn (s : State) (p k : Nat) : Option Parcel :=
  s.desk.parcels.find? (fun x => x.part == p && x.window == k && x.st == .resident)

/-- Parcel windows large enough for a length, open to a context and free of an admission. -/
def parcelWindows (s : State) (x : Partition) (p c len : Nat) : List Nat :=
  (x.windows.filter (fun w => (w.2.access == 4 || w.2.exposed) && (match w.2.use with | .plain | .parcel _ _ => true | _ => false) &&
    (w.2.ctx == c || w.2.ctx == 255) && decide (len ≤ w.2.size * 2 ^ 21) && !inAdmission s p w.1)).map Prod.fst

def passports (s : State) (p : Nat) : Nat := (s.desk.parcels.filter (fun x => x.part == p && x.passport.isSome)).length

/-- What an eviction takes with it: the context's resident adapters of a base, then the parcel. -/
def evictionSet (s : State) (x : Parcel) : List Parcel :=
  s.desk.parcels.filter (fun y => y.part == x.part && y.ctx == x.ctx && y.st == .resident && y.head.kind == 3 && y.head.base == x.head.hd) ++ [x]

/-- Whether an eviction can be made: no adapter in admission, and passports for all (R315). -/
def evictable (s : State) (x : Parcel) : Bool :=
  x.circle.isNone &&
  !(s.desk.adms.any (fun a => a.part == x.part && a.ctx == x.ctx && a.head.kind == 3 && a.head.base == x.head.hd)) &&
  decide (passports s x.part + ((evictionSet s x).filter (fun y => y.passport.isNone)).length ≤ 64)

def passportOf (x : Parcel) : Passport :=
  { hd := x.head.hd, root := x.head.root, kcv := x.head.kcv, kind := x.head.kind, chunks := x.head.chunks, pbd := x.head.pbd, ctx := x.ctx }

/-- Evict one parcel: passport recorded, window back to SHADOW and cleared; it stays bound (R315). -/
def evictOne (x : Parcel) (s : State) : State :=
  let y := { x with st := .evicted, passport := some (passportOf x) }
  mirrorParcel y 3 (modParcel x.part x.ctx x.head.hd (fun _ => y) (clearParcel x.part x.window (shadow x.part x.window s)))

def evictParcel (x : Parcel) (s : State) : State := (evictionSet s x).foldl (fun t y => evictOne y t) s

/-- The parcel evicted first: lowest usage, then earliest admitted (R314). -/
def victim : List Parcel → Option Parcel
  | [] => none
  | x :: xs =>
    match victim xs with
    | none => some x
    | some y => if x.usage.toNat < y.usage.toNat ∨ (x.usage = y.usage ∧ x.admitted ≤ y.admitted) then some x else some y

/-- The window an admission takes: the lowest-numbered free one, else that of the first victim (R302 step 5). -/
def chooseWindow (s : State) (x : Partition) (p c len : Nat) : Option Nat :=
  let ws := parcelWindows s x p c len
  match ws.find? (fun k => (residentIn s p k).isNone) with
  | some k => some k
  | none => (victim (ws.filterMap (fun k => (residentIn s p k).bind (fun y => if !y.pinned && evictable s y then some y else none)))).map (·.window)

/-! ### Acceptance (R302) -/

def admitChecks (e : Env) : List Chk :=
  headChecks e ++ [(8192, decide (p8 e 8192 < 16)), (8195, decide (p8 e 8195 ≤ 1))] ++ rsv e 8196 4 ++
    [(8208, if p8 e 8195 = 1 then decide (p8 e 8208 < 32) else p8 e 8208 == 0)] ++ rsv e 8209 7

/-- The circle an admission names, where the partition is a member of it with this context and the header is its base. -/
def circleFits (s : State) (p c i : Nat) (h : ParcelHead) : Option Member :=
  (mget s.desk.circles i).bind (fun q =>
    if h.kind = 2 ∧ h.shareable ∧ h.hd = q.baseHd then q.members.find? (fun m => m.part == p && m.ctx == c) else none)

def baseState (s : State) (p c : Nat) (h : ParcelHead) (readmit : Bool) : Bool :=
  h.kind != 3 || (match parcelOf s p c h.base with | some b => b.bound && (!readmit || b.st == .resident) | none => false)

/-- PARCEL_ADMIT's body after its format check. -/
def acceptParcel (e : Env) (x : Partition) (s : State) : State × Ans :=
  let p := e.target.toNat
  let c := p8 e 8192
  let slot_ := p16 e 8193
  let h := parseHead e.payload
  let circ := if p8 e 8195 = 1 then some (p8 e 8208) else none
  let old := (parcelOf s p c h.hd).bind (fun y => if y.bound then some y else none)
  let readmit := match old with | some y => y.passport.isSome && y.st != .resident | none => false
  let mem := circ.bind (fun i => circleFits s p c i h)
  let held := (resOf s 5 slot_).st == .held p && decide (0x180 ≤ slot_) && (resOf s 5 slot_).params.toNat % 256 == c
  if isOperator e ∧ x.mode = .confidential then (s, Ans.refused)
  else if (ctxOf s e x c).isNone ∨ !held then (s, Ans.notFound)
  else if !x.policy.publishers.contains h.pbd ∨ !baseState s p c h readmit ∨ (circ.isSome ∧ mem.isNone) ∨
      (x.mode = .confidential ∧ (x.host.map (·.slotsA)).getD 0 = 0) then (s, Ans.state)
  else if (parcelOf s p c h.hd).any (fun y => y.st == .resident || y.st == .inProgress) ∨
      s.desk.adms.any (fun a => a.part == p && a.ctx == c && a.head.hd == h.hd) then (s, Ans.conflict)
  else
    match (match mem with | some m => some m.window | none => if circ.isSome then none else chooseWindow s x p c h.plainLen) with
    | none => (s, Ans.exhausted)
    | some k =>
      let n := s.desk.order
      let a : Admission :=
        { aid := n, part := p, ctx := c, head := h, slot := slot_, addr := BitVec.ofNat 64 (p64 e 8200), circle := circ, window := k,
          step := .waiting, lane := none, start := 0, startSlots := 0, key := 0, table := [], chunk := 0, hit := false,
          readmit := readmit, status := 0, detail := 0, ok := false }
      let y : Parcel :=
        { part := p, ctx := c, head := h, window := k, st := .inProgress, status := 0, detail := 0, usage := 0, touched := false,
          pinned := (old.map (·.pinned)).getD false, passport := old.bind (·.passport), admitted := n, circle := circ,
          bound := old.isSome }
      let ps := if old.isSome then s.desk.parcels.map (fun z => if isParcel p c h.hd z then y else z)
                else s.desk.parcels.filter (fun z => !isParcel p c h.hd z) ++ [y]
      ({ s with desk := { s.desk with order := n + 1, adms := s.desk.adms ++ [a], parcels := ps } },
       Ans.ok (digBytes h.hd ++ [BitVec.ofNat 8 k] ++ zeros 7))

/-! ### The steps of an admission (R303) -/

/-- A failure of Table 13-2 with its reason. -/
def failAdm (status reason : Nat) (a : Admission) (s : State) : State :=
  abandon status (reason * 2 ^ 24 + a.chunk % 2 ^ 24) a s

/-- An admission reaches RESIDENT; a fetch into a circle completes the shared hits that wait for it (R312). -/
def resident (a : Admission) (s : State) : State :=
  let done_ (y : Admission) (t : State) : State := endAdm { y with step := .done, ok := true, status := 0, detail := 0 } t
  match a.circle with
  | none => done_ a s
  | some i =>
    let hits := if a.hit then [] else s.desk.adms.filter (fun y => y.hit && y.circle == some i && y.step == .table)
    let s1 := { s with desk := { s.desk with circles := mupd s.desk.circles i (fun c => { c with resident := true }) } }
    hits.foldl (fun t y => done_ y t) (done_ a s1)

def circleResident (s : State) (i : Nat) : Bool := match mget s.desk.circles i with | some c => c.resident | none => false

/-- Step 4: the KCV under the banks that serve (R299, R143, R135), then the table, or for a shared hit the wait. -/
def keyStep (a : Admission) (s : State) : State :=
  let x := slot s a.slot
  if s.eng.seFenced then failAdm 0xFF 9 a s
  else if x.isEmpty then abandon 8 (droppedDetail a) a s
  else if !slotServesUse s a.slot 5 a.part 2 4 then abandon 1 0 a s
  else
    let banks := banksFor x (ctxTarget s a.part a.ctx)
    if banks = [] then abandon 10 0x5345 a s
    else match banks.find? (fun b => kcvOf a.head (aesKey b.2) == a.head.kcv) with
      | none => failAdm 9 3 a s
      | some b =>
        let s1 := if b.1 then promoteSlot a.slot s else s
        let a1 := { a with step := .table, key := aesKey b.2 }
        if a.hit ∧ (a.circle.map (circleResident s)).getD false then resident a1 s1 else setAdm a1 s1

/-- Step 3: the chain is extended (R133). -/
def bindStep (a : Admission) (s : State) : State :=
  let s1 := modPart a.part (fun x => { x with ctxs := mupd x.ctxs a.ctx (fun y =>
    { y with binds := y.binds ++ [.parcel (a.head.kind == 3) a.head.hd] }) }) s
  let s2 := modParcel a.part a.ctx a.head.hd (fun y => { y with bound := true }) s1
  let bindMember (m : Member) : Member := if m.part = a.part then { m with bound := true } else m
  match a.circle with
  | some i => { s2 with desk := { s2.desk with circles := mupd s2.desk.circles i (fun c => { c with members := c.members.map bindMember }) } }
  | none => s2

/-- Whether a scrub runs on lines an admission writes. -/
def admBusy (s : State) (a : Admission) : Bool :=
  match admBase s a with
  | none => false
  | some (n, l) => s.scrub.jobs.any (fun j => j.rtype == 2 && j.stack == n && decide (j.base * 32768 < l + a.head.plainLen / 64) &&
      decide (l < (j.base + j.size) * 32768))

/-- The lowest lane no admission holds. -/
def freeLane (s : State) : Option Nat := (List.range 8).find? (fun n => !s.desk.adms.any (fun a => a.lane == some n))

/-- The device's place in the acceptance order: lanes are taken in that order (R307). -/
def laneTurn (s : State) (a : Admission) : Bool := decide ((s.desk.adms.filter (fun y => decide (y.aid < a.aid))).length < 8)

/-- Whether R360 permits a start at the present frame edge. -/
def startAllowed (s : State) (p : Nat) : Bool :=
  !isConf s p || (match mget s.desk.lastConfStart p with | some f => decide (f + 10 ≤ s.aon.frames) | none => true)

/-- ADMISSION_START (R303 step 1): the oldest waiting admission of a header digest takes a lane, its victim is evicted,
and its header is compared with its passport or waits for a PKE mark. -/
def admissionStart (hd : Digest) (s : State) : State :=
  match s.desk.adms.find? (fun a => a.step == .waiting && a.head.hd == hd && laneTurn s a && startAllowed s a.part) with
  | none => s
  | some a =>
    match freeLane s with
    | none => s
    | some n =>
      let s1 := if a.circle.isNone then (match residentIn s a.part a.window with | some y => evictParcel y s | none => s) else s
      let hit := match a.circle with
        | some i => circleResident s i || s.desk.adms.any (fun y => y.circle == some i && !y.hit && y.lane.isSome && y.step != .done)
        | none => false
      let slots := ((part? s a.part).bind (·.host)).map (·.slotsA)
      let a1 := { a with lane := some n, start := tick s, startSlots := slots.getD 0, hit := hit, step := .header }
      let s2 : State :=
        if isConf s a.part then { s1 with desk := { s1.desk with lastConfStart := mput s1.desk.lastConfStart a.part s.aon.frames } } else s1
      let s3 := setAdm a1 s2
      match (parcelOf s a.part a.ctx hd).bind (·.passport) with
      | some q =>
        if a.readmit then
          if q.root = a.head.root ∧ q.kcv = a.head.kcv ∧ q.kind = a.head.kind ∧ q.chunks = a.head.chunks ∧ q.pbd = a.head.pbd
          then keyStep a1 s3 else failAdm 9 2 a1 s3
        else setAdm { a1 with step := .headerMark } s3
      | none => setAdm { a1 with step := .headerMark } s3

/-- PKE_MARK (R304): the oldest waiting header is verified and, verified, bound. -/
def pkeMark (s : State) : State :=
  match s.desk.adms.find? (fun a => a.step == .headerMark) with
  | none => s
  | some a =>
    if s.eng.pkeFenced then failAdm 0xFF 9 a s
    else if !headSigned a.head then failAdm 9 1 a s
    else keyStep a (bindStep a s)

/-- The gate an admission writes through: its window's, or its circle's (R310). -/
def admGate (s : State) (a : Admission) : Gate :=
  match a.circle with
  | none => resolve s (.desk (BitVec.ofNat 7 a.part)) (BitVec.ofNat 4 a.window).toNat
  | some i =>
    match mget s.desk.circles i with
    | some c => { wd := { Wd.none with valid := true, read := true, write := true, tagged := c.mode == .confidential, stack := c.stack,
                                       part := a.part, base := c.base, size := c.size },
                  key := some (slot s c.keySlot).active, tweak := c.first.getD a.part }
    | none => { wd := .none, key := none, tweak := 0 }

/-- Write a chunk's plaintext through MT_n (R303 step 6). -/
def deskWrite (a : Admission) (off : Nat) (b : Bytes) (s : State) : State × Nat :=
  let s1 := needStack (admGate s a).wd.stack s
  let g := admGate s1 a
  let c := gateCheck s1 g true off b.length
  if c ≠ 0 then (s1, c) else writeChunks g a.part (chunks (gateAddr g off) b.length) b s1

/-- A pool engine of R148 that can take a chunk. -/
def poolUp (s : State) : Bool := [1, 2, 3, 4, 5].any (fun n => !(mgetD s.eng.de n DigestEngine.idle).fenced)

/-- CHUNK_COMPLETE on a lane: the table fetch first (step 5), then one chunk (step 6). -/
def chunkComplete (lane : Nat) (read : ParcelRead) (s : State) : State :=
  match s.desk.adms.find? (fun a => a.lane == some lane && !a.hit && (a.step == .table || a.step == .chunks)) with
  | none => s
  | some a =>
    if admBusy s a then s
    else match read with
    | .fail => failAdm 9 7 a s
    | .bytes b =>
      if a.step = .table then
        if b.length ≠ 64 * a.head.chunks then failAdm 9 7 a s
        else if tableRoot a.head.chunks b ≠ a.head.root then failAdm 9 4 a s
        else setAdm { a with step := .chunks, table := tableEntries a.head.chunks b } s
      else
        let i := a.chunk
        let want := min (2 ^ 20) (a.head.plainLen - i * 2 ^ 20)
        let ent := a.table.getD i (0, 0)
        if b.length ≠ want then failAdm 9 7 a s
        else if !poolUp s ∨ s.eng.seFenced then failAdm 0xFF 9 a s
        else if sha384 b ≠ ent.1 then failAdm 9 5 a s
        else if (slot s a.slot).isEmpty then abandon 8 (droppedDetail a) a s
        else if Config.gcmTag a.key (chunkIv a.head i) (digBytes a.head.hd ++ be64 i) b ≠ ent.2 then failAdm 9 6 a s
        else
          let w := deskWrite a (i * 2 ^ 20) (gcmXor a.key (chunkIv a.head i) b) s
          let a1 := { a with chunk := i + 1 }
          if w.2 ≠ 0 then failAdm 0xFF 9 a w.1
          else if i + 1 = a.head.chunks then resident a1 (setAdm a1 w.1)
          else setAdm a1 w.1

/-- ADMISSION_RELEASE (R306, R308): at start + m × C; an admission that is not ready counts an overrun. -/
def admissionRelease (p k : Nat) (s : State) : State :=
  match s.desk.adms.find? (fun a => a.part == p && a.window == k && a.lane.isSome) with
  | none => s
  | some a =>
    if !isConf s p then s
    else if a.step = .done then releaseAdm a s
    else { s with desk := { s.desk with overrun := satInc s.desk.overrun } }

/-! ### Circles (R310–R313) -/

/-- The lowest-numbered FREE pool slot. -/
def freePool (s : State) : Option Nat :=
  ((List.range 640).map (· + 0x180)).find? (fun n => (resOf s 5 n).st == .free && (slot s n).isEmpty)

/-- The attribute word of a circle key slot (R310). -/
def circleAttr : BitVec 64 := BitVec.ofNat 64 (4 + 2 ^ 5 + 2 ^ 11 + 2 ^ 12 + 2 ^ 22 + 2 ^ 35)

/-- CIRCLE_CREATE's body. -/
def circleCreate (e : Env) (s : State) : State × Ans :=
  let i := p8 e 0
  let m := modeOfCode (p8 e 1)
  let n := p8 e 2
  let w : Window := { base := p32 e 8, size := p32 e 12, stack := n, access := 4, ctx := 255, use := .plain, save := none, exposed := false }
  if mhas s.desk.circles i ∨ rangeHeld s w then (s, Ans.conflict)
  else if stackShut s n ∨ (m = .confidential ∧ !fixedOn s 8 n) then (s, Ans.state)
  else if rangeScrub s w then
    let r := remainMs s
    (r.2, Ans.retry r.1)
  else if s.eng.entropyFailed then (s, Ans.internal 0x454E)
  else match freePool s with
    | none => (s, Ans.exhausted)
    | some k =>
      let s1 := drawKey k circleAttr (setRes 5 k { st := .held 255, params := 0, tag := none } s)
      let c : Circle := { mode := m, stack := n, base := w.base, size := w.size, baseHd := dig e.payload 20, keySlot := k, members := [],
                          first := none, resident := false }
      let s2 := { s1 with desk := { s1.desk with circles := mput s1.desk.circles i c } }
      if rangeFresh s2 w then
        let j := { mkJob s2 2 i 255 1 .free (some (pend e 0x510)) 0 with stack := n, base := w.base, size := w.size }
        (addJob j s2, Ans.waiting)
      else (s2, Ans.ok)

/-- CIRCLE_JOIN's body (R311). -/
def circleJoin (e : Env) (x : Partition) (s : State) : State × Ans :=
  let p := e.target.toNat
  let i := p8 e 0
  let k := p8 e 1
  let c := p8 e 2
  match mget s.desk.circles i with
  | none => (s, Ans.notFound)
  | some q =>
    if !mhas x.ctxs c then (s, Ans.notFound)
    else if s.desk.circles.any (fun r => r.2.baseHd == q.baseHd && r.2.members.any (fun m => m.part == p)) then (s, Ans.conflict)
    else if x.mode ≠ q.mode ∨ !x.policy.bases.contains q.baseHd ∨
        (x.mode = .confidential ∧ ((mget x.mem q.stack).map (·.slotsA)).getD 0 = 0) ∨ mhas x.windows k then (s, Ans.state)
    else
      let w : Window := { base := q.base, size := q.size, stack := q.stack, access := 4, ctx := c, use := .sharedParcel i, save := none,
                          exposed := false }
      let q1 : Circle := { q with members := q.members ++ [{ part := p, window := k, ctx := c, bound := false }],
                                  first := some (q.first.getD p) }
      (modPart p (fun y => { y with windows := mput y.windows k w })
        { s with desk := { s.desk with circles := mput s.desk.circles i q1 } }, Ans.ok)

/-- The circles a caller sees. -/
def circlesSeen (s : State) (e : Env) : List (Nat × Circle) :=
  match e.path with
  | .spdm n => s.desk.circles.filter (fun r => r.2.members.any (fun m => match sessionTid s n.toNat with
      | some d => partHasTid s m.part d | none => false))
  | _ => s.desk.circles

def circleEntry (s : State) (e : Env) (r : Nat × Circle) : Bytes :=
  let b (n : Nat) : Byte := BitVec.ofNat 8 n
  let shown := r.2.members.filter (fun m => match e.path with
    | .spdm n => (match sessionTid s n.toNat with | some d => partHasTid s m.part d | none => false) | _ => true)
  [b r.1, b (modeCode r.2.mode), b r.2.stack, if isOperator e then b r.2.members.length else 0] ++ zeros 4 ++ digBytes r.2.baseHd ++
    leBytes 16 (shown.foldl (fun a m => a + 2 ^ m.part) 0)

/-- A reply that fills its space with whole entries after SKIP (R478): the entries returned and the answer. -/
def fillEntries {α : Type} (s : State) (e : Env) (size : Nat) (l : List α) (f : α → Bytes) : List α × Ans :=
  let after := l.drop (p16 e 2)
  let got := after.take ((replySpace s e - 8) / size)
  (got, Ans.okD (count31 (after.length - got.length)) (leBytes 4 got.length ++ zeros 4 ++ cat (got.map f)))

/-! ### Commands -/

/-- PARCEL_POLICY_SET (R300). -/
def policySet (e : Env) (x : Partition) (s : State) : State × Ans :=
  let p := e.target.toNat
  let np := p8 e 0
  let nb := p8 e 1
  let y : ParcelPolicy := { publishers := (List.range np).map (fun i => dig e.payload (8 + 48 * i)),
                            bases := (List.range nb).map (fun i => dig e.payload (392 + 48 * i)) }
  let mine := match e.path with | .spdm n => sessionTid s n.toNat == some x.tenant | _ => false
  if !mine then (s, Ans.refused)
  else if s.desk.circles.any (fun c => c.2.members.any (fun m => m.part == p) && x.policy.bases.contains c.2.baseHd && !y.bases.contains c.2.baseHd) ∨
      (channelBases s p).any (fun d => !y.bases.contains d) ∨
      s.desk.parcels.any (fun z => z.part == p && (z.bound || z.st == .inProgress) && !y.publishers.contains z.head.pbd) then (s, Ans.conflict)
  else (modPart p (fun z => { z with policy := y }) s, Ans.ok)

/-- PARCEL_POLICY_SET. -/
def execParcelPolicySet (e : Env) (s : State) : Answer := done s (serve specParcelPolicySet e (fun t =>
  checked ([(0, decide (p8 e 0 ≤ 8)), (1, decide (p8 e 1 ≤ 4))] ++ rsv e 2 6 ++
      rsv e (8 + 48 * p8 e 0) (48 * (8 - p8 e 0)) ++ rsv e (392 + 48 * p8 e 1) (48 * (4 - p8 e 1))) t
    (withPart e t (fun x => policySet e x t))) s)

/-- PARCEL_ADMIT (R302). -/
def execParcelAdmit (e : Env) (s : State) : Answer := done s (serve specParcelAdmit e (fun t =>
  checked (admitChecks e) t (withPart e t (fun x => acceptParcel e x t))) s)

def parcelEntry (x : Parcel) : Bytes :=
  let b (n : Nat) : Byte := BitVec.ofNat 8 n
  digBytes x.head.hd ++ [b x.ctx, b (parcelCode x.st), b x.window, x.usage,
    b ((if x.pinned then 1 else 0) + (if x.passport.isSome then 2 else 0)), 0] ++ leBytes 2 x.status.toNat ++ leBytes 4 x.detail.toNat ++ zeros 4

/-- An ABANDONED entry that has been returned: gone, or EVICTED where the parcel stays bound (R317). -/
def returned (got : List Parcel) (s : State) : State :=
  let seen (x : Parcel) : Bool := x.st == .abandoned && got.contains x
  { s with desk := { s.desk with parcels := (s.desk.parcels.filter (fun x => !(seen x && !x.bound))).map (fun x =>
      if seen x then { x with st := .evicted, status := 0, detail := 0 } else x) } }

/-- PARCEL_STATUS_GET (R317, R478). -/
def execParcelStatusGet (e : Env) (s : State) : Answer := done s (serve specParcelStatusGet e (fun t =>
  let c := p8 e 0
  checked ([(0, decide (c < 16) || c == 255)] ++ rsv e 1 1 ++ rsv e 4 4) t
    (withPart e t (fun x =>
      if c ≠ 255 ∧ (ctxOf t e x c).isNone then (t, Ans.notFound)
      else
        let cs := (mkeys x.ctxs).filter (fun k => (c == 255 || k == c) && (ctxOf t e x k).isSome)
        let l := cs.flatMap (fun k => t.desk.parcels.filter (fun y => y.part == e.target.toNat && y.ctx == k))
        let r := fillEntries t e 64 l parcelEntry
        (returned r.1 t, r.2)))) s)

/-- A parcel command's context and HD: the caller's context, and the parcel bound or in admission there. -/
def withParcel (e : Env) (open_ : Bool) (s : State) (k : Partition → Parcel → State × Ans) : State × Ans :=
  withPart e s (fun x =>
    if open_ ∧ isOperator e ∧ x.mode = .confidential then (s, Ans.refused)
    else if (ctxOf s e x (p8 e 0)).isNone then (s, Ans.notFound)
    else match parcelOf s e.target.toNat (p8 e 0) (dig e.payload 8) with
      | some y => if y.bound ∨ y.st = .inProgress then k x y else (s, Ans.notFound)
      | none => (s, Ans.notFound))

/-- PARCEL_EVICT (R315, R316). -/
def execParcelEvict (e : Env) (s : State) : Answer := done s (serve specParcelEvict e (fun t =>
  checked ([(0, decide (p8 e 0 < 16))] ++ rsv e 1 7) t (withParcel e false t (fun x y =>
    if y.pinned ∨ y.st = .inProgress ∨ t.desk.adms.any (fun a => a.part == y.part && a.ctx == y.ctx && a.head.hd == y.head.hd) then (t, Ans.state)
    else if y.st ≠ .resident then (t, Ans.ok)
    else if !evictable t y then (t, Ans.state)
    else (evictParcel y (if isOperator e then countAct x.tenant t else t), Ans.ok)))) s)

/-- PARCEL_PIN (R314). -/
def execParcelPin (e : Env) (s : State) : Answer := done s (serve specParcelPin e (fun t =>
  checked ([(0, decide (p8 e 0 < 16)), (1, decide (p8 e 1 ≤ 1))] ++ rsv e 2 6) t (withParcel e true t (fun _ y =>
    (modParcel y.part y.ctx y.head.hd (fun z => { z with pinned := p8 e 1 == 1 }) t, Ans.ok)))) s)

/-- PARCEL_UNBIND. -/
def execParcelUnbind (e : Env) (s : State) : Answer := done s (serve specParcelUnbind e (fun t =>
  checked ([(0, decide (p8 e 0 < 16))] ++ rsv e 1 7) t (withParcel e true t (fun _ y =>
    (unbindParcel y.part y.ctx y.head.hd t, Ans.ok)))) s)

/-- CIRCLE_CREATE (R310). -/
def execCircleCreate (e : Env) (s : State) : Answer := done s (serve specCircleCreate e (fun t =>
  checked ([(0, decide (p8 e 0 < 32)), (1, p8 e 1 == 1 || p8 e 1 == 2), (2, decide (p8 e 2 < nStacks t))] ++ rsv e 3 5 ++
      [(8, decide (p32 e 8 < 18432)), (12, decide (1 ≤ p32 e 12 ∧ p32 e 8 + p32 e 12 ≤ 18432))] ++ rsv e 16 4) t
    (circleCreate e t)) s)

/-- CIRCLE_JOIN (R311). -/
def execCircleJoin (e : Env) (s : State) : Answer := done s (serve specCircleJoin e (fun t =>
  checked ([(0, decide (p8 e 0 < 32)), (1, decide (p8 e 1 < 16)), (2, decide (p8 e 2 < 16))] ++ rsv e 3 5) t
    (withPart e t (fun x => circleJoin e x t))) s)

/-- CIRCLE_LEAVE (R313, R316). -/
def execCircleLeave (e : Env) (s : State) : Answer := done s (serve specCircleLeave e (fun t =>
  checked ([(0, decide (p8 e 0 < 32))] ++ rsv e 1 7) t (withPart e t (fun x =>
    match mget t.desk.circles (p8 e 0) with
    | some c =>
      if c.members.any (fun m => m.part == e.target.toNat) then (leaveCircle e.target.toNat (p8 e 0) (countAct x.tenant t), Ans.ok)
      else (t, Ans.notFound)
    | none => (t, Ans.notFound)))) s)

/-- CIRCLE_STATUS_GET (R478). -/
def execCircleStatusGet (e : Env) (s : State) : Answer := done s (serve specCircleStatusGet e (fun t =>
  let i := p8 e 0
  checked ([(0, decide (i < 32) || i == 255)] ++ rsv e 1 1 ++ rsv e 4 4) t
    (let l := (circlesSeen t e).filter (fun r => i == 255 || r.1 == i)
     if i ≠ 255 ∧ l = [] then (t, Ans.notFound) else (t, (fillEntries t e 72 l (circleEntry t e)).2))) s)

/-- PKE_MARK (R304). -/
def execPkeMark (s : State) : Answer := done s (pkeMark s)

/-- ADMISSION_START (R303, R307, R360). -/
def execAdmissionStart (hd : Digest) (s : State) : Answer := done s (admissionStart hd s)

/-- CHUNK_COMPLETE (R303). -/
def execChunkComplete (lane : BitVec 3) (read : ParcelRead) (s : State) : Answer := done s (chunkComplete lane.toNat read s)

/-- ADMISSION_RELEASE (R306). -/
def execAdmissionRelease (p : BitVec 7) (window : BitVec 4) (s : State) : Answer := done s (admissionRelease p.toNat window.toNat s)

end Sys2Proof.Machine
end

