-- ==== Sys2Proof/Machine/Spdm.lean ====
section
/-! DEFINITION. The SPDM 1.3 responder (R334, R342, R346–R349). The spec names the messages and what they decide; their
layouts, codes and key schedule are those of DSP0274 1.3 (PRESUMED, log 16). -/

namespace Sys2Proof.Machine

/-! ### Responses -/

/-- A response: code, Param1, Param2 and the bytes after the header. -/
structure Resp where
  code : Nat
  p1   : Nat
  p2   : Nat
  body : Bytes

def Resp.bytes (r : Resp) : Bytes := [0x13, BitVec.ofNat 8 r.code, BitVec.ofNat 8 r.p1, BitVec.ofNat 8 r.p2] ++ r.body
def reqBytes (m : SpdmMsg) : Bytes := [m.version, m.code, m.param1, m.param2] ++ m.body

def spdmErr (code : Nat) : Resp := { code := 0x7F, p1 := code, p2 := 0, body := [] }
def invalidRequest : Resp := spdmErr 0x01
def busyResp : Resp := spdmErr 0x03
def unexpectedRequest : Resp := spdmErr 0x04
def unspecified : Resp := spdmErr 0x05
def decryptError : Resp := spdmErr 0x06
def unsupported (code : Nat) : Resp := { code := 0x7F, p1 := 0x07, p2 := code, body := [] }
def sessionLimit : Resp := spdmErr 0x0A
def versionMismatch : Resp := spdmErr 0x41

def modSpdm (f : Spdm → Spdm) (s : State) : State := { s with att := { s.att with spdm := f s.att.spdm } }

/-- Whether an SPDM responder runs: firmware that serves, past the ROM's outcomes (Table 04-11). -/
def spdmRuns (s : State) : Bool :=
  serves s && s.boot.outcome != .recoveryNoImage && s.boot.outcome != .recoveryFlashFault

/-- Send a response; one beyond DataTransferSize is kept for CHUNK_GET (ERROR LargeResponse). -/
def sendSpdm (m : SpdmMsg) (r : Resp) (s : State) : State :=
  let out (x : Resp) (t : State) : State :=
    emit (.spdm m.session (BitVec.ofNat 8 x.code) (BitVec.ofNat 8 x.p1) (BitVec.ofNat 8 x.p2) x.body) t
  if 4096 < r.bytes.length then
    let h := (s.att.spdm.handle + 1) % 256
    out { code := 0x7F, p1 := 0x0F, p2 := 0, body := leBytes 1 h } (modSpdm (fun x => { x with chunkOut := r.bytes, handle := h }) s)
  else out r s

/-- A secured message refreshes its session's time-out. -/
def touchSession (m : SpdmMsg) (s : State) : State :=
  match m.session with
  | some n => { s with att := { s.att with sessions := mupd s.att.sessions n.toNat (fun x => { x with lastTick := tick s }) } }
  | none => s

/-- Answer a request: nothing where no responder runs or the session does not exist, Busy while firmware is not ready
(R97, R342), VersionMismatch for another version. -/
def answerSpdm (m : SpdmMsg) (k : State → State × Resp) (s : State) : State :=
  let known := match m.session with | some n => mhas s.att.sessions n.toNat | none => true
  if !spdmRuns s ∨ !known then s
  else
    let s1 := touchSession m (wakePd1 s)
    if deviceBusy s1 then sendSpdm m busyResp s1
    else if m.version ≠ 0x13 ∧ !(m.code = 0x84 ∧ m.version = 0x10) then sendSpdm m versionMismatch s1
    else let r := k s1; sendSpdm m r.2 r.1

/-! ### Signatures -/

/-- The signed message of a transcript hash: the combined prefix of SPDM 1.2 and later, then the hash. -/
def spdmSigned (context : String) (th : Digest) : Bytes :=
  let pre := ascii "dmtf-spdm-v1.3.*"
  let c := ascii context
  pre ++ pre ++ pre ++ pre ++ zeros (36 - c.length) ++ c ++ digBytes th

/-- An ECDSA signature by AK over a transcript, or none where AK or the PKE is missing (R331). -/
def akSign (s : State) (context : String) (msg : Bytes) : Option Bytes :=
  if s.boot.fuseDegraded ∨ (slot s 0x12).isEmpty ∨ s.eng.pkeFenced ∨ s.eng.entropyFailed then none
  else some (padTo 96 (Config.ecdsaSign (akEc s) (sha384 (spdmSigned context (sha384 msg))) s.free))

/-- HKDF-Expand of 48 bytes with the SPDM info string. -/
def spdmExpand (key : Bytes) (label : String) (context : Bytes) : Bytes :=
  hmac384 key (leBytes 2 48 ++ ascii "spdm1.3 " ++ ascii label ++ context ++ [1])

def handshakeSecret (x : Session) : Bytes := hmac384 (zeros 48) (digBytes x.secret)
/-- The finished key of a direction. -/
def finishedKey (x : Session) (label : String) (th1 : Digest) : Bytes :=
  spdmExpand (spdmExpand (handshakeSecret x) label (digBytes th1)) "finished" []
/-- The export master secret of the key schedule. -/
def exportSecret (x : Session) (th2 : Digest) : Digest :=
  dOf (spdmExpand (hmac384 (spdmExpand (handshakeSecret x) "derived" []) (zeros 48)) "exp master" (digBytes th2))

/-! ### Certificates and measurements -/

/-- The certificate chain of slot 0 as SPDM carries it: length, reserved, digest of its first certificate, certificates. -/
def spdmChain (s : State) : Bytes :=
  let c := slot0Chain s
  let first := match derTake c with | some (_, r) => c.take (c.length - r.length) | none => c
  leBytes 2 (52 + c.length) ++ zeros 2 ++ sha384b first ++ c

/-- The value of measurement block `i` (Table 15-10): type and bytes. -/
def measValue (s : State) (i : Nat) : Nat × Bytes :=
  let lay (l : Nat) : Digest := match mget s.boot.layers l with | some r => r.m | none => 0
  if i = 1 then (0, digBytes (mgetD s.boot.pm 0 0))
  else if i ≤ 5 then (1, digBytes (lay (i - 1)))
  else if i = 6 then (2, sha384b (fuseSummary s.fuses.shadow))
  else if i = 7 then (3, digBytes (mgetD s.boot.pm 7 0))
  else (0x87, [1, 2, 3, 4].map (fun l => match mget s.boot.layers l with | some r => r.svn | none => 0))

/-- A DMTF measurement block. -/
def measBlock (s : State) (i : Nat) : Bytes :=
  let v := measValue s i
  leBytes 1 i ++ [1] ++ leBytes 2 (3 + v.2.length) ++ leBytes 1 v.1 ++ leBytes 2 v.2.length ++ v.2

def measRecord (s : State) : Bytes := ([1, 2, 3, 4, 5, 6, 7, 8].map (measBlock s)).flatten

/-- The measurement summary that CHALLENGE and KEY_EXCHANGE ask for: none, TCB or all. -/
def measSummary (s : State) (p : Nat) : Bytes := if p = 0 then [] else sha384b (measRecord s)

/-! ### Requests -/

/-- GET_VERSION: the connection starts again; version 1.3. -/
def getVersion (m : SpdmMsg) (s : State) : State × Resp :=
  let r : Resp := { code := 0x04, p1 := 0, p2 := 0, body := [0, 1, 0x00, 0x13] }
  (modSpdm (fun _ => { Spdm.reset with ver := true, vca := reqBytes m ++ r.bytes }) s, r)

/-- GET_CAPABILITIES (Table 15-9). -/
def getCapabilities (m : SpdmMsg) (s : State) : State × Resp :=
  if !s.att.spdm.ver then (s, unexpectedRequest)
  else
    let flags := 2 ^ 1 + 2 ^ 2 + 2 ^ 4 + 2 ^ 6 + 2 ^ 7 + 2 ^ 8 + 2 ^ 9 + 2 ^ 13 + 2 ^ 14 + 2 ^ 17
    let r : Resp := { code := 0x61, p1 := 0, p2 := 0,
                      body := [0, 12, 0, 0] ++ leBytes 4 flags ++ leBytes 4 4096 ++ leBytes 4 65536 }
    (modSpdm (fun x => { x with cap := true, vca := x.vca ++ reqBytes m ++ r.bytes }) s, r)

/-- NEGOTIATE_ALGORITHMS (Table 15-9). -/
def negotiateAlgorithms (m : SpdmMsg) (s : State) : State × Resp :=
  if !s.att.spdm.cap then (s, unexpectedRequest)
  else
    let alg (t v : Nat) : Bytes := [BitVec.ofNat 8 t, 0x20] ++ leBytes 2 v
    let algs := alg 2 0x10 ++ alg 3 0x02 ++ alg 4 0x80 ++ alg 5 0x01
    let body := leBytes 2 52 ++ [1, 0] ++ leBytes 4 4 ++ leBytes 4 0x80 ++ leBytes 4 2 ++ zeros 16 ++ algs
    let r : Resp := { code := 0x63, p1 := 4, p2 := 0, body := body }
    (modSpdm (fun x => { x with alg := true, vca := x.vca ++ reqBytes m ++ r.bytes }) s, r)

/-- A request that needs a negotiated connection. -/
def negotiated (s : State) (k : State × Resp) : State × Resp := if s.att.spdm.alg then k else (s, unexpectedRequest)

/-- Add messages to the certificate transcript. -/
def noteCerts (m : SpdmMsg) (r : Resp) (s : State) : State :=
  if m.session.isSome then s else modSpdm (fun x => { x with certs := x.certs ++ reqBytes m ++ r.bytes }) s

/-- GET_DIGESTS: slot 0 only. -/
def getDigests (m : SpdmMsg) (s : State) : State × Resp := negotiated s <|
  let r : Resp := { code := 0x01, p1 := 1, p2 := 1, body := sha384b (spdmChain s) }
  (noteCerts m r s, r)

/-- GET_CERTIFICATE: a portion of slot 0's chain. -/
def getCertificate (m : SpdmMsg) (s : State) : State × Resp := negotiated s <|
  let c := spdmChain s
  let off := fld m.body 0 2
  if m.param1.toNat % 16 ≠ 0 ∨ m.body.length < 4 ∨ c.length ≤ off then (s, invalidRequest)
  else
    let b := slice c off (min (fld m.body 2 2) 4088)
    let r : Resp := { code := 0x02, p1 := 0, p2 := 0, body := leBytes 2 b.length ++ leBytes 2 (c.length - off - b.length) ++ b }
    (noteCerts m r s, r)

/-- CHALLENGE: a signature by AK over the transcript. -/
def challenge (m : SpdmMsg) (s : State) : State × Resp := negotiated s <|
  let p := m.param2.toNat
  if m.session.isSome then (s, unexpectedRequest)
  else if m.param1 ≠ 0 ∨ m.body.length ≠ 40 ∨ !(p = 0 ∨ p = 1 ∨ p = 0xFF) then (s, invalidRequest)
  else
    let u := useFree s
    let body := sha384b (spdmChain s) ++ drawBytes u.1 32 ++ measSummary s p ++ leBytes 2 0 ++ slice m.body 32 8
    let r0 : Resp := { code := 0x03, p1 := 0, p2 := 1, body := body }
    match akSign u.2 "responder-challenge_auth signing" (s.att.spdm.vca ++ s.att.spdm.certs ++ reqBytes m ++ r0.bytes) with
    | none => (s, unspecified)
    | some g => ({ u.2 with free := u.2.free + 1 }, { r0 with body := body ++ g })

/-- GET_MEASUREMENTS (Table 15-10); index 0 returns the count. -/
def getMeasurements (m : SpdmMsg) (s : State) : State × Resp := negotiated s <|
  let i := m.param2.toNat
  let signed := m.param1.getLsbD 0
  if !(i ≤ 8 ∨ i = 0xFF) ∨ m.body.length ≠ (if signed then 41 else 8) then (s, invalidRequest)
  else
    let rec_ := if i = 0 then [] else if i = 0xFF then measRecord s else measBlock s i
    let n := if i = 0xFF then 8 else if i = 0 then 0 else 1
    let u := useFree s
    let ctx := if signed then slice m.body 33 8 else slice m.body 0 8
    let body := leBytes 1 n ++ leBytes 3 rec_.length ++ rec_ ++ drawBytes u.1 32 ++ leBytes 2 0 ++ ctx
    let r : Resp := { code := 0x60, p1 := if i = 0 then 8 else 0, p2 := 0, body := body }
    let l := s.att.spdm.meas ++ reqBytes m ++ r.bytes
    if signed then
      match akSign u.2 "responder-measurements signing" (s.att.spdm.vca ++ l) with
      | none => (s, unspecified)
      | some g => (modSpdm (fun x => { x with meas := [] }) { u.2 with free := u.2.free + 1 }, { r with body := body ++ g })
    else (modSpdm (fun x => { x with meas := l }) u.2, r)

/-- The lowest free session index of 12. -/
def freeSession (s : State) : Option Nat := (List.range 12).find? (fun n => !mhas s.att.sessions n)

/-- KEY_EXCHANGE (R347): ECDH and ML-KEM, the session in its handshake; the device always sets MutAuthRequested (R348). -/
def keyExchange (m : SpdmMsg) (s : State) : State × Resp := negotiated s <|
  let p := m.param1.toNat
  match freeSession s with
  | none => (s, sessionLimit)
  | some n =>
    if m.session.isSome then (s, unexpectedRequest)
    else if m.param2 ≠ 0 ∨ !(p = 0 ∨ p = 1 ∨ p = 0xFF) ∨ fld m.body 132 2 ≠ 1568 ∨ m.body.length ≠ 1702 then (s, invalidRequest)
    else
      let u := useFree s
      let eph : Digest := BitVec.ofNat 384 (beNat (drawBytes u.1 48))
      match Config.ecdhShared eph (4 :: slice m.body 36 96), Config.mlkemEncaps (slice m.body 134 1568) (u.1 + 1) with
      | some ec, some (ct, kem) =>
        let body := drawBytes (u.1 + 2) 2 ++ [1, 0] ++ drawBytes (u.1 + 3) 32 ++ padTo 96 ((Config.ecdhPublic eph).drop 1) ++
          measSummary s p ++ leBytes 2 1568 ++ padTo 1568 ct
        let r0 : Resp := { code := 0x64, p1 := 30, p2 := 0, body := body }
        let tr := s.att.spdm.vca ++ sha384b (spdmChain s) ++ reqBytes m ++ r0.bytes
        let t : State := { u.2 with free := u.2.free + 3 }
        (match akSign t "responder-key_exchange_rsp signing" tr with
         | none => (s, unspecified)
         | some g =>
           let x : Session :=
             { open_ := false, tid := none, secret := dOf (hybridKey ec kem "U-HYB-SPDM" [] 384), export_ := 0,
               sessId := BitVec.ofNat 32 (fld m.body 0 2 + fld body 0 2 * 2 ^ 16), leaf := [], th2 := 0, slot := postcardSlot n,
               standing := none, lastTick := tick s, order := s.att.order + 1, outstanding := false, keyGen := 0, transcript := [] }
           let th1 := sha384 (tr ++ g)
           let v := hmac384 (finishedKey x "rsp hs data" th1) (sha384b (tr ++ g))
           (setSession n { x with transcript := tr ++ g ++ v, th2 := th1 }
              { t with free := t.free + 1, att := { t.att with order := t.att.order + 1 } }, { r0 with body := body ++ g ++ v }))
      | _, _ => (s, invalidRequest)

/-- FINISH (R347, R348): the requester's signature under its leaf key and its verify data; the session opens. -/
def finishSpdm (m : SpdmMsg) (leaf : Bytes) (s : State) : State × Resp := negotiated s <|
  match m.session.bind (fun n => (mget s.att.sessions n.toNat).map (fun x => (n.toNat, x))) with
  | none => (s, unexpectedRequest)
  | some (n, x) =>
    if x.open_ then (s, unexpectedRequest)
    else if !m.param1.getLsbD 0 ∨ m.body.length ≠ 144 then (endSession n s, invalidRequest)
    else if s.eng.pkeFenced then (s, unspecified)
    else
      let head := [m.version, m.code, m.param1, m.param2]
      let tr := x.transcript ++ sha384b leaf ++ head
      let sg := m.body.take 96
      let okSig := Config.ecdsaVerify leaf (sha384 (spdmSigned "requester-finish signing" (sha384 tr))) sg
      let okMac := hmac384 (finishedKey x "req hs data" x.th2) (sha384b (tr ++ sg)) == m.body.drop 96
      if !okSig ∨ !okMac then (endSession n s, decryptError)
      else
        let r : Resp := { code := 0x65, p1 := 0, p2 := 0, body := [] }
        let th2 := sha384 (tr ++ m.body ++ r.bytes)
        (setSession n { x with open_ := true, leaf := leaf, th2 := th2, export_ := exportSecret x th2, transcript := [], lastTick := tick s } s, r)

/-- A request that belongs to an open session. -/
def inSession (m : SpdmMsg) (s : State) (k : Nat → Session → State × Resp) : State × Resp :=
  match m.session with
  | none => (s, unexpectedRequest)
  | some n => match mget s.att.sessions n.toNat with
    | some x => if x.open_ then k n.toNat x else (s, unexpectedRequest)
    | none => (s, unexpectedRequest)

/-- HEARTBEAT. -/
def heartbeatSpdm (m : SpdmMsg) (s : State) : State × Resp := inSession m s fun _ _ => (s, { code := 0x68, p1 := 0, p2 := 0, body := [] })

/-- KEY_UPDATE: operations 1 to 3; the tag is echoed. -/
def keyUpdate (m : SpdmMsg) (s : State) : State × Resp := inSession m s fun n x =>
  let op := m.param1.toNat
  if op = 0 ∨ 3 < op then (s, invalidRequest)
  else (setSession n { x with keyGen := if op = 3 then x.keyGen else x.keyGen + 1 } s,
        { code := 0x69, p1 := op, p2 := m.param2.toNat, body := [] })

/-- END_SESSION (R349). -/
def endSessionSpdm (m : SpdmMsg) (s : State) : State × Resp := inSession m s fun n _ =>
  (endSession n s, { code := 0x6C, p1 := 0, p2 := 0, body := [] })

/-- Any other request (R346). -/
def unsupportedSpdm (m : SpdmMsg) (s : State) : State × Resp := (s, unsupported m.code.toNat)

/-- The request a chunked transfer carried. -/
def dispatchSpdm (m : SpdmMsg) (s : State) : State × Resp :=
  match m.code.toNat with
  | 0x81 => getDigests m s
  | 0x82 => getCertificate m s
  | 0x83 => challenge m s
  | 0x84 => getVersion m s
  | 0xE0 => getMeasurements m s
  | 0xE1 => getCapabilities m s
  | 0xE3 => negotiateAlgorithms m s
  | 0xE4 => keyExchange m s
  | 0xE8 => heartbeatSpdm m s
  | 0xE9 => keyUpdate m s
  | 0xEC => endSessionSpdm m s
  | _ => unsupportedSpdm m s

/-- CHUNK_SEND: chunks in order; the last one answers the whole request. -/
def chunkSend (m : SpdmMsg) (s : State) : State × Resp := negotiated s <|
  let seq := fld m.body 0 2
  let size := fld m.body 4 4
  let hd := if seq = 0 then 12 else 8
  let data := slice m.body hd size
  let c := s.att.spdm
  let last := m.param1.getLsbD 0
  let total := if seq = 0 then fld m.body 8 4 else c.chunkSize
  let all := if seq = 0 then data else c.chunkIn ++ data
  let clear (t : State) : State := modSpdm (fun x => { x with chunkIn := [], chunkSize := 0, chunkNext := 0 }) t
  if (seq ≠ 0 ∧ seq ≠ c.chunkNext) ∨ data.length ≠ size ∨ 65536 < total ∨ total < all.length ∨ (last ∧ all.length ≠ total) then
    (clear s, { code := 0x05, p1 := 1, p2 := m.param2.toNat, body := leBytes 2 seq ++ invalidRequest.bytes })
  else if !last then
    (modSpdm (fun x => { x with chunkIn := all, chunkSize := total, chunkNext := seq + 1 }) s,
     { code := 0x05, p1 := 0, p2 := m.param2.toNat, body := leBytes 2 seq })
  else
    let q : SpdmMsg := { version := byteAt all 0, code := byteAt all 1, param1 := byteAt all 2, param2 := byteAt all 3,
                         body := all.drop 4, session := m.session }
    let r := dispatchSpdm q (clear s)
    (r.1, { code := 0x05, p1 := 0, p2 := m.param2.toNat, body := leBytes 2 seq ++ r.2.bytes })

/-- CHUNK_GET: a part of the kept response. -/
def chunkGet (m : SpdmMsg) (s : State) : State × Resp := negotiated s <|
  let c := s.att.spdm
  let seq := fld m.body 0 2
  let off := if seq = 0 then 0 else 4080 + (seq - 1) * 4084
  if c.chunkOut = [] ∨ m.param2.toNat ≠ c.handle ∨ c.chunkOut.length ≤ off then (s, invalidRequest)
  else
    let b := slice c.chunkOut off (if seq = 0 then 4080 else 4084)
    let last := decide (c.chunkOut.length ≤ off + b.length)
    let t := if last then modSpdm (fun x => { x with chunkOut := [] }) s else s
    (t, { code := 0x06, p1 := if last then 1 else 0, p2 := c.handle,
          body := leBytes 2 seq ++ zeros 2 ++ leBytes 4 b.length ++ (if seq = 0 then leBytes 4 c.chunkOut.length else []) ++ b })

/-! ### Commands -/

/-- GET_VERSION (R346). -/
def execGetVersion (m : SpdmMsg) (s : State) : Answer := done s (answerSpdm m (getVersion m) s)

/-- GET_CAPABILITIES (R346). -/
def execGetCapabilities (m : SpdmMsg) (s : State) : Answer := done s (answerSpdm m (getCapabilities m) s)

/-- NEGOTIATE_ALGORITHMS (R346). -/
def execNegotiateAlgorithms (m : SpdmMsg) (s : State) : Answer := done s (answerSpdm m (negotiateAlgorithms m) s)

/-- GET_DIGESTS (R334). -/
def execGetDigests (m : SpdmMsg) (s : State) : Answer := done s (answerSpdm m (getDigests m) s)

/-- GET_CERTIFICATE (R334). -/
def execGetCertificate (m : SpdmMsg) (s : State) : Answer := done s (answerSpdm m (getCertificate m) s)

/-- CHALLENGE (R346). -/
def execChallenge (m : SpdmMsg) (s : State) : Answer := done s (answerSpdm m (challenge m) s)

/-- GET_MEASUREMENTS (R346). -/
def execGetMeasurements (m : SpdmMsg) (s : State) : Answer := done s (answerSpdm m (getMeasurements m) s)

/-- KEY_EXCHANGE (R347). -/
def execKeyExchange (m : SpdmMsg) (s : State) : Answer := done s (answerSpdm m (keyExchange m) s)

/-- FINISH (R348). -/
def execFinish (m : SpdmMsg) (leaf : Bytes) (s : State) : Answer := done s (answerSpdm m (finishSpdm m leaf) s)

/-- HEARTBEAT (R346). -/
def execHeartbeat (m : SpdmMsg) (s : State) : Answer := done s (answerSpdm m (heartbeatSpdm m) s)

/-- KEY_UPDATE (R346). -/
def execKeyUpdate (m : SpdmMsg) (s : State) : Answer := done s (answerSpdm m (keyUpdate m) s)

/-- END_SESSION (R349). -/
def execEndSession (m : SpdmMsg) (s : State) : Answer := done s (answerSpdm m (endSessionSpdm m) s)

/-- CHUNK_SEND (R346). -/
def execChunkSend (m : SpdmMsg) (s : State) : Answer := done s (answerSpdm m (chunkSend m) s)

/-- CHUNK_GET (R346). -/
def execChunkGet (m : SpdmMsg) (s : State) : Answer := done s (answerSpdm m (chunkGet m) s)

/-- SPDM_UNSUPPORTED_REQUEST (R346). -/
def execSpdmUnsupportedRequest (m : SpdmMsg) (s : State) : Answer := done s (answerSpdm m (unsupportedSpdm m) s)

end Sys2Proof.Machine
end

