-- ==== Sys2Proof/Machine/Handshake.lean ====
section
/-! DEFINITION. The hybrid handshake that pairing (R388–R390, Table 18-2) and link keying (R405, R407, Table 19-2) share:
the opening messages, the messages with ephemeral keys, and the checks of the peer's certificates, sections and member
statement (R389). A message is the bytes its fragments carry, without the fragment headers. -/

namespace Sys2Proof.Machine

/-- The bytes of a peer's credentials: three dual certificates, three sections, a member statement. -/
structure Creds where
  idk  : Bytes
  lak  : Bytes
  ak   : Bytes
  secs : Bytes
  stmt : Bytes

/-- The credentials in a message, from an offset to its end. -/
def parseCreds (b : Bytes) (off : Nat) : Option Creds :=
  let c := b.drop off
  if c.length < 3 * 7616 + 4984 then none
  else some { idk := slice c 0 7616, lak := slice c 7616 7616, ak := slice c 15232 7616,
              secs := slice c 22848 (c.length - 22848 - 4984), stmt := c.drop (c.length - 4984) }

/-- A certificate's keys: ECDSA, then ML-DSA. -/
def certEc (c : Bytes) : Bytes := slice c 0xA0 97
def certMl (c : Bytes) : Bytes := slice c 0x120 2592
def certMeas (c : Bytes) : Digest := dig c 0x40

/-- Both signatures of a region under a certificate's keys. -/
def dualVerify (keys region ecSig mlSig : Bytes) (ctx : String) : Bool :=
  Config.ecdsaVerify (certEc keys) (sha384 region) ecSig && Config.mldsaVerify (certMl keys) region (ascii ctx) mlSig

/-- A dual certificate of a role, verified under its issuer's (R332). -/
def certOk (role : Nat) (issuer c : Bytes) : Bool :=
  fld c 0 4 == 0x55444354 && byteAt c 4 == 1 && (byteAt c 5).toNat == role &&
    dualVerify issuer (c.take 0xB40) (slice c 0xB40 96) (slice c 0xBA0 4627) "U-CERT"

/-- ROUND_NONCE of a handshake's statement: bytes 0–31 of the SHA-384 of the messages so far. -/
def hsNonce (transcript : Bytes) : Bytes := (sha384b transcript).take 32

/-- The checks of R389 on a peer's credentials: its DID, certificates, statement, sections, state and measurements. -/
def credsOk (s : State) (c : Creds) (nonce : Bytes) (did : Digest) (acceptW acceptO : List Digest) : Bool :=
  fld c.idk 0 4 == 0x55444354 && byteAt c.idk 5 == 1 && sha384 (certEc c.idk ++ certMl c.idk) == did &&
    certOk 2 c.idk c.lak && certOk 3 c.lak c.ak &&
    fld c.stmt 0 4 == 0x55444D53 && byteAt c.stmt 4 == 1 && fld c.stmt 8 8 == 0 && slice c.stmt 0x10 32 == nonce &&
    dig c.stmt 0x30 == did &&
    dualVerify c.ak (c.stmt.take 256) (slice c.stmt 0x100 96) (slice c.stmt 0x160 4627) "U-MEMBER" &&
    dig c.stmt 0x90 == sha384 c.secs &&
    fld c.secs 0 2 == 1 && byteAt c.secs (8 + 5) == 7 && dig c.secs (8 + 64) == ownerSet s.fuses.shadow &&
    byteAt c.secs (8 + 136) == 0 && acceptW.contains (certMeas c.lak) && acceptO.contains (certMeas c.ak)

/-- This device's credentials in a handshake whose messages so far are `transcript`. The IDK certificate is the installed
one, or else the one IDK signs for itself. -/
def ownCreds (s : State) (nonce : Bytes) : Bytes × State :=
  let idk : Bytes × State := if s.att.idDual.isEmpty then (idkSelfCert s, { s with free := s.free + 2 }) else (s.att.idDual, s)
  (idk.1 ++ aliasCerts s ++ threeSections s ++ memberStatement idk.2 0 nonce, { idk.2 with free := idk.2.free + 2 })

/-- Whether this device can take part: an AK, the PKE and the DRBG. -/
def canShake (s : State) : Bool :=
  hostReady s && !s.boot.fuseDegraded && !(slot s 0x12).isEmpty && !s.eng.pkeFenced && !s.eng.entropyFailed

/-- A handshake that has sent its opening message. -/
def hsNew (mine theirs : Bytes) : Handshake :=
  { mine := mine, theirs := theirs, initiator := false, transcript := [], ephEc := [], ephKem := [], ssEc := none,
    ssKem := none, confirmed := false }

/-- Both opening messages in order, the initiator's (or A's) first. -/
def hsOpen (h : Handshake) (initiator : Bool) : Handshake :=
  { h with initiator := initiator, transcript := if initiator then h.mine ++ h.theirs else h.theirs ++ h.mine,
           ephEc := [], ephKem := [], ssEc := none, ssKem := none, confirmed := false }

/-- H1 or L1: nonce, ECDH key, ML-KEM encapsulation key; three draws. -/
def hsFirst (h : Handshake) (s : State) : Handshake × Bytes × State :=
  let i := s.free
  let eph := drawBytes (i + 1) 48
  let kp := Config.mlkemKeygen (i + 2)
  let msg := drawBytes i 32 ++ padTo 97 (Config.ecdhPublic (dOf eph)) ++ padTo 1568 kp.1
  ({ h with ephEc := eph, ephKem := kp.2, transcript := h.transcript ++ msg }, msg, { s with free := i + 3 })

/-- H2 or L2 in answer to H1 or L1; none where a key of the message is invalid. -/
def hsSecond (h : Handshake) (msg : Bytes) (s : State) : Option (Handshake × Bytes × State) :=
  let i := s.free
  let eph := drawBytes (i + 1) 48
  if msg.length ≠ 1697 then none
  else match Config.ecdhShared (dOf eph) (slice msg 32 97), Config.mlkemEncaps (slice msg 129 1568) (i + 2) with
    | some ec, some (ct, kem) =>
      let tr := h.transcript ++ msg
      let c := ownCreds { s with free := i + 3 } (hsNonce tr)
      let out := drawBytes i 32 ++ padTo 97 (Config.ecdhPublic (dOf eph)) ++ padTo 1568 ct ++ c.1
      some ({ h with transcript := tr ++ out, ssEc := some ec, ssKem := some kem }, out, c.2)
    | _, _ => none

/-- H3 or L3 in answer to a checked H2 or L2; none where a check or a key fails. -/
def hsThird (h : Handshake) (msg : Bytes) (did : Digest) (acceptW acceptO : List Digest) (s : State) : Option (Handshake × Bytes × State) :=
  match parseCreds msg 1697 with
  | none => none
  | some c =>
    if !credsOk s c (hsNonce h.transcript) did acceptW acceptO then none
    else match Config.ecdhShared (dOf h.ephEc) (slice msg 32 97) with
      | none => none
      | some ec =>
        let tr := h.transcript ++ msg
        let o := ownCreds s (hsNonce tr)
        some ({ h with transcript := tr ++ o.1, ssEc := some ec, ssKem := some (Config.mlkemDecaps h.ephKem (slice msg 129 1568)) }, o.1, o.2)

/-- A checked H3 or L3; none where a check fails. -/
def hsLast (h : Handshake) (msg : Bytes) (did : Digest) (acceptW acceptO : List Digest) (s : State) : Option Handshake :=
  match parseCreds msg 0 with
  | none => none
  | some c => if credsOk s c (hsNonce h.transcript) did acceptW acceptO then some { h with transcript := h.transcript ++ msg } else none

/-- The key of a completed handshake (Table 06-3). -/
def hsKey (h : Handshake) (label : String) : Option Digest :=
  match h.ssEc, h.ssKem with
  | some ec, some kem => some (dOf (hybridKey ec kem label (sha384b h.transcript) 384))
  | _, _ => none

/-- The attribute word of a link or pair key: a KDF key of Wenist that is copied to its engine, in OWNED. -/
def portAttr : BitVec 64 := bitsNat [0, 1, 8, 11, 12, 16, 22, 35]

def setCopy (port : Option Nat) (k : KeyCopy) (s : State) : State :=
  match port with
  | some n => { s with vault := { s.vault with lce := mput s.vault.lce n k } }
  | none => { s with vault := { s.vault with tce := some k } }

/-- A port's first key: in its slot and engine, with counters at zero; waiting frames stay (R245, R132). -/
def keyPort (port : Option Nat) (k : Digest) (s : State) : State :=
  setCopy port { active := k, pending := none } (installSlot (portSlot port) portAttr k 0
    (modWire port (fun w => { Wire.reset with txWait := w.txWait, cipher := { Cipher.reset with keyedAt := tick s } }) s))

/-- A rekey's key: in the pending bank of the slot and of the engine's copy (R249). -/
def rekeyPort (port : Option Nat) (k : Digest) (s : State) : State :=
  let x := slot s (portSlot port)
  let s1 := setSlot (portSlot port) { x with pending := k, attr := x.attr ||| (1#64 <<< 45) } s
  maybeSwitch port (match portKeys s1 port with
    | some c => setCopy port { c with pending := some k } (modCipher port (fun y => { y with rekey := true }) s1)
    | none => s1)

end Sys2Proof.Machine
end

