-- ==== Sys2Proof/Machine/Twin.lean ====
section
/-! DEFINITION. Twins (chapter 18): bonds, pairing, lease and roles, the mirror, failover, rejoin and switchover. -/

namespace Sys2Proof.Machine

/-! ### Log, envelopes, mirrored state -/

def modTwin (f : Twin → Twin) (s : State) : State := { s with twin := f s.twin }
def modPort (f : TwinPort → TwinPort) (s : State) : State := { s with port := f s.port }

/-- The bonded partner's DID. -/
def partner (s : State) : Digest := match s.twin.bond with | some b => b.partner | none => 0

/-- A twin log entry (R400); each raises TWIN_EVENT (Table 24-4). -/
def twinLog (event : Nat) (id : Digest) (s : State) : State :=
  let r : EventRec := { tick := tick s, event := BitVec.ofNat 8 event, link := 0, post := 0, id := id }
  raiseEvent 1 (modTwin (fun t => { t with log := keepLast 256 (t.log ++ [r]), logNext := t.logNext + 1 }) s)

/-- Send an envelope to the partner's twin mailbox under the pair counter (R182, R199). -/
def sendTwinEnv (op : Nat) (payload : Bytes) (s : State) : State :=
  let c := s.port.envOut + 1
  emit (.twinEnv (BitVec.ofNat 16 op) c payload) (modPort (fun p => { p with envOut := c }) s)

/-- Body of a measurement summary (Table 18-4). -/
def summaryBody (s : State) : Bytes :=
  let lay (l : Nat) : LayerRun := (mget s.boot.layers l).getD { m := 0, svn := 0, key := 0, build := 0 }
  leBytes 8 s.boot.bn.toNat ++ leBytes 8 s.att.gen.toNat ++ ([1, 2, 3, 4].map (fun l => digBytes (lay l).m)).flatten ++
    [1, 2, 3, 4].map (fun l => (lay l).svn) ++ zeros 4 ++ digBytes (deviceDigest s)

/-- Body of a residency record. -/
def residencyBody (s : State) (x : Parcel) : Bytes :=
  let b (n : Nat) : Byte := BitVec.ofNat 8 n
  [b x.part, b x.ctx, b x.window, b (parcelCode x.st), x.usage, if x.pinned then 1 else 0, if x.passport.isSome then 1 else 0, 0] ++
    (if isConf s x.part then zeros 48 else digBytes x.head.hd)

/-- Body of a slot version. -/
def versionBody (e : Nat × Slot) : Bytes :=
  leBytes 2 e.1 ++ leBytes 2 e.2.version.toNat ++ leBytes 1 (e.2.attr.toNat / 4096 % 8 * 16 + e.2.type) ++ zeros 3

/-- The complete mirrored state: epoch, open steps, slot versions, counters, residency, summary. -/
def fullMirror (s : State) : List (BitVec 8 × Bytes) :=
  [(2, leBytes 8 s.parts.current.num.toNat ++ digBytes (epochDigest s.parts.current))] ++
    (s.parts.openSteps.zipIdx.map (fun r => (1, leBytes 8 s.parts.current.num.toNat ++ stepBytes (r.2 + 1) r.1))) ++
    (s.vault.slots.map (fun e => (3, versionBody e))) ++ (s.vault.franking.map (fun e => (4, issuerBytes e.1 ++ leBytes 8 e.2.toNat))) ++
    (s.desk.parcels.map (fun x => (5, residencyBody s x))) ++ [(6, summaryBody s)]

/-- The pair policy of a bond (R399): REJOIN_HOLD, the counts and the accept lists; the record that carries it is the
model's (log 17). -/
def policyOf (raw : Bytes) : Bytes := slice raw 0x30 8 ++ slice raw 0x40 192

/-- Records with consecutive MSEQs. -/
def numbered (q : BitVec 64) : List (BitVec 8 × Bytes) → List MirrorRec
  | [] => []
  | r :: rs => { mtype := r.1, mseq := q + 1, body := r.2 } :: numbered (q + 1) rs

/-- Records packed into payloads of at most 61,432 bytes. -/
def packRecs : List MirrorRec → Bytes → List Bytes
  | [], cur => [cur]
  | r :: rs, cur =>
    let b := mirrorBytes r
    if cur.length + b.length ≤ 61432 then packRecs rs (cur ++ b) else cur :: packRecs rs b

/-- Send the complete mirrored state as RECONCILE envelopes (R399). -/
def sendReconcile (s : State) : State :=
  let pol : List (BitVec 8 × Bytes) := match s.twin.bond with | some b => [(0, policyOf b.raw)] | none => []
  let recs := numbered s.twin.mseqOut (pol ++ fullMirror s)
  let parts := packRecs recs []
  let s1 := modTwin (fun t => { t with mseqOut := t.mseqOut + BitVec.ofNat 64 recs.length }) s
  (parts.zipIdx).foldl (fun t p => sendTwinEnv 0x982 (leBytes 2 p.2 ++ leBytes 2 parts.length ++ zeros 4 ++ p.1) t) s1

/-- Resend the complete mirrored state as mirror records (R393, R398). -/
def resendMirror (s : State) : State :=
  (fullMirror s).foldl (fun t r => mirror r.1 r.2 t) (modPort (fun p => { p with fresh := false }) s)

/-! ### Held replies (R394, R222) -/

/-- Release the replies held for the partner whose sequence passes a test, marked UNMIRRORED or not. -/
def releaseMirror (test : BitVec 64 → Bool) (mark : Bool) (s : State) : State :=
  let mine (h : HeldReply) : Bool := match h.why with | .mirror q => test q | _ => false
  (s.mail.held.filter mine).foldl (fun t h => scheduleReply (if mark then unmirrored h.reply else h.reply) t)
    { s with mail := { s.mail with held := s.mail.held.filter (fun h => !mine h) } }

/-- The partner has stored our records up to a sequence. -/
def mirrorAcked (q : BitVec 64) (s : State) : State :=
  let a := if s.twin.mirrorAck.toNat < q.toNat then q else s.twin.mirrorAck
  releaseMirror (fun k => decide (k.toNat ≤ a.toNat)) false
    (modTwin (fun t => { t with mirrorAck := a, outMirror := t.outMirror.filter (fun r => decide (a.toNat < r.mseq.toNat)) }) s)

/-- The lowest sequence a reply is held for. -/
def firstHeld (s : State) : Option Nat :=
  (s.mail.held.filterMap (fun h => match h.why with | .mirror q => some q.toNat | _ => none)).foldl
    (fun a q => match a with | some b => some (min b q) | none => some q) none

/-- MIRROR_ACK_TIMEOUT: 20 ms have passed for the oldest counter (R394). -/
def mirrorAckTimeout (s : State) : State :=
  match firstHeld s with | some q => releaseMirror (fun k => k.toNat == q) true s | none => s

/-! ### SOLO (R396, R397) -/

/-- The issuers a counter is known for, here or at the partner. -/
def shadowIssuers : List MirrorRec → List Issuer
  | [] => []
  | r :: rs =>
    let i : Option Issuer := if r.mtype = 4 then
        (match (byteAt r.body 0).toNat with
         | 1 => some (.slot (byteAt r.body 8).toNat) | 2 => some .owner | 3 => some (.tid (dig r.body 8)) | _ => none) else none
    i.toList ++ shadowIssuers rs

/-- Whether a counter record of an issuer is still unacknowledged. -/
def unacked (s : State) (i : Issuer) : Bool := (shadowIssuers s.twin.outMirror).contains i

/-- The last counters mirrored before a split (R399). -/
def splitBaseline (s : State) : List (Issuer × BitVec 64) :=
  let is := ((s.vault.franking.map Prod.fst) ++ shadowIssuers s.twin.shadow).dedup
  is.map (fun i =>
    let m := shadowCounter i s.twin.shadow
    let o := if unacked s i then 0 else ownCounter s i
    (i, if o.toNat < m.toNat then m else o))

/-- Entering SOLO. -/
def enterSolo (s : State) : State :=
  let base := splitBaseline s
  let s1 := destroySlot 0x30 (modWire none (fun _ => Wire.reset) s)
  let s2 := modTwin (fun t => { t with st := .solo, failovers := t.failovers + 1, hs := none, confirmIn := false, baseline := base,
                                       hasBase := true, outMirror := [] }) s1
  let s3 := modPort (fun p => { p with soloTick := tick s, fresh := false, rekeyDue := false }) s2
  alert 0 (twinLog 1 (partner s) (releaseMirror (fun _ => true) true s3))

/-- The higher of the two terms known. -/
def pairTerm (s : State) : BitVec 64 := if s.twin.term.toNat < s.port.peerTerm.toNat then s.port.peerTerm else s.twin.term

/-- LEASE_EXPIRY: the secondary declares failover (R396). -/
def leaseExpiry (s : State) : State :=
  if s.twin.st ≠ .paired then s
  else if s.twin.role = .secondary then enterSolo (modTwin (fun t => { t with term := pairTerm s + 1, role := .primary }) s)
  else enterSolo s

/-- REJOIN_HOLD_EXPIRY (R398). -/
def rejoinExpiry (s : State) : State :=
  if s.twin.st ≠ .solo then s
  else modPort (fun p => { p with versions := [] })
    (modTwin (fun t => { t with st := .unpaired, role := .none, shadow := [], baseline := [], hasBase := false }) s)

/-! ### Pairing (R388–R390) -/

/-- Whether the twin port is enabled (R386). -/
def twinEnabled (s : State) : Bool := s.twin.bond.isSome && s.power.twinSub == .on && hostReady s && !s.mem.ttClosed

/-- H0. -/
def h0Bytes (s : State) (b : Bond) : Bytes :=
  digBytes s.vault.did ++ leBytes 8 s.twin.term.toNat ++ [if b.primary then 1 else 2] ++ zeros 7

/-- Send a handshake message: in handshake frames, or in control frames under the current key for a rekey (R249). -/
def hsSend (port : Option Nat) (msg : Nat) (b : Bytes) (s : State) : State :=
  if (portKeys s port).isSome then
    (fragments msg b).foldl (fun t p => sendNow port (localFrame t port 4 0 0 p) t) s
  else emit (.handshake port b) s

/-- A rekey message has been received in control frames under the current key. -/
def hsArrived (port : Option Nat) (b : Bytes) (s : State) : State :=
  if (portKeys s port).isSome then
    modCipher port (fun c => { c with rxCount := c.rxCount + BitVec.ofNat 64 (max 1 (ceilDiv b.length 1020)) }) s
  else s

def setHs (h : Option Handshake) (s : State) : State := modTwin (fun t => { t with hs := h }) s

/-- Send H0 and begin a pairing. -/
def sendH0 (s : State) : State :=
  match s.twin.bond with
  | none => s
  | some b =>
    if !canShake s then s
    else
      let m := h0Bytes s b
      let theirs := match s.twin.hs with | some h => if h.mine = [] then h.theirs else [] | none => []
      emit (.handshake none m) (modTwin (fun t => { t with
        hs := some (hsNew m theirs), confirmIn := false, reconParts := 0, st := if t.st = .unpaired then .pairing else t.st }) s)

/-- A pairing stops (R389): counted and logged; a new H0 follows after 1 s. -/
def pairReject (s : State) : State :=
  twinLog 5 (partner s) (modTwin (fun t => { t with hs := none, pairReject := satInc t.pairReject }) s)

/-- Both H0s are there: the initiator is decided and sends H1 (R388). -/
def decideH0 (s : State) : State :=
  match s.twin.hs with
  | none => s
  | some h =>
    if h.mine = [] ∨ h.theirs = [] then s
    else
      let a := fld h.mine 48 8
      let b := fld h.theirs 48 8
      let ra := byteAt h.mine 56
      let s1 := modPort (fun p => { p with peerTerm := BitVec.ofNat 64 b }) s
      if a = b ∧ ra = byteAt h.theirs 56 then
        twinLog 6 (partner s) (modTwin (fun t => { t with hs := none, roleClash := satInc t.roleClash }) s1)
      else if b < a ∨ (a = b ∧ ra = 1) then
        let r := hsFirst (hsOpen h true) s1
        hsSend none 1 r.2.1 (setHs (some r.1) r.2.2)
      else setHs (some (hsOpen h false)) s1

/-- H0 received. -/
def recvH0 (msg : Bytes) (s : State) : State :=
  if !twinEnabled s ∨ !s.twin.trained ∨ s.vault.tce.isSome ∨ msg.length ≠ 64 ∨ !canShake s then s
  else
    let mine := match s.twin.hs with | some h => h.mine | none => []
    decideH0 (setHs (some (hsNew mine msg)) s)

/-- A pairing's key is derived: the first key of the port with its role, or a rekey's (R390, R249). -/
def pairKeyed (h : Handshake) (s : State) : State :=
  match hsKey h "U-HYB-TWIN" with
  | none => s
  | some k =>
    if s.vault.tce.isSome then rekeyPort none k (modPort (fun p => { p with newA := h.initiator }) <| setHs (some { h with ssEc := none, ssKem := none }) s)
    else
      let s1 := keyPort none k s
      let s2 := modTwin (fun t => { t with
        role := if h.initiator then .primary else .secondary, pairCount := 0, hs := some { h with ssEc := none, ssKem := none, confirmed := true } }) s1
      sendTwinEnv 0x981 (sha384b h.transcript) (modPort (fun p => { p with envOut := 0, isA := h.initiator, newA := h.initiator }) s2)

/-- Whether a message of a handshake may be taken: the port is unkeyed, or a rekey runs (R249). -/
def twinShakes (s : State) : Bool := twinEnabled s && s.twin.trained && canShake s && (s.vault.tce.isNone || s.port.wire.cipher.rekey)

/-- H1 at the responder; on a keyed port it opens the rekey of the primary. -/
def recvH1 (msg : Bytes) (s : State) : State :=
  match s.twin.hs with
  | none => s
  | some h0 =>
    let rekey := s.vault.tce.isSome
    let s0 := if rekey then modCipher none (fun c => { c with rekey := true }) s else s
    let h := if rekey then hsOpen h0 false else h0
    if !twinShakes s0 ∨ h.initiator ∨ h.transcript = [] ∨ h.ssEc.isSome ∨ (rekey ∧ s.twin.role ≠ .secondary) then s
    else
      let s1 := hsArrived none msg s0
      match hsSecond h msg s1 with
      | none => pairReject s1
      | some (h', out, s2) => hsSend none 2 out (setHs (some h') s2)

/-- H2 at the initiator. -/
def recvH2 (msg : Bytes) (s : State) : State :=
  match s.twin.hs, s.twin.bond with
  | some h, some b =>
    if !twinShakes s ∨ !h.initiator ∨ h.ephEc = [] ∨ h.ssEc.isSome then s
    else
      let s1 := hsArrived none msg s
      (match hsThird h msg b.partner b.acceptW b.acceptO s1 with
       | none => pairReject s1
       | some (h', out, s2) => pairKeyed { h' with ephEc := [], ephKem := [] } (hsSend none 3 out s2))
  | _, _ => s

/-- H3 at the responder. -/
def recvH3 (msg : Bytes) (s : State) : State :=
  match s.twin.hs, s.twin.bond with
  | some h, some b =>
    if !twinShakes s ∨ h.initiator ∨ h.ssEc.isNone then s
    else
      let s1 := hsArrived none msg s
      (match hsLast h msg b.partner b.acceptW b.acceptO s1 with
       | none => pairReject s1
       | some h' => pairKeyed h' s1)
  | _, _ => s

/-- TWIN_PORT_TRAINED (R386, R398): a port that was keyed trains unkeyed. -/
def twinPortTrained (s : State) : State :=
  if !twinEnabled s then s
  else
    let s1 := if s.vault.tce.isSome then unkey none s else s
    sendH0 (modTwin (fun t => { t with trained := true, hs := match t.hs with | some h => if h.mine = [] then some h else none | none => none }) s1)
    |> decideH0

/-- PAIRING_RETRY (R389): 1 s after a rejected handshake. -/
def pairingRetry (s : State) : State :=
  if twinEnabled s ∧ s.twin.trained ∧ s.vault.tce.isNone ∧ s.twin.hs.all (fun h => h.mine.isEmpty) then decideH0 (sendH0 s)
  else s

/-- PAIRING_TIMEOUT (R390): a pairing not complete 200 ms after H0 is abandoned. -/
def pairingTimeout (s : State) : State :=
  if s.twin.st = .paired ∧ s.vault.tce.isSome then s
  else if s.twin.hs.isNone ∧ s.vault.tce.isNone then s
  else
    let s1 := if s.vault.tce.isSome then destroySlot 0x30 (modWire none (fun _ => Wire.reset) s) else s
    modTwin (fun t => { t with hs := none, confirmIn := false, reconParts := 0,
                               st := if t.st = .pairing then .unpaired else t.st,
                               role := if t.st = .pairing then .none else t.role }) s1

/-- Start the twin port's rekey, as A (R249, R401). -/
def twinRekey (s : State) : State :=
  match s.twin.hs with
  | some h =>
    if s.twin.role = .primary ∧ s.vault.tce.isSome ∧ canShake s ∧ !s.port.wire.cipher.rekey then
      let r := hsFirst (hsOpen h true) (modCipher none (fun c => { c with rekey := true }) s)
      hsSend none 1 r.2.1 (setHs (some r.1) r.2.2)
    else s
  | none => s

/-! ### Lease (R391, R392) -/

/-- The interval pattern: ticks of interval `i` of 25. -/
def leaseInterval (i : Nat) : Nat := if i % 25 % 3 = 0 then 656 else 655

/-- A lease frame (Table 18-3). -/
def leasePayload (s : State) (seq : BitVec 64) (ack : Bool) : Bytes :=
  leBytes 8 s.twin.term.toNat ++ leBytes 8 seq.toNat ++ leBytes 1 (roleCode s.twin.role) ++ [if ack then 1 else 0] ++ zeros 6 ++
    leBytes 8 s.att.gen.toNat ++ leBytes 8 s.twin.mseqIn.toNat

/-- LEASE_TICK: the primary sends a lease frame; a resend of the mirror follows it where one is due. -/
def leaseTick (s : State) : State :=
  let s1 := modTwin (fun t => { t with leaseIdx := (t.leaseIdx + 1) % 25 }) s
  if s.twin.st ≠ .paired ∨ s.vault.tce.isNone then s1
  else
    let s2 : State :=
      if s.twin.role = .primary then
        let q := s1.twin.leaseSeq + 1
        let t := sendNow none (localFrame s1 none 4 0 1 (leasePayload s1 q false)) (modTwin (fun t => { t with leaseSeq := q }) s1)
        if s1.port.rekeyDue then twinRekey (modPort (fun p => { p with rekeyDue := false }) t) else t
      else s1
    if s2.port.fresh ∧ s2.twin.role = .primary then resendMirror s2 else s2

/-- LEASE_FRAME: a lease frame or its ACK (R391). A primary that sees a primary of a higher term has handed its lease over
(R401). -/
def leaseFrame (w : WireFrame) (s : State) : State :=
  let r := receiveFrame none w s
  match r.2 with
  | none => r.1
  | some f =>
    let p := f.payload
    if f.ftype ≠ 4 ∨ f.channel ≠ 1 ∨ p.length ≠ 40 ∨ r.1.twin.st ≠ .paired then r.1
    else
      let term := fld p 0 8
      let seq : BitVec 64 := BitVec.ofNat 64 (fld p 8 8)
      let ack := (byteAt p 0x11).getLsbD 0
      let s1 := mirrorAcked (BitVec.ofNat 64 (fld p 0x20 8))
        (modPort (fun x => { x with peerTerm := BitVec.ofNat 64 term }) (modTwin (fun t => { t with lastLease := tick s }) r.1))
      if ack then s1
      else
        let s2 := if s1.twin.role = .primary ∧ s1.twin.term.toNat < term then modTwin (fun t => { t with role := .secondary }) s1 else s1
        if s2.twin.role ≠ .secondary then s2
        else
          let s3 := sendNow none (localFrame s2 none 4 0 1 (leasePayload s2 seq true)) (modTwin (fun t => { t with leaseSeq := seq }) s2)
          if s3.port.fresh then resendMirror s3 else s3

/-! ### Mirror records (R393, Table 18-4) -/

/-- Whether a newer record stands in an older one's place in the shadow. -/
def supersedes (n o : MirrorRec) : Bool :=
  n.mtype == o.mtype &&
  (match n.mtype.toNat with
   | 3 => n.body.take 2 == o.body.take 2
   | 4 => n.body.take 56 == o.body.take 56
   | 5 => n.body.take 2 == o.body.take 2 && slice n.body 2 1 == slice o.body 2 1 && n.body.drop 8 == o.body.drop 8
   | 6 => true
   | _ => false)

/-- Store a record in the partner shadow. -/
def storeRecord (r : MirrorRec) (s : State) : State :=
  let s1 := modTwin (fun t => { t with shadow := t.shadow.filter (fun o => !supersedes r o) ++ [r],
                                       mseqIn := if t.mseqIn.toNat < r.mseq.toNat then r.mseq else t.mseqIn }) s
  if r.mtype = 3 then
    modPort (fun p => { p with versions := mset p.versions (fld r.body 0 2) (BitVec.ofNat 16 (fld r.body 2 2)) 0 }) s1
  else s1

/-- The records of a byte string. -/
def parseRecs : Nat → Bytes → List MirrorRec
  | 0, _ => []
  | n + 1, b =>
    let l := fld b 2 2
    if b.length < 12 + l then []
    else { mtype := byteAt b 0, mseq := BitVec.ofNat 64 (fld b 4 8), body := slice b 12 l } :: parseRecs n (b.drop (12 + l))

/-- MIRROR_RECORD: stored by the mirror writer while PAIRED. -/
def mirrorRecord (w : WireFrame) (s : State) : State :=
  let r := receiveFrame none w s
  match r.2 with
  | some f => if f.ftype = 4 ∧ f.channel = 2 ∧ r.1.twin.st = .paired then
      (parseRecs 1 f.payload).foldl (fun t x => storeRecord x t) r.1 else r.1
  | none => r.1

/-! ### Reconciliation (R399) -/

/-- The issuer and counter of a counter record. -/
def recordIssuer (r : MirrorRec) : Option (Issuer × BitVec 64) :=
  ((shadowIssuers [r]).head?).map (fun i => (i, BitVec.ofNat 64 (fld r.body 56 8)))

/-- The last value mirrored before the split. -/
def baseOf (s : State) (i : Issuer) : BitVec 64 :=
  match s.twin.baseline.find? (fun e => e.1 == i) with | some e => e.2 | none => 0

/-- A mirrored counter at reconciliation: the greater value, and a conflict where both sides went on. -/
def reconcileCounter (i : Issuer) (c : BitVec 64) (s : State) : State :=
  let o := ownCounter s i
  let b := baseOf s i
  let s1 := if s.twin.hasBase ∧ b.toNat < o.toNat ∧ b.toNat < c.toNat then
      twinLog 3 (dig (issuerBytes i) 8) s else s
  if o.toNat < c.toNat then
    let fr := if s1.vault.franking.any (fun e => e.1 == i) then s1.vault.franking.map (fun e => if e.1 == i then (i, c) else e)
      else s1.vault.franking ++ [(i, c)]
    { s1 with vault := { s1.vault with franking := fr } }
  else s1

/-- The initiator's pair policy at the responder. -/
def takePolicy (p : Bytes) (s : State) : State :=
  match s.twin.bond with
  | none => s
  | some b =>
    let mine := policyOf b.raw
    let same := slice mine 1 2 == slice p 1 2 && slice mine 4 4 == slice p 4 4 && mine.drop 8 == p.drop 8
    if s.twin.role ≠ .secondary ∨ same ∨ p.length ≠ 200 then s
    else
      let raw := b.raw.take 0x31 ++ slice p 1 2 ++ slice b.raw 0x33 1 ++ slice p 4 4 ++ slice b.raw 0x38 8 ++ p.drop 8 ++ b.raw.drop 0x100
      queueConfig none (twinLog 4 b.partner (modTwin (fun t => { t with bond := some (parseBond raw) }) s))

/-- One record of a RECONCILE envelope. -/
def reconcileRecord (r : MirrorRec) (s : State) : State :=
  if r.mtype = 0 then takePolicy r.body s
  else
    let s1 := match recordIssuer r with | some (i, c) => reconcileCounter i c s | none => s
    storeRecord r s1

/-- Reconciliation is complete: PAIRED. -/
def paired (s : State) : State :=
  twinLog 2 (partner s) (modTwin (fun t => { t with
    st := .paired, reconParts := 0, baseline := [], hasBase := false, lastLease := tick s, leaseIdx := 0, leaseSeq := 0,
    mirrorAck := t.mseqOut, lastGen := s.att.gen }) s)

/-- The body of RECONCILE. -/
def reconcileBody (e : Env) (s : State) : State × Ans :=
  let n := p16 e 0
  let total := p16 e 2
  if s.vault.tce.isNone ∨ !s.twin.confirmIn ∨ s.twin.st = .paired ∨ n ≠ s.twin.reconParts ∨ total ≤ n then (s, Ans.state)
  else
    let s1 := if n = 0 then modPort (fun p => { p with versions := [] }) (modTwin (fun t => { t with shadow := [], mseqIn := 0 }) s) else s
    let s2 := (parseRecs 8192 (e.payload.drop 8)).foldl (fun t r => reconcileRecord r t) s1
    let s3 := modTwin (fun t => { t with reconParts := n + 1 }) s2
    (if n + 1 = total then paired s3 else s3, Ans.ok)

/-! ### Twin group -/

/-- The payload checks of a bond (Table 18-1). -/
def bondChecks (e : Env) : List Chk :=
  [(0x30, decide (p8 e 0x30 = 1 ∨ p8 e 0x30 = 2)), (0x31, decide (p8 e 0x31 = 1 ∨ p8 e 0x31 = 2)),
   (0x32, decide (p8 e 0x32 = 1 ∨ p8 e 0x32 = 2))] ++ rsv e 0x33 1 ++ [(0x34, decide (1 ≤ p32 e 0x34 ∧ p32 e 0x34 ≤ 86400))] ++
  rsv e 0x38 8 ++ (if p8 e 0x31 = 1 then rsv e 0x70 48 else []) ++ (if p8 e 0x32 = 1 then rsv e 0xD0 48 else []) ++ rsv e 0x100 80

/-- TWIN_BOND_SET (R387): the sub-block comes on (R386); the reply waits for the flash. -/
def bondSet (e : Env) (s : State) : State × Ans :=
  if s.parts.debugOpen then (s, Ans.state)
  else if s.twin.bond.isSome then (s, Ans.conflict)
  else
    let s1 := modTwin (fun t => { t with bond := some (parseBond e.payload) }) { s with power := { s.power with twinSub := .on } }
    (queueConfig (some { env := e, op := 0x901 }) s1, Ans.waiting)

/-- TWIN_BOND_CLEAR (R387). -/
def bondClear (e : Env) (s : State) : State × Ans :=
  if s.twin.bond.isNone then (s, Ans.notFound)
  else
    let s1 := if s.twin.st = .paired then sendTwinEnv 0x984 [] s else s
    let s2 := releaseMirror (fun _ => true) true (destroySlot 0x30 (modWire none (fun _ => Wire.reset) s1))
    let s3 := modTwin (fun t => { t with bond := none, role := .none, st := .unpaired, trained := false, hs := none, confirmIn := false,
                                         shadow := [], baseline := [], hasBase := false, outMirror := [] }) s2
    let s4 := modPort (fun p => { p with versions := [], fresh := false, rekeyDue := false }) { s3 with power := { s3.power with twinSub := .off } }
    (queueConfig (some { env := e, op := 0x902 }) s4, Ans.waiting)

/-- TWIN_STATUS_GET. -/
def twinStatus (s : State) : Bytes :=
  leBytes 1 (roleCode s.twin.role) ++ leBytes 1 (twinStCode s.twin.st) ++ zeros 6 ++ leBytes 8 s.twin.term.toNat ++
    leBytes 8 s.twin.failovers.toNat ++ digBytes (partner s) ++ leBytes 8 s.twin.mseqOut.toNat ++ leBytes 8 s.twin.mirrorAck.toNat ++
    (List.range 1024).flatMap (fun n => leBytes 2 (slot s n).version.toNat ++ leBytes 2 (mgetD s.port.versions n 0).toNat)

/-- A twin log entry's 64 bytes (R400). -/
def twinLogBytes (r : EventRec) : Bytes := leBytes 8 r.tick.toNat ++ [r.event] ++ zeros 7 ++ digBytes r.id

/-- Positions of a log whose newest entry has ordinal `next` − 1. -/
def ordinals {α : Type} (next : Nat) (l : List α) : List (Nat × α) := l.zipIdx.map (fun x => (next - l.length + x.2, x.1))

/-- MIRROR_ACK_TIMEOUT (R394). -/
def execMirrorAckTimeout (s : State) : Answer := done s (mirrorAckTimeout s)

/-- LEASE_TICK (R391). -/
def execLeaseTick (s : State) : Answer := done s (leaseTick s)

/-- LEASE_FRAME (R391). -/
def execLeaseFrame (f : WireFrame) (s : State) : Answer := done s (leaseFrame f s)

/-- LEASE_EXPIRY (R396). -/
def execLeaseExpiry (s : State) : Answer := done s (leaseExpiry s)

/-- REJOIN_HOLD_EXPIRY (R398). -/
def execRejoinHoldExpiry (s : State) : Answer := done s (rejoinExpiry s)

/-- TWIN_PORT_TRAINED (R398). -/
def execTwinPortTrained (s : State) : Answer := done s (twinPortTrained s)

/-- H0 (R388). -/
def execH0 (msg : Bytes) (s : State) : Answer := done s (recvH0 msg s)

/-- H1 (R388). -/
def execH1 (msg : Bytes) (s : State) : Answer := done s (recvH1 msg s)

/-- H2 (R389). -/
def execH2 (msg : Bytes) (s : State) : Answer := done s (recvH2 msg s)

/-- H3 (R390). -/
def execH3 (msg : Bytes) (s : State) : Answer := done s (recvH3 msg s)

/-- PAIRING_RETRY (R389). -/
def execPairingRetry (s : State) : Answer := done s (pairingRetry s)

/-- PAIRING_TIMEOUT (R390). -/
def execPairingTimeout (s : State) : Answer := done s (pairingTimeout s)

/-- MIRROR_RECORD (R393). -/
def execMirrorRecord (f : WireFrame) (s : State) : Answer := done s (mirrorRecord f s)

/-- TWIN_BOND_SET (R387). -/
def execTwinBondSet (e : Env) (s : State) : Answer := done s (serve specTwinBondSet e (fun t => checked (bondChecks e) t (bondSet e t)) s)

/-- TWIN_BOND_CLEAR (R387). -/
def execTwinBondClear (e : Env) (s : State) : Answer := done s (serve specTwinBondClear e (bondClear e) s)

/-- TWIN_STATUS_GET (R402). -/
def execTwinStatusGet (e : Env) (s : State) : Answer := done s (serve specTwinStatusGet e (fun t => (t, Ans.ok (twinStatus t))) s)

/-- TWIN_SHADOW_READ (R397). -/
def execTwinShadowRead (e : Env) (s : State) : Answer := done s (serve specTwinShadowRead e (fun t =>
  checked (listChecks e) t (t, if t.twin.shadow = [] then Ans.notFound
    else listRead t e 65536 (t.twin.shadow.map (fun r => (r.mseq.toNat, mirrorBytes r))))) s)

/-- TWIN_LOG_READ (R400). -/
def execTwinLogRead (e : Env) (s : State) : Answer := done s (serve specTwinLogRead e (fun t =>
  checked (listChecks e) t (t, if t.twin.shadow = [] then Ans.notFound
    else listRead t e 65536 ((ordinals t.twin.logNext t.twin.log).map (fun r => (r.1, twinLogBytes r.2))))) s)

/-- TWIN_SWITCHOVER (R401). -/
def execTwinSwitchover (e : Env) (s : State) : Answer := done s (serve specTwinSwitchover e (fun t =>
  if t.twin.st = .paired ∧ t.twin.role = .primary ∧ t.vault.tce.isSome then
    (twinLog 8 (partner t) (sendTwinEnv 0x983 (leBytes 8 t.twin.term.toNat) t), Ans.ok)
  else (t, Ans.state)) s)

/-- PAIR_CONFIRM (R390): the partner's transcript digest verifies; the mirrored state is sent, or resent to a pair that was
only keyed again (R398). -/
def execPairConfirm (e : Env) (s : State) : Answer := done s (serve specPairConfirm e (fun t =>
  match t.twin.hs with
  | some h =>
    if t.vault.tce.isNone ∨ !h.confirmed ∨ t.twin.confirmIn ∨ dig e.payload 0 ≠ sha384 h.transcript then (t, Ans.state)
    else
      let t1 := modTwin (fun x => { x with confirmIn := true }) t
      if t.twin.st = .paired then (modPort (fun p => { p with fresh := true }) t1, Ans.ok) else (sendReconcile t1, Ans.ok)
  | none => (t, Ans.state)) s)

/-- RECONCILE (R399). -/
def execReconcile (e : Env) (s : State) : Answer := done s (serve specReconcile e (fun t => checked (rsv e 4 4) t (reconcileBody e t)) s)

/-- SWITCHOVER_OFFER (R401): the secondary takes the lease. -/
def execSwitchoverOffer (e : Env) (s : State) : Answer := done s (serve specSwitchoverOffer e (fun t =>
  if t.twin.st = .paired ∧ t.twin.role = .secondary ∧ t.vault.tce.isSome then
    let m := max (pairTerm t).toNat (p64 e 0)
    (twinLog 8 (partner t) (modPort (fun p => { p with rekeyDue := true })
      (modTwin (fun x => { x with term := BitVec.ofNat 64 (m + 1), role := .primary }) t)), Ans.ok)
  else (t, Ans.state)) s)

/-- LEAVE (R396). -/
def execLeave (e : Env) (s : State) : Answer := done s (serve specLeave e (fun t =>
  if t.twin.st = .paired ∧ t.vault.tce.isSome then (enterSolo t, Ans.ok) else (t, Ans.state)) s)

end Sys2Proof.Machine
end

