-- ==== Sys2Proof/Machine/Links.lean ====
section
/-! DEFINITION. Device links of a caravan (chapter 19): join sets, keying, adverts and routes, joins and the directory,
received frames, and the caravan commands. -/

namespace Sys2Proof.Machine

def modCar (f : Caravan → Caravan) (s : State) : State := { s with car := f s.car }

/-! ### Keying (R405–R407, Table 19-2) -/

/-- Whether a link is enabled (R403). -/
def linkEnabled (s : State) (n : Nat) : Bool :=
  hostReady s && (match s.car.join with | some j => j.mask.getLsbD n | none => false) && !s.mem.ltClosed.getLsbD n

/-- Whether a link has its key. -/
def linkHasKey (s : State) (n : Nat) : Bool := (portKeys s (some n)).isSome

/-- Whether a link may shake hands: enabled, and unkeyed or within a rekey. -/
def linkShakes (s : State) (n : Nat) : Bool :=
  linkEnabled s n && canShake s && (!linkHasKey s n || (linkOf s n).wire.cipher.rekey)

def setLinkHs (n : Nat) (h : Option Handshake) (s : State) : State := modLink n (fun l => { l with hs := h }) s

/-- L0 of a link. -/
def l0Bytes (s : State) (n : Nat) (j : JoinSet) : Bytes :=
  digBytes s.vault.did ++ leBytes 16 j.caravan.toNat ++ leBytes 2 j.post.toNat ++ leBytes 1 n ++ [j.priority] ++ zeros 12

/-- Fields of an L0. -/
def l0Did (b : Bytes) : Digest := dig b 0
def l0Post (b : Bytes) : Nat := fld b 64 2

/-- A handshake stops on a failed check (R405): counted and logged. On a keyed link only the rekey stops. -/
def linkReject (n : Nat) (s : State) : State :=
  match (linkOf s n).hs with
  | none => s
  | some h =>
    let s1 := carLog 3 n (l0Post h.theirs) (l0Did h.theirs) (modCar (fun c => { c with reject := satInc c.reject }) s)
    if linkHasKey s n then modCipher (some n) (fun c => { c with rekey := false }) (setLinkHs n (some (hsNew h.mine h.theirs)) s1)
    else modLink n (fun l => { l with hs := none, st := .training }) s1

/-- Whether another keyed link attests a postcode under a different DID (R406). -/
def attestedElsewhere (s : State) (n post : Nat) (d : Digest) : Bool :=
  s.car.links.any (fun e => e.1 != n && e.2.st == .keyed && e.2.peerPost.toNat == post && e.2.peerDid != d)

/-- Both L0s are there: clashing postcodes end the handshake (R406); the end with the lower postcode sends L1. -/
def decideL0 (n : Nat) (s : State) : State :=
  match (linkOf s n).hs with
  | none => s
  | some h =>
    if h.mine = [] ∨ h.theirs = [] then s
    else
      let a := l0Post h.mine
      let b := l0Post h.theirs
      if a = b ∨ attestedElsewhere s n b (l0Did h.theirs) then
        carLog 4 n b (l0Did h.theirs) (modCar (fun c => { c with clash := satInc c.clash })
          (modLink n (fun l => { l with hs := none, st := .training }) s))
      else if a < b then
        let r := hsFirst (hsOpen h true) s
        hsSend (some n) 1 r.2.1 (setLinkHs n (some r.1) r.2.2)
      else setLinkHs n (some (hsOpen h false)) s

/-- Send L0 and begin a handshake; an L0 that has already come stays. -/
def sendL0 (n : Nat) (s : State) : State :=
  match s.car.join with
  | none => s
  | some j =>
    if !canShake s then s
    else
      let m := l0Bytes s n j
      let theirs : Bytes := match (linkOf s n).hs with | some h => if h.mine = [] then h.theirs else [] | none => []
      emit (.handshake (some n) m) (modLink n (fun l => { l with hs := some (hsNew m theirs), st := .handshake, readySent := false }) s)

/-- LINK_TRAINED (R407): a link that was keyed trains unkeyed. -/
def linkTrained (n : Nat) (s : State) : State :=
  if !linkEnabled s n then s
  else
    let s1 := if linkHasKey s n then unkey (some n) s else s
    decideL0 n (sendL0 n (modLink n (fun l => { l with st := .training }) s1))

/-- LINK_DOWN (R407, R420): the keying ends and its routes go. -/
def linkDown (n : Nat) (s : State) : State :=
  if (linkOf s n).st = .disabled then s
  else modLink n (fun l => { l with st := .training, hs := none }) (unkey (some n) (logFault 7 2 5 n 0 0xFF 0 0 s))

/-- L0 received. -/
def recvL0 (n : Nat) (msg : Bytes) (s : State) : State :=
  if !linkEnabled s n ∨ linkHasKey s n ∨ msg.length ≠ 80 ∨ !canShake s then s
  else
    let mine := match (linkOf s n).hs with | some h => h.mine | none => []
    decideL0 n (setLinkHs n (some (hsNew mine msg)) s)

/-- LINK_READY: the control frame with payload 1; LEAVE's payload is 2. -/
def sendReady (n : Nat) (s : State) : State := sendNow (some n) (localFrame s (some n) 4 0 0 [1]) s
def sendLeave (n : Nat) (s : State) : State := sendNow (some n) (localFrame s (some n) 4 0 0 [2]) s

/-- The key of a link's handshake: its first, followed by LINK_READY (R407), or a rekey's (R249). -/
def linkKeyed (n : Nat) (h : Handshake) (s : State) : State :=
  match hsKey h "U-HYB-LINK" with
  | none => s
  | some k =>
    let s1 := setLinkHs n (some (hsNew h.mine h.theirs)) s
    if linkHasKey s n then rekeyPort (some n) k s1
    else sendReady n (keyPort (some n) k (modLink n (fun l =>
      { l with peerPost := BitVec.ofNat 16 (l0Post h.theirs), peerDid := l0Did h.theirs, readySent := true }) s1))

/-- L1 at B; on a keyed link it opens the rekey of A. -/
def recvL1 (n : Nat) (msg : Bytes) (s : State) : State :=
  match (linkOf s n).hs with
  | none => s
  | some h0 =>
    let rekey := linkHasKey s n
    let s0 := if rekey then modCipher (some n) (fun c => { c with rekey := true }) s else s
    let h := if rekey then hsOpen h0 false else h0
    if !linkShakes s0 n ∨ h.initiator ∨ h.transcript = [] ∨ h.ssEc.isSome ∨ (rekey && portA s (some n)) then s
    else
      let s1 := hsArrived (some n) msg s0
      match hsSecond h msg s1 with
      | none => linkReject n s1
      | some (h', out, s2) => hsSend (some n) 2 out (setLinkHs n (some h') s2)

/-- Whether both L0s name one caravan. -/
def sameCaravan (h : Handshake) : Bool := slice h.mine 48 16 == slice h.theirs 48 16

/-- L2 at A. -/
def recvL2 (n : Nat) (msg : Bytes) (s : State) : State :=
  match (linkOf s n).hs, s.car.join with
  | some h, some j =>
    if !linkShakes s n ∨ !h.initiator ∨ h.ephEc = [] ∨ h.ssEc.isSome then s
    else
      let s1 := hsArrived (some n) msg s
      if !sameCaravan h then linkReject n s1
      else match hsThird h msg (l0Did h.theirs) j.acceptW j.acceptO s1 with
        | none => linkReject n s1
        | some (h', out, s2) => linkKeyed n { h' with ephEc := [], ephKem := [] } (hsSend (some n) 3 out s2)
  | _, _ => s

/-- L3 at B. -/
def recvL3 (n : Nat) (msg : Bytes) (s : State) : State :=
  match (linkOf s n).hs, s.car.join with
  | some h, some j =>
    if !linkShakes s n ∨ h.initiator ∨ h.ssEc.isNone then s
    else
      let s1 := hsArrived (some n) msg s
      if !sameCaravan h then linkReject n s1
      else match hsLast h msg (l0Did h.theirs) j.acceptW j.acceptO s1 with
        | none => linkReject n s1
        | some h' => linkKeyed n h' s1
  | _, _ => s

/-- A verified LINK_READY: the link is KEYED; the next adverts go out in full. -/
def readyArrives (n : Nat) (s : State) : State :=
  let l := linkOf s n
  if l.st = .handshake ∧ l.readySent then
    carLog 1 n l.peerPost.toNat l.peerDid (modCar (fun c => { c with advert := 99 }) (modLink n (fun l => { l with st := .keyed }) s))
  else s

/-- LINK_HANDSHAKE_RETRY: a new L0, 1 s after a LINK_REJECT. -/
def linkRetry (n : Nat) (s : State) : State :=
  if linkEnabled s n ∧ (linkOf s n).st = .training ∧ !linkHasKey s n then decideL0 n (sendL0 n s) else s

/-- HANDSHAKE_TIMEOUT: a handshake not KEYED within 200 ms of L0 is abandoned. -/
def linkTimeout (n : Nat) (s : State) : State :=
  if (linkOf s n).st = .handshake then modLink n (fun l => { l with st := .training, hs := none }) (unkey (some n) s) else s

/-- Whether a rekey is due (R249): 2^32 frames either way, or 10 minutes of AOB ticks, under the current key. -/
def rekeyDue (s : State) (port : Option Nat) : Bool :=
  let c := (wireOf s port).cipher
  decide (2 ^ 32 ≤ c.txCount.toNat ∨ 2 ^ 32 ≤ c.rxCount.toNat ∨ 600 * 32768 ≤ (tick s - c.keyedAt).toNat)

/-- Start a link's rekey, as A. -/
def linkRekey (n : Nat) (s : State) : State :=
  match (linkOf s n).hs with
  | some h =>
    if (linkOf s n).st = .keyed ∧ portA s (some n) ∧ canShake s ∧ !(linkOf s n).wire.cipher.rekey then
      let r := hsFirst (hsOpen h true) (modCipher (some n) (fun c => { c with rekey := true }) s)
      hsSend (some n) 1 r.2.1 (setLinkHs n (some r.1) r.2.2)
    else s
  | none => s

/-- REKEY_START (R249). -/
def rekeyStart (port : Option (BitVec 4)) (s : State) : State :=
  let p := port.map BitVec.toNat
  if !rekeyDue s p then s
  else match p with | some n => linkRekey n s | none => twinRekey s

/-! ### Adverts and routes (R408, R412, R413) -/

/-- An advert entry: POSTCODE, DISTANCE, PRIORITY. -/
def advertEntry (post dist : Nat) (prio : BitVec 8) : Bytes := leBytes 2 post ++ leBytes 1 dist ++ [prio]

/-- What this device advertises on a link: itself, and its routes at their distance plus 1 — 25 back on the route's link. -/
def advertOn (s : State) (n : Nat) (full : Bool) : List Bytes :=
  let own : List Bytes := match s.car.join with | some j => if full then [advertEntry j.post.toNat 0 j.priority] else [] | none => []
  own ++ (s.car.routes.filter (fun e => full || e.2.changed)).map (fun e =>
    advertEntry e.1 (if e.2.link = n ∨ !e.2.ok then 25 else e.2.dist + 1) e.2.prio)

/-- Advert payloads of at most 254 entries, each behind the highest ROUND seen. -/
def advertPayloads (s : State) (es : List Bytes) : List Bytes :=
  (List.range (ceilDiv es.length 254)).map (fun i => leBytes 8 s.att.highRound.toNat ++ cat ((es.drop (254 * i)).take 254))

/-- ADVERT_TICK: every 10 ms the changed entries, every hundredth time all. -/
def advertTick (s : State) : State :=
  if s.car.join.isNone then s
  else
    let full := decide (99 ≤ s.car.advert)
    let ks := (s.car.links.filter (fun e => e.2.st == .keyed)).map Prod.fst
    let s1 := ks.foldl (fun t n => (advertPayloads s (advertOn s n full)).foldl (fun u p =>
      routeLocal n (localFrame u (some n) 4 0 3 p) u) t) s
    modCar (fun c => { c with advert := if full then 0 else c.advert + 1,
                              routes := c.routes.map (fun e => (e.1, { e.2 with changed := false })) }) s1
where
  routeLocal (n : Nat) (f : Frame) (t : State) : State := sendNow (some n) f t

/-- Send a JOIN to a candidate: this device's credentials (R413). -/
def sendJoin (post : Nat) (s : State) : State :=
  if canShake s then
    let c := ownCreds s (hsNonce [])
    sendControl 5 4 post 1 c.1 c.2
  else s

/-- A route is installed or updated; one that first leads to a ranked candidate brings a JOIN. -/
def installRoute (post : Nat) (r : RouteEntry) (s : State) : State :=
  let before : Bool := match mget s.car.routes post with | some o => isCandidate (post, o) | none => false
  let s1 := setRoute post r (modCar (fun c => { c with dir := mupd c.dir post (fun d => { d with lost := none }) }) s)
  if !before ∧ isCandidate (post, r) ∧ (ranked s1).contains post then sendJoin post s1 else s1

/-- One advert entry received on a link. The neighbour itself, at distance 0, is one link away. -/
def advertTakes (n : Nat) (post dist : Nat) (prio : BitVec 8) (s : State) : State :=
  let d := max 1 dist
  if post = myPost s then s
  else match mget s.car.routes post with
    | none => if d ≤ 24 then installRoute post { link := n, dist := d, prio := prio, changed := true } s else s
    | some o =>
      if 25 ≤ d then
        if o.ok ∧ o.link = n then
          let s1 := modCar (fun c => { c with dir := mupd c.dir post (fun m => { m with lost := some (tick s) }) })
            (setRoute post { o with dist := 25, changed := true } s)
          carLog 2 n post ((mget s1.car.dir post).map (·.did) |>.getD 0) s1
        else s
      else if !o.ok ∨ d < o.dist then installRoute post { link := n, dist := d, prio := prio, changed := true } s
      else if o.link = n ∧ (o.dist ≠ d ∨ o.prio ≠ prio) then installRoute post { o with dist := d, prio := prio, changed := true } s
      else s

/-- The entries of an advert. -/
def advertEntries (n : Nat) : Bytes → State → State
  | a :: b :: c :: d :: r, s => advertEntries n r (advertTakes n (a.toNat + 256 * b.toNat) c.toNat d s)
  | _, s => s

/-- Note a round number seen. -/
def seeRound (r : Nat) (s : State) : State :=
  if s.att.highRound.toNat < r then { s with att := { s.att with highRound := BitVec.ofNat 64 r } } else s

/-- A verified advert. -/
def advertArrives (n : Nat) (f : Frame) (s : State) : State := advertEntries n (f.payload.drop 8) (seeRound (fld f.payload 0 8) s)

/-! ### Held frames and the directory (R410, R413, R420) -/

/-- REORDER_HOLD_EXPIRY: 10 ms have passed; the held frames go, counted as a risk. -/
def reorderExpiry (post : Nat) (s : State) : State :=
  if s.car.held.any (fun h => h.post == post && h.reorder) then
    let n := match mget s.car.routes post with | some r => r.link | none => 0xFF
    carLog 6 n post 0 (modCar (fun c => { c with reorder := satInc c.reorder }) (releaseFrames post s))
  else s

/-- UNREACHABLE_DISCARD: frames held 2.0 s for an unreachable postcode are discarded and counted; their buffers are free. -/
def discardHeld (post : Nat) (s : State) : State :=
  let mine (h : HeldFrames) : Bool := h.post == post && !h.reorder
  let fs := (s.car.held.filter mine).flatMap (·.frames)
  let s1 := modCar (fun c => { c with held := c.held.filter (fun h => !mine h), unreach := satAdd c.unreach fs.length }) s
  fs.foldl (fun t f => match f.via with | some (m, cls, hops) => sendAck (some m) 0 [(cls, hops)] t | none => t) s1

/-- DIRECTORY_EXPIRY: a member unreachable for 2.0 s leaves the directory. -/
def directoryExpiry (post : Nat) (s : State) : State :=
  match mget s.car.dir post with
  | some d => if d.lost.isSome ∧ (routeOf s post).isNone then modCar (fun c => { c with dir := mdel c.dir post }) s else s
  | none => s

/-- The DID that a member's IDK certificate attests. -/
def credsDid (c : Creds) : Digest := sha384 (certEc c.idk ++ certMl c.idk)

/-- Answer a JOIN with JOIN_REJECT. -/
def rejectJoin (post : Nat) (s : State) : State :=
  sendControl 2 4 post 3 [] (modCar (fun c => { c with joinRej := satInc c.joinRej }) s)

/-- A JOIN at a candidate: one whose credentials do not read or verify is rejected. -/
def joinArrives (n : Nat) (src : Nat) (b : Bytes) (s : State) : State :=
  match s.car.join with
  | none => s
  | some j =>
    if j.priority = 0 then s
    else match parseCreds b 0 with
      | none => carLog 5 n src 0 (rejectJoin src s)
      | some c =>
        let d := credsDid c
        if !credsOk s c (hsNonce []) d j.acceptW j.acceptO ∨ fld c.stmt 6 2 ≠ src then carLog 5 n src d (rejectJoin src s)
        else match mget s.car.dir src with
          | some m =>
            if m.did = d then sendControl 2 4 src 2 [] s
            else carLog 4 n src d (rejectJoin src (modCar (fun c => { c with clash := satInc c.clash }) s))
          | none => sendControl 2 4 src 2 [] (modCar (fun c => { c with dir := mput c.dir src { did := d, lost := none } }) s)

/-- A JOIN_REJECT at a member. -/
def rejectArrives (n : Nat) (f : Frame) (s : State) : State :=
  carLog 5 n f.src.toNat ((postDid s f.src.toNat).getD 0) (modCar (fun c => { c with joinRej := satInc c.joinRej }) s)

/-- A LEAVE of a neighbour ends the link. -/
def leaveArrives (n : Nat) (s : State) : State :=
  modLink n (fun l => { l with st := .training, hs := none }) (unkey (some n) s)

/-! ### Caravan commands -/

/-- The payload checks of a join set (Table 19-1). -/
def joinChecks (e : Env) : List Chk :=
  [(0x13, decide (p8 e 0x13 = 1 ∨ p8 e 0x13 = 2)), (0x14, decide (p8 e 0x14 = 1 ∨ p8 e 0x14 = 2))] ++ rsv e 0x15 1 ++ rsv e 0x18 8 ++
    (if p8 e 0x13 = 1 then rsv e 0x50 48 else []) ++ (if p8 e 0x14 = 1 then rsv e 0xB0 48 else []) ++ rsv e 0xE0 32

/-- CARAVAN_JOIN_SET: the links of the mask are enabled; the reply waits for the flash. -/
def joinSet (e : Env) (s : State) : State × Ans :=
  if s.parts.debugOpen then (s, Ans.state)
  else if s.car.join.isSome then (s, Ans.conflict)
  else
    let j := parseJoin e.payload
    let ls : SMap Link := (bitsOf j.mask).map (fun n => (n, { Link.reset with st := .training }))
    (queueConfig (some { env := e, op := 0xA01 }) (modCar (fun c => { c with join := some j, links := ls, advert := 0 }) s), Ans.waiting)

/-- CARAVAN_LEAVE. -/
def caravanLeave (e : Env) (s : State) : State × Ans :=
  if s.car.join.isNone then (s, Ans.notFound)
  else
    let ks := (s.car.links.filter (fun l => l.2.st == .keyed)).map Prod.fst
    let s1 := ks.foldl (fun t n => sendLeave n t) s
    let s2 := (List.range 16).foldl (fun t n => destroySlot (0x20 + n) t) s1
    let s3 := modCar (fun c => { c with join := none, links := [], routes := [], held := [], dir := [], advert := 0 }) s2
    let s4 : State := { s3 with att := { s3.att with round := none, periodic := 0, rollup := none, records := [], fetching := [] } }
    (queueConfig (some { env := e, op := 0xA02 }) s4, Ans.waiting)

/-- A link record of CARAVAN_STATUS_GET. -/
def linkRecord (s : State) (n : Nat) : Bytes :=
  let l := linkOf s n
  let st : BitVec 8 := match l.st with | .disabled => 0 | .training => 1 | .handshake => 2 | .keyed => 3
  [st] ++ leBytes 2 l.peerPost.toNat ++ [0] ++
    leBytes 4 l.keyFaults.toNat

/-- CARAVAN_STATUS_GET: 188 bytes. Without a lead, LEAD is 0xFFFF. -/
def caravanStatus (s : State) : Bytes :=
  let c := s.car
  let cs := ranked s
  leBytes 2 (myPost s) ++ leBytes 2 ((lead s).getD 0xFFFF) ++
    (List.range 8).flatMap (fun i => leBytes 2 (cs.getD i 0xFFFF)) ++ leBytes 4 c.dir.length ++ zeros 4 ++
    (List.range 16).flatMap (linkRecord s) ++
    [c.reject, c.clash, c.reorder, c.hold, c.unreach, c.hops0, c.joinRej, c.broken].flatMap (fun x => leBytes 4 x.toNat)

/-- The payload checks of a channel (Table 19-4). -/
def channelChecks (e : Env) : List Chk :=
  [(0, decide (0x10 ≤ p16 e 0)), (2, decide (p8 e 2 = e.target.toNat)), (3, decide (p8 e 3 = 1 ∨ p8 e 3 = 2))] ++
    (if p8 e 3 = 2 then [(6, decide (p8 e 6 < 16))] else []) ++ rsv e 7 1 ++
    (if p8 e 3 = 2 then [(16, decide (4096 ≤ p32 e 16 ∧ p32 e 16 ≤ 65536 ∧ p32 e 16 % 64 = 0)),
                         (20, decide (1 ≤ p16 e 20 ∧ p16 e 20 ≤ 4096))] else []) ++ rsv e 22 10

/-- CHANNEL_SET (R415, R418). -/
def channelSet (e : Env) (s : State) (x : Partition) : State × Ans :=
  let ch := p16 e 0
  let p := e.target.toNat
  let data := p8 e 3 == 2
  let chd := channelCircle s x.policy p (p16 e 4) ch true
  if data ∧ !mhas x.windows (p8 e 6) then (s, Ans.notFound)
  else if mhas s.car.channels ch then (s, Ans.conflict)
  else if 1024 ≤ s.car.channels.length then (s, Ans.exhausted)
  else if x.mode = .confidential ∧ chd.isNone then (s, Ans.state)
  else
    let c : Channel := { part := p, data := data, dst := BitVec.ofNat 16 (p16 e 4), outbox := p8 e 6, offset := p64 e 8, block := p32 e 16,
                         ring := p16 e 20, next := 0, credits := p16 e 20, chd := if x.mode = .confidential then chd else none,
                         wait := [], seq := 0 }
    (modCar (fun k => { k with channels := mput k.channels ch c }) s, Ans.ok)

/-- CHANNEL_CLEAR. -/
def channelClear (e : Env) (s : State) : State × Ans :=
  if mhas s.car.channels (p16 e 0) then (modCar (fun c => { c with channels := mdel c.channels (p16 e 0) }) s, Ans.ok)
  else (s, Ans.notFound)

/-- A route record of ROUTE_TABLE_READ. -/
def routeRecord (e : Nat × RouteEntry) : Bytes := leBytes 2 e.1 ++ leBytes 1 e.2.link ++ leBytes 1 e.2.dist ++ zeros 4

/-- A caravan log entry (Table 23-14). -/
def carLogBytes (r : EventRec) : Bytes :=
  leBytes 8 r.tick.toNat ++ [r.event, r.link] ++ leBytes 2 r.post.toNat ++ zeros 4 ++ digBytes r.id

/-! ### Meanings -/

/-- LINK_TRAINED (R407). -/
def execLinkTrained (n : BitVec 4) (s : State) : Answer := done s (linkTrained n.toNat s)

/-- LINK_DOWN (R420). -/
def execLinkDown (n : BitVec 4) (s : State) : Answer := done s (linkDown n.toNat s)

/-- L0 (R406). -/
def execL0 (n : BitVec 4) (msg : Bytes) (s : State) : Answer := done s (recvL0 n.toNat msg s)

/-- L1 (R405). -/
def execL1 (n : BitVec 4) (msg : Bytes) (s : State) : Answer := done s (recvL1 n.toNat msg s)

/-- L2 (R405). -/
def execL2 (n : BitVec 4) (msg : Bytes) (s : State) : Answer := done s (recvL2 n.toNat msg s)

/-- L3 (R407). -/
def execL3 (n : BitVec 4) (msg : Bytes) (s : State) : Answer := done s (recvL3 n.toNat msg s)

/-- LINK_HANDSHAKE_RETRY (R405). -/
def execLinkHandshakeRetry (n : BitVec 4) (s : State) : Answer := done s (linkRetry n.toNat s)

/-- HANDSHAKE_TIMEOUT (R407). -/
def execHandshakeTimeout (n : BitVec 4) (s : State) : Answer := done s (linkTimeout n.toNat s)

/-- REKEY_START (R249). -/
def execRekeyStart (port : Option (BitVec 4)) (s : State) : Answer := done s (rekeyStart port s)

/-- LINK_FRAME_SEND (R411). -/
def execLinkFrameSend (port : Option (BitVec 4)) (s : State) : Answer := done s (frameSend (port.map BitVec.toNat) s)

/-- LINK_REPLAY (R247). -/
def execLinkReplay (port : Option (BitVec 4)) (counter : BitVec 64) (s : State) : Answer :=
  done s (replay (port.map BitVec.toNat) counter s)

/-- ADVERT_TICK (R408). -/
def execAdvertTick (s : State) : Answer := done s (advertTick s)

/-- REORDER_HOLD_EXPIRY (R410). -/
def execReorderHoldExpiry (post : BitVec 16) (s : State) : Answer := done s (reorderExpiry post.toNat s)

/-- UNREACHABLE_DISCARD (R410). -/
def execUnreachableDiscard (post : BitVec 16) (s : State) : Answer := done s (discardHeld post.toNat s)

/-- DIRECTORY_EXPIRY (R413). -/
def execDirectoryExpiry (post : BitVec 16) (s : State) : Answer := done s (directoryExpiry post.toNat s)

/-- CHANNEL_BLOCK_SEND (R416). -/
def execChannelBlockSend (ch : BitVec 16) (s : State) : Answer := done s (blockSend ch.toNat s)

/-- CARAVAN_JOIN_SET (R403). -/
def execCaravanJoinSet (e : Env) (s : State) : Answer := done s (serve specCaravanJoinSet e (fun t => checked (joinChecks e) t (joinSet e t)) s)

/-- CARAVAN_LEAVE (R403). -/
def execCaravanLeave (e : Env) (s : State) : Answer := done s (serve specCaravanLeave e (caravanLeave e) s)

/-- CARAVAN_STATUS_GET. -/
def execCaravanStatusGet (e : Env) (s : State) : Answer := done s (serve specCaravanStatusGet e (fun t => (t, Ans.ok (caravanStatus t))) s)

/-- CHANNEL_SET (R418). -/
def execChannelSet (e : Env) (s : State) : Answer := done s (serve specChannelSet e (fun t =>
  checked (channelChecks e) t (withPart e t (channelSet e t))) s)

/-- CHANNEL_CLEAR (R419). -/
def execChannelClear (e : Env) (s : State) : Answer := done s (serve specChannelClear e (fun t => checked (rsv e 2 6) t (channelClear e t)) s)

/-- ROUTE_TABLE_READ (R408). -/
def execRouteTableRead (e : Env) (s : State) : Answer := done s (serve specRouteTableRead e (fun t =>
  checked (listChecks e) t (t, if t.car.join.isNone then Ans.notFound
    else listFrom t e 65536 [] (t.car.routes.map (fun r => (r.1, routeRecord r))))) s)

/-- CARAVAN_LOG_READ (R473). -/
def execCaravanLogRead (e : Env) (s : State) : Answer := done s (serve specCaravanLogRead e (fun t =>
  checked (listChecks e) t (t, if t.car.join.isNone then Ans.notFound
    else listRead t e 65536 ((ordinals t.car.logNext t.car.log).map (fun r => (r.1, carLogBytes r.2))))) s)

end Sys2Proof.Machine
end

