-- ==== Sys2Proof/Machine/Device.lean ====
section
/-! DEFINITION. The device group (Table 23-5): identity, logs, recovery by scope (R464, R465, R475) and the power policy
(R62–R65, R474). -/

namespace Sys2Proof.Machine

/-! ### Identity and logs -/

/-- DEVICE_INFO_GET: 96 bytes. -/
def deviceInfo (s : State) : Bytes :=
  let f := s.fuses.shadow
  let build := match mget s.boot.layers 1 with | some l => l.build.toNat | none => 0
  [partCode f, steppingCode f, f.code, if s.parts.debugOpen then 1 else 0] ++ zeros 4 ++ leBytes 8 f.serial.toNat ++
    leBytes 8 s.boot.bn.toNat ++ leBytes 8 (bootStatus s).toNat ++ digBytes s.vault.did ++ leBytes 4 Config.romVersion.toNat ++
    zeros 4 ++ leBytes 8 build

/-- A dead-letter entry (Table 08-8). -/
def deadBytes (d : DeadLetter) : Bytes :=
  leBytes 8 d.tick.toNat ++ leBytes 8 d.seq.toNat ++ leBytes 2 d.opcode.toNat ++ [d.path, d.caller, d.target, d.sent] ++
    leBytes 2 d.internal.toNat ++ leBytes 4 d.check.toNat ++ leBytes 4 d.entry.toNat ++ leBytes 4 d.count.toNat ++ zeros 12 ++
    beBytes 16 d.source.toNat

/-- A fault record (Table 22-4). -/
def faultBytes (r : FaultRec) : Bytes :=
  leBytes 8 r.tick.toNat ++ leBytes 2 r.cls.toNat ++ [r.severity, r.scope] ++ leBytes 4 r.unit_.toNat ++
    leBytes 8 r.location.toNat ++ [r.part, r.action, 0, 0] ++ leBytes 4 r.count.toNat ++ leBytes 4 r.entry.toNat ++
    leBytes 8 r.detail.toNat ++ zeros 20

/-! ### Recovery (R464, R465, R475) -/

/-- The distinct partitions with a core on a tile. -/
def tileParts (s : State) (t : Nat) : List Nat := ((tileCores t).filterMap (coreHolder s)).dedup

/-- Cancel the work of a tile's cores and turn it off; the number of entries dropped. -/
def tileDown (t : Nat) (s : State) : State × Nat :=
  let r := cancelCores ((tileCores t).filter (fun c => (core s c).st != .unassigned)) s
  (tileOff t r.1, r.2)

/-- RECOVER tile: its partitions are charged one act each; the reply waits until it runs again. -/
def recoverTile (e : Env) (t : Nat) (s : State) : State × Ans :=
  if tileScrub s t ∨ s.aon.ret.tripLatch ∨ (s.power.tileFence.getLsbD t ∧ !s.mail.tileClosed.getLsbD t) then (s, Ans.state)
  else
    let s1 := (tileParts s t).foldl (fun u p => countActPart p u) s
    let r := tileDown t s1
    let s2 : State := { r.1 with mail := { r.1.mail with recovering := r.1.mail.recovering ++ [(t, r.2, pend e 0x106)] },
                                 power := { r.1.power with tileFence := setBit r.1.power.tileFence t false } }
    (startDomain (tilePd t) s2, Ans.waiting)

/-- RECOVER. -/
def recoverBody (e : Env) (s : State) : State × Ans :=
  let sc := p8 e 0
  let u := p8 e 1
  if sc = 3 then recoverTile e u s
  else if sc = 5 then
    if (linkOf s u).st = .disabled then (s, Ans.notFound)
    else (modLink u (fun l => { l with st := .training, hs := none }) (unkey (some u) s), Ans.ok)
  else if sc = 7 then ({ s with flash := { s.flash with lockRecover := true } }, Ans.ok)
  else ({ s with mail := { s.mail with recoverDue := true } }, Ans.ok)

/-- The payload checks of RECOVER. -/
def recoverChecks (s : State) (e : Env) : List Chk :=
  let sc := p8 e 0
  [(0, decide (sc = 3 ∨ sc = 5 ∨ sc = 7 ∨ sc = 0xFF)),
   (1, decide (sc = 3 → p8 e 1 < nTiles s) && decide (sc = 5 → p8 e 1 < 16))] ++ rsv e 2 6

/-! ### Power policy (R62–R65, R474) -/

/-- The policy that a POWER_POLICY_SET carries. -/
def policyOfEnv (e : Env) : PowerPolicy :=
  { tileIdleMs := BitVec.ofNat 16 (p16 e 0), stackIdleMs := BitVec.ofNat 16 (p16 e 2), deepIdle := (byteAt e.payload 4).getLsbD 0,
    tileOn := byteAt e.payload 6, tileOff := byteAt e.payload 7, stackOn := byteAt e.payload 8 }

/-- The 16 bytes of a policy. -/
def policyRecord (x : PowerPolicy) : Bytes :=
  leBytes 2 x.tileIdleMs.toNat ++ leBytes 2 x.stackIdleMs.toNat ++ [if x.deepIdle then 1 else 0, 0, x.tileOn, x.tileOff, x.stackOn] ++
    zeros 7

/-- The payload checks of a policy. -/
def policyChecks (s : State) (e : Env) : List Chk :=
  let x := policyOfEnv e
  let fits (m : BitVec 8) (n : Nat) : Bool := decide (m.toNat < 2 ^ n)
  [(0, decide (1 ≤ p16 e 0 ∧ p16 e 0 ≤ 1000)), (2, decide (1 ≤ p16 e 2 ∧ p16 e 2 ≤ 1000)), (4, decide (p8 e 4 ≤ 1))] ++ rsv e 5 1 ++
    [(6, fits x.tileOn (nTiles s)), (7, fits x.tileOff (nTiles s) && x.tileOn &&& x.tileOff == 0), (8, fits x.stackOn (nStacks s))] ++
    rsv e 9 7

/-- Whether a tile could be on: it is not fenced or tripped, and no window of its cores lies on a fenced stack. -/
def tileMayRun (s : State) (t : Nat) : Bool :=
  !s.power.tileFence.getLsbD t && !s.aon.ret.tripLatch &&
    (tileParts s t).all (fun p => match part? s p with
      | some x => x.windows.all (fun w => !s.power.stackFence.getLsbD w.2.stack)
      | none => true)

/-- The stacks on which a tile's partitions hold windows. -/
def tileStacks (s : State) (t : Nat) : List Nat :=
  ((tileParts s t).flatMap (fun p => match part? s p with | some x => x.windows.map (fun w => w.2.stack) | none => [])).dedup

/-- Start a tile with the controllers of its windows' stacks (R63, Table 03-2). -/
def startTile (t : Nat) (s : State) : State :=
  startDomain (tilePd t) ((tileStacks s t).foldl (fun u n => startDomain (stackPd n) u) s)

/-- Force a tile OFF: its work is DROPPED and charged to the partitions it belongs to (R65). -/
def forceOff (t : Nat) (s : State) : State × Nat :=
  let mine := (tileCores t).flatMap (coreEntries s)
  let s1 := mine.foldl (fun u m => countActPart m.2.part u) s
  tileDown t s1

/-- POWER_POLICY_SET (R474): exempt tiles and stacks that are off start; forced tiles go off. -/
def powerPolicySet (e : Env) (s : State) : State × Ans :=
  let x := policyOfEnv e
  let off := (bitsOf x.tileOff)
  let on := (bitsOf x.tileOn).filter (fun t => domOf s (tilePd t) != .on)
  if off.any (fun t => tileConf s t || tileScrub s t) ∨ on.any (fun t => !tileMayRun s t) ∨
      (bitsOf x.stackOn).any (fun n => s.power.stackFence.getLsbD n) ∨ (x.deepIdle && (s.twin.bond.isSome || s.car.join.isSome)) then
    (s, Ans.state)
  else
    let s1 : State := { s with power := { s.power with policy := x } }
    let r := (off.filter (fun t => domOf s1 (tilePd t) != .off)).foldl (fun (a : State × Nat) t =>
      let q := forceOff t a.1
      (q.1, a.2 + q.2)) (s1, 0)
    let s2 := (bitsOf x.stackOn).foldl (fun u n => startDomain (stackPd n) u) (on.foldl (fun u t => startTile t u) r.1)
    (s2, Ans.okD (count31 r.2))

/-- A domain's byte in POWER_POLICY_GET and the device status page. -/
def domByte (s : State) (pd : Nat) : BitVec 8 := match domOf s pd with | .off => 0 | .on => 1 | .starting => 2

/-- POWER_POLICY_GET: 40 bytes. PD0 is ON while the device answers. -/
def powerPolicyGet (s : State) : Bytes :=
  policyRecord s.power.policy ++ (1 : BitVec 8) :: (List.range 21).map (fun i => domByte s (i + 1)) ++ zeros 2

/-! ### Meanings -/

/-- DEVICE_INFO_GET. -/
def execDeviceInfoGet (e : Env) (s : State) : Answer := done s (serve specDeviceInfoGet e (fun t => (t, Ans.ok (deviceInfo t))) s)

/-- DEADLETTER_READ (R201). -/
def execDeadletterRead (e : Env) (s : State) : Answer := done s (serve specDeadletterRead e (fun t =>
  checked (listChecks e) t (t, listRead t e 900 (t.mail.dead.map (fun d => (d.entry.toNat, deadBytes d))))) s)

/-- FAULT_LOG_READ (R462). -/
def execFaultLogRead (e : Env) (s : State) : Answer := done s (serve specFaultLogRead e (fun t =>
  checked (listChecks e) t (t, listRead t e 900 (t.mail.faults.map (fun r => (r.entry.toNat, faultBytes r))))) s)

/-- RECOVER (R464, R465, R475). -/
def execRecover (e : Env) (s : State) : Answer :=
  done s (serve specRecover e (fun t => checked (recoverChecks t e) t (recoverBody e t)) s)

/-- POWER_POLICY_SET (R474). -/
def execPowerPolicySet (e : Env) (s : State) : Answer :=
  done s (serve specPowerPolicySet e (fun t => checked (policyChecks t e) t (powerPolicySet e t)) s)

/-- POWER_POLICY_GET. -/
def execPowerPolicyGet (e : Env) (s : State) : Answer := done s (serve specPowerPolicyGet e (fun t => (t, Ans.ok (powerPolicyGet t))) s)

end Sys2Proof.Machine
end

