-- ==== Sys2Proof/Machine/Engines.lean ====
section
/-! DEFINITION. The digest engines, the symmetric and the public-key engine, the working key register and the DRBG
(chapter 07). -/

namespace Sys2Proof.Machine

/-! ### Digest engines (Table 07-2) -/

def deOf (s : State) (n : Nat) : DigestEngine := mgetD s.eng.de n DigestEngine.idle
def setDe (n : Nat) (d : DigestEngine) (s : State) : State :=
  { s with eng := { s.eng with de := mset s.eng.de n d DigestEngine.idle } }
def status (c : String) (s : State) : State := emit (.engineStatus c) s

/-- Zero the hybrid secret buffer (R165). -/
def zeroHsb (s : State) : State := { s with eng := { s.eng with hsbEcdh := none, hsbKem := none } }
/-- Zero the working key register (R130). -/
def zeroWkr (s : State) : State := { s with vault := { s.vault with wkr := 0 } }

/-- The hash of an algorithm, its block and its digest in bytes. -/
def hashOf : DigestAlg → Bytes → Bytes
  | .sha256, m => beBytes 32 (Config.sha256 m).toNat
  | .sha384, m => sha384b m
  | .sha512, m => beBytes 64 (Config.sha512 m).toNat
def blockOf : DigestAlg → Nat | .sha256 => 64 | _ => 128
def digestLen : DigestAlg → Nat | .sha256 => 32 | .sha384 => 48 | .sha512 => 64

/-- The bytes of a bank as a key: 32 for an AES-256 key, else 48 (R129). -/
def bankBytes (x : Slot) (k : Digest) : Bytes := if x.type = 1 then beBytes 32 (aesKey k).toNat else digBytes k

/-- The WORLD bit number of a slot, counted from bit 12. -/
def worldOf (x : Slot) : Nat := if x.attr.getLsbD 12 then 0 else if x.attr.getLsbD 13 then 1 else 2

/-- The sealing target of the context a pool slot is granted for (R211). -/
def poolTarget (s : State) (n : Nat) : Option Digest :=
  match (resOf s 5 n).st with | .held p => slotTarget s p n | _ => none

/-- The lanes of a keyed pass (R153, R154); none where R128 refuses the slot. -/
def lanes (s : State) (a : DeStartArgs) : Option (Option Bytes × Option Bytes × BitVec 3) :=
  match a.mode, a.key with
  | .plain, .none => some (none, none, 0)
  | .kdf, .hsb =>
    match s.eng.hsbEcdh, s.eng.hsbKem with
    | some x, some k => some (some (digBytes x ++ beBytes 32 k.toNat), none, 1)
    | _, _ => none
  | .plain, _ => none
  | m, .slot n =>
    let x := slot s n.toNat
    if slotServesUse s n.toNat 0 0 (worldOf x) (if m = .hmac then 7 else 8) then
      let bs := banksFor x (poolTarget s n.toNat)
      let find (p : Bool) : Option Bytes := (bs.find? (fun b => b.1 == p)).map (fun b => bankBytes x b.2)
      if bs = [] then none else some (find false, find true, x.attr.extractLsb' 12 3)
    else none
  | _, _ => none

/-- Load a message: LOADED, or back to IDLE where the key is refused. -/
def loadMsg (n : Nat) (a : DeStartArgs) (s : State) : State :=
  let d := deOf s n
  if a.mode = .kdf ∧ ¬ (1 ≤ a.l.toNat ∧ a.l.toNat ≤ 512) then status "REFUSED" s
  else match lanes s a with
    | none => status "REFUSED" (setDe n { DigestEngine.idle with queued := d.queued, fenced := d.fenced, lastFault := d.lastFault } s)
    | some (la, lb, w) =>
      setDe n { d with st := .loaded, args := a, laneA := la, laneB := lb, world := w, msg := [], frags := 0, resA := none,
                       resB := none } s

/-- Take the next queued START, if any (R149). -/
def nextStart (n : Nat) (s : State) : State :=
  let d := deOf s n
  match d.queued with
  | [] => s
  | a :: q => if d.st = .loaded ∨ d.st = .running then s else loadMsg n a (setDe n { d with queued := q } s)

/-- START. -/
def deStart (n : Nat) (a : DeStartArgs) (s : State) : State :=
  let d := deOf s n
  if d.fenced then status "ENGINE_FAULT" s
  else if d.st = .loaded ∨ d.st = .running then setDe n { d with queued := d.queued ++ [a] } s
  else loadMsg n a s

/-- ABORT, and every abort of a message: message, lanes, result, WKR and HSB zeroed (R130, R165). -/
def deAbort (n : Nat) (s : State) : State :=
  let d := deOf s n
  nextStart n (zeroWkr (zeroHsb (setDe n { DigestEngine.idle with queued := d.queued, fenced := d.fenced, lastFault := d.lastFault } s)))

/-- One fragment's bytes, or the code that aborts the message (Table 07-4, R151, R152). -/
def fragBytes (f : DeFrag) (s : State) : State × (Bytes ⊕ String) :=
  let len := f.lenM1.toNat + 1
  let a := f.addr.toNat
  let part := decide (f.part.toNat < nParts s)
  if f.rsv ≠ 0 ∨ 3 < f.space.toNat ∨ !part then (s, .inr "DESC_ERROR")
  else if f.space = 0 then if 0x200000 < a + len then (s, .inr "DESC_ERROR") else (s, .inl (mread s.eng.sram a len))
  else if f.space = 1 then
    let r := memRead (.engine f.part) f.window.toNat a len s
    if r.2.1 ≠ 0 then (r.1, .inr "WINDOW_FAULT") else (r.1, .inl r.2.2)
  else if f.space = 2 then
    if 2 ^ 64 < a + len then (s, .inr "DESC_ERROR")
    else if f.data.length ≠ len ∨ !s.power.pcie then (s, .inr "HOST_READ") else (s, .inl f.data)
  else if a ≠ 0 ∨ f.window ≠ 0 ∨ f.data.length ≠ len then (s, .inr "DESC_ERROR") else (s, .inl f.data)

/-- Stream fragments up to the first with LAST. -/
def stream : List DeFrag → State → State × (Bytes ⊕ String)
  | [], s => (s, .inl [])
  | f :: fs, s =>
    let r := fragBytes f s
    match r.2 with
    | .inr c => (r.1, .inr c)
    | .inl b =>
      if f.last then (r.1, .inl b)
      else
        let t := stream fs r.1
        match t.2 with | .inl bs => (t.1, .inl (b ++ bs)) | .inr c => (t.1, .inr c)

/-- How many fragments a list brings: those up to LAST. -/
def fragCount : List DeFrag → Nat | [] => 0 | f :: fs => if f.last then 1 else fragCount fs + 1

/-- DATA (R150, R151). -/
def deData (n : Nat) (fs : List DeFrag) (s : State) : State :=
  let d := deOf s n
  if d.fenced then status "ENGINE_FAULT" s
  else if d.st = .idle then s
  else
    let d1 := if d.st = .done then { d with msg := [], frags := 0, resA := none, resB := none } else d
    let k := fragCount fs
    let bad := fs = [] ∨ 4096 < fs.length ∨ 4096 < d1.frags + k ∨ (fs.length = 4096 ∧ fs.all (fun f => !f.last))
    if bad then status "DESC_ERROR" (deAbort n s)
    else
      let r := stream fs s
      match r.2 with
      | .inr c => status c (deAbort n r.1)
      | .inl b => setDe n { d1 with st := .running, msg := d1.msg ++ b, frags := d1.frags + k } r.1

/-- The counter-mode KDF of a keyed pass: HMAC over the block number, the streamed bytes and L (chapter 04). -/
def deKdf (alg : DigestAlg) (key msg : Bytes) (l : Nat) : Bytes :=
  let out := cat ((List.range (ceilDiv l (8 * digestLen alg))).map (fun i =>
    hmacOver (hashOf alg) (blockOf alg) key (beBytes 4 (i + 1) ++ msg ++ beBytes 4 l)))
  let b := out.take (ceilDiv l 8)
  let pad := 8 * b.length - l
  b.dropLast ++ (b.getLast?.map (fun (x : Byte) => (x >>> pad) <<< pad)).toList

/-- One lane's result. -/
def laneResult (a : DeStartArgs) (key : Option Bytes) (msg : Bytes) : Option Bytes :=
  match a.mode with
  | .plain => some (hashOf a.alg msg)
  | .hmac => key.map (fun k => hmacOver (hashOf a.alg) (blockOf a.alg) k msg)
  | .kdf => key.map (fun k => deKdf a.alg k msg a.l.toNat)

/-- FINISH. -/
def deFinish (n : Nat) (s : State) : State :=
  let d := deOf s n
  if d.fenced then status "ENGINE_FAULT" s
  else if d.st = .loaded ∨ d.st = .running then
    let d1 := { d with st := .done, resA := laneResult d.args d.laneA d.msg,
                       resB := if d.args.mode = .plain then none else laneResult d.args d.laneB d.msg }
    let s1 := setDe n d1 s
    nextStart n (if d.args.key = .hsb then zeroHsb s1 else s1)
  else s

/-! ### Routes (Table 07-5, R155–R157) -/

/-- Whether a route is permitted for a result's kind. -/
def routeOk (d : DigestEngine) : ResultRoute → Bool
  | .compareSram _ | .compareResult _ | .compareBank _ _ => true
  | .slot _ _ | .wkr => d.args.mode != .plain
  | .keybus _ _ => d.args.mode == .kdf
  | .postmark i => d.args.mode == .plain && d.args.alg == .sha384 && (decide (i.toNat < 8) || (decide (16 ≤ i.toNat) && decide (i.toNat < 32)))
  | .pkeDigest => d.args.mode == .plain && d.args.alg == .sha384
  | .read _ => d.args.mode == .plain

/-- A result as a digest-sized value. -/
def asDigest (b : Bytes) : Digest := BitVec.ofNat 384 (beNat b)

/-- The reference of a comparison. -/
def reference (s : State) (len : Nat) : ResultRoute → Bytes
  | .compareSram a => mread s.eng.sram a.toNat len
  | .compareResult n => (deOf s n.toNat).resA.getD []
  | .compareBank n tgt => digBytes (if tgt then (slot s n.toNat).targetA else (slot s n.toNat).active)
  | _ => []

/-- The answer of the blind comparator (R156). -/
def compare (d : DigestEngine) (ref : Bytes) : String :=
  if d.args.mode = .plain then (if d.resA = some ref then "EQUAL" else "NOT_EQUAL")
  else if d.resA = some ref then "EQUAL_ACTIVE"
  else if d.resB = some ref then "EQUAL_PENDING" else "NOT_EQUAL"

/-- The event type of a postmark route's register (Table 04-7). -/
def routeEvent (i : Nat) : Nat := if i = 0 then 1 else if i ≤ 4 then 3 else if i = 5 then 4 else if i = 6 then 5 else if i = 7 then 6 else 7

/-- The slot behind a turnstile engine's key copy (Table 06-1). -/
def copySlot (p : Nat) : Turnstile → Nat
  | .mt _ => 0x80 + p | .ht => 0x100 + p | .lt n => 0x20 + n.toNat | .tt => 0x30

/-- Write a turnstile engine's key copy. -/
def writeCopy (t : Turnstile) (p : Nat) (k : Digest) (s : State) : State :=
  let v := s.vault
  let c : KeyCopy := { active := k, pending := none }
  match t with
  | .mt n => { s with vault := { v with mce := mput v.mce (128 * n.toNat + p) k } }
  | .ht => { s with vault := { v with bce := mput v.bce p c } }
  | .lt n => { s with vault := { v with lce := mput v.lce n.toNat c } }
  | .tt => { s with vault := { v with tce := some c } }

/-- A verified use under a slot's pending bank promotes it (R141); a persistent credential's promotion runs its store
write first (R446). -/
def promoteUse (n : Nat) (s : State) : State :=
  if (slot s n).persist then
    { s with flash := { s.flash with jobs := s.flash.jobs ++ [.store none (.promote n) { gen := 0, entries := [] }] } }
  else promoteSlot n s

/-- Put a result into a vault bank (SLOT). -/
def routeSlot (n : Nat) (pending : Bool) (k : Digest) (s : State) : State :=
  let x := slot s n
  if pending then
    setSlot n { x with pending := k, attr := setBit x.attr 45 true } s
  else mirrorSlot n (setSlot n ({ x with active := k, attr := setBit x.attr 44 true } : Slot).bump s)

/-- Whether the vault lets a result into a target (R128): Wenist may use it in the present life-cycle state. -/
def targetServes (s : State) (n : Nat) : Bool :=
  let x := slot s n
  x.attr.getLsbD 16 && (match lcBit s.fuses.shadow.code with | some b => x.attr.getLsbD b | none => false)

/-- Deliver a result by a permitted route. -/
def deliver (d : DigestEngine) (b : Bytes) (r : ResultRoute) (s : State) : State :=
  match r with
  | .compareSram _ | .compareResult _ | .compareBank _ _ =>
    let c := compare d (reference s b.length r)
    let s1 := status c s
    match d.args.key with
    | .slot n => if c = "EQUAL_PENDING" then promoteUse n.toNat s1 else s1
    | _ => s1
  | .slot n p => if b.length ≤ 48 ∧ targetServes s n.toNat then status "OK" (routeSlot n.toNat p (asDigest b) s) else status "ROUTE_REFUSED" s
  | .wkr => status "OK" { s with vault := { s.vault with wkr := BitVec.ofNat 512 (beNat b) } }
  | .keybus t p =>
    let n := copySlot p.toNat t
    if b.length ≤ 48 ∧ slotServesUse s n 6 p.toNat (worldOf (slot s n)) 11 then status "OK" (writeCopy t p.toNat (asDigest b) s)
    else status "ROUTE_REFUSED" s
  | .postmark i => status "OK" (extend i.toNat (routeEvent i.toNat) [] (asDigest b) s)
  | .pkeDigest => status "OK" { s with eng := { s.eng with pkeDigest := some (asDigest b) } }
  | .read a =>
    if 0x200000 < a.toNat + b.length then status "ROUTE_REFUSED" s
    else emit (.engine b) { s with eng := { s.eng with sram := mwrite s.eng.sram a.toNat b, results := b :: s.eng.results } }

/-- ROUTE. A keyed result is consumed by its first ROUTE (R157). -/
def deRoute (n : Nat) (r : ResultRoute) (s : State) : State :=
  let d := deOf s n
  let cmp := match r with | .compareSram _ | .compareResult _ | .compareBank _ _ => true | _ => false
  if d.fenced then status "ENGINE_FAULT" s
  else
    match d.st, (match d.resA with | some b => some b | none => d.resB) with
    | .done, some b =>
      let s1 := if routeOk d r then deliver d b r s else status "ROUTE_REFUSED" s
      if d.args.mode = .plain then s1
      else setDe n { DigestEngine.idle with queued := d.queued, fenced := d.fenced, lastFault := d.lastFault } s1
    | _, _ => status (if cmp then "NOT_EQUAL" else "RESULT_INVALID") s

/-! ### WKR, SE (R130, R159–R162) -/

/-- The banks a use of a slot gets (R128, R135). -/
def useBanks (s : State) (u : Use) (bitNo : Nat) : List (Bool × Digest) :=
  let n := u.slot.toNat
  if slotServesUse s n u.caller.toNat u.index.toNat u.world.toNat bitNo then
    banksFor (slot s n) (ctxTarget s u.index.toNat u.ctx.toNat) else []

/-- The first bank a use gets, as bytes: the active one where it serves. -/
def useKey (s : State) (u : Use) (bitNo : Nat) : Option Digest := (useBanks s u bitNo).head?.map Prod.snd

/-- WKR_LOAD. -/
def wkrLoad (u : Use) (bitNo : Nat) (s : State) : State :=
  match useKey s u bitNo with
  | some k => status "OK" { s with vault := { s.vault with wkr := k.zeroExtend 512 } }
  | none => status "REFUSED" s

/-- The AES-256 key that the WKR holds. -/
def wkrKey (s : State) : BitVec 256 := s.vault.wkr.truncate 256

/-- Put bytes into Wenist SRAM. -/
def toSram (a : Nat) (b : Bytes) (s : State) : State := { s with eng := { s.eng with sram := mwrite s.eng.sram a b } }

/-- The keys an SE GCM operation tries: a slot's banks, or the WKR. -/
def gcmKeys (s : State) (u : Option Use) : List (Bool × BitVec 256) :=
  match u with | some x => (useBanks s x 4).map (fun b => (b.1, aesKey b.2)) | none => [(false, wkrKey s)]

/-- SE_GCM (R159, R160). -/
def seGcm (o : SeGcmOp) (s : State) : State :=
  if s.eng.seFenced then status "ENGINE_FAULT" s
  else if 65536 < o.aad.length ∨ 2 ^ 20 < o.text.length ∨ 0x200000 < o.dst.toNat + o.text.length then status "SE_PARAM" s
  else match gcmKeys s o.use with
    | [] => status "REFUSED" s
    | k :: ks =>
      if o.decrypt then
        match (k :: ks).find? (fun b => Config.gcmTag b.2 o.iv o.aad o.text == o.tag) with
        | none => status "TAG_FAIL" (zeroWkr s)
        | some b =>
          let s1 := toSram o.dst.toNat (gcmXor b.2 o.iv o.text) (zeroWkr s)
          status "OK" (match b.1, o.use with | true, some u => promoteUse u.slot.toNat s1 | _, _ => s1)
      else
        let c := gcmXor k.2 o.iv o.text
        emit (.engine (beBytes 16 (Config.gcmTag k.2 o.iv o.aad c).toNat)) (status "OK" (toSram o.dst.toNat c (zeroWkr s)))

/-- One XTS data unit (R159). -/
def xtsData (key : BitVec 512) (tweak : BitVec 128) (decrypt : Bool) (b : Bytes) : Bytes :=
  let p := Config.xtsUnit key tweak b.length
  let x := BitVec.ofNat (8 * b.length) (leNat b)
  leBytes b.length (if decrypt then p.symm x else p x).toNat

/-- SE_XTS (R159, R161): under the 512-bit key of the WKR. -/
def seXts (o : SeXtsOp) (s : State) : State :=
  let k := s.vault.wkr
  let n := o.text.length
  if s.eng.seFenced then status "ENGINE_FAULT" s
  else if ¬ (32 ≤ n ∧ n ≤ 2 ^ 20 ∧ n % 16 = 0) ∨ 0x200000 < o.dst.toNat + n then status "SE_PARAM" s
  else if (k.truncate 256 : BitVec 256) = k.extractLsb' 256 256 then status "SE_PARAM" s
  else status "OK" (toSram o.dst.toNat (xtsData k o.tweak o.decrypt o.text) (zeroWkr s))

/-- SE_KW_WRAP (R162): under the WKR, from an exportable bank or Wenist's own records. -/
def seKwWrap (src : KwSource) (dst : Nat) (s : State) : State :=
  let inp : Option Bytes := match src with
    | .bank n p =>
      let x := slot s n.toNat
      if x.exportable ∧ (if p then x.pendingValid else x.activeValid) then some (bankBytes x (if p then x.pending else x.active)) else none
    | .record a len => some (mread s.eng.sram a.toNat len.toNat)
  if s.eng.seFenced then status "ENGINE_FAULT" s
  else match inp with
    | none => status "REFUSED" s
    | some b =>
      if ¬ (16 ≤ b.length ∧ b.length ≤ 4096 ∧ b.length % 8 = 0) ∨ 0x200000 < dst + b.length + 8 then status "SE_PARAM" s
      else status "OK" (toSram dst (kwWrap (wkrKey s) b) (zeroWkr s))

/-- SE_KW_UNWRAP (R162): to a vault bank or the WKR only. -/
def seKwUnwrap (c : Bytes) (dst : KwTarget) (s : State) : State :=
  let n := c.length
  if s.eng.seFenced then status "ENGINE_FAULT" s
  else if ¬ (24 ≤ n ∧ n ≤ 4104 ∧ n % 8 = 0) then status "SE_PARAM" s
  else match kwUnwrap (wkrKey s) c with
    | none => status "INTEGRITY" (zeroWkr s)
    | some b =>
      match dst with
      | .wkr => status "OK" { s with vault := { s.vault with wkr := BitVec.ofNat 512 (beNat (b.take 64)) } }
      | .bank k p =>
        if b.length ≤ 48 ∧ targetServes s k.toNat then status "OK" (routeSlot k.toNat p (asDigest b) (zeroWkr s))
        else status "REFUSED" (zeroWkr s)

/-! ### PKE (R163–R165) -/

/-- The private keys of a seed σ (R129). -/
def ecPriv (k : Digest) : Digest := ecScalar (kdf (digBytes k) "U-ASYM-EC" [] 448)
def mlSeed (k : Digest) : BitVec 256 := key256 (kdf (digBytes k) "U-ASYM-MLDSA" [] 256)
def kemKey (k : Digest) : Bytes := (Config.mlkemExpand (kdf (digBytes k) "U-ASYM-MLKEM" [] 512)).2

/-- A PKE operation: refused where the PKE is fenced. -/
def pke (k : State → State) (s : State) : State := if s.eng.pkeFenced then status "INTERNAL" s else k s

/-- An operation that draws randomness (R168): refused with ENTROPY_FAILED. -/
def withDraw (k : Nat → State → State) (s : State) : State :=
  if s.eng.entropyFailed then status "INTERNAL" s
  else
    let u := useFree s
    k u.1 { u.2 with eng := { u.2.eng with drbgRuns := u.2.eng.drbgRuns + 1 } }

/-- A private-key operation: its seed from a slot, the WKR zeroed at its end. -/
def withSeed (u : Use) (bitNo : Nat) (k : Digest → State → State) (s : State) : State :=
  match useKey s u bitNo with
  | some d => zeroWkr (k d s)
  | none => status "REFUSED" s

def result (b : Bytes) (s : State) : State := emit (.engine b) { s with eng := { s.eng with results := b :: s.eng.results } }

/-- The digest a signature is over: the one PKE_DIGEST delivered, else the one from SRAM. -/
def pkeInput (d : Digest) (s : State) : Digest × State := (s.eng.pkeDigest.getD d, { s with eng := { s.eng with pkeDigest := none } })

def ecdsaSign (u : Use) (d : Digest) (s : State) : State :=
  pke (withSeed u 9 (fun k t => withDraw (fun i t =>
    let x := pkeInput d t
    result (Config.ecdsaSign (ecPriv k) x.1 i) x.2) t)) s

def ecdsaVerify (pub : Bytes) (d : Digest) (sig : Bytes) (s : State) : State :=
  pke (fun t =>
    let x := pkeInput d t
    status (if Config.ecdsaVerify pub x.1 sig then "VALID" else "INVALID") x.2) s

def ecdh (u : Use) (peer : Bytes) (s : State) : State :=
  pke (withSeed u 10 (fun k t =>
    match Config.ecdhShared (ecPriv k) peer with
    | some x => status "OK" { t with eng := { t.eng with hsbEcdh := some x } }
    | none => status "PKE_INPUT" t)) s

def mldsaSign (u : Use) (m ctx : Bytes) (s : State) : State :=
  if 65536 < m.length ∨ 255 < ctx.length then status "PKE_INPUT" s
  else pke (withSeed u 9 (fun k t => withDraw (fun i t =>
    match Config.mldsaSign (mlSeed k) m ctx i with
    | some b => result b t
    | none => status "SIGN_RETRY" t) t)) s

def mldsaVerify (pub m ctx sig : Bytes) (s : State) : State :=
  if 65536 < m.length ∨ 255 < ctx.length then status "PKE_INPUT" s
  else pke (status (if Config.mldsaVerify pub m ctx sig then "VALID" else "INVALID")) s

def mlkemEncaps (pub : Bytes) (s : State) : State :=
  pke (withDraw (fun i t =>
    match Config.mlkemEncaps pub i with
    | some (ct, ss) => result ct { t with eng := { t.eng with hsbKem := some ss } }
    | none => status "PKE_INPUT" t)) s

def mlkemDecaps (u : Use) (ct : Bytes) (s : State) : State :=
  pke (withSeed u 10 (fun k t =>
    if ct.length ≠ 1568 then status "PKE_INPUT" t
    else status "OK" { t with eng := { t.eng with hsbKem := some (Config.mlkemDecaps (kemKey k) ct) } })) s

/-! ### DRBG (R166–R168) -/

def reseed (s : State) : State := { s with eng := { s.eng with drbgRuns := 0, drbgReseeds := s.eng.drbgReseeds + 1 } }

/-- Fulfil one generate request. -/
def generate (len : Nat) (s : State) : State := withDraw (fun i t => result (drawBytes i len) t) s

/-- ENTROPY_FAILED, every held request refused with INTERNAL 0x454E, the record of Table 22-3 and the alert (R168). -/
def entropyFail (s : State) : State :=
  let n := s.eng.drbgHeld.length
  let s1 := { s with eng := { s.eng with entropyFailed := true, drbgStopped := true, drbgHeld := [] } }
  alert 5 ((List.range n).foldl (fun t _ => status "INTERNAL" t) s1)

/-- A health-test failure: output stops and the start-up tests rerun; a second failure within 1 s sets ENTROPY_FAILED. -/
def healthFail (s : State) : State :=
  let again := match s.eng.lastHealth with | some t => decide ((tick s - t).toNat ≤ 32768) | none => false
  let s1 := logFault 0x10 2 6 0x12 0 0xFF 1 0 { s with eng := { s.eng with drbgStopped := true, lastHealth := some (tick s) } }
  if again || s.eng.drbgStopped then entropyFail s1 else s1

/-- DRBG_GENERATE: held while the start-up tests rerun; a reseed that falls due first meets `reseedOk`. -/
def drbgGenerate (len : Nat) (reseedOk : Bool) (s : State) : State :=
  if s.eng.entropyFailed then status "INTERNAL" s
  else if s.eng.drbgStopped then { s with eng := { s.eng with drbgHeld := s.eng.drbgHeld ++ [BitVec.ofNat 16 (len - 1)] } }
  else if 65536 ≤ s.eng.drbgRuns then
    if reseedOk then generate len (reseed s) else status "ENTROPY" (healthFail s)
  else generate len s

/-- The rerun of the start-up tests ends (R168). -/
def entropyRetest (ok : Bool) (s : State) : State :=
  if !s.eng.drbgStopped ∨ s.eng.entropyFailed then s
  else if ok then
    let hs := s.eng.drbgHeld
    hs.foldl (fun t l => generate (l.toNat + 1) t) (reseed { s with eng := { s.eng with drbgStopped := false, drbgHeld := [] } })
  else entropyFail { s with eng := { s.eng with lastHealth := some (tick s) } }

/-! ### Parity (R169) -/

def engineUnit : EngineId → Nat | .de n => n.toNat | .se => 0x10 | .pke => 0x11 | .drbg => 0x12

/-- ENGINE_PARITY: the operation aborts with ENGINE_FAULT; a second fault within 1 s, or a failed known-answer test,
fences the engine until the next reset of R49 or R50. -/
def engineParity (e : EngineId) (katOk : Bool) (s : State) : State :=
  let last := match e with
    | .de n => (deOf s n.toNat).lastFault | .se => s.eng.seFault | .pke => s.eng.pkeFault | .drbg => s.eng.drbgFault
  let fence := !katOk || (match last with | some t => decide ((tick s - t).toNat ≤ 32768) | none => false)
  let now := some (tick s)
  let s1 : State := match e with
    | .de n =>
      let d := deOf s n.toNat
      let d1 := { DigestEngine.idle with queued := d.queued, fenced := d.fenced || fence, lastFault := now }
      let t := zeroHsb (setDe n.toNat d1 s)
      if d1.fenced then t else nextStart n.toNat t
    | .se => zeroWkr { s with eng := { s.eng with seFault := now, seFenced := s.eng.seFenced || fence } }
    | .pke => zeroWkr (zeroHsb { s with eng := { s.eng with pkeFault := now, pkeDigest := none, pkeFenced := s.eng.pkeFenced || fence } })
    | .drbg =>
      let t := { s with eng := { s.eng with drbgFault := now } }
      if fence then entropyFail t else t
  let s2 := status "ENGINE_FAULT" (logFault 8 (if fence then 3 else 2) 6 (engineUnit e) 0 0xFF (if fence then 3 else 1) 0 s1)
  if fence then alert 3 s2 else s2

/-! ### Commands -/

/-- Engine commands are Wenist's and the desk's own (R146): PD2 is on while they run. -/
def engineOn (s : State) (t : State) : State := if domOf s 2 = .on then t else s

/-- ENGINE_PARITY. -/
def execEngineParity (e : EngineId) (katOk : Bool) (s : State) : Answer := done s (engineOn s (engineParity e katOk s))
/-- ENTROPY_HEALTH_FAIL (R168). -/
def execEntropyHealthFail (s : State) : Answer := done s (engineOn s (healthFail s))
/-- ENTROPY_RETEST_DONE (R168). -/
def execEntropyRetestDone (ok : Bool) (s : State) : Answer := done s (entropyRetest ok s)
/-- HSB_EXPIRY (R165). -/
def execHsbExpiry (s : State) : Answer := done s (zeroHsb s)
/-- DE_START (R149). -/
def execDeStart (n : BitVec 3) (args : DeStartArgs) (s : State) : Answer :=
  done s (engineOn s (if n.toNat < 6 then deStart n.toNat args s else s))
/-- DE_DATA (R150, R151). -/
def execDeData (n : BitVec 3) (frags : List DeFrag) (s : State) : Answer :=
  done s (engineOn s (if n.toNat < 6 then deData n.toNat frags s else s))
/-- DE_FINISH (Table 07-2). -/
def execDeFinish (n : BitVec 3) (s : State) : Answer := done s (engineOn s (if n.toNat < 6 then deFinish n.toNat s else s))
/-- DE_ROUTE (R155). -/
def execDeRoute (n : BitVec 3) (route : ResultRoute) (s : State) : Answer :=
  done s (engineOn s (if n.toNat < 6 then deRoute n.toNat route s else s))
/-- DE_ABORT (Table 07-2). -/
def execDeAbort (n : BitVec 3) (s : State) : Answer := done s (engineOn s (if n.toNat < 6 then deAbort n.toNat s else s))
/-- WKR_LOAD (R130). -/
def execWkrLoad (use : Use) (useBit : BitVec 4) (s : State) : Answer := done s (engineOn s (wkrLoad use useBit.toNat s))
/-- SE_GCM (R160). -/
def execSeGcm (op : SeGcmOp) (s : State) : Answer := done s (engineOn s (seGcm op s))
/-- SE_XTS (R161). -/
def execSeXts (op : SeXtsOp) (s : State) : Answer := done s (engineOn s (seXts op s))
/-- SE_KW_WRAP (R162). -/
def execSeKwWrap (src : KwSource) (dst : BitVec 21) (s : State) : Answer := done s (engineOn s (seKwWrap src dst.toNat s))
/-- SE_KW_UNWRAP (R162). -/
def execSeKwUnwrap (cipher : Bytes) (dst : KwTarget) (s : State) : Answer := done s (engineOn s (seKwUnwrap cipher dst s))
/-- ECDSA_SIGN (R163). -/
def execEcdsaSign (use : Use) (digest : Digest) (s : State) : Answer := done s (engineOn s (ecdsaSign use digest s))
/-- ECDSA_VERIFY (R163). -/
def execEcdsaVerify (pub : Bytes) (digest : Digest) (sig : Bytes) (s : State) : Answer := done s (engineOn s (ecdsaVerify pub digest sig s))
/-- ECDH (R163, R165). -/
def execEcdh (use : Use) (peer : Bytes) (s : State) : Answer := done s (engineOn s (ecdh use peer s))
/-- MLDSA_KEYGEN (R163). -/
def execMldsaKeygen (seed : BitVec 256) (s : State) : Answer := done s (engineOn s (pke (result (Config.mldsaPublic seed)) s))
/-- MLDSA_SIGN (R163, R164). -/
def execMldsaSign (use : Use) (digest : Bytes) (ctx : Bytes) (s : State) : Answer := done s (engineOn s (mldsaSign use digest ctx s))
/-- MLDSA_VERIFY (R163). -/
def execMldsaVerify (pub msg ctx sig : Bytes) (s : State) : Answer := done s (engineOn s (mldsaVerify pub msg ctx sig s))
/-- MLKEM_KEYGEN (R163): the encapsulation key; the decapsulation key stays in the PKE. -/
def execMlkemKeygen (s : State) : Answer := done s (engineOn s (pke (withDraw (fun i t => result (Config.mlkemKeygen i).1 t)) s))
/-- MLKEM_ENCAPS (R163, R165). -/
def execMlkemEncaps (pub : Bytes) (s : State) : Answer := done s (engineOn s (mlkemEncaps pub s))
/-- MLKEM_DECAPS (R163, R165). -/
def execMlkemDecaps (use : Use) (ct : Bytes) (s : State) : Answer := done s (engineOn s (mlkemDecaps use ct s))
/-- DRBG_GENERATE (R166). -/
def execDrbgGenerate (lenM1 : BitVec 16) (reseedOk : Bool) (s : State) : Answer :=
  done s (engineOn s (drbgGenerate (lenM1.toNat + 1) reseedOk s))

end Sys2Proof.Machine
end

