-- ==== Sys2Proof/Machine/Manage.lean ====
section
/-! DEFINITION. The management network's envelopes (R438, R441), IPv6 on the port (R436, R437, R439), MCTP and I3C on the
target (R440, Table 21-2) and the PLDM sensors (R448, Table 21-5). Command and completion codes and response layouts of
MCTP and PLDM are those of DSP0236, DSP0240 and DSP0248 (PRESUMED, log 19). -/

namespace Sys2Proof.Machine

/-! ### Settings and alerts -/

/-- The settings that a MGMT_NET_SET carries. -/
def netOfEnv (e : Env) : NetSet :=
  let entry (i : Nat) : BitVec 128 × BitVec 8 := (BitVec.ofNat 128 (beNat (slice e.payload (16 + 24 * i) 16)), byteAt e.payload (32 + 24 * i))
  { sgmii := p8 e 0 == 2, jumbo := p8 e 1 == 1, slaac := p8 e 2 == 1, mac := BitVec.ofNat 48 (beNat (slice e.payload 8 6)),
    static := (List.range (p8 e 3)).map entry }

/-- The 64 bytes of settings. -/
def netBytes (n : NetSet) : Bytes :=
  padTo 64 ([if n.sgmii then 2 else 1, if n.jumbo then 1 else 0, if n.slaac then 1 else 0] ++ leBytes 1 n.static.length ++ zeros 4 ++
    beBytes 6 n.mac.toNat ++ zeros 2 ++ n.static.flatMap (fun a => beBytes 16 a.1.toNat ++ [a.2] ++ zeros 7))

/-- The payload checks of MGMT_NET_SET: a prefix length is at most 128. -/
def netChecks (e : Env) : List Chk :=
  [(0, decide (p8 e 0 = 1 ∨ p8 e 0 = 2)), (1, decide (p8 e 1 ≤ 1)), (2, decide (p8 e 2 ≤ 1)), (3, decide (p8 e 3 ≤ 2))] ++ rsv e 4 4 ++
    rsv e 14 2 ++ [(32, decide (1 ≤ p8 e 3 → p8 e 32 ≤ 128))] ++ rsv e 33 7 ++ [(56, decide (2 ≤ p8 e 3 → p8 e 56 ≤ 128))] ++ rsv e 57 7

/-- An address record of MGMT_NET_GET. -/
def addrBytes (a : Addr) : Bytes :=
  beBytes 16 a.ip.toNat ++ [a.prefix_, match a.dad with | .tentative => 0 | .preferred => 1 | .duplicate => 2] ++ zeros 6

/-- MGMT_NET_GET: 328 bytes. -/
def netGet (s : State) : Bytes :=
  let m := s.mgmt
  netBytes m.net ++ leBytes 1 m.addrs.length ++ zeros 7 ++ padTo 192 (m.addrs.flatMap addrBytes) ++
    (List.range 8).flatMap (fun i => leBytes 8 (mgetD m.stats i 0).toNat)

/-- MGMT_ALERT_ACK (R441): BMC_ALERT_N is released when no bit is left. -/
def alertAck (e : Env) (s : State) : State × Ans :=
  let p := s.mgmt.alert &&& ~~~(byteAt e.payload 0)
  let t := modMgmt (fun m => { m with alert := p }) { s with aon := { s.aon with alertLow := p != 0 } }
  (t, Ans.ok (p :: zeros 7))

/-- MGMT_NET_SET (R438). -/
def execMgmtNetSet (e : Env) (s : State) : Answer := done s (serve specMgmtNetSet e (fun t =>
  checked (netChecks e) t (modMgmt (fun m => { m with pending := some (netOfEnv e) }) t, Ans.ok)) s)

/-- MGMT_NET_APPLY (R438). -/
def execMgmtNetApply (s : State) : Answer := done s (netApply s)

/-- MGMT_NET_GET. -/
def execMgmtNetGet (e : Env) (s : State) : Answer := done s (serve specMgmtNetGet e (fun t => (t, Ans.ok (netGet t))) s)

/-- MGMT_ALERT_ACK (R441). -/
def execMgmtAlertAck (e : Env) (s : State) : Answer :=
  done s (serve specMgmtAlertAck e (fun t => checked (rsv e 1 7) t (alertAck e t)) s)

/-! ### IPv6 (R436) -/

/-- Whether the management paths are served: WFW runs (R440, Table 04-11). -/
def mgmtUp (s : State) : Bool := s.mgmt.targetOn && serves s

/-- An own address in a DAD state. -/
def ownAddr (s : State) (ip : BitVec 128) (d : Dad) : Bool := s.mgmt.addrs.any (fun a => a.ip == ip && a.dad == d)

/-- ff02::1, all nodes. -/
def allNodes : BitVec 128 := BitVec.ofNat 128 (0xFF02 * 2 ^ 112 + 1)

/-- A Neighbor Solicitation: answered for a preferred address; another node's probe of a tentative one is a duplicate. -/
def neighborSol (src target : BitVec 128) (s : State) : State :=
  if ownAddr s target .preferred then emit (.ndAdvert target (if src = 0 then allNodes else src)) s
  else if src = 0 ∧ ownAddr s target .tentative then dadDone target true s
  else s

/-- A Router Advertisement: an address of each autonomous 64-bit prefix, with SLAAC on (RFC 4862). -/
def routerAdv (src : BitVec 128) (ps : List RaPrefix) (s : State) : State :=
  if !s.mgmt.net.slaac ∨ !isLinkLocal src then s
  else ps.foldl (fun t p =>
    if p.auto ∧ p.len = 64 ∧ p.pre.toNat / 2 ^ 54 ≠ 0x3FA then
      addAddr (BitVec.ofNat 128 (p.pre.toNat * 2 ^ 64 + eui64 t.mgmt.net.mac)) 64 1 t
    else t) s

/-- An Echo Request to a preferred address: at most 10 replies per second. -/
def echo (src dst : BitVec 128) (data : Bytes) (s : State) : State :=
  if ownAddr s dst .preferred ∧ s.mgmt.echoes < 10 then emit (.echoReply src data) (modMgmt (fun m => { m with echoes := m.echoes + 1 }) s)
  else s

/-- A frame, packet or datagram that is discarded: counted; on port 4640 a tag failure of the dead-letter log (R437, R439). -/
def discard (why : Discard) (s : State) : State :=
  let letter (t : State) : State := logDead 2 0 0xFF 0 0xFF 9 1 0 0 t
  match why with
  | .protocol => portStat 0 s
  | .length => letter (portStat 1 s)
  | .rate => letter (portStat 2 s)
  | .badTag => letter (portStat 3 s)
  | .other => portStat 4 s

/-- NEIGHBOR_SOLICITATION (R436). -/
def execNeighborSolicitation (src target : BitVec 128) (s : State) : Answer :=
  done s (if mgmtUp s then neighborSol src target s else s)

/-- ROUTER_ADVERTISEMENT (R436). -/
def execRouterAdvertisement (src : BitVec 128) (prefixes : List RaPrefix) (s : State) : Answer :=
  done s (if mgmtUp s then routerAdv src prefixes s else s)

/-- ECHO_REQUEST (R436). -/
def execEchoRequest (src dst : BitVec 128) (data : Bytes) (s : State) : Answer := done s (if mgmtUp s then echo src dst data s else s)

/-- REASSEMBLY_TIMEOUT (R436): a datagram in reassembly is abandoned. -/
def execReassemblyTimeout (s : State) : Answer :=
  done s (if mgmtUp s then portStat 5 (modMgmt (fun m => { m with reasm := m.reasm - 1 }) s) else s)

/-- MGMT_DISCARD (R436, R437, R439). -/
def execMgmtDiscard (why : Discard) (s : State) : Answer := done s (if mgmtUp s then discard why s else s)

/-- DAD_COMPLETE (R436). -/
def execDadComplete (ip : BitVec 128) (dup : Bool) (s : State) : Answer := done s (if mgmtUp s then dadDone ip dup s else s)

/-! ### MCTP control and I3C (R440) -/

/-- Answer an MCTP control request. -/
def mctp (cmd completion : BitVec 8) (body : Bytes) (s : State) : State := if mgmtUp s then emit (.mctp cmd completion body) s else s

/-- Set Endpoint ID: set or force one that is neither null nor broadcast nor reserved. -/
def setEid (op eid : BitVec 8) (s : State) : State :=
  if !mgmtUp s then s
  else if op.toNat ≤ 1 ∧ 8 ≤ eid.toNat ∧ eid ≠ 0xFF then mctp 1 0 [0, eid, 0] (modMgmt (fun m => { m with eid := eid }) s)
  else mctp 1 2 [] s

/-- The message types of Table 21-2. -/
def messageTypes : List (BitVec 8) := [1, 5, 6, 0x7F]

/-- Get MCTP Version Support: MCTP 1.3 for the base and control; the versions of the other types are free values. -/
def mctpVersions (mtype : BitVec 8) (s : State) : State :=
  if mtype = 0xFF ∨ mtype = 0 then mctp 4 0 [1, 0xF1, 0xF3, 0xFF, 0] s
  else if messageTypes.contains mtype then mctp 4 0 (1 :: leBytes 4 (Config.mctpVersion mtype.toNat).toNat) s
  else mctp 4 0x80 [] s

/-- The bus owner assigns a dynamic address to a target that has none. -/
def assignAddr (addr : BitVec 7) (s : State) : State :=
  if !mgmtUp s ∨ s.mgmt.i3cAddr ≠ 0 ∨ addr = 0 then s else emit (.i3c addr) (modMgmt (fun m => { m with i3cAddr := addr }) s)

/-- SET_ENDPOINT_ID (R440). -/
def execSetEndpointId (op eid : BitVec 8) (s : State) : Answer := done s (setEid op eid s)

/-- GET_ENDPOINT_ID (R440): a simple endpoint with a dynamic ID. -/
def execGetEndpointId (s : State) : Answer := done s (mctp 2 0 [s.mgmt.eid, 0, 0] s)

/-- GET_ENDPOINT_UUID (R440). -/
def execGetEndpointUuid (s : State) : Answer := done s (mctp 3 0 ((List.range 16).map Config.endpointUuid) s)

/-- GET_MCTP_VERSION_SUPPORT (R440). -/
def execGetMctpVersionSupport (mtype : BitVec 8) (s : State) : Answer := done s (mctpVersions mtype s)

/-- GET_MESSAGE_TYPE_SUPPORT (R440). -/
def execGetMessageTypeSupport (s : State) : Answer := done s (mctp 5 0 (leBytes 1 messageTypes.length ++ messageTypes) s)

/-- SETDASA (R440). -/
def execSetdasa (addr : BitVec 7) (s : State) : Answer := done s (assignAddr addr s)

/-- ENTDAA (R440). -/
def execEntdaa (addr : BitVec 7) (s : State) : Answer := done s (assignAddr addr s)

/-! ### PLDM (R448) -/

/-- Answer a PLDM request. -/
def pldm (cmd completion : BitVec 8) (body : Bytes) (s : State) : State := if mgmtUp s then emit (.pldm cmd completion body) s else s

/-- A bitmap of `n` bytes with some bits set. -/
def bitmap (n : Nat) (bits : List Nat) : Bytes := leBytes n (bits.foldl (fun a b => a + 2 ^ b) 0)

/-- Whether a PLDM type is served: base 0, platform 2. -/
def pldmType (t : BitVec 8) : Bool := t == 0 || t == 2

/-- A numeric sensor's reading: 16 bits signed; unavailable until sampled. -/
def sensorReading (s : State) (id : Nat) : Bytes :=
  match mget s.mgmt.readings id with
  | some v => [3, 0, 0, 1, 0, 1] ++ leBytes 2 (BitVec.ofInt 16 v).toNat
  | none => [3, 2, 0, 0, 0, 0] ++ zeros 2

/-- One part of a state sensor. -/
def statePart (s : State) (v : BitVec 8) : Bytes := if s.mgmt.sampled then [0, v, 0, v] else [2, 0, 0, 0]

/-- The state sensors: the boot outcome (1 booting, 2 ready, 3 degraded, 4 recovery), and the alert summary, each part 1
Normal or 2 Alert. -/
def stateReadings (s : State) (id : Nat) : Option Bytes :=
  if id = 7 then some (1 :: statePart s s.mgmt.readState)
  else if id = 8 then some (8 :: (List.range 8).flatMap (fun i => statePart s (if s.mgmt.readAlert.getLsbD i then 2 else 1)))
  else none

/-- The PDR of a sensor: a numeric sensor for 1–6, a state sensor for 7 and 8. -/
def pdrRecord (n : Nat) : Bytes :=
  let b := Config.pdrBody n
  leBytes 4 n ++ [1, if n ≤ 6 then 2 else 4, 0, 0] ++ leBytes 2 b.length ++ b

/-- GetPDR: handle 0 is the first record. -/
def getPdr (handle : BitVec 32) (s : State) : State :=
  let n := if handle = 0 then 1 else handle.toNat
  if 8 < n then pldm 0x51 0x82 [] s
  else
    let r := pdrRecord n
    pldm 0x51 0 (leBytes 4 (if n = 8 then 0 else n + 1) ++ zeros 4 ++ [5] ++ leBytes 2 r.length ++ r) s

/-- GetPDRRepositoryInfo: available, eight records, their total and largest size. -/
def pdrInfo : Bytes :=
  let ls := (List.range 8).map (fun i => (pdrRecord (i + 1)).length)
  0 :: (List.range 26).map Config.pdrTimes ++ leBytes 4 8 ++ leBytes 4 ls.sum ++ leBytes 4 (ls.foldl max 0) ++ [0]

/-- GET_TID (R448). -/
def execGetTid (s : State) : Answer := done s (pldm 2 0 [s.mgmt.tid] s)

/-- SET_TID (R448): 0x00 and 0xFF are invalid. -/
def execSetTid (tid : BitVec 8) (s : State) : Answer :=
  done s (if tid = 0 ∨ tid = 0xFF then pldm 1 2 [] s
          else if mgmtUp s then pldm 1 0 [] (modMgmt (fun m => { m with tid := tid }) s) else s)

/-- GET_PLDM_VERSION (R448). -/
def execGetPldmVersion (ptype : BitVec 8) (s : State) : Answer :=
  done s (if pldmType ptype then pldm 3 0 (zeros 4 ++ [5] ++ leBytes 8 (Config.pldmVersion ptype.toNat).toNat) s else pldm 3 0x83 [] s)

/-- GET_PLDM_TYPES (R448). -/
def execGetPldmTypes (s : State) : Answer := done s (pldm 4 0 (bitmap 8 [0, 2]) s)

/-- GET_PLDM_COMMANDS (R448). -/
def execGetPldmCommands (ptype : BitVec 8) (s : State) : Answer :=
  done s (if ptype = 0 then pldm 5 0 (bitmap 32 [1, 2, 3, 4, 5]) s
          else if ptype = 2 then pldm 5 0 (bitmap 32 [0x11, 0x21, 0x50, 0x51]) s
          else pldm 5 0x83 [] s)

/-- GET_PDR_REPOSITORY_INFO (R448). -/
def execGetPdrRepositoryInfo (s : State) : Answer := done s (pldm 0x50 0 pdrInfo s)

/-- GET_PDR (R448). -/
def execGetPdr (handle : BitVec 32) (s : State) : Answer := done s (getPdr handle s)

/-- GET_SENSOR_READING (R448, R366). -/
def execGetSensorReading (id : BitVec 16) (s : State) : Answer :=
  done s (if 1 ≤ id.toNat ∧ id.toNat ≤ 6 then pldm 0x11 0 (sensorReading s id.toNat) s else pldm 0x11 0x80 [] s)

/-- GET_STATE_SENSOR_READINGS (R448). -/
def execGetStateSensorReadings (id : BitVec 16) (s : State) : Answer :=
  done s (match stateReadings s id.toNat with | some b => pldm 0x21 0 b s | none => pldm 0x21 0x80 [] s)

end Sys2Proof.Machine
end

