-- ==== Sys2Proof/Machine/Rings.lean ====
section
/-! DEFINITION. The host interface: link and configuration (R51, R52, R96), ring and event registers (chapters 08, 12, 24),
fetches, posts, output copies, held replies and function resets. -/

namespace Sys2Proof.Machine

/-! ### Access to a function's registers -/

/-- Whether a function's registers decode (R482, R241): the link runs, and a VF is enabled and its partition exists. -/
def fnLive (s : State) (f : Fn) : Bool :=
  s.power.pcie && (match f with | .pf => true | .vf n => s.parts.vfEnable.getLsbD n.toNat && (part? s n.toNat).isSome)

/-- Whether a function's records are bounce records (R193, R242). -/
def fnConf (s : State) (f : Fn) : Bool := match f with | .pf => false | .vf n => isConf s n.toNat

def modEnv (f : Fn) (g : EnvRing → EnvRing) (s : State) : State := modRegs f (fun r => { r with env := g r.env }) s
def modWork (f : Fn) (q : Nat) (g : WorkRing → WorkRing) (s : State) : State := setWork f q (g (workRing s f q)) s
def modComp (f : Fn) (g : CompRing → CompRing) (s : State) : State := modRegs f (fun r => { r with comp := g r.comp }) s

/-- Whether the device answers doorbells: firmware runs (Table 04-11). -/
def doorbells (s : State) : Bool := !halted s

/-- A work ring stops with a fault (R279). -/
def stopWork (f : Fn) (q : Nat) (s : State) : State :=
  raiseEvent 3 (modWork f q (fun w => { w with fault := true, stopped := true, enable := false }) s)

/-! ### Doorbells and ring registers (R191, R279, R285, R486) -/

/-- Start the tiles of a partition that are off and hold the request for them (R63, R74). -/
def wakeTiles (f : Fn) (q : BitVec 6) (s : State) : State :=
  match f with
  | .pf => s
  | .vf n =>
    let ts := ((coresOf s n.toNat).map (· / 16)).dedup.filter (fun t => domOf s (tilePd t) == .off)
    ts.foldl (fun t k =>
      let u := startDomain (tilePd k) t
      { u with power := { u.power with held := u.power.held ++ [(tilePd k, .work f q)] } }) s

/-- A TAIL write of a work ring. -/
def workDoorbell (f : Fn) (q : BitVec 6) (tail : BitVec 32) (s : State) : State :=
  if !fnLive s f ∨ !doorbells s then s
  else
    let w := workRing s f q.toNat
    let t : BitVec 16 := tail.truncate 16
    if 2 ^ w.log2.toNat < (t - w.head).toNat then stopWork f q.toNat (modWork f q.toNat (fun x => { x with tail := t }) s)
    else
      let s1 := modWork f q.toNat (fun x => { x with tail := t }) s
      if t ≠ w.head ∧ w.enable then wakeTiles f q s1 else s1

/-- A TAIL write of an envelope ring; PD1 starts for it where it sleeps (R74). -/
def envDoorbell (f : Fn) (tail : BitVec 32) (s : State) : State :=
  if !fnLive s f ∨ !doorbells s then s
  else
    let s1 := modEnv f (fun r => { r with tail := tail.truncate 16 }) s
    if domOf s 1 = .off ∧ hostReady s then
      let u := startDomain 1 s1
      { u with power := { u.power with held := u.power.held ++ [(1, .env f)] } }
    else s1

def envEnable (f : Fn) (on : Bool) (s : State) : State :=
  if !fnLive s f then s
  else modEnv f (fun r => if on then { r with enable := true, stopped := false } else { r with enable := false }) s

def workEnable (f : Fn) (q : Nat) (on : Bool) (s : State) : State :=
  if !fnLive s f then s
  else modWork f q (fun w =>
    if on then { w with enable := true, stopped := false, accepted := if w.enable then w.accepted else 0,
                        accepted56 := if w.enable then w.accepted56 else 0 }
    else { w with enable := false }) s

/-- The summary record of work lost while the host link was down (R51, R285, Table 12-6). -/
def summaryRecord (lost : Nat) : CompRec :=
  { entryId := BitVec.allOnes 64, tag := 0, status := 8, ring := 0, core := 0, period := 0, outLen := 0, result := 0,
    count := BitVec.ofNat 32 lost, fcode := 0, fslot := 0, fpc := 0, faddr := 0, irq := true }

/-- The completion ring is enabled: the summary of R51 first, then the records held, in order (R285). -/
def compEnable (f : Fn) (on : Bool) (s : State) : State :=
  if !fnLive s f then s
  else if !on then modComp f (fun c => { c with enable := false }) s
  else
    let held := (fnRegs s f).comp.held
    let s1 := modComp f (fun c => { c with enable := true, held := [] }) s
    let lost := match part? s (fnKey f) with | some x => x.counts.hostDropped | none => 0
    let s2 := if lost = 0 then s1
      else modPart (fnKey f) (fun x => { x with counts := { x.counts with hostDropped := 0 } })
        (let c := (fnRegs s1 f).comp
         putRecord f (summaryRecord lost) (modComp f (fun y => { y with reserved := c.reserved + 1 }) s1))
    held.foldl (fun t r => putRecord f r t) s2

/-- A write of the completion ring's HEAD (R486). -/
def compHead (f : Fn) (head : BitVec 32) (s : State) : State :=
  if !fnLive s f then s
  else
    let c := (fnRegs s f).comp
    if (c.tail - head).toNat ≤ 2 ^ c.log2.toNat ∧ (head - c.head).toNat ≤ (c.tail - c.head).toNat then
      modComp f (fun x => { x with head := head }) s
    else modPart (fnKey f) (fun x => { x with counts := { x.counts with badHead := satInc x.counts.badHead } }) s

def eventClear (b : BitVec 32) (s : State) : State :=
  if !s.power.pcie then s
  else { s with q := { s.q with events := { s.q.events with cause := s.q.events.cause &&& ~~~(b.truncate 4) } } }

/-- A write of INT_ENABLE (R485). -/
def intEnable (v : BitVec 32) (s : State) : State :=
  if !s.power.pcie then s
  else
    let e := s.q.events
    let n : BitVec 4 := v.truncate 4
    let s1 := { s with q := { s.q with events := { e with enable := n } } }
    if e.cause &&& e.enable = 0 ∧ e.cause &&& n ≠ 0 then msix .pf e.vector.toNat s1 else s1

/-- The low or the high half of a ring base; bits [11:0] of the low half are ignored. -/
def baseLo (b : BitVec 64) (v : BitVec 32) : BitVec 64 := (b &&& 0xFFFFFFFF00000000#64) ||| ((v &&& 0xFFFFF000#32).zeroExtend 64)
def baseHi (b : BitVec 64) (v : BitVec 32) : BitVec 64 := (b &&& 0xFFFFFFFF#64) ||| (v.zeroExtend 64 <<< 32)

/-- A size field within its range; a value outside it is not taken. -/
def sizeField {w : Nat} (old v : BitVec w) (lo hi : Nat) : BitVec w := if lo ≤ v.toNat ∧ v.toNat ≤ hi then v else old

/-- A dword of the MSI-X table; an unmasked vector sends what was pending (R484). -/
def writeMsix (f : Fn) (i d : Nat) (v : BitVec 32) (s : State) : State :=
  let old := mgetD (fnRegs s f).msix i msixReset
  let m : BitVec 128 := BitVec.ofNat 128 (0xFFFFFFFF * 2 ^ (32 * d))
  let new := (old &&& ~~~m) ||| (v.zeroExtend 128 <<< (32 * d))
  let s1 := modRegs f (fun r => { r with msix := mset r.msix i new msixReset }) s
  if (fnRegs s f).pba.getLsbD i ∧ !new.getLsbD 96 then emit (.msix f i) (modRegs f (fun r => { r with pba := setBit r.pba i false }) s1)
  else s1

/-- A 4-byte write to BAR0 (Tables 24-2, 08-6, 12-1, 12-5, 24-4). An offset that names no register is ignored. -/
def write32 (f : Fn) (off : Nat) (v : BitVec 32) (s : State) : State :=
  if !fnLive s f then s
  else if 0x1000 ≤ off ∧ off < 0x1400 then writeMsix f ((off - 0x1000) / 16) (off % 16 / 4) v s
  else if off = 0x1C00 then (if f = .pf then eventClear v s else s)
  else if off = 0x1C04 then (if f = .pf then intEnable v s else s)
  else if off = 0x1C08 then
    (if f = .pf then { s with q := { s.q with events := { s.q.events with vector := v.truncate 6 } } } else s)
  else if off = 0x10000 then modEnv f (fun r => if r.enable then r else { r with base := baseLo r.base v }) s
  else if off = 0x10004 then modEnv f (fun r => if r.enable then r else { r with base := baseHi r.base v }) s
  else if off = 0x10008 then
    envEnable f (v.getLsbD 0) (modEnv f (fun r => if r.enable then r
      else { r with log2 := sizeField r.log2 (v.extractLsb' 4 4) 3 10, vector := sizeField r.vector (v.extractLsb' 8 8) 0 63 }) s)
  else if off = 0x1000C then envDoorbell f v s
  else if off = 0x1001C then
    modEnv f (fun r => { r with entryFault := r.entryFault && !v.getLsbD 0, bounceFault := r.bounceFault && !v.getLsbD 1,
                                replyFault := r.replyFault && !v.getLsbD 2 }) s
  else if 0x20000 ≤ off ∧ off < 0x21000 then
    let q := (off - 0x20000) / 64
    let r := off % 64
    if r = 0 then modWork f q (fun w => if w.enable then w else { w with base := baseLo w.base v }) s
    else if r = 4 then modWork f q (fun w => if w.enable then w else { w with base := baseHi w.base v }) s
    else if r = 8 then
      workEnable f q (v.getLsbD 0) (modWork f q (fun w => if w.enable then w
        else { w with log2 := sizeField w.log2 (v.extractLsb' 4 4) 3 12 }) s)
    else if r = 0xC then workDoorbell f (BitVec.ofNat 6 q) v s
    else if r = 0x14 then modWork f q (fun w => { w with fault := w.fault && !v.getLsbD 1 }) s
    else s
  else if off = 0x30000 then modComp f (fun c => if c.enable then c else { c with base := baseLo c.base v }) s
  else if off = 0x30004 then modComp f (fun c => if c.enable then c else { c with base := baseHi c.base v }) s
  else if off = 0x30008 then
    compEnable f (v.getLsbD 0) (modComp f (fun c => if c.enable then c
      else { c with log2 := sizeField c.log2 (v.extractLsb' 4 5) 4 16, vector := v.extractLsb' 16 6 }) s)
  else if off = 0x3000C then compHead f v s
  else s

/-- A register write of 4 or 8 bytes, naturally aligned; the lower register first (R482). -/
def registerWrite (f : Fn) (off : Nat) (v : BitVec 64) (n : Nat) (s : State) : State :=
  if n = 4 ∧ off % 4 = 0 then write32 f off (v.truncate 32) s
  else if n = 8 ∧ off % 8 = 0 then write32 f (off + 4) (v.extractLsb' 32 32) (write32 f off (v.truncate 32) s)
  else s

/-! ### Function resets and the host link (R51, R52, R96, R196, R464) -/

/-- Every envelope that waits for an event. -/
def waitingEnvs (s : State) : List Env :=
  let ps : List (Option Pending) :=
    (s.parts.parts.flatMap (fun e => [e.2.switchEnv, e.2.waitEnv.map Prod.fst])) ++ [s.parts.rollback.bind (·.env)] ++
      s.scrub.jobs.map (·.env) ++ [s.fuses.op.bind (·.env), s.flash.activation.map Prod.snd, s.flash.actEnv] ++
      s.flash.jobs.map (fun j => match j with | .store e _ _ => e | .config e _ => e | _ => none) ++
      s.mail.recovering.map (fun r => some r.2.2)
  (ps.filterMap id).map (·.env)

/-- The path of a function. -/
def pathFn : Fn → Path | .pf => .pf | .vf n => .vf n

/-- Discard the replies of a function's envelopes, held ones and those still to come (R196). -/
def loseReplies (f : Fn) (s : State) : State :=
  let mine (e : Env) : Bool := e.path == pathFn f
  { s with mail := { s.mail with held := s.mail.held.filter (fun h => !mine h.reply.env),
                                 lost := s.mail.lost ++ (waitingEnvs s).filter mine } }

/-- A function's registers at their reset values. -/
def resetFn (f : Fn) (s : State) : State := loseReplies f (setRegs f FnRegs.reset s)

/-- VF function-level reset: rings, interrupt setup, held replies; its queued entries dropped (Table 22-5). -/
def vfFlr (n : Nat) (s : State) : State :=
  let f := fnOf n
  let es := (coresOf s n).flatMap (fun c => (core s c).queue.map (fun e => (c, e))) ++
    (s.q.posting.filter (fun x => x.entry.part == n)).map (fun x => (x.core, x.entry))
  let s1 := (coresOf s n).foldl (fun t c => modCore c (fun x => { x with queue := [] }) t) s
  let s2 : State := { s1 with q := { s1.q with posting := s1.q.posting.filter (fun x => x.entry.part != n) } }
  let s3 := modPart n (fun x => { x with counts := { x.counts with hostDropped := x.counts.hostDropped + es.length + (fnRegs s2 f).comp.held.length } }) s2
  let s4 := es.foldl (fun t e => countRecord e.2.part e.1 8 t) s3
  resetFn f s4

/-- PF function-level reset: PF rings, VF Enable cleared, every VF as by its own reset (Table 22-5). -/
def pfFlr (s : State) : State :=
  let s1 := (mkeys s.parts.parts).foldl (fun t n => if t.parts.vfEnable.getLsbD n then vfFlr n t else t) s
  resetFn .pf { s1 with parts := { s1.parts with vfEnable := 0 }, q := { s1.q with events := Events.reset } }

/-- The host link goes down (R51): registers and ring positions reset, host DMA outstanding lost and counted. -/
def linkLost (s : State) : State :=
  let fns : List Fn := .pf :: (mkeys s.parts.parts).map fnOf
  let s1 := fns.foldl (fun t f => loseReplies f t) s
  let lost (n : Nat) : Nat := (s1.q.outs.filter (fun o => o.part == n)).length + (fnRegs s1 (fnOf n)).comp.held.length
  let s2 := (mkeys s1.parts.parts).foldl (fun t n => modPart n (fun x => { x with counts := { x.counts with
      hostDropped := x.counts.hostDropped + lost n } }) t) s1
  { s2 with power := { s2.power with pcie := false }, parts := { s2.parts with vfEnable := 0 },
            q := { s2.q with regs := [], events := Events.reset, outs := [] } }

/-- PERST_N goes low (R51); while a higher reset holds it has no effect (R52). -/
def perstNLow (s : State) : State :=
  let s1 := modAon (fun a => { a with perstN := false }) s
  if s.aon.perstN ∧ s.aon.pwrOk ∧ s.aon.sysRstN ∧ domOf s 3 = .on then linkLost s1 else s1

/-- PERST_N goes high: the link trains where PD3 is ready. -/
def perstNRise (s : State) : State :=
  let s1 := modAon (fun a => { a with perstN := true }) s
  if domOf s 3 = .on then { s1 with power := { s1.power with pcie := true } } else s1

/-- PD3 is ready to train (R52); a PERST_N already high counts as deasserted now. -/
def pd3Ready (s : State) : State :=
  if s.boot.phase = .held ∨ s.boot.phase = .selFault ∨ domOf s 3 = .on then s
  else
    let s1 := setDom 3 .on s
    { s1 with power := { s1.power with pcie := s.aon.perstN } }

/-- Whether the boot ended in a recovery outcome, where TotalVFs reads 0 (Table 24-1). -/
def recoveryOutcome (s : State) : Bool :=
  match s.boot.outcome with | .recoveryNoImage | .layerFailed | .recoveryFlashFault => true | _ => false

/-- A configuration request (R96), and the NumVFs and VF Enable it may write (Table 24-1). -/
def configRequest (f : Fn) (numVfs : Option (BitVec 8)) (s : State) : State :=
  if !s.power.pcie then s
  else if s.boot.retryUntilReady then emit (.retryStatus f) s
  else
    let total := if recoveryOutcome s ∨ halted s then 0 else nParts s
    let s1 : State := match f, numVfs with
      | .pf, some n => { s with parts := { s.parts with vfEnable := BitVec.ofNat 128 (2 ^ min n.toNat total - 1) } }
      | _, _ => s
    emit (.configDone f) s1

/-! ### Entry fetch (R191–R193) -/

/-- A ring stops with a fault, and the dead-letter log records it (R192, R193, R200). -/
def stopEnvRing (f : Fn) (bounce : Bool) (s : State) : State :=
  let path := match f with | .pf => 0 | .vf _ => 1
  raiseEvent 3 (logDead path (match f with | .pf => 0 | .vf n => n.toNat) 0 0 0xFF (if bounce then 9 else 3) 1 0 0
    (modEnv f (fun r => { r with stopped := true, enable := false, entryFault := r.entryFault || !bounce,
                                 bounceFault := r.bounceFault || bounce }) s))

/-- Bytes read where a function's structure stands: cleartext, or the plaintext of a verified bounce record. The first
component says whether a bounce record failed. -/
def readHost (f : Fn) (kind maxLen : Nat) (r : HostRead) (s : State) : Bool × Option Bytes × State :=
  match r with
  | .plain b => if fnConf s f then (true, none, s) else (false, some b, s)
  | .bounce x =>
    if fnConf s f then
      match openBounce (fnKey f) kind 64 maxLen none x s with
      | some (b, t) => (false, some b, t)
      | none => (true, none, s)
    else (false, none, s)
  | _ => (false, none, s)

/-- Fetch an entry and its envelope (R191–R193). The envelope's command follows as a row of its own. -/
def envEntryFetch (f : Fn) (entry env : HostRead) (replyFails : Bool) (s : State) : State :=
  let r := (fnRegs s f).env
  let conf := fnConf s f
  let allowed := hostReady s || (f == .pf && recoveryOutcome s)
  if !fnLive s f ∨ !allowed ∨ s.mem.htClosed ∨ !r.enable ∨ r.head = r.tail ∨ 8 ≤ r.outstanding.toNat ∨
      (conf ∧ !mhas s.vault.bce (fnKey f)) then s
  else
    let k := readHost f 1 32 entry s
    match k.2.1 with
    | none => stopEnvRing f k.1 s
    | some b =>
      let lo := if conf then 120 else 72
      let len := fld b 8 4
      let max_ := fld b 12 4
      let replyOk := fld b 16 8 % 8 = 0 ∧ lo ≤ max_
      let lenOk := lo ≤ len ∧ len ≤ (if conf then 61600 else 61552) ∧ fld b 0 8 % 8 = 0
      if b.length ≠ 32 ∨ !decide replyOk then stopEnvRing f false s
      else if !allZero (slice b 24 8) ∨ !decide lenOk then
        let s1 := modEnv f (fun x => { x with head := x.head + 1, done := x.done + 1, replyFault := x.replyFault || replyFails }) k.2.2
        let s2 := logDead (match f with | .pf => 0 | .vf _ => 1) (match f with | .pf => 0 | .vf n => n.toNat) 0 0 3 3 1 0 0 s1
        if replyFails then s2 else msix f r.vector.toNat s2
      else
        let e := readHost f 2 61552 env k.2.2
        match e.2.1 with
        | none => stopEnvRing f e.1 k.2.2
        | some _ => modEnv f (fun x => { x with head := x.head + 1, outstanding := x.outstanding + 1 }) e.2.2

/-! ### Descriptors (R279–R282) -/

/-- Plaintext bytes of an output area: OUT_CAP (R284). -/
def outCap (conf : Bool) (m : Nat) : Nat := if conf then m / 4144 * 4096 + (m % 4144 - 48) else m

/-- A descriptor's fields at fault: check 2 of Table 12-3. -/
def descFormOk (b : Bytes) (conf : Bool) : Bool :=
  let ragged := (byteAt b 1).getLsbD 0
  let recs := fld b 0x14 2
  let rl := fld b 0x16 2
  b.length == 64 && byteAt b 0 == 1 && decide ((byteAt b 1).toNat < 8) && fld b 8 8 % 8 == 0 && fld b 0x20 8 % 8 == 0 &&
    allZero (slice b 0x2C 4) && decide (1 ≤ recs ∧ recs ≤ 4096) && (if ragged then rl == 0 else decide (1 ≤ rl)) &&
    decide (fld b 0x10 4 ≤ (if conf then 2 ^ 24 + 48 * 2 ^ 24 else 2 ^ 24))

/-- The end offsets of ragged mode: strictly increasing, the last one the data's length (R280). -/
def raggedOk (recs : Nat) (b : Bytes) : Bool :=
  let ends := (List.range recs).map (fun i => fld b (4 * i) 4)
  decide (4 * recs ≤ b.length) && (ends.zip (ends.drop 1)).all (fun e => decide (e.1 < e.2)) &&
    (ends.getLast? == some (b.length - 4 * recs)) && decide (0 < ends.headD 0)

/-- The input plaintext: cleartext, or the payloads of KIND 0x05 records with COUNT D + 1 to D + k (R243, R280). -/
def readInput (p q : Nat) (conf : Bool) (input : HostInput) (s : State) : Option (Bytes × State) :=
  match input with
  | .plain b => if conf then none else some (b, s)
  | .bounce rs =>
    if !conf then none
    else rs.foldl (fun (a : Option (Bytes × State)) r => match a with
      | none => none
      | some (b, t) =>
        match openBounce p 5 q 4096 (some ((mgetD t.mem.h2d (streamKey p q) 0).toNat + 1)) r t with
        | some (x, u) => some (b ++ x, u)
        | none => none) (some ([], s))
  | _ => none

/-- Complete a descriptor that fails a check (Table 12-3): one record with its status. -/
def failDesc (p q : Nat) (b : Bytes) (entryId : BitVec 64) (status : Nat) (s : State) : State :=
  let e : WorkEntry := { part := p, ring := q, tag := BitVec.ofNat 32 (fld b 4 4),
                         period := match part? s p with | some x => x.periodSeq | none => 0,
                         x := [0, 0, 0, 0, 0, entryId, 0, 0], outAddr := 0, outWin := 0, outOff := 0, outLen := 0,
                         irq := !(byteAt b 1).getLsbD 2 }
  writeRecord (fnOf p) (recordOf (byteAt b 2).toNat e status 1) s

/-- The entry of a descriptor (Table 12-4). -/
def entryOf (p q : Nat) (b : Bytes) (plain : Nat) (entryId : BitVec 64) (conf : Bool) : WorkEntry :=
  let w := byteAt b 3
  let cap := outCap conf (fld b 0x28 4)
  { part := p, ring := q, tag := BitVec.ofNat 32 (fld b 4 4), period := 0,
    x := [BitVec.ofNat 64 (fld b 0x14 2 + fld b 0x16 2 * 2 ^ 16 + (w.toNat % 16) * 2 ^ 32 + (w.toNat / 16) * 2 ^ 36 + q * 2 ^ 40 +
            bit ((byteAt b 1).getLsbD 0) 46),
          BitVec.ofNat 64 (fld b 0x18 4), BitVec.ofNat 64 plain, BitVec.ofNat 64 (fld b 0x1C 4), BitVec.ofNat 64 cap, entryId,
          BitVec.ofNat 64 (fld b 0x30 8), BitVec.ofNat 64 (fld b 0x38 8)],
    outAddr := BitVec.ofNat 64 (fld b 0x20 8), outWin := w.toNat / 16, outOff := fld b 0x1C 4, outLen := cap,
    irq := !(byteAt b 1).getLsbD 2 }

/-- Whether a window of the running context allows an access and holds a range. -/
def winHolds (s : State) (c k bitNo off len : Nat) : Bool :=
  let w := Wd.ofBits (mgetD (core s c).wd k 0)
  w.valid && (if bitNo = 1 then w.write else w.read) && decide (off + len ≤ w.size * 2 ^ 21)

/-- The length of the input plaintext as the descriptor's host bytes give it. -/
def inputLen (conf : Bool) (b : Bytes) (input : HostInput) : Nat :=
  match input with
  | .bounce rs => (rs.map (fun r => r.len.toNat)).sum
  | _ => if conf then 0 else fld b 0x10 4

/-- Checks 2 to 6 of Table 12-3 over an admitted descriptor, its input copied into the window. -/
def runDesc (p q : Nat) (b : Bytes) (entryId : BitVec 64) (input : HostInput) (s : State) : State :=
  let conf := isConf s p
  let c := (byteAt b 2).toNat
  let iw := (byteAt b 3).toNat % 16
  let ow := (byteAt b 3).toNat / 16
  let fail (n : Nat) (t : State) : State := failDesc p q b entryId n t
  let plainLen := inputLen conf b input
  if !descFormOk b conf then fail 3 s
  else if coreHolder s c ≠ some p ∨ resFenced s 1 c then fail 5 s
  else if !(fld b 0x10 4 == 0 || winHolds s c iw 1 (fld b 0x18 4) plainLen) ∨
      !(fld b 0x28 4 == 0 || winHolds s c ow 0 (fld b 0x1C 4) (outCap conf (fld b 0x28 4))) then fail 3 s
  else
    let r := if fld b 0x10 4 = 0 then some (([] : Bytes), s) else readInput p q conf input s
    match r with
    | none =>
      fail 9 (match input with | .timeout => logFault 0x11 2 0xA 0 0 0xFF 0 0 s | _ => s)
    | some (x, s1) =>
      let m := memWrite (.host (BitVec.ofNat 7 p)) iw (fld b 0x18 4) x s1
      let s2 := if x = [] then s1 else m.1
      if x ≠ [] ∧ m.2 ≠ 0 then fail 9 s2
      else if !(if (byteAt b 1).getLsbD 0 then raggedOk (fld b 0x14 2) x else x.length == fld b 0x14 2 * fld b 0x16 2) then fail 3 s2
      else
        let post : Posting := { core := c, defer := (byteAt b 1).getLsbD 1, irq := !(byteAt b 1).getLsbD 2,
                                entry := entryOf p q b x.length entryId conf }
        { s2 with q := { s2.q with posting := s2.q.posting ++ [post] } }

/-- Fetch and decide one descriptor (R279–R281). A ring whose head descriptor names a core with a full queue waits. -/
def descriptorFetch (f : Fn) (q : Nat) (desc : HostRead) (input : HostInput) (s : State) : State :=
  match f with
  | .pf => s
  | .vf vn =>
    let p := vn.toNat
    let w := workRing s f q
    let c := (fnRegs s f).comp
    let conf := isConf s p
    let running := match part? s p with | some x => x.state == .running | none => false
    if !fnLive s f ∨ !running ∨ s.mem.htClosed ∨ !w.enable ∨ w.head = w.tail ∨
        2 ^ c.log2.toNat ≤ (c.tail - c.head).toNat + c.reserved.toNat + 1 ∨ (conf ∧ !mhas s.vault.bce p) then s
    else
      let taken (t : State) : State :=
        modComp f (fun x => { x with reserved := x.reserved + 1 })
          (modWork f q (fun x => { x with head := x.head + 1, accepted := x.accepted + 1, accepted56 := x.accepted56 + 1 }) t)
      let entryId : BitVec 64 := BitVec.ofNat 64 (q * 2 ^ 56 + (w.accepted56 + 1).toNat)
      match desc with
      | .unreadable => stopWork f q s
      | .timeout => stopWork f q (logFault 0x11 2 0xA 0 0 0xFF 0 0 s)
      | .plain b =>
        if conf then failDesc p q [] entryId 9 (taken s)
        else if 32 ≤ (core s (physOf s (byteAt b 2).toNat)).queue.length ∧ coreHolder s (byteAt b 2).toNat = some p then s
        else runDesc p q b entryId input (taken s)
      | .bounce r =>
        if !conf then failDesc p q [] entryId 3 (taken s)
        else match openBounce p 4 q 64 none r s with
          | none => failDesc p q [] entryId 9 (taken s)
          | some (b, t) =>
            if 32 ≤ (core s (physOf s (byteAt b 2).toNat)).queue.length ∧ coreHolder s (byteAt b 2).toNat = some p then s
            else runDesc p q b entryId input (taken t)

/-- Post the oldest entry of a ring whose input copy is done to its core's queue, tagged with its period (R282). A core
that waits on its queue runs; one on a tile that is off is held for it. -/
def entryPost (f : Fn) (q : Nat) (s : State) : State :=
  match s.q.posting.find? (fun x => fnOf x.entry.part == f && x.entry.ring == q) with
  | none => s
  | some y =>
    match part? s y.entry.part with
    | none => s
    | some x =>
      let c := physOf s y.core
      if 32 ≤ (core s c).queue.length then s
      else
        let e := { y.entry with period := x.periodSeq + (if y.defer then 1 else 0),
                                x := y.entry.x }
        let s1 : State := { s with q := { s.q with posting := removeFirst (fun z => z == y) s.q.posting } }
        let s2 := modCore c (fun k => { k with queue := k.queue ++ [e] }) s1
        let s3 := if (core s c).waiting = .queue ∧ !y.defer then wakeCore c s2 else s2
        if domOf s (tilePd (c / 16)) = .on then s3
        else
          let u := startDomain (tilePd (c / 16)) s3
          { u with power := { u.power with held := u.power.held ++ [(tilePd (c / 16), .wake (BitVec.ofNat 7 c))] } }

/-! ### Output copies (R284, R286) -/

/-- The D2H records of an output of a Confidential partition. -/
def emitRecords (f : Fn) (p : Nat) (addr : BitVec 64) (i : Nat) : List Bytes → State → State
  | [], s => s
  | b :: bs, s =>
    let r := sealBounce p 6 i b s
    emitRecords f p (addr + 4144) i bs (emit (.hostRecord f addr r.1) r.2)

/-- The bytes of an output in records of 4,096. -/
def splitOut : Nat → Bytes → List Bytes
  | 0, _ => []
  | n + 1, b => if b = [] then [] else b.take 4096 :: splitOut n (b.drop 4096)

/-- The oldest output copy of a function ends: the host took it or not. -/
def outputCopyDone (f : Fn) (hostOk : Bool) (s : State) : State :=
  match s.q.outs.find? (fun o => o.fn == f) with
  | none => s
  | some o =>
    let s1 : State := { s with q := { s.q with outs := removeFirst (fun x => x == o) s.q.outs } }
    let r := if o.lost then (s1, 1, ([] : Bytes)) else if o.len = 0 then (s1, 0, []) else memRead (.host (BitVec.ofNat 7 o.part)) o.win o.off o.len s1
    if o.lost ∨ !hostOk ∨ r.2.1 ≠ 0 then
      writeRecord f { o.record with status := 9, outLen := 0 } r.1
    else
      let s2 := if isConf r.1 o.part then
          emitRecords f o.part o.addr o.record.ring.toNat (splitOut (o.len / 4096 + 1) r.2.2) r.1
        else emit (.hostWrite f o.addr r.2.2) r.1
      countRecord o.part (physOf s o.record.core.toNat) 0 (writeRecord f o.record s2)

/-! ### Held replies (R188, R189), backpressure (R456) -/

/-- Release the oldest reply held for a reason. -/
def releaseHeld (w : HoldFor) (s : State) : State :=
  match s.mail.held.find? (fun h => h.why == w) with
  | none => s
  | some h => releaseReply h.reply { s with mail := { s.mail with held := removeFirst (fun x => x == h) s.mail.held } }

/-- A DMA read of a ring's work has had no completion for 50 ms (R456). -/
def completionTimeout (f : Fn) (q : Nat) (s : State) : State :=
  if !s.power.pcie then s
  else
    let s1 := logFault 0x11 2 0xA 0 0 0xFF 0 0 s
    match s1.q.posting.find? (fun x => fnOf x.entry.part == f && x.entry.ring == q) with
    | some y => writeRecord f (recordOf y.core y.entry 9 1)
        { s1 with q := { s1.q with posting := removeFirst (fun z => z == y) s1.q.posting } }
    | none => s1

def postedStall (s : State) : State := if s.power.pcie then logFault 0x11 2 0xA 1 0 0xFF 0 0 s else s

/-! ### Commands -/

/-- PD3_READY (R52). -/
def execPd3Ready (s : State) : Answer := done s (pd3Ready s)

/-- PERST_N_LOW (R51). -/
def execPerstNLow (s : State) : Answer := done s (perstNLow s)

/-- PERST_N_RISE (R52). -/
def execPerstNRise (s : State) : Answer := done s (perstNRise s)

/-- CONFIG_REQUEST (R96). -/
def execConfigRequest (fn : Fn) (numVfs : Option (BitVec 8)) (s : State) : Answer := done s (configRequest fn numVfs s)

/-- WORK_DOORBELL (R279). -/
def execWorkDoorbell (fn : Fn) (ring : BitVec 6) (tail : BitVec 32) (s : State) : Answer := done s (workDoorbell fn ring tail s)

/-- ENV_DOORBELL (R191). -/
def execEnvDoorbell (fn : Fn) (tail : BitVec 32) (s : State) : Answer := done s (envDoorbell fn tail s)

/-- ENV_RING_ENABLE (R486). -/
def execEnvRingEnable (fn : Fn) (on : Bool) (s : State) : Answer := done s (envEnable fn on s)

/-- WORK_RING_ENABLE (R486). -/
def execWorkRingEnable (fn : Fn) (ring : BitVec 6) (on : Bool) (s : State) : Answer := done s (workEnable fn ring.toNat on s)

/-- COMPLETION_RING_ENABLE (R285). -/
def execCompletionRingEnable (fn : Fn) (on : Bool) (s : State) : Answer := done s (compEnable fn on s)

/-- COMPLETION_HEAD_WRITE (R486). -/
def execCompletionHeadWrite (fn : Fn) (head : BitVec 32) (s : State) : Answer := done s (compHead fn head s)

/-- EVENT_CLEAR (R485). -/
def execEventClear (bits : BitVec 32) (s : State) : Answer := done s (eventClear bits s)

/-- INT_ENABLE_WRITE (R485). -/
def execIntEnableWrite (v : BitVec 32) (s : State) : Answer := done s (intEnable v s)

/-- REGISTER_WRITE (R482). -/
def execRegisterWrite (fn : Fn) (off : BitVec 32) (v : BitVec 64) (bytes : BitVec 4) (s : State) : Answer := done s (registerWrite fn off.toNat v bytes.toNat s)

/-- VF_FLR (R196). -/
def execVfFlr (n : BitVec 7) (s : State) : Answer := done s (if fnLive s (.vf n) then vfFlr n.toNat s else s)

/-- PF_FLR (R464). -/
def execPfFlr (s : State) : Answer := done s (if s.power.pcie then pfFlr s else s)

/-- ENV_ENTRY_FETCH (R191). -/
def execEnvEntryFetch (fn : Fn) (entry env : HostRead) (replyMaxFails : Bool) (s : State) : Answer := done s (envEntryFetch fn entry env replyMaxFails s)

/-- DESCRIPTOR_FETCH (R279). -/
def execDescriptorFetch (fn : Fn) (ring : BitVec 6) (desc : HostRead) (input : HostInput) (s : State) : Answer := done s (descriptorFetch fn ring.toNat desc input s)

/-- ENTRY_POST (R282). -/
def execEntryPost (fn : Fn) (ring : BitVec 6) (s : State) : Answer := done s (entryPost fn ring.toNat s)

/-- OUTPUT_COPY_DONE (R286). -/
def execOutputCopyDone (fn : Fn) (hostOk : Bool) (s : State) : Answer := done s (outputCopyDone fn hostOk s)

/-- GRID_RELEASE (R188). -/
def execGridRelease (s : State) : Answer := done s (releaseHeld .grid s)

/-- REFUSED_RELEASE (R189). -/
def execRefusedRelease (s : State) : Answer := done s (releaseHeld .refused s)

/-- HOST_COMPLETION_TIMEOUT (R456). -/
def execHostCompletionTimeout (fn : Fn) (ring : BitVec 6) (s : State) : Answer := done s (completionTimeout fn ring.toNat s)

/-- POSTED_CREDIT_STALL (R456). -/
def execPostedCreditStall (s : State) : Answer := done s (postedStall s)

end Sys2Proof.Machine
end

