-- ==== Sys2Proof/Machine/Periods.lean ====
section
/-! DEFINITION. Period boundaries (R287–R289), the carousel's rotations (R382), and the periods and tokens group (Table
23-17, R480, R292). -/

namespace Sys2Proof.Machine

/-! ### The carousel (R382) -/

/-- Bind a group's logical cores to physical cores; a logical core's queue moves with it. -/
def rebind (g : Nat) (old : Group) (bind : List Nat) (s : State) : State :=
  let queues := old.bind.map (fun c => (core s c).queue)
  let s1 := (bind.zip queues).foldl (fun t m => modCore m.1 (fun x => { x with queue := m.2 }) t) s
  { s1 with therm := { s1.therm with groups := mput s1.therm.groups g { old with bind := bind, since := 0, lastTick := tick s } } }

/-- The next member in rotation order. -/
def nextMember (ms : List Nat) (c : Nat) : Nat := ms.getD ((ms.idxOf c + 1) % ms.length) c

/-- The forecast of a core in 0.001 °C. -/
def forecastOf (s : State) (c : Nat) : Int := match mget s.therm.coreT c with | some t => t.forecast | none => 0

/-- The member with the highest, or the lowest, forecast. -/
def extremeMember (s : State) (high : Bool) : List Nat → Option Nat
  | [] => none
  | c :: cs =>
    match extremeMember s high cs with
    | none => some c
    | some d => if (if high then decide (forecastOf s d ≤ forecastOf s c) else decide (forecastOf s c ≤ forecastOf s d)) then some c else some d

/-- 10 ms in XT32 ticks. -/
def tenMs : Nat := 328

/-- A group at a boundary of its partition. -/
def rotateGroup (g : Nat) (x : Group) (s : State) : State :=
  if x.every = 0 then
    match extremeMember s true x.members, extremeMember s false x.members with
    | some h, some l =>
      if h ≠ l ∧ tenMs ≤ (tick s - x.lastTick).toNat ∧ forecastOf s l + 5000 ≤ forecastOf s h then
        rebind g x (x.bind.map (fun c => if c = h then l else if c = l then h else c)) s
      else s
    | _, _ => s
  else if x.every ≤ x.since + 1 then rebind g x (x.bind.map (nextMember x.members)) s
  else { s with therm := { s.therm with groups := mput s.therm.groups g { x with since := x.since + 1 } } }

/-- The groups of a partition at its boundary. -/
def rotateAll (p : Nat) (s : State) : State :=
  s.therm.groups.foldl (fun t g => if g.2.part = p then rotateGroup g.1 g.2 t else t) s

/-! ### PERIOD_BOUNDARY (R288, R289) -/

/-- Set a period now; this instant is its anchor (R287). -/
def anchorPeriod (us : Nat) (s : State) (x : Partition) : Partition := { x with periodUs := us, pendUs := 0, anchor := tick s }

/-- Apply a pending PERIOD_SET. -/
def applyPeriod (p : Nat) (s : State) : State :=
  modPart p (fun x => if x.pendUs = 0 then x else anchorPeriod x.pendUs s x) s

/-- An entry of a period that has ended. -/
def stale (seq : BitVec 64) (e : WorkEntry) : Bool := decide (e.period.toNat < seq.toNat)

/-- A core at a boundary: older entries go and it is placed at entry; a GATED core that waits on its queue with nothing to
cancel stays gated (R289). -/
def boundaryCore (seq : BitVec 64) (c : Nat) (s : State) : State :=
  let k := core s c
  let stay : Bool := k.st == .gated && k.waiting == .queue && !k.queue.any (stale seq) && k.entry.isNone
  modCore c (fun x =>
    let y := atEntry x
    { y with queue := x.queue.filter (fun e => !stale seq e), cycles := 0,
             st := if stay then .gated else y.st, waiting := if stay then .queue else y.waiting }) (unwait c s)

/-- The usage bytes of a partition's exposed parcel windows (R314). -/
def usageStep (p : Nat) (s : State) : State :=
  { s with desk := { s.desk with parcels := s.desk.parcels.map (fun x =>
      if x.part = p ∧ x.st = .resident then
        { x with usage := (x.usage >>> 1) ||| (if x.touched then 0x80 else 0), touched := false }
      else x) } }

/-- MEAS_VALID of a partition's cores as released (R339). -/
def releaseMeas (p : Nat) (s : State) : State :=
  (coresOf s p).foldl (fun t c => { t with att := { t.att with measValid := mset t.att.measValid c (measLive t c) false } }) s

/-- Wake the cores that wait on a queue holding an entry that can be taken. -/
def wakeTakers (p : Nat) (seq : BitVec 64) (s : State) : State :=
  (coresOf s p).foldl (fun t c =>
    let k := core t c
    if k.waiting = .queue ∧ k.queue.any (fun e => decide (e.period.toNat ≤ seq.toNat)) then wakeCore c t else t) s

/-- PERIOD_RESET tokens of a partition return to INITIAL (R290). -/
def resetTokens (p : Nat) (s : State) : State :=
  (heldOf s 4 p).foldl (fun t n => match mget t.q.tokens n with
    | some k => if k.periodReset && !k.proxy then setToken n { k with count := k.initial } t else t
    | none => t) s

/-- A period boundary of a partition. -/
def periodBoundary (p : Nat) (s : State) : State :=
  match part? s p with
  | none => s
  | some x =>
    if x.periodUs = 0 ∨ x.state = .destroying then s
    else if x.state ≠ .running then applyPeriod p s
    else
      let seq := x.periodSeq + 1
      let gone := (coresOf s p).flatMap (fun c => (coreEntries s c).filter (fun e => stale seq e.2))
      let s1 := modPart p (fun y => { y with periodSeq := seq }) s
      let s2 := (coresOf s p).foldl (fun t c => boundaryCore seq c t) s1
      let s3 := releaseMeas p (usageStep p s2)
      let s4 := applyPeriod p (applySwitch p gone.length (rotateAll p s3))
      dropEntries gone gone.length (resetTokens p (wakeTakers p seq s4))

/-! ### Periods and tokens group -/

/-- A token held by the target partition, or NOT_FOUND; a VF reaches only its own home tokens. -/
def withToken (e : Env) (s : State) (k : Nat → Token → State × Ans) : State × Ans :=
  withPart e s (fun _ =>
    let n := p16 e 0
    if (resOf s 4 n).st ≠ .held e.target.toNat then (s, Ans.notFound)
    else match mget s.q.tokens n with
      | none => (s, Ans.notFound)
      | some t => if t.proxy && callerOf e.path == .vf then (s, Ans.refused) else k n t)

/-- PERIOD_SET (R287). -/
def periodSet (e : Env) (x : Partition) (s : State) : State × Ans :=
  let us := p32 e 0
  (modPart e.target.toNat (fun y =>
    if x.periodUs ≠ 0 ∧ x.state = .running then { y with pendUs := us } else anchorPeriod us s y) s, Ans.ok)

/-- TOKEN_IMPORT_SET (R480, R418). -/
def importSet (e : Env) (n : Nat) (k : Token) (s : State) : State × Ans :=
  let src : BitVec 16 := BitVec.ofNat 16 (p16 e 2)
  let ch : BitVec 16 := BitVec.ofNat 16 (p16 e 4)
  let p := e.target.toNat
  let data := p8 e 6 ≠ 0xFF
  if ch = 0 then
    match k.imp with
    | none => (s, Ans.notFound)
    | some _ => (setToken n { k with imp := none } s, Ans.ok)
  else
    let other (t : Nat × Token) : Bool := t.1 != n && (match t.2.imp with | some i => i.src == src && i.channel == ch | none => false)
    let bound : Bool := match k.imp with | some i => !(i.src == src && i.channel == ch) | none => false
    if k.proxy then (s, Ans.notFound)
    else if data ∧ windowOf s p (p8 e 6) = none then (s, Ans.notFound)
    else if bound || s.q.tokens.any other then (s, Ans.conflict)
    else if k.imp.isNone ∧ 1024 ≤ (s.q.tokens.filter (fun t => t.2.imp.isSome)).length then (s, Ans.exhausted)
    else
      match part? s p with
      | none => (s, Ans.notFound)
      | some x =>
        let chd := channelCircle s x.policy p src.toNat ch.toNat false
        if x.mode = .confidential ∧ chd = none then (s, Ans.state)
        else
          let i : Import :=
            { src := src, channel := ch, inbox := BitVec.ofNat 8 (p8 e 6), offset := BitVec.ofNat 64 (p64 e 8),
              block := BitVec.ofNat 32 (p32 e 16), ring := BitVec.ofNat 16 (p16 e 20), chd := if x.mode = .confidential then chd else none,
              nextSeq := none, nextSig := none, blocks := 0, waiting := [], broken := false, dropped := 0 }
          (setToken n { k with imp := some i } s, Ans.ok)

/-- The checks of TOKEN_IMPORT_SET's payload. -/
def importChecks (e : Env) : List Chk :=
  let data := p8 e 6 ≠ 0xFF
  let on := p16 e 4 ≠ 0
  [(0, decide (p16 e 0 < 4096)), (4, !on || decide (0x10 ≤ p16 e 4)), (6, !on || !data || decide (p8 e 6 < 16))] ++ rsv e 7 1 ++
  [(8, !on || !data || p64 e 8 % 64 == 0), (16, !on || !data || (decide (4096 ≤ p32 e 16 ∧ p32 e 16 ≤ 65536) && p32 e 16 % 64 == 0)),
   (20, !on || !data || decide (1 ≤ p16 e 20 ∧ p16 e 20 ≤ 4096))] ++ rsv e 22 2

/-- TOKEN_PAGE_SET (R292, R480). -/
def pageSet (e : Env) (s : State) : State × Ans :=
  let p := e.target.toNat
  let w := p8 e 0
  let g := p8 e 1
  let off := p64 e 8
  let mine (q : TokPage) : Bool := q.part == p && q.page == g
  let without := s.q.pages.filter (fun q => !mine q)
  if p8 e 2 = 0 then
    if s.q.pages.any mine then ({ s with q := { s.q with pages := without } }, Ans.ok) else (s, Ans.notFound)
  else
    match windowOf s p w with
    | none => (s, Ans.notFound)
    | some x =>
      let shared : Bool := match x.use with | .sharedParcel _ => true | _ => false
      if x.access.getLsbD 2 || shared || decide (x.size * 2 ^ 21 < off + 65536) then (s, Ans.state)
      else if without.any (fun q => q.part == p && q.window == w && q.offset == off) then (s, Ans.conflict)
      else if 16 ≤ (without.filter (fun q => q.part == p)).length then (s, Ans.exhausted)
      else ({ s with q := { s.q with pages := without ++ [{ part := p, page := g, window := w, offset := off }] } }, Ans.ok)

/-! ### Commands -/

/-- PERIOD_BOUNDARY (R288). -/
def execPeriodBoundary (p : BitVec 7) (s : State) : Answer := done s (periodBoundary p.toNat s)

/-- PERIOD_SET (R287). -/
def execPeriodSet (e : Env) (s : State) : Answer := done s (serve specPeriodSet e (fun t =>
  checked ([(0, decide (50 ≤ p32 e 0 ∧ p32 e 0 ≤ 1000000))] ++ rsv e 4 4) t (withPart e t (fun x => periodSet e x t))) s)

/-- PERIOD_STATUS_GET (Table 23-17). -/
def execPeriodStatusGet (e : Env) (s : State) : Answer := done s (serve specPeriodStatusGet e (fun t =>
  withPart e t (fun x => (t, Ans.ok (leBytes 4 x.periodUs ++ leBytes 4 x.pendUs ++ leBytes 8 x.periodSeq.toNat ++
    leBytes 8 x.anchor.toNat ++ leBytes 8 x.counts.dropped.toNat)))) s)

/-- TOKEN_SIGNAL (R480): as a TSIG. -/
def execTokenSignal (e : Env) (s : State) : Answer := done s (serve specTokenSignal e (fun t =>
  checked ([(0, decide (p16 e 0 < 4096))] ++ rsv e 2 2 ++ [(4, decide (1 ≤ p32 e 4))]) t
    (withToken e t (fun n _ => (signalToken n (BitVec.ofNat 32 (p32 e 4)) t, Ans.ok)))) s)

/-- TOKEN_STATUS_GET (Table 23-17). -/
def execTokenStatusGet (e : Env) (s : State) : Answer := done s (serve specTokenStatusGet e (fun t =>
  checked ([(0, decide (p16 e 0 < 4096))] ++ rsv e 2 6) t (withToken e t (fun _ k =>
    let broken : Bool := match k.imp with | some i => i.broken | none => false
    let flags := bit k.overflow 0 + bit k.proxy 1 + bit k.periodReset 2 + bit broken 3
    (t, Ans.ok (leBytes 4 k.count.toNat ++ [BitVec.ofNat 8 (min 255 k.waiters.length), BitVec.ofNat 8 flags, 0, 0] ++
      leBytes 4 k.initial.toNat ++ zeros 4))))) s)

/-- TOKEN_IMPORT_SET (R480). -/
def execTokenImportSet (e : Env) (s : State) : Answer := done s (serve specTokenImportSet e (fun t =>
  checked (importChecks e) t (withToken e t (fun n k => importSet e n k t))) s)

/-- TOKEN_PAGE_SET (R292). -/
def execTokenPageSet (e : Env) (s : State) : Answer := done s (serve specTokenPageSet e (fun t =>
  checked ([(0, decide (p8 e 0 < 16)), (1, decide (p8 e 1 < 16)), (2, decide (p8 e 2 < 2))] ++ rsv e 3 5 ++ [(8, p64 e 8 % 65536 == 0)]) t
    (withPart e t (fun _ => pageSet e t))) s)

end Sys2Proof.Machine
end

