-- ==== Sys2Proof/Machine/Thermal.lean ====
section
/-! DEFINITION. The thermal governor (chapter 17, R361, R362): sensors, coolant, the package cap, the model, plans and the
forecast, throttling, trips and the thermal group. Temperatures of sensors are in 0.1 °C, those of the model in 0.001 °C. -/

namespace Sys2Proof.Machine

/-! ### Readers and writers -/

def modTherm (f : Thermal → Thermal) (s : State) : State := { s with therm := f s.therm }
def coreTherm (s : State) (c : Nat) : CoreTherm := mgetD s.therm.coreT c CoreTherm.reset
def setCoreTherm (c : Nat) (x : CoreTherm) (s : State) : State := modTherm (fun t => { t with coreT := mset t.coreT c x CoreTherm.reset }) s
def stackTherm (s : State) (n : Nat) : StackTherm := mgetD s.therm.stackT n StackTherm.reset
def setStackTherm (n : Nat) (x : StackTherm) (s : State) : State :=
  modTherm (fun t => { t with stackT := mset t.stackT n x StackTherm.reset }) s
def coreSensor (s : State) (c : Nat) : Sensor := mgetD s.therm.coreS c Sensor.reset
def hubSensor (s : State) (n : Nat) : Sensor := mgetD s.therm.hubS n Sensor.reset
def stackSensor (s : State) (n : Nat) : Sensor := mgetD s.therm.stackS n Sensor.reset

/-- Ticks since a recorded tick. -/
def age (s : State) (t : BitVec 48) : Nat := (tick s - t).toNat

/-- The clock step of a core: its partition's LEVEL in Confidential mode, its own in Open mode (R361, R376). -/
def stepOf (s : State) (c : Nat) : Nat :=
  match (coreHolder s c).bind (part? s) with
  | some x => if x.mode = .confidential then x.level else (core s c).step
  | none => (core s c).step

/-- The step an Open core may not rise above: the operator's, and 0.9 GHz for a faulted sensor (R369, R385). -/
def stepFloor (s : State) (c : Nat) : Nat :=
  let op := match (coreHolder s c).bind (part? s) with | some x => x.maxStep | none => 0
  max op (if (coreSensor s c).faulted then 3 else 0)

/-- Whether the governor steps a core by itself: it belongs to no Confidential partition (R377). -/
def openCore (s : State) (c : Nat) : Bool := match coreHolder s c with | some p => !isConf s p | none => true

/-- Whether a Confidential partition holds a memory share on a stack (R362). -/
def confShare (s : State) (n : Nat) : Bool := s.parts.parts.any (fun e => e.2.mode == .confidential && mhas e.2.mem n)

/-! ### Coolant and the package cap (R56, R370, R371) -/

/-- The inlet temperature in 0.1 °C. -/
def inletT (s : State) : Int :=
  if s.aon.thIn.valid then s.aon.thIn.temp
  else match s.therm.inlet with
    | some (t, k) => if age s k ≤ 327680 then t else 450
    | none => 450

/-- The flow in 0.01 L/min. -/
def flowOf (s : State) : Nat :=
  match s.therm.flow with
  | some (f, k) => if age s k ≤ 327680 ∧ !s.therm.flowStale then f else 120
  | none => 120

/-- P_cap in mW; a faulted hub sensor caps the package at 600 W. -/
def powerCap (s : State) : Nat :=
  let top := if isU620 s then 500000 else 900000
  let lid := (75000 - inletT s * 100).toNat * 100 / 3
  let c := min top (min lid (7500 * flowOf s))
  if s.therm.hubCap then min c 600000 else c

/-! ### Power (Table 02-10) -/

/-- The budgeting figure of an active core at a clock step, in mW. -/
def stepMw (k : Nat) : Nat := [4500, 3750, 3000, 2250, 1500].getD k 1500
/-- A core's power at an activity in 255ths. -/
def coreMw (act k : Nat) : Nat := stepMw k * act / 255
/-- The package's power without tiles and traffic. -/
def baseMw (s : State) : Nat :=
  if domOf s 2 = .on then (if isU620 s then 40000 else 45000) else (if isU620 s then 4000 else 6000)
/-- The power of the stacks' traffic. -/
def trafficMw (s : State) : Nat := 14 * (s.therm.stackT.map (fun e => e.2.traffic)).sum

/-- A tile's power, with the activity and step of each core. -/
def tileMw (on : Bool) (act step : Nat → Nat) (t : Nat) : Nat :=
  let cs := tileCores t
  (if on then 8000 else 0) + (cs.map (fun c => coreMw (act c) (step c))).sum

/-! ### Trips (R57, R383) -/

/-- A thermal trip: every tile off, THERMTRIP_N low, the trip and its cause latched. Work of the tiles is cancelled,
their scrubs stay (R326), and envelopes that wait for a tile are answered STATE. -/
def thermalTrip (cause : BitVec 8) (s : State) : State :=
  if s.aon.ret.tripLatch then s
  else
    let ts := (List.range (nTiles s)).filter (fun t => domOf s (tilePd t) != .off)
    let s1 := ts.foldl (fun u t => (tileDown t u).1) s
    let s2 := s1.mail.recovering.foldl (fun u r => finish r.2.2 Ans.state u) s1
    let s3 := modAon (fun a => { a with thermTripLow := true, ret := { a.ret with tripLatch := true, tripCause := cause } }) s2
    { s3 with
      power := { s3.power with tileFence := 0xFF }
      mail := { s3.mail with recovering := [] }
      scrub := { s3.scrub with jobs := s3.scrub.jobs.map (fun j => if j.rtype = 1 ∨ j.rtype = 3 then { j with tripped := true } else j) }
      therm := { s3.therm with trips := s3.therm.trips + 1 } }

/-! ### Samples (R368, R369, R376, R379) -/

/-- A sample taken into a sensor: the run of one code, the run of differences from the model, and the run at or above a
trip threshold, which a faulted sensor leaves to the model. -/
def takeSample (s : State) (x : Sensor) (temp : Int) (active : Bool) (model : Option Int) (trip : Int) : Sensor :=
  let same := if x.sampled && active && decide (x.temp = temp) then x.same + 1 else 1
  let diff := match model with | some m => if 15000 < (temp * 100 - m).natAbs then x.diff + 1 else 0 | none => 0
  let judged : Option Int := if x.faulted then model else some (temp * 100)
  let run := match judged with | some v => if trip * 100 ≤ v then x.tripRun + 1 else 0 | none => 0
  { x with temp := temp, sampled := true, tick := tick s, same := same, diff := diff, tripRun := run }

/-- Whether a core or hub sensor is faulted by what it has read (R369). -/
def sensorBad (x : Sensor) : Bool := decide (x.temp < 0) || decide (1500 < x.temp) || decide (400 ≤ x.same) || decide (40 ≤ x.diff)

/-- Report a sensor fault on the operator route. -/
def sensorFault (unit_ : Nat) (s : State) : State :=
  alert 1 (logFault 0x0E 2 8 unit_ 0 0xFF 0 0 (modTherm (fun t => { t with sensorFaults := t.sensorFaults + 1 }) s))

/-- Count a surprise of a core (R380). -/
def surpriseCore (c : Nat) (s : State) : State :=
  let x := coreTherm s c
  modTherm (fun t => { t with surprise := t.surprise + 1 }) (setCoreTherm c { x with surprise := x.surprise + 1 } s)

/-- Step a core down by one, never below 0.6 GHz. -/
def stepDown (c : Nat) (s : State) : State :=
  let s1 := modCore c (fun x => { x with step := min 4 (x.step + 1) }) s
  if (coreTherm s c).forecast < 105000 then surpriseCore c s1 else s1

/-- A core hotspot sample. -/
def coreSample (c : Nat) (temp : Int) (act : BitVec 8) (s : State) : State :=
  if c < nCores s ∧ domOf s (tilePd (c / 16)) = .on then
    let old := coreSensor s c
    let th := coreTherm s c
    let x0 := takeSample s old temp ((core s c).st == .run) (some th.model) 1150
    let bad := !old.faulted && sensorBad x0
    let x := { x0 with faulted := old.faulted || bad }
    let cool := if 1010 < temp then none else match th.coolTick with | some k => some k | none => some (tick s)
    let off := if x.faulted then th.offset else th.offset + (temp * 100 - th.model) / 8
    let s1 := modTherm (fun t => { t with coreS := mset t.coreS c x Sensor.reset }) s
    let s2 := setCoreTherm c { th with activity := act, coolTick := cool, offset := off } s1
    let s3 := if bad then sensorFault c s2 else s2
    let s4 := if bad && openCore s3 c then modCore c (fun k => { k with step := max 3 k.step }) s3 else s3
    let due : Bool := match th.lastDown with | some k => decide (33 ≤ age s k) | none => true
    let s5 := if 1050 ≤ temp ∧ due ∧ openCore s4 c ∧ (core s4 c).step < 4 then
        let u := stepDown c s4
        setCoreTherm c { coreTherm u c with lastDown := some (tick s) } u
      else s4
    if 2 ≤ x.tripRun then thermalTrip 1 s5 else s5
  else s

/-- A hub sample. -/
def hubSample (n : Nat) (temp : Int) (s : State) : State :=
  if n < 24 ∧ domOf s 2 = .on then
    let old := hubSensor s n
    let x0 := takeSample s old temp true none 1150
    let bad := !old.faulted && sensorBad x0
    let x := { x0 with faulted := old.faulted || bad }
    let s1 := modTherm (fun t => { t with hubS := mset t.hubS n x Sensor.reset, hubCap := t.hubCap || bad }) s
    let s2 := if bad then sensorFault (128 + n) s1 else s1
    if 2 ≤ x.tripRun then thermalTrip 3 s2 else s2
  else s

/-- The memory level of a stack that no Confidential partition shares (R379): up at 95 °C, at most once per 10 ms; down
after 100 ms at or below 92 °C. -/
def ownLevel (s : State) (x : StackTherm) (temp : Int) : StackTherm × Bool :=
  let free : Bool := match x.lastChange with | some k => decide (tenMs ≤ age s k) | none => true
  if 950 ≤ temp ∧ free ∧ x.level < 3 then
    ({ x with level := x.level + 1, lastChange := some (tick s), coolTick := none }, decide (x.model < 95000))
  else match x.coolTick with
    | some k =>
      if free ∧ 3277 ≤ age s k ∧ 0 < x.level then
        ({ x with level := x.level - 1, lastChange := some (tick s), coolTick := some (tick s) }, false)
      else (x, false)
    | none => (x, false)

/-- A stack reading: refresh doubled from 85 °C until 82 °C, the memory level, and the trip. -/
def stackSample (n : Nat) (temp : Int) (s : State) : State :=
  if n < nStacks s then
    let x := takeSample s (stackSensor s n) temp true none 1050
    let th := stackTherm s n
    let cool := if 920 < temp then none else match th.coolTick with | some k => some k | none => some (tick s)
    let th1 := { th with refresh2 := if 850 ≤ temp then true else if temp ≤ 820 then false else th.refresh2, coolTick := cool }
    let s1 := modTherm (fun t => { t with stackS := mset t.stackS n x Sensor.reset }) s
    let s2 :=
      if confShare s n then setStackTherm n { th1 with want := th1.want || decide (950 ≤ temp) } s1
      else
        let r := ownLevel s th1 temp
        if r.2 then modTherm (fun t => { t with surprise := t.surprise + 1 }) (setStackTherm n { r.1 with surprise := r.1.surprise + 1 } s1)
        else setStackTherm n r.1 s1
    if 2 ≤ x.tripRun then thermalTrip 2 s2 else s2
  else s

/-- SENSOR_SAMPLE: a stack in SR-HOLD is read by the 1 s poll instead. -/
def sensorSample (id : SensorId) (temp : BitVec 16) (act : BitVec 8) (s : State) : State :=
  match id with
  | .core n => coreSample n.toNat temp.toInt act s
  | .hub n => hubSample n.toNat temp.toInt s
  | .stack n => if domOf s (stackPd n.toNat) = .on then stackSample n.toNat temp.toInt s else s

/-- STACK_TEMP_POLL: a stack whose controller is in SR-HOLD. -/
def stackTempPoll (n : Nat) (temp : BitVec 16) (s : State) : State :=
  if domOf s (stackPd n) = .on then s else stackSample n temp.toInt s

/-! ### The model and the cap (R371, R372, R378) -/

/-- The core of a list with the highest reading. -/
def hottest (s : State) : List Nat → Option Nat
  | [] => none
  | c :: cs => match hottest s cs with
    | none => some c
    | some d => if (coreSensor s d).temp ≤ (coreSensor s c).temp then some c else some d

/-- The cores of the part. -/
def allCores (s : State) : List Nat := List.range (nCores s)

/-- Advance the model by 1 ms. -/
def modelStep (e : ModelEnv) (s0 : State) : State :=
  let s := (List.range (nStacks s0)).foldl (fun u n =>
    let x := stackTherm u n
    let gb := (e.traffic.getD n 0).toNat
    setStackTherm n { x with traffic := gb, model := Config.lag 200 1 x.model ((stackSensor u n).temp * 100 + 15 * gb) } u) s0
  let act (c : Nat) : Nat := if domOf s (tilePd (c / 16)) = .on then (coreTherm s c).activity.toNat else 0
  let step (c : Nat) : Nat := stepOf s c
  let tile (t : Nat) : Nat := tileMw (domOf s (tilePd t) == .on) act step t
  let power := baseMw s + ((List.range (nTiles s)).map tile).sum + trafficMw s + e.linkMw.toNat
  let lid := Config.lag 3000 1 s.therm.lid (inletT s * 100 + 30 * power / 1000)
  let tileT := (List.range (nTiles s)).map (fun t => (t, Config.lag 50 1 (mgetD s.therm.tileT t 0) (200 * tile t / 1000)))
  let s1 := modTherm (fun t => { t with power := power, lid := lid, tileT := tileT, pcap := powerCap s,
                                        powerSum := t.powerSum + power, powerN := t.powerN + 1 }) s
  (allCores s).foldl (fun u c =>
    let x := coreTherm u c
    let d := Config.lag 2 1 x.dCore (3 * (coreMw (act c) (step c)))
    setCoreTherm c { x with dCore := d, model := lid + mgetD tileT (c / 16) 0 + d + x.offset } u) s1

/-- Hold the limits that stand: an Open core is never above its step limit (R369, R385). -/
def holdLimits (s : State) : State :=
  (allCores s).foldl (fun u c =>
    if openCore u c ∧ (core u c).step < stepFloor u c then modCore c (fun x => { x with step := stepFloor u c }) u else u) s

/-- The package cap (R378): the hottest running Open core steps down; where none is above 0.6 GHz, the Confidential
partition with the hottest core is to take one LEVEL. -/
def holdCap (s : State) : State :=
  if s.therm.power ≤ s.therm.pcap then
    (if s.therm.power + 20000 ≤ s.therm.pcap then modTherm (fun t => { t with capPart := none }) s else s)
  else
    let running := (allCores s).filter (fun c => (core s c).st == .run)
    match hottest s (running.filter (fun c => openCore s c && decide ((core s c).step < 4))) with
    | some c => stepDown c s
    | none =>
      match hottest s (running.filter (fun c => !openCore s c)) with
      | some c => modTherm (fun t => { t with capPart := coreHolder s c }) s
      | none => s

/-- MODEL_TICK: TG firmware runs in PD1. A reported flow below 0.6 L/min for 1 s is a trip. -/
def modelTick (e : ModelEnv) (s : State) : State :=
  if domOf s 1 ≠ .on ∨ !hostReady s then s
  else
    let s1 := holdCap (holdLimits (modelStep e s))
    match s1.therm.lowFlow with
    | some k => if 32768 ≤ age s1 k then thermalTrip 4 s1 else s1
    | none => s1

/-! ### Plans and the forecast (R373–R375) -/

/-- The bucket of a plan that a tick lies in; none before its start. -/
def bucketAt (p : Plan) (t : Nat) : Option Nat :=
  if t < p.start.toNat then none else some ((t - p.start.toNat) * 100 / 32768)

/-- The tick at which a bucket begins. -/
def bucketTick (p : Plan) (k : Nat) : Nat := p.start.toNat + ceilDiv (k * 32768) 100

/-- Whether a plan's last bucket has ended. -/
def planOver (p : Plan) (now : Nat) : Bool := match bucketAt p now with | some k => decide (p.loads.length ≤ k) | none => false

/-- The activity forecast for a core in the bucket that begins `k` times 10 ms from now: its plan's load, the last one
held; without a plan, or before it, its activity over the last 10 ms. Plans of unassigned cores are ignored. -/
def actAt (s : State) (c k : Nat) : Nat :=
  let x := coreTherm s c
  let now : Nat := if domOf s (tilePd (c / 16)) = .on then x.activity.toNat else 0
  match x.plan with
  | some p =>
    if (coreHolder s c).isNone then now
    else match bucketAt p ((tick s).toNat + k * 32768 / 100) with
      | some b => (p.loads.getD (min b (p.loads.length - 1)) 0).toNat
      | none => now
  | none => now

/-- The number of buckets the forecast walks: the longest plan that remains, and at least one. -/
def horizon (s : State) : Nat :=
  (s.therm.coreT.filterMap (fun e => e.2.plan.map (fun p => ceilDiv ((bucketTick p p.loads.length - (tick s).toNat) * 100) 32768))).foldl max 1

/-- A tile's and the package's power in a bucket under given steps. -/
def tileMwAt (s : State) (step : Nat → Nat) (t k : Nat) : Nat :=
  let act (c : Nat) : Nat := actAt s c k
  tileMw (domOf s (tilePd t) == .on || (tileCores t).any (fun c => act c != 0)) act step t
def packageMwAt (s : State) (step : Nat → Nat) (k : Nat) : Nat :=
  baseMw s + trafficMw s + ((List.range (nTiles s)).map (fun t => tileMwAt s step t k)).sum

/-- The forecast temperatures of a core at the end of each of `n` buckets, and at the steady state of the last. -/
def forecastWalk (s : State) (step : Nat → Nat) (c n : Nat) : List Int :=
  let t := c / 16
  let o := (coreTherm s c).offset
  let goal (k : Nat) : Int × Int × Int :=
    (inletT s * 100 + 30 * packageMwAt s step k / 1000, 200 * tileMwAt s step t k / 1000, 3 * coreMw (actAt s c k) (step c))
  let start : (Int × Int × Int) × List Int := ((s.therm.lid, mgetD s.therm.tileT t 0, (coreTherm s c).dCore), [])
  let w := (List.range n).foldl (fun (a : (Int × Int × Int) × List Int) k =>
    let g := goal k
    let x := Config.lag 3000 10 a.1.1 g.1
    let y := Config.lag 50 10 a.1.2.1 g.2.1
    let z := Config.lag 2 10 a.1.2.2 g.2.2
    ((x, y, z), a.2 ++ [x + y + z + o])) start
  let g := goal (n - 1)
  w.2 ++ [g.1 + g.2.1 + g.2.2 + o]

/-- The highest of some temperatures. -/
def peak (l : List Int) : Int := match l with | [] => 0 | x :: xs => xs.foldl max x

/-- The present steps with one core's, or one partition's, replaced. -/
def withStep (s : State) (c k : Nat) : Nat → Nat := fun d => if d = c then k else stepOf s d
def withLevel (s : State) (p k : Nat) : Nat → Nat := fun d => if coreHolder s d = some p then k else stepOf s d

/-- The highest step of an Open core, none faster than `lo`, at which its forecast stays at or below 104 °C. -/
def permitted (s : State) (c lo n : Nat) : Nat :=
  (((List.range 5).filter (lo ≤ ·)).find? (fun k => decide (peak (forecastWalk s (withStep s c k) c n) ≤ 104000))).getD 4

/-- The forecast of one Open core (R375, R376): its peak, the step its forecast permits, and the step-ups. -/
def forecastOpen (n : Nat) (c : Nat) (s : State) : State :=
  let x := coreTherm s c
  let k := (core s c).step
  let lo := stepFloor s c
  let pk := peak (forecastWalk s (stepOf s) c n)
  let pre := if 105000 ≤ pk then permitted s c (max lo k) n else if 0 < x.preStep then permitted s c lo n else 0
  let s1 := setCoreTherm c { x with forecast := pk, preStep := pre } s
  let cool : Bool := match x.coolTick with | some t => decide (tenMs ≤ age s t) | none => false
  let room := decide (s.therm.power + 20000 ≤ s.therm.pcap)
  if 0 < x.preStep ∧ k = x.preStep ∧ pre < k ∧ lo < k then modCore c (fun y => { y with step := max lo pre }) s1
  else if cool ∧ room ∧ lo < k ∧ peak ((forecastWalk s (withStep s c (k - 1)) c 5).take 5) < 104000 then
    modCore c (fun y => { y with step := k - 1 }) s1
  else s1

/-- The LEVEL a Confidential partition's forecast needs and the tick at which its need begins (R375). -/
def confForecast (s : State) (p n : Nat) : Option (Nat × BitVec 48) :=
  let cs := coresOf s p
  let walkAt (l c : Nat) : List Int := forecastWalk s (withLevel s p l) c n
  let fits (l : Nat) : Bool := cs.all (fun c => decide (peak (walkAt l c) ≤ 104000))
  if cs.any (fun c => decide (105000 ≤ peak (walkAt 0 c))) then
    let l := ([1, 2].find? fits).getD 3
    let first := cs.foldl (fun (a : Nat) c => min a ((walkAt 0 c).findIdx (fun v => decide (105000 ≤ v)))) n
    some (l, BitVec.ofNat 48 ((tick s).toNat + first * 32768 / 100))
  else none

/-- PLAN_MISS of the bucket that has just ended (R380), and a plan dropped once its last bucket has ended. -/
def planDuty (c : Nat) (s : State) : State :=
  let x := coreTherm s c
  match x.plan with
  | none => s
  | some p =>
    let now := (tick s).toNat
    let miss : Bool := match bucketAt p (now - tenMs) with
      | some b => now ≥ tenMs + p.start.toNat && decide (b < p.loads.length) &&
          decide (64 < ((x.activity.toNat : Int) - ((p.loads.getD b 0).toNat : Int)).natAbs)
      | none => false
    let s1 := if miss && (coreHolder s c).isSome then modTherm (fun t => { t with planMiss := t.planMiss + 1 }) s else s
    if planOver p now then setCoreTherm c { coreTherm s1 c with plan := none } s1 else s1

/-- The ticks by which a tile's start precedes a bucket: 0.712 ms and the reload of its loaded programs at 6.4 GB/s. -/
def leadTicks (s : State) (t : Nat) : Nat :=
  let us := 712 + ((tileCores t).map (fun c => if (core s c).program.isSome then ceilDiv (core s c).progLen 6400 else 0)).sum
  ceilDiv (us * 32768) 1000000

/-- Pre-wake (R374): start an OFF tile for a planned bucket with load, unless the next forecast is still in time. -/
def preWake (t : Nat) (s : State) : State :=
  let now := (tick s).toNat
  let due (c : Nat) : Bool :=
    match (coreTherm s c).plan with
    | some p => (coreHolder s c).isSome && (List.range p.loads.length).any (fun b =>
        decide ((p.loads.getD b 0) ≠ 0) && decide (now < bucketTick p (b + 1)) && decide (bucketTick p b < now + tenMs + leadTicks s t))
    | none => false
  if domOf s (tilePd t) = .off ∧ (tileCores t).any due then startTile t s else s

/-- FORECAST_TICK: while any tile is ON or any plan is held (R374). -/
def forecastTick (s : State) : State :=
  let tiles := List.range (nTiles s)
  if !hostReady s ∨ !(tiles.any (fun t => domOf s (tilePd t) == .on) || s.therm.coreT.any (fun e => e.2.plan.isSome)) then s
  else
    let s1 := (allCores s).foldl (fun u c => planDuty c u) (wakePd1 s)
    let n := horizon s1
    let need := (s1.parts.parts.filter (fun e => e.2.mode == .confidential)).filterMap (fun e => (confForecast s1 e.1 n).map (fun v => (e.1, v)))
    let s2 := (allCores s1).foldl (fun u c =>
      if openCore u c then forecastOpen n c u
      else setCoreTherm c { coreTherm u c with forecast := peak (forecastWalk u (stepOf u) c n), preStep := 0 } u) s1
    tiles.foldl (fun u t => preWake t u) (modTherm (fun t => { t with confNeed := need }) s2)

/-- PRE_THROTTLE: the step the forecast permits. -/
def preThrottle (c : Nat) (s : State) : State :=
  if openCore s c ∧ (core s c).step < (coreTherm s c).preStep then modCore c (fun x => { x with step := (coreTherm s c).preStep }) s else s

/-! ### Frame edges (R361, R362, R375) -/

/-- The LEVEL of a Confidential partition after a frame edge: one level towards what its forecast, its sensors, the
package cap and the operator ask for. -/
def levelAfter (s : State) (p : Nat) (x : Partition) : Nat :=
  let cs := coresOf s p
  let need : Nat × Nat := match mget s.therm.confNeed p with
    | some (l, t) => (l, (t.toNat - (tick s).toNat) / 3277 + 1)
    | none => (0, 1)
  let floor_ := max (min 3 x.maxStep) (if cs.any (fun c => (coreSensor s c).faulted) then 3 else 0)
  let hot := cs.any (fun c => decide (1050 ≤ (coreSensor s c).temp))
  let cool := cs.all (fun c => match (coreTherm s c).coolTick with | some t => decide (tenMs ≤ age s t) | none => !(coreSensor s c).sampled)
  let room := decide (s.therm.power + 20000 ≤ s.therm.pcap)
  let up := decide (x.level < floor_) || hot || decide (s.therm.capPart = some p) ||
    (decide (x.level < need.1) && decide (need.2 ≤ need.1 - x.level))
  if up then min 3 (x.level + 1)
  else if cool ∧ room ∧ floor_ < x.level ∧ need.1 < x.level then x.level - 1
  else x.level

/-- The Confidential levels at a frame edge, with their surprises (R380). -/
def levelEdge (s : State) : State :=
  let s1 := (s.parts.parts.filter (fun e => e.2.mode == .confidential)).foldl (fun (u : State) e =>
    let l := levelAfter s e.1 e.2
    let u1 := if l = e.2.level then u else modPart e.1 (fun x => { x with level := l }) u
    if e.2.level < l ∧ mgetD s.therm.edgeNeed e.1 0 ≤ e.2.level then
      match hottest s (coresOf s e.1) with | some c => surpriseCore c u1 | none => u1
    else u1) s
  modTherm (fun t => { t with capPart := none, edgeNeed := t.confNeed.map (fun e => (e.1, e.2.1)) }) s1

/-- The common memory level at a tenth frame edge (R362): one level up where a shared stack reached 95 °C, one down where
all have been at or below 92 °C for 100 ms. -/
def memoryEdge (s : State) : State :=
  let ns := (List.range (nStacks s)).filter (confShare s)
  let now := ns.foldl (fun a n => max a (stackTherm s n).level) 0
  let want := ns.any (fun n => (stackTherm s n).want)
  let cool := ns.all (fun n => match (stackTherm s n).coolTick with | some k => decide (3277 ≤ age s k) | none => false)
  let l := if want then min 3 (now + 1) else if cool then now - 1 else now
  ns.foldl (fun u n =>
    let x := stackTherm u n
    let y := { x with level := l, want := false }
    if want && decide (x.level < l) && decide (x.model < 95000) then
      modTherm (fun t => { t with surprise := t.surprise + 1 }) (setStackTherm n { y with surprise := y.surprise + 1 } u)
    else setStackTherm n y u) s

/-! ### The thermal group (Table 23-12) -/

/-- CORE_MASK of a plan. -/
def planMask (e : Env) : Nat := fld e.payload 16 16

/-- The payload checks of THERMAL_PLAN_SET. -/
def planChecks (s : State) (e : Env) : List Chk :=
  let n := (bitsOf (BitVec.ofNat 128 (planMask e))).length
  [(8, decide (1 ≤ p16 e 8 ∧ p16 e 8 ≤ 100)), (10, decide (p8 e 10 ≤ 1))] ++ rsv e 11 5 ++
    [(16, decide (planMask e < 2 ^ nCores s)), (32, decide (e.payload.length = 32 + n * p16 e 8))]

/-- THERMAL_PLAN_SET (R373): buckets that have ended are discarded by their time. -/
def planSet (e : Env) (s : State) : State × Ans :=
  let start := p64 e 0
  let now := (tick s).toNat
  if now + 32768 < start then (s, Ans.state)
  else
    let nb := p16 e 8
    let cs := bitsOf (BitVec.ofNat 128 (planMask e))
    let plans := cs.zipIdx.map (fun c => (c.1, ({ start := BitVec.ofNat 48 start, loads := slice e.payload (32 + nb * c.2) nb } : Plan)))
    let s1 := if p8 e 10 = 1 then modTherm (fun t => { t with coreT := t.coreT.map (fun c => (c.1, { c.2 with plan := none })) }) s else s
    (plans.foldl (fun u p => setCoreTherm p.1 { coreTherm u p.1 with plan := if planOver p.2 now then none else some p.2 } u) s1, Ans.ok)

/-- COOLANT_REPORT (R370). -/
def coolantReport (e : Env) (s : State) : State × Ans :=
  let t : Int := (BitVec.ofNat 16 (p16 e 0)).toInt
  let f := p16 e 2
  let low := if f < 60 then match s.therm.lowFlow with | some k => some k | none => some (tick s) else none
  let s1 := modTherm (fun x => { x with inlet := some (t, tick s), flow := some (f, tick s), flowStale := false, lowFlow := low }) s
  if s.aon.thIn.valid ∧ 30 < (s.aon.thIn.temp - t).natAbs then
    (alert 2 (modTherm (fun x => { x with inletMismatch := x.inletMismatch + 1 }) s1), Ans.ok)
  else (s1, Ans.ok)

/-- FLOW_REPORT_STALE. -/
def flowReportStale (s : State) : State :=
  if s.therm.flowStale then s else alert 2 (modTherm (fun t => { t with flowStale := true, lowFlow := none }) s)

/-- The members that a CAROUSEL_SET names. -/
def carouselMembers (e : Env) : List Nat := (List.range (p8 e 1)).map (fun i => p8 e (8 + i))

/-- The payload checks of CAROUSEL_SET: members within the part and distinct, unused bytes 0xFF. -/
def carouselChecks (s : State) (e : Env) : List Chk :=
  let n := p8 e 1
  let ms := carouselMembers e
  [(0, decide (p8 e 0 < 32)), (1, decide (n = 0 ∨ 2 ≤ n ∧ n ≤ 16)), (2, decide (p16 e 2 ≤ 1000))] ++ rsv e 4 4 ++
    (List.range 16).map (fun i => (8 + i,
      if i < n then decide (p8 e (8 + i) < nCores s) && !(ms.take i).contains (p8 e (8 + i)) else p8 e (8 + i) == 0xFF))

/-- Whether members run the same program digest in every context and lie on tiles of equally many L2 ways (R381). -/
def carouselFits (s : State) (p : Nat) (x : Partition) (ms : List Nat) : Bool :=
  let prog (k : Context) (c : Nat) : Option Digest := match bindOf k c with | some (.program d _ _ _ _) => some d | _ => none
  let ways (c : Nat) : Nat := ((heldOf s 3 p).filter (fun w => w / 16 == c / 16)).length
  let c0 := ms.headD 0
  ms.all (fun c => coreHolder s c == some p && x.ctxs.all (fun k => prog k.2 c == prog k.2 c0) && ways c == ways c0)

/-- CAROUSEL_SET (R381). -/
def carouselSet (e : Env) (s : State) : State × Ans :=
  let p := e.target.toNat
  let g := p8 e 0
  let ms := carouselMembers e
  match part? s p with
  | none => (s, Ans.notFound)
  | some x =>
    if ms = [] then
      match mget s.therm.groups g with
      | some y => if y.part = p then (modTherm (fun t => { t with groups := mdel t.groups g }) s, Ans.ok) else (s, Ans.notFound)
      | none => (s, Ans.notFound)
    else if (s.therm.groups.filter (fun y => y.1 != g)).any (fun y => y.2.members.any ms.contains) then (s, Ans.conflict)
    else if 32 ≤ s.therm.groups.length ∧ !mhas s.therm.groups g then (s, Ans.exhausted)
    else if !carouselFits s p x ms ∨ (x.mode = .confidential ∧ p16 e 2 = 0) then (s, Ans.state)
    else
      let y : Group := { part := p, every := p16 e 2, members := ms, bind := ms, since := 0, lastTick := tick s }
      (modTherm (fun t => { t with groups := mput t.groups g y }) s, Ans.ok)

/-- THROTTLE_SET (R385): an Open partition's cores fall to the step at once, a Confidential one moves at frame edges. -/
def throttleSet (e : Env) (s : State) : State × Ans :=
  let p := e.target.toNat
  let k := p8 e 0
  match part? s p with
  | none => (s, Ans.notFound)
  | some x =>
    if x.mode = .confidential ∧ 3 < k then (s, Ans.malformed (payOff 0))
    else
      let s1 := countAct x.tenant (modPart p (fun y => { y with maxStep := k }) s)
      (if x.mode = .open then
         (coresOf s1 p).foldl (fun u c => modCore c (fun y => { y with step := max k y.step }) u) s1
       else s1, Ans.ok)

/-- A signed value in two bytes. -/
def int16 (v : Int) : Bytes := leBytes 2 (BitVec.ofInt 16 v).toNat

/-- THERMAL_STATUS_GET: 1,944 bytes. TEMP is in whole degrees (R365), MODEL in 0.1 °C. -/
def thermalStatus (s : State) : Bytes :=
  let coreRec (c : Nat) : Bytes :=
    let x := coreTherm s c
    int16 ((coreSensor s c).temp / 10) ++ int16 (x.model / 100) ++ [BitVec.ofInt 8 (x.offset / 500), BitVec.ofNat 8 (stepOf s c)] ++
      leBytes 2 x.surprise.toNat
  let hubRec (n : Nat) : Bytes := int16 ((hubSensor s n).temp / 10) ++ int16 (hubSensor s n).temp ++ zeros 4
  let stackRec (n : Nat) : Bytes :=
    int16 ((stackSensor s n).temp / 10) ++ int16 ((stackTherm s n).model / 100) ++ [BitVec.ofNat 8 (stackTherm s n).level, 0, 0, 0]
  let group (g : Nat) : Bytes := match mget s.therm.groups g with
    | some y => [BitVec.ofNat 8 g, BitVec.ofNat 8 y.part] ++ leBytes 2 y.every ++
        (List.range 16).map (fun i => BitVec.ofNat 8 (y.bind.getD i 0xFF))
    | none => [BitVec.ofNat 8 g, 0xFF, 0, 0] ++ List.replicate 16 0xFF
  leBytes 2 (powerCap s / 1000) ++ int16 (inletT s) ++ leBytes 2 (flowOf s) ++ zeros 2 ++ (List.range 128).flatMap coreRec ++
    (List.range 24).flatMap hubRec ++ (List.range 8).flatMap stackRec ++ (List.range 32).flatMap group ++
    leBytes 4 s.therm.sensorFaults.toNat ++ leBytes 4 s.therm.inletMismatch.toNat ++ leBytes 4 s.therm.planMiss.toNat ++ zeros 4

/-! ### Meanings -/

/-- SENSOR_SAMPLE (R368, R369, R376, R379, R383). -/
def execSensorSample (id : SensorId) (temp : BitVec 16) (act : BitVec 8) (s : State) : Answer := done s (sensorSample id temp act s)
/-- STACK_TEMP_POLL (R368). -/
def execStackTempPoll (n : BitVec 3) (temp : BitVec 16) (s : State) : Answer := done s (stackTempPoll n.toNat temp s)
/-- MODEL_TICK (R371, R372, R378). -/
def execModelTick (e : ModelEnv) (s : State) : Answer := done s (modelTick e s)
/-- FORECAST_TICK (R374–R376, R380). -/
def execForecastTick (s : State) : Answer := done s (forecastTick s)
/-- PRE_THROTTLE (R375). -/
def execPreThrottle (c : BitVec 7) (s : State) : Answer := done s (preThrottle c.toNat s)
/-- FLOW_REPORT_STALE (R370). -/
def execFlowReportStale (s : State) : Answer := done s (flowReportStale s)
/-- THERMAL_PLAN_SET (R373). -/
def execThermalPlanSet (e : Env) (s : State) : Answer := done s (serve specThermalPlanSet e (fun t =>
  match payFault (planChecks t e) with
  | some a => (t, if a.detail = BitVec.ofNat 32 (payOff 32) then { a with detail := 0xFFFFFFFF } else a)
  | none => planSet e t) s)
/-- COOLANT_REPORT (R370). -/
def execCoolantReport (e : Env) (s : State) : Answer := done s (serve specCoolantReport e (fun t =>
  checked (rsv e 4 4) t (coolantReport e t)) s)
/-- CAROUSEL_SET (R381). -/
def execCarouselSet (e : Env) (s : State) : Answer := done s (serve specCarouselSet e (fun t =>
  checked (carouselChecks t e) t (carouselSet e t)) s)
/-- THERMAL_STATUS_GET (R385). -/
def execThermalStatusGet (e : Env) (s : State) : Answer := done s (serve specThermalStatusGet e (fun t => (t, Ans.ok (thermalStatus t))) s)
/-- THROTTLE_SET (R385). -/
def execThrottleSet (e : Env) (s : State) : Answer := done s (serve specThrottleSet e (fun t =>
  checked ([(0, decide (p8 e 0 ≤ 4))] ++ rsv e 1 7) t (throttleSet e t)) s)

end Sys2Proof.Machine
end

