-- ==== Sys2Proof/Machine/Frame.lean ====
section
/-! DEFINITION. The 100 ms frame edge (R69): thermistors, levels, budgets, heartbeats, the DRBG reseed, patrol slices,
mirror records, PLDM readings, the telemetry pages (R364, R487) and the operator views (R365, R488). -/

namespace Sys2Proof.Machine

/-! ### The frame timebase (R69) -/

/-- The tick of frame edge `k`, counted from the start of PD0: four frames of 3,277 ticks and one of 3,276. -/
def edgeTick (k : Nat) : Nat := 16384 * (k / 5) + 3277 * (k % 5)

/-- The tick counter and the frame counts at the edge. -/
def countFrame (s : State) : State :=
  modAon (fun a => { a with tick := BitVec.ofNat 48 (max a.tick.toNat (edgeTick (a.frames + 1))), frames := a.frames + 1,
                            readyFrames := if hostReady s then a.readyFrames + 1 else a.readyFrames }) s

/-! ### Plate thermistors (R55, R56) -/

/-- A thermistor after a sample: OPEN and SHORT mark it invalid until five consecutive samples read valid. -/
def thermistorAfter (t : Thermistor) : ThSample → Thermistor
  | .open_ => { t with cls := .open, valid := false, goodRun := 0 }
  | .short => { t with cls := .short, valid := false, goodRun := 0 }
  | .temp v =>
    let ok := t.cls == .valid || decide (4 ≤ t.goodRun)
    { temp := v.toInt, cls := if ok then .valid else t.cls, valid := ok, goodRun := t.goodRun + 1 }

/-! ### Patrol (R327) -/

/-- Lines of a MiB and of a stack of 36 GiB. -/
def mibLines : Nat := 16384
def stackLines : Nat := 36 * 1024 * mibLines

/-- Whether a line lies in a range that is being cleared. -/
def lineClearing (s : State) (n line : Nat) : Bool :=
  s.scrub.jobs.any (fun j => j.rtype == 2 && j.stack == n && decide (j.base * 32768 ≤ line) && decide (line < (j.base + j.size) * 32768))

/-- The slice of one stack: damaged lines are corrected or reported, those being cleared are skipped. -/
def patrolSlice (n : Nat) (us : List (BitVec 30 × Bool)) (s : State) : State :=
  let first := mgetD s.scrub.patrol n 0
  let size := mibLines * (mgetD s.scrub.slices n 1).toNat
  let within (l : Nat) : Bool := decide (first ≤ l) && decide (l < first + size) && !lineClearing s n l
  let s1 := upsetLines n (us.filter (fun u => within u.1.toNat)) s
  let bad := ((stackOf s1 n).lines.filter (fun e => e.2.ecc != .clean && within e.1)).map Prod.fst
  let s2 := bad.foldl (fun t l => patrolLine n l t) s1
  { s2 with scrub := { s2.scrub with patrol := mset s2.scrub.patrol n ((first + size) % stackLines) 0 } }

/-- The frame's slices on every stack whose controller is on; with PD2 off the duty is skipped and counted (Table 03-5). -/
def patrol (e : FrameEnv) (s : State) : State :=
  if domOf s 2 ≠ .on then { s with scrub := { s.scrub with skipped := satInc s.scrub.skipped } }
  else (List.range (nStacks s)).foldl (fun t n =>
    if domOf t (stackPd n) = .on then
      patrolSlice n ((e.upset.filter (fun u => u.1.toNat == n)).map (fun u => (u.2.1, u.2.2))) t
    else t) s

/-! ### Tenth frames -/

/-- One envelope credit for each Confidential partition, up to 16 (R357). -/
def creditBudgets (s : State) : State :=
  { s with parts := { s.parts with parts := s.parts.parts.map (fun e =>
      (e.1, if e.2.mode = .confidential then { e.2 with budget := min 16 (e.2.budget + 1) } else e.2)) } }

/-- The power bin of the second that ends (R366): a multiple of 10 W. -/
def averagePower (s : State) : State :=
  modTherm (fun t => if t.powerN = 0 then t
    else { t with powerAvg := t.powerSum / t.powerN / 1000 / 10 * 10, powerSum := 0, powerN := 0 }) s

/-- The highest reading among sampled sensors, in whole degrees. -/
def hottestOf (m : SMap Sensor) : Option Int :=
  (m.filter (fun e => e.2.sampled)).foldl (fun (a : Option Int) e =>
    match a with | some v => some (max v (e.2.temp / 10)) | none => some (e.2.temp / 10)) none

/-- The boot outcome as PLDM sensor 7 shows it: 1 booting, 2 ready, 3 degraded, 4 recovery. -/
def outcomeState (s : State) : BitVec 8 :=
  match s.boot.outcome with | .hostReady => 2 | .hostReadyDegraded => 3 | .booting => 1 | _ => 4

/-- The PLDM readings of the second (R448, Table 21-5). -/
def pldmReadings (s : State) : State :=
  let th (t : Thermistor) : Option Int := if t.valid then some (t.temp / 10) else none
  let vals : List (Nat × Option Int) :=
    [(1, some (s.therm.powerAvg : Int)), (2, th s.aon.thIn), (3, th s.aon.thOut), (4, hottestOf s.therm.coreS),
     (5, hottestOf s.therm.stackS), (6, hottestOf s.therm.hubS)]
  { s with mgmt := { s.mgmt with readings := vals.filterMap (fun v => v.2.map (fun x => (v.1, x))), sampled := true,
                                 readState := outcomeState s, readAlert := s.mgmt.alert } }

/-- The usage of every resident parcel, mirrored (Table 18-4). -/
def mirrorUsage (s : State) : State :=
  (s.desk.parcels.filter (fun x => x.st == .resident)).foldl (fun t x => mirrorParcel x (parcelCode x.st) t) s

/-! ### Telemetry (R364, R365, R487, R488) -/

/-- The cycle counters of a held core on a powered tile go on by amounts that depend on its timing, which the model
leaves out: free values (log 4). -/
def cyclesOn (c : Nat) (s : State) : State :=
  if (core s c).st ≠ .unassigned ∧ domOf s (tilePd (c / 16)) = .on then
    let d (k : Nat) : BitVec 64 := BitVec.ofNat 64 ((Config.open64 (s.free + k)).toNat % 2 ^ 31)
    modCore c (fun x => { x with counts := { x.counts with
      busy := x.counts.busy + d 0, lsStall := x.counts.lsStall + d 1, memStall := x.counts.memStall + d 2,
      waitCyc := x.counts.waitCyc + d 3 } }) { s with free := s.free + 4 }
  else s

/-- A core's counters as its tenant sees them (Table 16-4). -/
def tenantCounts (m : Mode) (k : CoreCounts) : CoreCounts :=
  match m with
  | .open => k
  | .confidential => { k with busy := (k.busy + k.memStall) / 1024, issued := k.issued / 1024, lsStall := k.lsStall / 1024,
                              memStall := 0, waitCyc := k.waitCyc / 1024 }

/-- The page of a partition's function. -/
def partPage (s : State) (p : Nat) (x : Partition) (old : BitVec 64) : TelePage :=
  { seq := old + 2, frame := s.aon.readyFrames, tick := tick s, mode := BitVec.ofNat 8 (modeCode x.mode),
    level := if x.mode = .confidential then BitVec.ofNat 8 x.level else 0xFF,
    recs := (coresOf s p).map (fun c => { core := c, level := stepOf s c, counts := tenantCounts x.mode (core s c).counts }) }

/-- Every function's page: one per partition, and the PF's without records. -/
def writePages (s : State) : State :=
  let old (k : Nat) : BitVec 64 := match mget s.tele.pages k with | some g => g.seq | none => 0
  let vf := s.parts.parts.map (fun e => (e.1, partPage s e.1 e.2 (old e.1)))
  let pf : TelePage := { seq := old 128 + 2, frame := s.aon.readyFrames, tick := tick s, mode := 0, level := 0xFF, recs := [] }
  { s with tele := { s.tele with pages := mput vf 128 pf } }

/-- The device status page from 0x018 (Table 24-8). -/
def statusPage (s : State) : Bytes :=
  leBytes 8 (bootStatus s).toNat ++ leBytes 8 s.parts.current.num.toNat ++ leBytes 4 s.parts.openSteps.length ++
    leBytes 2 (waitingEnvs s).length ++ [s.mgmt.alert, if s.parts.debugOpen then 1 else 0] ++
    (1 : BitVec 8) :: (List.range 21).map (fun i => domByte s (i + 1)) ++
    [BitVec.ofNat 8 (roleCode s.twin.role), BitVec.ofNat 8 (twinStCode s.twin.st)] ++ leBytes 8 s.twin.term.toNat ++
    leBytes 8 s.twin.failovers.toNat ++ leBytes 2 s.fuses.shadow.ratchet ++ slice (deviceFlags s) 1 1 ++ zeros 1 ++
    leBytes 2 s.therm.powerAvg ++ leBytes 2 (powerCap s / 1000) ++ leBytes 4 s.mail.deadNext.toNat ++ leBytes 4 s.mail.faultNext.toNat ++
    leBytes 8 s.scrub.logNext ++ leBytes 4 s.twin.logNext ++ leBytes 4 s.car.logNext ++ leBytes 4 s.therm.surprise.toNat ++
    leBytes 4 s.scrub.skipped.toNat ++ leBytes 4 s.desk.overrun.toNat ++ zeros 4 ++
    [BitVec.ofNat 8 (fnRegs s .pf).env.outstanding.toNat, BitVec.ofNat 8 (s.mail.mgOut.map Prod.snd).sum, BitVec.ofNat 8 s.mail.twOut,
     BitVec.ofNat 8 (s.att.sessions.filter (fun e => e.2.open_)).length] ++ zeros 4

/-- The units page (Table 24-9). -/
def unitsPage (s : State) : Bytes :=
  let on (c : Nat) : Bool := domOf s (tilePd (c / 16)) == .on
  let whole (x : Sensor) : Bytes := int16 (x.temp / 10)
  let off : Bytes := leBytes 2 0x8000
  let th (t : Thermistor) : Bytes := if t.valid then int16 (t.temp / 10) else off
  (List.range 128).flatMap (fun c => if on c && !(coreSensor s c).faulted then whole (coreSensor s c) else off) ++
    (List.range 128).map (fun c => if on c then BitVec.ofNat 8 (stepOf s c) else 0xFF) ++
    (List.range 24).flatMap (fun n => whole (hubSensor s n)) ++
    (List.range 8).flatMap (fun n => if n < nStacks s then whole (stackSensor s n) else off) ++
    (List.range 8).map (fun n => BitVec.ofNat 8 (stackTherm s n).level) ++ th s.aon.thIn ++ th s.aon.thOut ++
    leBytes 2 (match s.therm.flow with | some (f, _) => f | none => 0) ++ zeros 2

/-- A partition summary entry (Table 24-10). -/
def summaryEntry (s : State) (p : Nat) (x : Partition) : Bytes :=
  let conf := x.mode == .confidential
  [BitVec.ofNat 8 (pstateCode s p), BitVec.ofNat 8 (modeCode x.mode), BitVec.ofNat 8 x.running,
   if conf then BitVec.ofNat 8 x.level else 0xFF, BitVec.ofNat 8 (coresOf s p).length, if conf then BitVec.ofNat 8 x.budget else 0xFF] ++
    leBytes 2 x.counts.badHead.toNat ++ leBytes 8 x.counts.entries.toNat ++ leBytes 8 x.counts.dropped.toNat ++
    leBytes 8 x.counts.faulted.toNat ++ leBytes 8 (actsOf s x.tenant).toNat ++ leBytes 4 x.periodUs ++ zeros 4 ++
    leBytes 8 x.periodSeq.toNat ++ zeros 8

/-- The operator views, rewritten together under the next even SEQ. -/
def writeViews (s : State) : State :=
  let openCores := (allCores s).filter (fun c => match coreHolder s c with | some p => isOpenPart s p | none => false)
  { s with tele := { s.tele with view :=
    { seq := s.tele.view.seq + 2, frame := s.aon.readyFrames, tick := tick s, status := statusPage s, units := unitsPage s,
      summary := s.parts.parts.map (fun e => (e.1, summaryEntry s e.1 e.2)),
      open_ := openCores.map (fun c => { core := c, level := stepOf s c, counts := (core s c).counts }) } } }

/-! ### The edge -/

/-- Duties of every frame once the device is host-ready. -/
def frameDuties (e : FrameEnv) (s : State) : State :=
  let s1 := wakePd1 s
  let s2 := if domOf s1 2 = .on ∧ !s1.eng.drbgStopped then (if e.reseedOk then reseed s1 else healthFail s1) else s1
  let s3 := levelEdge (patrol e s2)
  if s3.twin.st = .paired ∧ s3.att.gen ≠ s3.twin.lastGen then
    mirror 6 (summaryBody s3) { s3 with twin := { s3.twin with lastGen := s3.att.gen } }
  else s3

/-- Duties of every tenth frame. -/
def tenthDuties (s : State) : State :=
  let s1 := if s.att.sessions.any (fun e => e.2.standing.isSome) then startDomain 2 s else s
  mirrorUsage (heartbeats (memoryEdge (creditBudgets s1)))

/-- FRAME_EDGE. -/
def frameEdge (e : FrameEnv) (s : State) : State :=
  if !s.aon.vddAon then s
  else
    let s0 := countFrame s
    let s1 := modAon (fun a => { a with thIn := thermistorAfter a.thIn e.thIn, thOut := thermistorAfter a.thOut e.thOut }) s0
    let s2 : State := { s1 with mgmt := { s1.mgmt with tagChecks := 0, perSource := [] } }
    let tenth : Bool := s2.aon.frames % 10 == 0
    let s3 : State := if tenth then { s2 with mgmt := { s2.mgmt with echoes := 0 } } else s2
    let s4 := if hostReady s3 then frameDuties e s3 else s3
    let s5 := if hostReady s4 && tenth then tenthDuties s4 else s4
    let s6 := if serves s5 && tenth then pldmReadings (averagePower s5) else s5
    if hostReady s6 then writeViews (writePages ((allCores s6).foldl (fun t c => cyclesOn c t) s6)) else s6

/-- FRAME_EDGE (R69). -/
def execFrameEdge (e : FrameEnv) (s : State) : Answer := done s (frameEdge e s)

end Sys2Proof.Machine
end

