-- ==== Sys2Proof/Machine/Lands.lean ====
section
/-! DEFINITION. The commands of lands, resets, clocks, power domains, boot restarts, turnstiles and fuses: each is its
operation, ended by `done`. -/

namespace Sys2Proof.Machine

/-- PWR_OK_FALL (R49). -/
def execPwrOkFall (s : State) : Answer := done s (pwrOkFall s)

/-- BROWNOUT (R49). -/
def execBrownout (r : Rail) (s : State) : Answer := done s (brownout r s)

/-- PWR_OK_RISE (R57). -/
def execPwrOkRise (s : State) : Answer := done s (pwrOkRise s)

/-- SYS_RST_N_LOW (R50). -/
def execSysRstNLow (s : State) : Answer := done s (sysRstNLow s)

/-- SYS_RST_N_RISE (R47). -/
def execSysRstNRise (s : State) : Answer := done s (sysRstNRise s)

/-- INTERNAL_RESET_RELEASE (R47). -/
def execInternalResetRelease (sense : SenseEnv) (boot : BootEnv) (s : State) : Answer := done s (internalResetRelease sense boot s)

/-- TAMPER (R75). -/
def execTamper (s : State) : Answer := done s (tamper s)

/-- TAMPER_N_LOW (R75). -/
def execTamperNLow (s : State) : Answer := done s (tamperNLow s)

/-- VDD_FUSE_UNEXPECTED (R44). -/
def execVddFuseUnexpected (s : State) : Answer := done s (vddFuseUnexpected s)

/-- VDD_FUSE_READY (R43). -/
def execVddFuseReady (s : State) : Answer := done s (vddFuseReady s)

/-- XT32_LOST (R68). -/
def execXt32Lost (s : State) : Answer := done s (xt32Lost s)

/-- XT32_CRYSTAL_START (R68). -/
def execXt32CrystalStart (s : State) : Answer := done s (xt32CrystalStart s)

/-- HOSC_DISCIPLINE (R70). -/
def execHoscDiscipline (ppm : BitVec 16) (s : State) : Answer := done s (hoscDiscipline ppm s)

/-- VDD_AON_RISE (R76). -/
def execVddAonRise (crcOk : Bool) (s : State) : Answer := done s (vddAonRise crcOk s)

/-- PD1_SLEEP (R62). -/
def execPd1Sleep (s : State) : Answer := done s (pd1Sleep s)

/-- DOMAIN_READY (R74). -/
def execDomainReady (pd : BitVec 5) (env : DomainEnv) (s : State) : Answer := done s (domainReady pd.toNat env.ok s)

/-- TILE_IDLE_POWER_DOWN (R63). -/
def execTileIdlePowerDown (t : BitVec 3) (s : State) : Answer := done s (tileIdlePowerDown t.toNat s)

/-- PD2_POWER_DOWN (R63). -/
def execPd2PowerDown (s : State) : Answer := done s (pd2PowerDown s)

/-- STACK_SR_HOLD (R63). -/
def execStackSrHold (n : BitVec 3) (s : State) : Answer := done s (stackSrHold n.toNat s)

/-- CORE_GATE (R72). -/
def execCoreGate (c : BitVec 7) (s : State) : Answer := done s (coreGate c.toNat s)

/-- CORE_WAKE (R72). -/
def execCoreWake (c : BitVec 7) (s : State) : Answer := done s (coreWake c.toNat s)

/-- WATCHDOG_EXPIRY (R86). -/
def execWatchdogExpiry (s : State) : Answer := done s (watchdogExpiry s)

/-- OWNER_LAYER_TIMEOUT (R98). -/
def execOwnerLayerTimeout (s : State) : Answer := done s (ownerLayerTimeout s)

/-- BOOT_RESTART (R85). -/
def execBootRestart (boot : BootEnv) (s : State) : Answer := done s (bootRestart boot s)

/-- LOCKSTEP_MISMATCH (R461). -/
def execLockstepMismatch (s : State) : Answer := done s (lockstepMismatch s)

/-- LOCKSTEP_RESUME (R461). -/
def execLockstepResume (s : State) : Answer := done s (lockstepResume s)

/-- LIFECYCLE_RESET (R111). -/
def execLifecycleReset (s : State) : Answer := done s (lifecycleReset s)

/-- RECOVER_DEVICE_RESET (R475). -/
def execRecoverDeviceReset (s : State) : Answer := done s (recoverDeviceReset s)

/-- MEMORY_REQUEST (R227). -/
def execMemoryRequest (r : MemReq) (s : State) : Answer := done s (memoryRequest r s)

/-- TURNSTILE_ENGINE_FAULT (R27). -/
def execTurnstileEngineFault (t : Turnstile) (s : State) : Answer := done s (turnstileEngineFault t s)

/-- TURNSTILE_BACK_IN_SERVICE (R326). -/
def execTurnstileBackInService (t : Turnstile) (s : State) : Answer := done s (turnstileBack t s)

/-- FUSE_SUMMARY_GET (R125). -/
def execFuseSummaryGet (e : Env) (s : State) : Answer := done s (fuseSummaryGet e s)

/-- FUSE_NONCE_GET (R115). -/
def execFuseNonceGet (e : Env) (s : State) : Answer := done s (fuseNonceGet e s)

/-- FUSE_ACTION (R116). -/
def execFuseAction (e : Env) (s : State) : Answer := done s (fuseAction e s)

end Sys2Proof.Machine
end

