-- ==== Sys2Proof/Machine/Rounds.lean ====
section
/-! DEFINITION. Roll-ups (R350–R352, Table 15-11) and the frames that come in on device links: each verified frame goes to
its kind, an acknowledgement, an advert, a control message, channel data, a signal or returned credits. -/

namespace Sys2Proof.Machine

def modAtt (f : Attest → Attest) (s : State) : State := { s with att := f s.att }

/-! ### Opening a round -/

/-- The round open frame's payload. -/
def openBytes (r : Round) : Bytes := leBytes 8 r.num.toNat ++ beBytes 32 r.nonce.toNat

/-- Open a round at the lead: one above the highest seen, its own statement with it, sent to the members that joined. -/
def openRound (nonce : BitVec 256) (s : State) : State :=
  let num := s.att.highRound + 1
  let own := memberStatement s num.toNat (beBytes 32 nonce.toNat)
  let r : Round := { num := num, nonce := nonce, stmts := [(myPost s, own)] }
  let s1 := modAtt (fun a => { a with round := some r, highRound := num }) { s with free := s.free + 2 }
  (mkeys s1.car.dir).foldl (fun t p => sendControl 2 5 p 1 (openBytes r) t) s1

/-- ROLLUP_START (R350). -/
def rollupStart (e : Env) (s : State) : State × Ans :=
  let op := p8 e 0
  if s.att.round.isSome then
    let r := remainMs s
    (r.2, Ans.retry r.1)
  else if s.car.join.isNone ∨ lead s ≠ some (myPost s) then (s, Ans.state)
  else if op = 1 then needPke s (
    let t := openRound (BitVec.ofNat 256 (beNat (slice e.payload 8 32))) s
    (t, Ans.ok (leBytes 8 t.att.highRound.toNat)))
  else (modAtt (fun a => { a with periodic := if op = 2 then p32 e 4 else 0 }) s, Ans.ok (leBytes 8 s.att.highRound.toNat))

/-- ROLLUP_PERIOD_TICK: a periodic round opens under 32 DRBG bytes. -/
def rollupTick (s : State) : State :=
  if s.att.periodic = 0 ∨ s.att.round.isSome ∨ s.car.join.isNone ∨ lead s ≠ some (myPost s) ∨ !canShake s then s
  else openRound (BitVec.ofNat 256 (beNat (drawBytes s.free 32))) { s with free := s.free + 1 }

/-- ROUND_OPEN at a member: its statement goes back to the lead. -/
def roundArrives (f : Frame) (s : State) : State :=
  let b := f.payload.drop 4
  let s1 := seeRound (fld b 0 8) s
  if canShake s1 then
    sendControl 2 5 f.src.toNat 2 (memberStatement s1 (fld b 0 8) (slice b 8 32)) { s1 with free := s1.free + 2 }
  else s1

/-- A member statement at the lead: taken if its DID is the member's and its round is this round (R350). -/
def statementArrives (src : Nat) (b : Bytes) (s : State) : State :=
  match s.att.round, mget s.car.dir src with
  | some r, some m =>
    if b.length = 4984 ∧ dig b 0x30 = m.did ∧ fld b 8 8 = r.num.toNat ∧ slice b 0x10 32 = beBytes 32 r.nonce.toNat ∧
        !r.stmts.any (fun e => e.1 == src) then
      modAtt (fun a => { a with round := some { r with stmts := r.stmts ++ [(src, b)] } }) s
    else s
  | _, _ => s

/-! ### Closing a round (R351) -/

/-- LEVELS: the least L ≥ 1 with 16^L above the highest member postcode. -/
def levelsFor (top : Nat) : Nat := if top < 16 then 1 else if top < 256 then 2 else if top < 4096 then 3 else 4

/-- X of a leaf: a present member's signed region, an ABSENT member, a postcode without a member. -/
def leafX (r : Round) (members : List Nat) (p : Nat) : Bytes :=
  match r.stmts.find? (fun e => e.1 == p) with
  | some e => sha384b (e.2.take 256)
  | none => if members.contains p then List.replicate 48 0xFF else zeros 48

/-- The node of a level and index of the tree. -/
def treeNode (x : Nat → Bytes) : Nat → Nat → Bytes
  | 0, p => sha384b ([0] ++ beBytes 2 p ++ x p)
  | l + 1, i => sha384b ([1] ++ (List.range 16).flatMap (fun k => treeNode x l (16 * i + k)))

/-- The path of a postcode: at each level the 15 siblings, in index order. -/
def treePath (x : Nat → Bytes) (levels p : Nat) : Bytes :=
  (List.range levels).flatMap (fun l =>
    let i := p / 16 ^ l
    ((List.range 16).filter (fun k => k ≠ i % 16)).flatMap (fun k => treeNode x l (i / 16 * 16 + k)))

/-- The signed region of a roll-up header. -/
def rollupRegion (s : State) (r : Round) (levels : Nat) (root : Bytes) (absent : Nat) : Bytes :=
  padTo 256 (leBytes 4 0x5544524F ++ [1, BitVec.ofNat 8 levels] ++ leBytes 2 (myPost s) ++ leBytes 8 r.num.toNat ++
    beBytes 32 r.nonce.toNat ++ digBytes s.vault.did ++ root ++ leBytes 4 r.stmts.length ++ leBytes 4 absent ++
    leBytes 8 (tick s).toNat ++ zeros 32 ++ digBytes (akDigest s))

/-- ROUND_CLOSE: the roll-up is built, signed and sent to the present members. -/
def closeRound (s : State) : State :=
  match s.att.round with
  | none => s
  | some r =>
    if !canShake s then modAtt (fun a => { a with round := none }) s
    else
      let own := myPost s
      let members := own :: mkeys s.car.dir
      let levels := levelsFor (members.foldl max 0)
      let x := leafX r members
      let absent := (members.dedup.filter (fun p => !r.stmts.any (fun e => e.1 == p))).length
      let region := rollupRegion s r levels (treeNode x levels 0) absent
      let head := region ++ sigBlock (akEc s) (akMl s) region "U-ROLLUP" s.free
      let mine := match r.stmts.find? (fun e => e.1 == own) with | some e => e.2 | none => []
      let s1 := modAtt (fun a => { a with round := none, rollup := some (head, treePath x levels own, mine), records := [], fetching := [] })
        { s with free := s.free + 2 }
      (r.stmts.filter (fun e => e.1 ≠ own)).foldl (fun t e => sendControl 2 5 e.1 3 (head ++ treePath x levels e.1 ++ e.2) t) s1

/-! ### Records (R352) -/

/-- A roll-up record at a member: header, path, statement. -/
def recordArrives (b : Bytes) (s : State) : State :=
  let levels := (byteAt b 5).toNat
  if b.length = 4984 + 720 * levels + 4984 ∧ 1 ≤ levels ∧ levels ≤ 4 then
    seeRound (fld b 8 8) (modAtt (fun a =>
      { a with rollup := some (b.take 4984, slice b 4984 (720 * levels), b.drop (4984 + 720 * levels)), records := [], fetching := [] }) s)
  else s

/-- This device's roll-up record with its certificates; empty where it keeps none. -/
def rollupReply (s : State) : Bytes :=
  match s.att.rollup with
  | some (h, p, m) => h ++ p ++ m ++ aliasCerts s ++ s.att.idDual
  | none => []

/-- A fetch request: the record goes back. -/
def fetchArrives (f : Frame) (s : State) : State := sendControl 2 5 f.src.toNat 5 (rollupReply s) s

/-- A fetched record. -/
def fetchedArrives (src : Nat) (b : Bytes) (s : State) : State :=
  if s.att.fetching.contains src then
    modAtt (fun a => { a with fetching := a.fetching.filter (· ≠ src), records := a.records.filter (fun e => e.1 != src) ++ [(src, b)] }) s
  else s

/-- ROLLUP_GET (R352). -/
def rollupGet (e : Env) (s : State) : State × Ans :=
  let p := p16 e 0
  let drop (t : State) : State := modAtt (fun a =>
    { a with fetching := a.fetching.filter (· ≠ p), records := a.records.filter (fun r => r.1 != p) }) t
  match s.car.join, s.att.rollup with
  | none, _ => (s, Ans.state)
  | some _, none => (s, Ans.notFound)
  | some j, some (h, _, _) =>
    if p = j.post.toNat then (s, Ans.ok (rollupReply s))
    else if 16 ^ (byteAt h 5).toNat ≤ p then (s, Ans.notFound)
    else match s.att.records.find? (fun r => r.1 == p) with
      | some r => if r.2 = [] then (drop s, Ans.notFound) else (s, Ans.ok r.2)
      | none =>
        if (routeOf s p).isNone then (drop s, Ans.notFound)
        else if s.att.fetching.contains p then (s, Ans.retry 50)
        else (sendControl 2 5 p 4 [] (modAtt (fun a => { a with fetching := a.fetching ++ [p] }) s), Ans.retry 50)

/-! ### Frames received on a link -/

/-- Whether a frame is a control frame of a channel and message. -/
def isCtl (channel msg : Nat) (f : Frame) : Bool :=
  f.ftype == 4 && f.channel.toNat == channel && (byteAt f.payload 0).toNat == msg

/-- Whether a frame is an advert. -/
def isAdvert (f : Frame) : Bool := f.ftype == 4 && f.channel == 3

/-- Whether a frame returns channel credits. -/
def isCredit (f : Frame) : Bool := f.ftype == 4 && f.cls == 1 && decide (0x10 ≤ f.channel.toNat)

/-- What a verified frame for this device does. -/
def frameArrives (n : Nat) (f : Frame) (s : State) : State :=
  if f.ftype = 1 then dataArrives f s
  else if f.ftype = 2 then signalArrives f s
  else if f.ftype = 3 then ackEffect (some n) f s
  else if isAdvert f then advertArrives n f s
  else if isCtl 0 1 f then readyArrives n s
  else if isCtl 0 2 f then leaveArrives n s
  else if isCtl 4 3 f then rejectArrives n f s
  else if isCtl 5 1 f then roundArrives f s
  else if isCtl 5 4 f then fetchArrives f s
  else if isCredit f then creditArrives f s
  else s

/-- Receive a frame of one kind: forwarded, faulted or handed on as any other; of another kind, it has no effect here. -/
def receiveAs (n : BitVec 4) (kind : Frame → Bool) (w : WireFrame) (s : State) : State :=
  let r := receiveFrame (some n.toNat) w s
  match r.2 with
  | some f => if kind f then frameArrives n.toNat f r.1 else r.1
  | none => r.1

/-- Receive the fragments of a message of a channel. -/
def receiveMsg (n : BitVec 4) (channel msg : Nat) (fs : List WireFrame) (k : Nat → Bytes → State → State) (s : State) : State :=
  let r := receiveAll (some n.toNat) msg (isCtl channel msg) fs s
  match r.2 with
  | some (f, b) => k f.src.toNat b r.1
  | none => r.1

/-- LINK_DATA_FRAME (R248, R250). -/
def execLinkDataFrame (n : BitVec 4) (f : WireFrame) (s : State) : Answer := done s (receiveAs n (fun _ => true) f s)

/-- LINK_READY (R407). -/
def execLinkReady (n : BitVec 4) (f : WireFrame) (s : State) : Answer := done s (receiveAs n (isCtl 0 1) f s)

/-- ACKNOWLEDGEMENT_FRAME (R247, R411). -/
def execAcknowledgementFrame (port : Option (BitVec 4)) (f : WireFrame) (s : State) : Answer :=
  let p := port.map BitVec.toNat
  let r := receiveFrame p f s
  done s (match r.2 with | some x => if isAck x then ackEffect p x r.1 else r.1 | none => r.1)

/-- ADVERT (R408). -/
def execAdvert (n : BitVec 4) (f : WireFrame) (s : State) : Answer := done s (receiveAs n isAdvert f s)

/-- JOIN (R413). -/
def execJoin (n : BitVec 4) (fs : List WireFrame) (s : State) : Answer := done s (receiveMsg n 4 1 fs (joinArrives n.toNat) s)

/-- JOIN_ACK (R413). -/
def execJoinAck (n : BitVec 4) (f : WireFrame) (s : State) : Answer := done s (receiveAs n (isCtl 4 2) f s)

/-- JOIN_REJECT (R413). -/
def execJoinReject (n : BitVec 4) (f : WireFrame) (s : State) : Answer := done s (receiveAs n (isCtl 4 3) f s)

/-- LINK_LEAVE_FRAME (R420). -/
def execLinkLeaveFrame (n : BitVec 4) (f : WireFrame) (s : State) : Answer := done s (receiveAs n (isCtl 0 2) f s)

/-- CHANNEL_DATA_FRAME (R415, R419). -/
def execChannelDataFrame (n : BitVec 4) (f : WireFrame) (s : State) : Answer := done s (receiveAs n (fun x => x.ftype == 1) f s)

/-- TOKEN_SIGNAL_FRAME (R291, R419). -/
def execTokenSignalFrame (n : BitVec 4) (f : WireFrame) (s : State) : Answer := done s (receiveAs n (fun x => x.ftype == 2) f s)

/-- CREDIT_FRAME (R416). -/
def execCreditFrame (n : BitVec 4) (f : WireFrame) (s : State) : Answer := done s (receiveAs n isCredit f s)

/-- ROLLUP_PERIOD_TICK (R350). -/
def execRollupPeriodTick (s : State) : Answer := done s (rollupTick s)

/-- ROUND_OPEN (R350). -/
def execRoundOpen (n : BitVec 4) (f : WireFrame) (s : State) : Answer := done s (receiveAs n (isCtl 5 1) f s)

/-- MEMBER_STATEMENT (R350). -/
def execMemberStatement (n : BitVec 4) (fs : List WireFrame) (s : State) : Answer := done s (receiveMsg n 5 2 fs statementArrives s)

/-- ROUND_CLOSE (R350, R351). -/
def execRoundClose (s : State) : Answer := done s (closeRound s)

/-- ROLLUP_RECORD (R352). -/
def execRollupRecord (n : BitVec 4) (fs : List WireFrame) (s : State) : Answer :=
  done s (receiveMsg n 5 3 fs (fun _ b t => recordArrives b t) s)

/-- ROLLUP_FETCH_REPLY (R352). -/
def execRollupFetchReply (n : BitVec 4) (fs : List WireFrame) (s : State) : Answer := done s (receiveMsg n 5 5 fs fetchedArrives s)

/-- ROLLUP_START (R350). -/
def execRollupStart (e : Env) (s : State) : Answer := done s (serve specRollupStart e (fun t =>
  checked ([(0, decide (p8 e 0 ≤ 2))] ++ rsv e 1 3 ++ (if p8 e 0 = 2 then [(4, decide (1 ≤ p32 e 4 ∧ p32 e 4 ≤ 3600))] else [])) t
    (rollupStart e t)) s)

/-- ROLLUP_GET (R352). -/
def execRollupGet (e : Env) (s : State) : Answer := done s (serve specRollupGet e (fun t => checked (rsv e 2 6) t (rollupGet e t)) s)

end Sys2Proof.Machine
end

