-- ==== Sys2Proof/Machine/Update.lean ====
section
/-! DEFINITION. The update group (chapter 20, R431–R435): staging, activation, commit, rollback, reanchoring, live
activation and the background repair of a bank. -/

namespace Sys2Proof.Machine

/-! ### Gates -/

/-- The running bank; none under an outcome in which the ROM serves. -/
def runningBank (s : State) : Option Bool := if romRecovery s then none else some s.boot.bank

/-- A command that needs the flash: INTERNAL until the flash answers (R432). -/
def needFlash (s : State) (k : State × Ans) : State × Ans := if s.flash.answers then k else (s, Ans.internal 0x46)

/-- A command the ROM does not serve under RECOVERY_NO_IMAGE (R432). -/
def needFirmware (s : State) (k : State × Ans) : State × Ans := if romRecovery s ∧ s.flash.answers then (s, Ans.state) else k

/-- BANK, as the update commands carry it. -/
def bankArg (e : Env) : Bool := p8 e 0 == 1
def bankChecks (e : Env) : List Chk := [(0, decide (p8 e 0 ≤ 1))] ++ rsv e 1 7

/-- An erase of a bank's image range is queued. -/
def eraseQueued (s : State) (b : Bool) : Bool :=
  s.flash.jobs.any (fun j => match j with | .bankErase x _ => x == b | .repair x _ => x == b | _ => false)

/-- The first byte of a bank. -/
def bankBase (b : Bool) : BitVec 64 := if b then 0x800000 else 0

/-! ### Staging (R431) -/

/-- UPDATE_BEGIN: WRITING, then the erase of the image range's 80 sectors with its intent (R425). -/
def updateBegin (b : Bool) (s : State) : State × Ans :=
  if runningBank s = some b then (s, Ans.conflict)
  else if eraseQueued s b then (s, Ans.state)
  else
    let s1 := journal 5 (bankCode b) 0 0 (bankBase b) 80 (setBankSt b .writing s)
    let s2 := setBank b { bankOf s1 b with written := [], images := [], erased := 0, erasing := true } s1
    ({ s2 with flash := { s2.flash with jobs := s2.flash.jobs ++ [.bankErase b 0] } }, Ans.ok)

/-- The payload checks of UPDATE_WRITE. -/
def writeChecks (e : Env) : List Chk :=
  [(0, decide (p8 e 0 ≤ 1)), (1, decide (1 ≤ p8 e 1 ∧ p8 e 1 ≤ 4))] ++ rsv e 2 2 ++
    [(4, decide (p32 e 4 + (e.payload.length - 8) ≤ 0x2000 + layerMax (p8 e 1)))]

/-- UPDATE_WRITE. -/
def updateWrite (e : Env) (s : State) : State × Ans :=
  let b := bankArg e
  let l := p8 e 1
  let x := bankOf s b
  let n := mgetD x.written l 0
  let data := e.payload.drop 8
  if x.st ≠ .writing ∨ x.erasing then (s, Ans.state)
  else if p32 e 4 ≠ n then (s, Ans.conflict (BitVec.ofNat 32 n))
  else
    (setBank b { x with written := mput x.written l (n + data.length), images := mput x.images l (mgetD x.images l [] ++ data) } s,
     Ans.ok)

/-- DETAIL of an image fault: layer and CONDITION. -/
def faultDetail (l c : Nat) : BitVec 32 := BitVec.ofNat 32 (l * 256 + c)

/-- UPDATE_FINISH: every image read back and checked against R79. -/
def updateFinish (b : Bool) (s : State) : State × Ans :=
  let x := bankOf s b
  if x.st ≠ .writing ∨ x.erasing then (s, Ans.state)
  else match bankFault s b with
    | some (l, c) => (s, Ans.integrity (faultDetail l c))
    | none => (setBankSt b .staged s, Ans.ok)

/-- UPDATE_DISCARD. -/
def updateDiscard (b : Bool) (s : State) : State × Ans :=
  if runningBank s = some b then (s, Ans.conflict) else (setBankSt b .empty s, Ans.ok)

/-! ### Activation (R431, R432, R433) -/

/-- Activation at the next boot; under RECOVERY_NO_IMAGE the boot restart follows at once (R432). -/
def activateNext (b : Bool) (s : State) : State × Ans :=
  if (bankOf s b).st ≠ .staged then (s, Ans.state)
  else
    let s1 := setBankSt b .trial s
    (if romRecovery s then { s1 with boot := { s1.boot with bank := b, restartDue := some .image } } else s1, Ans.ok)

/-- Whether the images of a bank that live activation leaves in place measure as those running (R433). -/
def sameLayers (s : State) (b : Bool) : Bool :=
  [2, 3, 4].all (fun l => match mget s.boot.layers l with | some r => imageM (imageOf s b l) == r.m | none => true)

/-- Live activation asked for: it waits for its effect point. -/
def activateLive (e : Env) (b : Bool) (s : State) : State × Ans :=
  if (bankOf s b).st ≠ .staged ∨ !sameLayers s b ∨ s.fuses.op.isSome then (s, Ans.state)
  else if s.flash.activation.isSome then (s, Ans.conflict)
  else ({ s with flash := { s.flash with activation := some (b, { env := e, op := 0x704 }) } }, Ans.waiting)

/-- The payload checks of UPDATE_ACTIVATE. -/
def activateChecks (e : Env) : List Chk := [(0, decide (p8 e 0 ≤ 1)), (1, decide (p8 e 1 = 1 ∨ p8 e 1 = 2))] ++ rsv e 2 6

/-- UPDATE_ACTIVATE. -/
def updateActivate (e : Env) (s : State) : State × Ans :=
  if p8 e 1 = 1 then activateNext (bankArg e) s else needFirmware s (activateLive e (bankArg e) s)

/-- The ROM's warm entry (R88, Table 20-7 step 4): CDI_W and LAK of the new WFW from the locked root, LAK's
certificates. -/
def warmEntry (s : State) : State :=
  if (slot s 0).isEmpty then s
  else
    let root := digBytes (slot s 0).active
    let mW := match mget s.boot.layers 1 with | some r => r.m | none => 0
    let cdi := kdf root "U-CDI-WENIST" (digBytes mW) 384
    let lakEc := ecScalar (kdf cdi "U-LAK-ECDSA" [] 448)
    let lakMl := dOf (kdf cdi "U-LAK-MLDSA" [] 256)
    let lakPub := padTo 97 (Config.ecdsaPublic lakEc) ++ padTo 2592 (Config.mldsaPublic (seed256 lakMl))
    let s1 := bootSlot 0x11 (wenistAttr 5 9 false) lakMl (bootSlot 0x10 (wenistAttr 5 9 false) lakEc
      (bootSlot 3 (wenistAttr 3 8 false) (dOf cdi) s))
    let idkEc := (slot s 1).active
    let cert := dualCert s.fuses.shadow 2 s.vault.did mW (lakPub.take 97) (lakPub.drop 97) s.vault.idkPub idkEc (slot s 2).active s1.free
    let x := x509 true "Usder IDK" "Usder LAK" s.fuses.shadow.serial (lakPub.take 97) idkEc (s1.free + 2)
    { s1 with
      vault := { s1.vault with lakPub := lakPub }
      att := { s1.att with certs := mput (mput s1.att.certs 2 cert) 0x12 x }
      free := s1.free + 3 }

/-- A failed activation (R435): the running bank's WFW is reloaded, a FAILURE record is written and the bank is STAGED
again; if the reload fails too, a boot restart is due. -/
def activationFails (b : Bool) (cond : Nat) (status : BitVec 16) (s : State) : State :=
  let s1 := journal 4 (bankCode b) 1 (BitVec.ofNat 8 cond) 0 0 s
  if (imageFault s.fuses.shadow 1 (imageOf s s.boot.bank 1)).isSome then
    { s1 with boot := { s1.boot with restartDue := some .image } }
  else
    let s2 := setBankSt b .staged s1
    { s2 with flash := { s2.flash with actReply := some (status, faultDetail 1 cond) } }

/-- A successful activation (Table 20-7 steps 4–6): the new WFW's keys, PM_1 and PM_7 extended. -/
def activationRuns (b : Bool) (s : State) : State :=
  let build (t : State) : BitVec 64 := match mget t.boot.layers 1 with | some r => r.build | none => 0
  let img := imageOf s b 1
  let r : LayerRun := { m := imageM img, svn := BitVec.ofNat 8 (imageSvn img), key := BitVec.ofNat 8 (imageKey img), build := imageBuild img }
  let s1 := warmEntry { s with boot := { s.boot with bank := b, layers := mput s.boot.layers 1 r } }
  let s2 := extend 7 6 ([(1 : Byte)] ++ leBytes 8 (build s).toNat ++ leBytes 8 r.build.toNat) r.m (loadLayer 1 s1)
  let s3 := deriveWfw s2
  { s3 with flash := { s3.flash with actReply := some (0, 0) } }

/-- LIVE_ACTIVATION: the effect point, once no other envelope waits and no other flash job is queued (R433). -/
def liveActivate (s : State) : State :=
  match s.flash.activation with
  | none => s
  | some (b, p) =>
    if 1 < (waitingEnvs s).length ∨ otherJob s ∨ s.fuses.op.isSome then s
    else
      let s1 := consumeTrial b (setBankSt b .trial (wakePd1 s))
      let s2 : State := { s1 with flash := { s1.flash with activation := none, activating := true, actEnv := some p, actReply := none } }
      match imageFault s2.fuses.shadow 1 (imageOf s2 b 1) with
      | some c => activationFails b c 9 s2
      | none => if Config.declinesHandoff (imageBuild (imageOf s2 b 1)) then activationFails b 0x14 10 s2 else activationRuns b s2

/-- ACTIVATION_TIMEOUT (R433). -/
def activationTimeout (s : State) : State :=
  match s.flash.activation with
  | none => s
  | some (_, p) => finish p (Ans.retry 100) { s with flash := { s.flash with activation := none } }

/-- ACTIVATION_END (R434). -/
def activationEnd (s : State) : State :=
  match s.flash.activating, s.flash.actReply with
  | true, some (st, d) =>
    finish? s.flash.actEnv { Ans.ok with status := st.toNat, detail := d }
      { s with flash := { s.flash with activating := false, actReply := none, actEnv := none } }
  | _, _ => s

/-! ### Commit, rollback, status (R431) -/

/-- Whether a bank holds an image of a layer below a security version. -/
def imageBelow (s : State) (b : Bool) (svn : Nat → Nat) : Bool :=
  (layersOf s.fuses.shadow).any (fun l => !(imageOf s b l).isEmpty && decide (imageSvn (imageOf s b l) < svn l))

/-- UPDATE_COMMIT. A security version above 64 has no level (R123). -/
def updateCommit (e : Env) (s : State) : State × Ans :=
  let b := s.boot.bank
  let adv := p8 e 0 == 1
  let svn (l : Nat) : Nat := match mget s.boot.layers l with | some r => r.svn.toNat | none => 0
  let ls := layersOf s.fuses.shadow
  if adv && s.fuses.op.isSome then (s, Ans.retry 100)
  else if (bankOf s b).st ≠ .trial ∨ !(bankOf s b).consumed then (s, Ans.state)
  else if adv && ((bankOf s (!b)).st == .good || (bankOf s (!b)).st == .staged) && imageBelow s (!b) svn then (s, Ans.conflict)
  else if adv && ls.any (fun l => 64 < svn l) then (s, Ans.exhausted)
  else
    let s1 := setActive b (setBankSt b .good s)
    let ts := (ls.map (fun l => (l, svn l))).filter (fun t => s.fuses.shadow.svn.getD (t.1 - 1) 0 < t.2)
    if adv && !ts.isEmpty then (beginFuse (.svnAdvance ts) (some { env := e, op := 0x705 }) s1, Ans.waiting) else (s1, Ans.ok)

/-- UPDATE_ROLLBACK. -/
def updateRollback (s : State) : State × Ans :=
  let b := !s.boot.bank
  if (bankOf s b).st ≠ .good ∨ imageBelow s b (fun l => s.fuses.shadow.svn.getD (l - 1) 0) then (s, Ans.state)
  else (setActive b s, Ans.ok)

/-- The bank whose staging UPDATE_STATUS_GET shows: the WRITING one, else the one that does not run. -/
def stagingBank (s : State) : Bool :=
  if s.flash.bankA.st = .writing then false else if s.flash.bankB.st = .writing then true
  else match runningBank s with | some b => !b | none => true

/-- UPDATE_STATUS_GET: 32 bytes. -/
def updateStatus (s : State) : Bytes :=
  let f := s.flash
  let b := stagingBank s
  let x := bankOf s b
  let job : Nat := if f.jobs.any (fun j => match j with | .bankErase _ _ => true | _ => false) then 1
    else if f.jobs.any (fun j => match j with | .repair _ _ => true | _ => false) then 3 else 0
  let flags := (if f.bankA.consumed then 1 else 0) + (if f.bankB.consumed then 2 else 0) + (if f.jobs.isEmpty then 0 else 4)
  [bankCode f.active, bankStCode f.bankA.st, bankStCode f.bankB.st, BitVec.ofNat 8 flags, BitVec.ofNat 8 job] ++ zeros 3 ++
    leBytes 4 (if job = 0 then 0 else x.erased) ++ leBytes 4 (if job = 0 then 0 else 80) ++
    ([1, 2, 3, 4].map (fun l => leBytes 4 (mgetD x.written l 0))).flatten

/-! ### COUNTER_REANCHOR (R429) -/

/-- The format of a reanchor token. -/
def reanchorChecks (e : Env) : List Chk :=
  (List.range 4).map (fun i => (i, byteAt e.payload i == byteAt (leBytes 4 0x55445241) i)) ++ [(4, p8 e 4 == 1)] ++ rsv e 6 2 ++
    [(40, decide (p8 e 40 ≤ 3))] ++ rsv e 41 23

/-- Whether a reanchor token is this part's, in this state, and its signer block verifies (R114). -/
def reanchorSigned (f : FuseShadow) (e : Env) : Bool :=
  let region := e.payload.take 64
  let b := e.payload.drop 64
  p8 e 5 == f.code.toNat && p64 e 8 == f.serial.toNat &&
    (if f.code = 7 then ownerOk f b region (p8 e 40) else mladyoOk f b region (p8 e 40))

/-- COUNTER_REANCHOR: the checks of R116's order, then one ratchet step. -/
def counterReanchor (e : Env) (s : State) : State × Ans :=
  if s.fuses.op.isSome then (s, Ans.retry 100)
  else if !reanchorSigned s.fuses.shadow e then (s, Ans.refused)
  else
    let s1 : State := { s with fuses := { s.fuses with nonce := none } }
    if s.fuses.nonce ≠ some (BitVec.ofNat 128 (fld e.payload 16 16)) then (s1, Ans.stale 0)
    else if s.boot.fuseDegraded then (s1, Ans.state 0x4644)
    else if !s.boot.unanchored then (s1, Ans.state)
    else if 4096 ≤ s.fuses.shadow.ratchet then (s1, Ans.exhausted)
    else (beginFuse (.reanchor (BitVec.ofNat 64 (p64 e 32))) (some { env := e, op := 0x709 }) s1, Ans.waiting)

/-! ### Repair (R425) -/

/-- BANK_REPAIR: after host-ready, a WRITING bank with an open intent is erased again. -/
def bankRepair (b : Bool) (s : State) : State :=
  let x := bankOf s b
  if hostReady s ∧ s.flash.answers ∧ x.st = .writing ∧ x.erasing ∧ !eraseQueued s b then
    let s1 := setBank b { x with erased := 0 } s
    { s1 with flash := { s1.flash with jobs := s1.flash.jobs ++ [.repair b 0] } }
  else s

/-! ### Meanings -/

/-- UPDATE_BEGIN (R431). -/
def execUpdateBegin (e : Env) (s : State) : Answer := done s (serve specUpdateBegin e (fun t =>
  checked (bankChecks e) t (needFlash t (updateBegin (bankArg e) t))) s)
/-- UPDATE_WRITE (R431). -/
def execUpdateWrite (e : Env) (s : State) : Answer := done s (serve specUpdateWrite e (fun t =>
  checked (writeChecks e) t (needFlash t (updateWrite e t))) s)
/-- UPDATE_FINISH (R431). -/
def execUpdateFinish (e : Env) (s : State) : Answer := done s (serve specUpdateFinish e (fun t =>
  checked (bankChecks e) t (needFlash t (updateFinish (bankArg e) t))) s)
/-- UPDATE_ACTIVATE (R431–R433). -/
def execUpdateActivate (e : Env) (s : State) : Answer := done s (serve specUpdateActivate e (fun t =>
  checked (activateChecks e) t (needFlash t (updateActivate e t))) s)
/-- UPDATE_COMMIT (R431). -/
def execUpdateCommit (e : Env) (s : State) : Answer := done s (serve specUpdateCommit e (fun t =>
  checked ([(0, decide (p8 e 0 ≤ 1))] ++ rsv e 1 7) t (needFirmware t (needFlash t (updateCommit e t)))) s)
/-- UPDATE_ROLLBACK (R431). -/
def execUpdateRollback (e : Env) (s : State) : Answer := done s (serve specUpdateRollback e (fun t =>
  needFirmware t (needFlash t (updateRollback t))) s)
/-- UPDATE_DISCARD (R431). -/
def execUpdateDiscard (e : Env) (s : State) : Answer := done s (serve specUpdateDiscard e (fun t =>
  checked (bankChecks e) t (needFirmware t (needFlash t (updateDiscard (bankArg e) t)))) s)
/-- UPDATE_STATUS_GET. -/
def execUpdateStatusGet (e : Env) (s : State) : Answer := done s (serve specUpdateStatusGet e (fun t =>
  needFlash t (t, Ans.ok (updateStatus t))) s)
/-- COUNTER_REANCHOR (R429). -/
def execCounterReanchor (e : Env) (s : State) : Answer := done s (serve specCounterReanchor e (fun t =>
  checked (reanchorChecks e) t (needFirmware t (needFlash t (counterReanchor e t)))) s)
/-- LIVE_ACTIVATION (R433). -/
def execLiveActivation (s : State) : Answer := done s (liveActivate s)
/-- ACTIVATION_TIMEOUT (R433). -/
def execActivationTimeout (s : State) : Answer := done s (activationTimeout s)
/-- ACTIVATION_END (R434). -/
def execActivationEnd (s : State) : Answer := done s (activationEnd s)
/-- BANK_REPAIR (R425). -/
def execBankRepair (b : Bool) (s : State) : Answer := done s (bankRepair b s)

end Sys2Proof.Machine
end

