-- ==== Sys2Proof/Machine/Jobs.lean ====
section
/-! DEFINITION. What ends a flash job (R422, R425, R426, R430, R446) and a fuse-programming operation (R43, R111, R118,
R139, R429), with the reply or the envelope that waited for it. -/

namespace Sys2Proof.Machine

/-! ### The envelope that waited for a promotion (R446) -/

/-- Operator envelope commands by opcode. -/
def envTable1 : List (Nat × (Env → State → Answer)) :=
  [(0x101, execDeviceInfoGet), (0x104, execDeadletterRead), (0x105, execFaultLogRead), (0x106, execRecover),
   (0x110, execPowerPolicySet), (0x111, execPowerPolicyGet), (0x120, execMgmtNetSet), (0x121, execMgmtNetGet),
   (0x122, execMgmtAlertAck), (0x123, execWrapEstablish), (0x201, execFuseSummaryGet), (0x202, execFuseNonceGet),
   (0x203, execFuseAction), (0x301, execKeyInstall), (0x302, execKeyReplace), (0x303, execKeyDestroy),
   (0x304, execKeyAbandonPending), (0x305, execKeyInfo), (0x401, execPartitionCreate),
   (0x402, execPartitionDestroy), (0x403, execPartitionStatusGet), (0x404, execPartitionGrant),
   (0x405, execPartitionRevoke), (0x406, execPartitionModeSet), (0x407, execPartitionStart),
   (0x408, execPartitionStop), (0x409, execContextCreate), (0x40A, execContextDestroy),
   (0x40B, execContextSwitch), (0x40C, execArbitrationSet)]

/-- Operator envelope commands by opcode. -/
def envTable2 : List (Nat × (Env → State → Answer)) :=
  [(0x410, execEpochCommit), (0x411, execEpochRollback), (0x412, execEpochStatusGet), (0x420, execProgramBind),
   (0x421, execProgramUnbind), (0x502, execParcelAdmit), (0x503, execParcelStatusGet), (0x504, execParcelEvict),
   (0x505, execParcelPin), (0x506, execParcelUnbind), (0x510, execCircleCreate), (0x511, execCircleJoin),
   (0x512, execCircleLeave), (0x513, execCircleStatusGet), (0x601, execReportGet), (0x602, execReportRead),
   (0x603, execCertChainGet), (0x604, execIdentityCsrGet), (0x605, execIdentityCertSet),
   (0x609, execPostmarkLogRead), (0x610, execRollupStart), (0x611, execRollupGet), (0x701, execUpdateBegin),
   (0x702, execUpdateWrite), (0x703, execUpdateFinish), (0x704, execUpdateActivate), (0x705, execUpdateCommit),
   (0x706, execUpdateRollback), (0x707, execUpdateDiscard), (0x708, execUpdateStatusGet)]

/-- Operator envelope commands by opcode. -/
def envTable3 : List (Nat × (Env → State → Answer)) :=
  [(0x709, execCounterReanchor), (0x801, execThermalPlanSet), (0x802, execCoolantReport),
   (0x803, execCarouselSet), (0x804, execThermalStatusGet), (0x805, execThrottleSet), (0x901, execTwinBondSet),
   (0x902, execTwinBondClear), (0x903, execTwinStatusGet), (0x904, execTwinShadowRead), (0x905, execTwinLogRead),
   (0x906, execTwinSwitchover), (0xA01, execCaravanJoinSet), (0xA02, execCaravanLeave),
   (0xA03, execCaravanStatusGet), (0xA04, execChannelSet), (0xA05, execChannelClear), (0xA06, execRouteTableRead),
   (0xA07, execCaravanLogRead), (0xB01, execScrubStatusGet), (0xB02, execScrubLogRead), (0xB03, execUpkeepSet),
   (0xC01, execDebugStateSet), (0xC02, execDebugHalt), (0xC03, execDebugResume), (0xC04, execDebugRead),
   (0xC05, execDebugWrite), (0xC06, execDebugFaultPolicy), (0xC07, execDebugTraceSet), (0xD01, execPeriodSet)]

/-- Operator envelope commands by opcode. -/
def envTable4 : List (Nat × (Env → State → Answer)) :=
  [(0xD02, execPeriodStatusGet), (0xD10, execTokenSignal), (0xD11, execTokenStatusGet),
   (0xD12, execTokenImportSet), (0xD20, execTokenPageSet)]

/-- Every opcode that the management path may carry. -/
def envTable : List (Nat × (Env → State → Answer)) := envTable1 ++ envTable2 ++ envTable3 ++ envTable4

/-- The tag check of a management envelope that is served again is not counted twice. -/
def uncount (e : Env) (s : State) : State :=
  match e.path with
  | .mgmt src =>
    { s with mgmt := { s.mgmt with tagChecks := s.mgmt.tagChecks - 1,
                                   perSource := s.mgmt.perSource.map (fun x => if x.1 = src then (x.1, x.2 - 1) else x) } }
  | _ => s

/-- Serve a management envelope that waited. Its change is counted with that of the command that released it. -/
def resend (p : Pending) (s : State) : State :=
  match envTable.find? (fun x => x.1 == p.op.toNat) with
  | some x =>
    match x.2 p.env (uncount p.env s) with
    | .next t => { t with att := { t.att with gen := s.att.gen, views := s.att.views } }
    | _ => s
  | none => s

/-- Drop the envelope of a promotion that failed: internal status INTERNAL in the dead-letter log. -/
def dropPromotion (p : Option Pending) (s : State) : State :=
  match p with
  | some q =>
    logDead (pathCode q.env.path) (callerCode q.env) q.env.target.toNat q.op.toNat 0xFF 0xFF 1 q.env.seq (sourceOf q.env) s
  | none => s

/-! ### Flash jobs -/

/-- Put jobs into the queue. -/
def setJobs (js : List FlashJob) (s : State) : State := { s with flash := { s.flash with jobs := js } }

/-- A sector that fails its blank-check after the repeated erase, reported to the operator route (R425). -/
def sectorFails (twoCopy : Bool) (s : State) : State :=
  logFault 0x0F 2 9 0 0 0xFF 0 0 { s with flash := { s.flash with fault := s.flash.fault || twoCopy } }

/-- One sector of a bank's image range is erased; the range goes on at the end of the queue, behind every job that may
run between two sectors (R422). With the last one ERASE_DONE is written; a repaired bank becomes EMPTY. -/
def sectorDone (b : Bool) (k : Nat) (repair : Bool) (s : State) : State :=
  let s1 := setBank b { bankOf s b with erased := k + 1 } s
  if k + 1 < 80 then setJobs (s1.flash.jobs ++ [if repair then .repair b (k + 1) else .bankErase b (k + 1)]) s1
  else
    let s2 := journal 6 (bankCode b) 0 0 (bankBase b) 80 (setBank b { bankOf s1 b with erasing := false } s1)
    if repair then setBankSt b .empty s2 else s2

/-- The new configuration copy in place of the older one, under the next GEN. -/
def configDone (env : Option Pending) (c : CfgCopy) (s : State) : State :=
  let c1 := { c with gen := BitVec.ofNat 64 (topGen (s.flash.configs.map (fun (x : CfgCopy) => x.gen)) + 1) }
  let c2 := { c1 with tag := cfgTag s c1 }
  finish? env Ans.ok { s with flash := { s.flash with configs := replaceOld (fun (x : CfgCopy) => x.gen) c2 s.flash.configs } }

/-- The persistent counters a job's block records: a letter's counter takes its place. -/
def jobCounters (s : State) (env : Option Pending) : FuseJob → List (BitVec 64)
  | .letter _ _ _ _ _ =>
    match env with
    | some p => match (issuerOf s p.env).bind counterIndex with
      | some k => s.flash.counters.set k p.env.franking
      | none => s.flash.counters
    | none => s.flash.counters
  | _ => s.flash.counters

/-- Store and counter block of a persistent job are written: the ratchet step follows (R139). At 4,096 a destroy ends
here, UNRATCHETED. -/
def storeDone (env : Option Pending) (job : FuseJob) (s : State) : State :=
  let v := s.fuses.shadow.ratchet
  let es := jobStore s job
  let cs := jobCounters s env job
  match job with
  | .destroy n =>
    if 4096 ≤ v then
      finish? env (Ans.okD 1) { destroySlot n (writeBlock es v cs s) with fuses := { s.fuses with op := none } }
    else beginFuse job env (writeBlock es (v + 1) cs s)
  | _ => beginFuse job env (writeBlock es (v + 1) cs s)

/-- The store could not be written: the operation ends with INTERNAL; a destroy still destroys the slot, a promotion is
dropped. -/
def storeFails (env : Option Pending) (job : FuseJob) (s : State) : State :=
  match job with
  | .promote _ => dropPromotion env s
  | _ =>
    let s1 := match job with | .destroy n => destroySlot n s | _ => s
    let u := internalFree { s1 with fuses := { s1.fuses with op := none } }
    finish? env u.2 u.1

/-- FLASH_JOB_DONE: the job at the front ends. A promotion waits for another fuse operation to end (R446). -/
def flashJobDone (ok : Bool) (s : State) : State :=
  match s.flash.jobs with
  | [] => s
  | j :: rest =>
    let s0 := setJobs rest s
    match j with
    | .bankErase b k => if ok then sectorDone b k false s0 else sectorFails false s0
    | .repair b k => if ok then sectorDone b k true s0 else sectorFails false s0
    | .journal => if ok then compactDone s0 else sectorFails false s0
    | .config env c =>
      if ok then configDone env c s0
      else
        let u := internalFree (sectorFails true s0)
        finish? env u.2 u.1
    | .store env (.promote n) st =>
      if !(slot s n).pendingValid then (match env with | some p => resend p s0 | none => s0)
      else if s.fuses.op.isSome then setJobs (rest ++ [.store env (.promote n) st]) s
      else if !ok then storeFails env (.promote n) (sectorFails true s0)
      else storeDone env (.promote n) s0
    | .store env job _ => if ok then storeDone env job s0 else storeFails env job (sectorFails true s0)

/-! ### Fuse operations -/

/-- The counters a reanchored block records: the greater of FLOOR and any copy's whose TAG verifies (R429). -/
def reanchorCounters (s : State) (floor_ : BitVec 64) : List (BitVec 64) :=
  let ok := s.flash.blocks.filter (fun b => b.tag == cblockTag s b)
  (List.range 65).map (fun k => ok.foldl (fun (a : BitVec 64) b =>
    let c := b.counters.getD k 0
    if a.toNat < c.toNat then c else a) floor_)

/-- What a fuse operation's end does and replies; `ok` says that the affected region decodes to what was intended. -/
def endJob (o : FuseOp) (ok : Bool) (s : State) : State :=
  let bad := Ans.internal (BitVec.ofNat 32 (jobRegion o.job))
  match o.job with
  | .letter n a k t replace =>
    if !ok then finish? o.env bad s
    else
      let s1 := if replace then installPending n k t s else freshCounts n (copyBounce n (installSlot n a k t s))
      finish? o.env (letterReply n s1) s1
  | .destroy n => finish? o.env (if ok then Ans.ok else bad) (destroySlot n s)
  | .promote n =>
    if ok then
      let s1 := promoteSlot n s
      match o.env with | some p => resend p s1 | none => s1
    else dropPromotion o.env s
  | .reanchor f =>
    if !ok then finish? o.env bad s
    else
      let s1 := writeBlock [] s.fuses.shadow.ratchet (reanchorCounters s f) s
      finish? o.env Ans.ok { s1 with boot := { s1.boot with unanchored := false } }
  | .transition _ | .takeOwnership _ =>
    let s1 := finish? o.env (if ok then Ans.ok else bad) s
    { s1 with fuses := { s1.fuses with lifecycleReset := true } }
  | _ => finish? o.env (if ok then Ans.ok else bad) s

/-- FUSE_PROGRAM_DONE: the cells of `bad` did not take; the array is programmed stage by stage and the shadow adopts what
takes effect at once. RATCHET_LOW is reported at 3,968. -/
def fuseProgramDone (bad : List (BitVec 8 × BitVec 8)) (s : State) : State :=
  match s.fuses.op with
  | none => s
  | some o =>
    if !o.ready then s
    else
      let f := s.fuses.shadow
      let r := runStages f (bad.map (fun c => (c.1.toNat, c.2.toNat))) (jobStages f o.job) s.fuses.cells
      let g := adopt f (decodeShadow r.1)
      let s1 := endFuse { s with fuses := { s.fuses with cells := r.1, shadow := g } }
      endJob o r.2 (if f.ratchet < 3968 ∧ 3968 ≤ g.ratchet then alert 4 s1 else s1)

/-- VDD_FUSE_TIMEOUT (R43): the operation is abandoned with INTERNAL. -/
def vddFuseTimeout (s : State) : State :=
  match s.fuses.op with
  | none => s
  | some o => if s.aon.fusePwrEn ∧ !o.ready then endJob o false (endFuse s) else s

/-! ### Meanings -/

/-- FLASH_JOB_DONE (R422). -/
def execFlashJobDone (ok : Bool) (s : State) : Answer := done s (flashJobDone ok s)
/-- FUSE_PROGRAM_DONE (R118). -/
def execFuseProgramDone (bad : List (BitVec 8 × BitVec 8)) (s : State) : Answer := done s (fuseProgramDone bad s)
/-- VDD_FUSE_TIMEOUT (R43). -/
def execVddFuseTimeout (s : State) : Answer := done s (vddFuseTimeout s)

end Sys2Proof.Machine
end

