-- ==== Sys2Proof/Machine/Wide.lean ====
section
/-! DEFINITION. The wide operations of Table 11-7 but for the transfers: MMA, ACCRD and ACCWR (R262, R263), the vector
operations (R264), WLS and WSS (R267). -/

namespace Sys2Proof.Machine

/-! ### Matrix operands (R259, R262) -/

/-- Bytes of an MMA operand element. -/
def mmaBytes (dtype : Nat) : Nat := if dtype = 2 then 2 else 1

/-- The rows of a local-store operand. -/
def lsRows (x : Core) (d : Desc) (rows len : Nat) : List Extent := (List.range rows).map (fun r => (descAddr x d r, len))

/-- The extents an MMA operand reads of local store. -/
def mmaExtents (x : Core) (d : Desc) (rows len : Nat) : List Extent := if d.space = 0 then lsRows x d rows len else []

/-- Row `k` of an MMA operand: local store at its row, or the wide register's bytes from 64 · width · k. -/
def mmaRow (x : Core) (d : Desc) (width k len : Nat) : Bytes :=
  if d.space = 0 then lsRead x (descAddr x d k) len else slice (wBytes (getW x (wIndex d))) (64 * width * k) len

/-- An MMA operand's form: local store, or a wide register of at most 16 or 8 rows. -/
def mmaDesc (d : Desc) (width k : Nat) : Bool := descLs d || (descW d && decide (k * width ≤ 16))

/-- Element `i` of a row. -/
def elem (b : Bytes) (width i : Nat) : Nat := fld b (width * i) width

/-- A NaN whose payload the spec leaves open. -/
def openNan (i : Nat) : Nat :=
  let v := (Config.openNaN i).toNat % 2 ^ 31
  0x7F800000 + (if v % 2 ^ 23 = 0 then 1 else v % 2 ^ 23)

/-- Whether an element of the block is enabled. -/
def enabled (x : Core) (w : WWord) (i j : Nat) : Bool := (getM x w.mrow.toNat).getLsbD i && (getM x w.mcol.toNat).getLsbD j

/-- Integer accumulation: exact products, a sum that wraps in int32. -/
def accInt (dtype : Nat) (ar br : List Bytes) (acc i j : Nat) : Nat :=
  wrapTo 32 ((ar.zip br).foldl (fun z e => z + laneInt dtype (elem e.1 1 i) * sgn 8 (elem e.2 1 j)) (sgn 32 acc))

/-- bf16 accumulation: one rank-one update per k in ascending order, products and sums rounded to binary32. -/
def accFloat (nan : Nat) (ar br : List Bytes) (acc i j : Nat) : Nat :=
  (ar.zip br).foldl (fun z e =>
    let p := fpRound fmt32 false nan (fpMul (fpOf fmt16 false (elem e.1 2 i)) (fpOf fmt16 false (elem e.2 2 j)))
    fpRound fmt32 false nan (fpAdd (fpOf fmt32 false z) (fpOf fmt32 false p))) acc

/-- The accumulator after ACLR. -/
def aclr (on : Bool) (a : Nat) (x : Core) : Core := if on then { x with acc := x.acc.filter (fun e => e.1 / 4096 ≠ a) } else x

/-- The pairs of a block, row by row. -/
def block (m n : Nat) : List (Nat × Nat) := (List.range m).flatMap (fun i => (List.range n).map (fun j => (i, j)))

/-- MMA on a core (R262). -/
def mmaCore (w : WWord) (free : Nat) (x : Core) : Except (Nat × Nat) Core :=
  let m := w.mM1.toNat + 1
  let n := w.nM1.toNat + 1
  let k := w.kM1.toNat + 1
  let d := w.dtype.toNat
  let width := mmaBytes d
  match lsCheck x (mmaExtents x w.da k (width * m) ++ mmaExtents x w.db k (width * n)) [] with
  | some e => .error e
  | none =>
    let ar := (List.range k).map (fun r => mmaRow x w.da width r (width * m))
    let br := (List.range k).map (fun r => mmaRow x w.db width r (width * n))
    let a := w.acc.toNat
    let y := aclr w.aclr a x
    .ok ((block m n).foldl (fun z e =>
      if enabled x w e.1 e.2 then
        let old := (getAcc y a e.1 e.2).toNat
        let v := if d = 2 then accFloat (openNan (free + 64 * e.1 + e.2)) ar br old e.1 e.2 else accInt d ar br old e.1 e.2
        setAcc a e.1 e.2 (BitVec.ofNat 32 v) z
      else z) y)

/-! ### ACCRD and ACCWR (R263) -/

/-- The scale of column `j`: 1, X[SCALE_REG], or lane `j` of W[SCALE_REG]; as bits of the accumulator's kind. -/
def scaleBits (x : Core) (w : WWord) (float : Bool) (j : Nat) : Nat :=
  if w.smode = 0 then (if float then 0x3F800000 else 1)
  else if w.smode = 1 then (getX x w.sreg.toNat).toNat % 2 ^ 32
  else lane (getW x w.sreg.toNat) 32 j

/-- One output element of ACCRD. -/
def accOut (x : Core) (w : WWord) (free i j : Nat) : Nat :=
  let d := w.dtype.toNat
  let acc := (getAcc x w.acc.toNat i j).toNat
  if isFloat d then
    let nan := if d = 2 then openNan (free + 64 * i + j) / 2 ^ 16 ||| 1 else openNan (free + 64 * i + j)
    fpRound (fmtOf d) false nan (fpMul (fpOf fmt32 false acc) (fpOf fmt32 false (scaleBits x w true j)))
  else
    let sh := w.shift.toNat
    let v := sgn 32 acc * sgn 32 (scaleBits x w false j)
    let r := if sh = 0 then v else (v + 2 ^ (sh - 1)) / (2 ^ sh : Nat)
    satTo d (r + w.zp.toInt)

/-- The form of ACCRD's scaling fields. -/
def scaleOk (w : WWord) : Bool :=
  w.smode != 3 && (w.smode != 0 || w.sreg == 0) && (w.smode != 1 || decide (w.sreg.toNat < 32)) &&
    (!isFloat w.dtype.toNat || (w.shift == 0 && w.zp == 0))

/-- Pieces of local store written together; a marked line that they cover whole loses its mark. -/
def lsWriteAll (ps : List (Nat × Bytes)) (x : Core) : Core :=
  let y : Core := { x with ls := ps.foldl (fun m p => mwrite m p.1 p.2) x.ls }
  let covered (l : Nat) : Bool := (List.range 64).all (fun i => ps.any (fun p => decide (p.1 ≤ 64 * l + i) && decide (64 * l + i < p.1 + p.2.length)))
  { y with lsMark := y.lsMark.filter (fun e => !covered e.1) }

/-- ACCRD on a core: the enabled elements of the block, converted and written. -/
def accrdCore (w : WWord) (free : Nat) (x : Core) : Except (Nat × Nat) Core :=
  let m := w.mM1.toNat + 1
  let n := w.nM1.toNat + 1
  let width := laneBits w.dtype.toNat / 8
  match lsCheck x [] (lsRows x w.dd m (width * n)) with
  | some e => .error e
  | none =>
    let ps := ((block m n).filter (fun e => enabled x w e.1 e.2)).map (fun e =>
      (descAddr x w.dd e.1 + width * e.2, leBytes width (accOut x w free e.1 e.2)))
    .ok (lsWriteAll ps x)

/-- ACCWR on a core: rows of 32-bit elements into the enabled elements. -/
def accwrCore (w : WWord) (x : Core) : Except (Nat × Nat) Core :=
  let m := w.mM1.toNat + 1
  let n := w.nM1.toNat + 1
  match lsCheck x (lsRows x w.da m (4 * n)) [] with
  | some e => .error e
  | none =>
    .ok ((block m n).foldl (fun z e =>
      if enabled x w e.1 e.2 then setAcc w.acc.toNat e.1 e.2 (BitVec.ofNat 32 (leNat (lsRead x (descAddr x w.da e.1 + 4 * e.2) 4))) z else z) x)

/-! ### Vectors (R264) -/

/-- Lanes of a DTYPE. -/
def wLanes (dtype : Nat) : Nat := 8192 / laneBits dtype

/-- A lane-wise result of two wide registers. -/
def vecLanes (op : LaneOp) (dtype free : Nat) (a b : BitVec 8192) : BitVec 8192 :=
  ofLanes (laneBits dtype) ((List.range (wLanes dtype)).map (fun i =>
    laneOp op dtype (Config.openNaN (free + i)).toNat (lane a (laneBits dtype) i) (lane b (laneBits dtype) i)))

/-- Whether a DTYPE names a type. -/
def dtypeOk (d : BitVec 3) : Bool := decide (d.toNat ≤ 4)

/-- A wide operation that may use free values: as many as it has elements. -/
def wideFree (c n : Nat) (ok : Bool) (f : Nat → Core → Except (Nat × Nat) Core) (s : State) : State :=
  wideOp c ok (f s.free) (if (core s c).st = .run then { s with free := s.free + n } else s)

/-- W[D] ← W[A] op W[B], lane by lane, under the granule mask where the operation has one. -/
def vecOp (c : Nat) (w : WWord) (op : LaneOp) (masked : Bool) (s : State) : State :=
  wideFree c 1024 (wUnused { pred := masked, dtype := true } w && dtypeOk w.dtype && descW w.da && descW w.db && descW w.dd)
    (fun free x =>
      let r := vecLanes op w.dtype.toNat free (getW x (wIndex w.da)) (getW x (wIndex w.db))
      let m := if w.pneg then ~~~getM x w.pred.toNat else getM x w.pred.toNat
      .ok (setW (wIndex w.dd) (granules m (getW x (wIndex w.dd)) r) x)) s

/-- W[D] ← W[A] op W[B], bit by bit. -/
def bitOp (c : Nat) (w : WWord) (op : BitVec 8192 → BitVec 8192 → BitVec 8192) (s : State) : State :=
  wideOp c (wUnused { pred := true } w && descW w.da && descW w.db && descW w.dd)
    (fun x =>
      let m := if w.pneg then ~~~getM x w.pred.toNat else getM x w.pred.toNat
      .ok (setW (wIndex w.dd) (granules m (getW x (wIndex w.dd)) (op (getW x (wIndex w.da)) (getW x (wIndex w.db)))) x)) s

/-- A lane shift by SHIFT. -/
def shiftOp (c : Nat) (w : WWord) (left : Bool) (s : State) : State :=
  let d := w.dtype.toNat
  wideOp c (wUnused { dtype := true, shift := true } w && (d == 0 || d == 1 || d == 3) && descW w.da && descNone w.db && descW w.dd)
    (fun x =>
      let a := getW x (wIndex w.da)
      .ok (setW (wIndex w.dd) (ofLanes (laneBits d) ((List.range (wLanes d)).map (fun i =>
        laneShift left d w.shift.toNat (lane a (laneBits d) i)))) x)) s

/-! ### WLS and WSS -/

/-- The extents of a wide register in local store: 1,024 bytes, or 64 granules of 16 at STRIDE spacing. -/
def wideExtents (x : Core) (d : Desc) : List Extent :=
  if d.stride = 0 then [(descAddr x d 0, 1024)] else (List.range 64).map (fun r => (descAddr x d r, 16))

/-! ### Commands -/

/-- WNOP. -/
def execWnop (c : BitVec 7) (w : WWord) (s : State) : Answer :=
  done s (wideOp c.toNat (wUnused {} w && descNone w.da && descNone w.db && descNone w.dd) (fun x => .ok x) s)

/-- MMA. -/
def execMma (c : BitVec 7) (w : WWord) (s : State) : Answer :=
  done s (wideFree c.toNat 4096
    (wUnused { acc := true, aclr := true, dtype := true, m := true, n := true, k := true, mask := true } w && decide (w.dtype.toNat ≤ 2) &&
      mmaDesc w.da (mmaBytes w.dtype.toNat) (w.kM1.toNat + 1) && mmaDesc w.db (mmaBytes w.dtype.toNat) (w.kM1.toNat + 1) && descNone w.dd)
    (mmaCore w) s)

/-- ACCRD. -/
def execAccrd (c : BitVec 7) (w : WWord) (s : State) : Answer :=
  done s (wideFree c.toNat 4096
    (wUnused { acc := true, dtype := true, m := true, n := true, mask := true, scale := true, shift := true, sreg := true } w &&
      dtypeOk w.dtype && scaleOk w && descNone w.da && descNone w.db && descLs w.dd)
    (accrdCore w) s)

/-- ACCWR. -/
def execAccwr (c : BitVec 7) (w : WWord) (s : State) : Answer :=
  done s (wideOp c.toNat
    (wUnused { acc := true, dtype := true, m := true, n := true, mask := true } w && (w.dtype == 3 || w.dtype == 4) && descLs w.da &&
      descNone w.db && descNone w.dd)
    (accwrCore w) s)

/-- VADD. -/
def execVadd (c : BitVec 7) (w : WWord) (s : State) : Answer := done s (vecOp c.toNat w .add true s)
/-- VSUB. -/
def execVsub (c : BitVec 7) (w : WWord) (s : State) : Answer := done s (vecOp c.toNat w .sub true s)
/-- VMUL. -/
def execVmul (c : BitVec 7) (w : WWord) (s : State) : Answer := done s (vecOp c.toNat w .mul true s)
/-- VMAX. -/
def execVmax (c : BitVec 7) (w : WWord) (s : State) : Answer := done s (vecOp c.toNat w .max true s)
/-- VMIN. -/
def execVmin (c : BitVec 7) (w : WWord) (s : State) : Answer := done s (vecOp c.toNat w .min true s)
/-- VAND. -/
def execVand (c : BitVec 7) (w : WWord) (s : State) : Answer := done s (bitOp c.toNat w (· &&& ·) s)
/-- VOR. -/
def execVor (c : BitVec 7) (w : WWord) (s : State) : Answer := done s (bitOp c.toNat w (· ||| ·) s)
/-- VXOR. -/
def execVxor (c : BitVec 7) (w : WWord) (s : State) : Answer := done s (bitOp c.toNat w (· ^^^ ·) s)
/-- VSHR. -/
def execVshr (c : BitVec 7) (w : WWord) (s : State) : Answer := done s (shiftOp c.toNat w false s)
/-- VSHL. -/
def execVshl (c : BitVec 7) (w : WWord) (s : State) : Answer := done s (shiftOp c.toNat w true s)
/-- VCMPGT. -/
def execVcmpgt (c : BitVec 7) (w : WWord) (s : State) : Answer := done s (vecOp c.toNat w .gt false s)
/-- VCMPEQ. -/
def execVcmpeq (c : BitVec 7) (w : WWord) (s : State) : Answer := done s (vecOp c.toNat w .eq false s)

/-- VSEL. -/
def execVsel (c : BitVec 7) (w : WWord) (s : State) : Answer :=
  done s (wideOp c.toNat (wUnused { sreg := true } w && descW w.da && descW w.db && descW w.dd) (fun x =>
    let m := getW x w.sreg.toNat
    .ok (setW (wIndex w.dd) ((getW x (wIndex w.da) &&& m) ||| (getW x (wIndex w.db) &&& ~~~m)) x)) s)

/-- WLS. -/
def execWls (c : BitVec 7) (w : WWord) (s : State) : Answer :=
  done s (wideOp c.toNat (wUnused {} w && descLs w.da && descNone w.db && descW w.dd) (fun x =>
    match lsCheck x (wideExtents x w.da) [] with
    | some e => .error e
    | none => .ok (setW (wIndex w.dd) (wOfBytes (cat ((wideExtents x w.da).map (fun e => lsRead x e.1 e.2)))) x)) s)

/-- WSS. -/
def execWss (c : BitVec 7) (w : WWord) (s : State) : Answer :=
  done s (wideOp c.toNat (wUnused {} w && descW w.da && descNone w.db && descLs w.dd) (fun x =>
    let es := wideExtents x w.dd
    match lsCheck x [] es with
    | some e => .error e
    | none =>
      let b := wBytes (getW x (wIndex w.da))
      .ok (lsWriteAll (es.zipIdx.map (fun e => (e.1.1, slice b (e.1.2 * e.2) e.1.2))) x)) s)

end Sys2Proof.Machine
end

