-- ==== Sys2Proof/Machine/Dispatch.lean ====
section
/-! DEFINITION. What each command does: one arm per constructor, one direct call of its meaning. -/

namespace Sys2Proof.Machine

def exec (i : Instr) (s : State) : Host.Outcome State Fault Refusal :=
  match i with
  | .pwrOkFall => Sys2Proof.Machine.execPwrOkFall s
  | .brownout r => Sys2Proof.Machine.execBrownout r s
  | .pwrOkRise => Sys2Proof.Machine.execPwrOkRise s
  | .sysRstNLow => Sys2Proof.Machine.execSysRstNLow s
  | .sysRstNRise => Sys2Proof.Machine.execSysRstNRise s
  | .internalResetRelease sense boot => Sys2Proof.Machine.execInternalResetRelease sense boot s
  | .pd3Ready => Sys2Proof.Machine.execPd3Ready s
  | .perstNLow => Sys2Proof.Machine.execPerstNLow s
  | .perstNRise => Sys2Proof.Machine.execPerstNRise s
  | .configRequest fn numVfs => Sys2Proof.Machine.execConfigRequest fn numVfs s
  | .tamper => Sys2Proof.Machine.execTamper s
  | .vddFuseUnexpected => Sys2Proof.Machine.execVddFuseUnexpected s
  | .vddFuseReady => Sys2Proof.Machine.execVddFuseReady s
  | .vddFuseTimeout => Sys2Proof.Machine.execVddFuseTimeout s
  | .xt32Lost => Sys2Proof.Machine.execXt32Lost s
  | .hoscDiscipline ppm => Sys2Proof.Machine.execHoscDiscipline ppm s
  | .frameEdge env => Sys2Proof.Machine.execFrameEdge env s
  | .periodBoundary p => Sys2Proof.Machine.execPeriodBoundary p s
  | .pd1Sleep => Sys2Proof.Machine.execPd1Sleep s
  | .domainReady pd env => Sys2Proof.Machine.execDomainReady pd env s
  | .tileIdlePowerDown t => Sys2Proof.Machine.execTileIdlePowerDown t s
  | .pd2PowerDown => Sys2Proof.Machine.execPd2PowerDown s
  | .stackSrHold n => Sys2Proof.Machine.execStackSrHold n s
  | .stackTempPoll n temp => Sys2Proof.Machine.execStackTempPoll n temp s
  | .programReload c upset => Sys2Proof.Machine.execProgramReload c upset s
  | .coreGate c => Sys2Proof.Machine.execCoreGate c s
  | .coreWake c => Sys2Proof.Machine.execCoreWake c s
  | .sensorSample id temp activity => Sys2Proof.Machine.execSensorSample id temp activity s
  | .modelTick env => Sys2Proof.Machine.execModelTick env s
  | .forecastTick => Sys2Proof.Machine.execForecastTick s
  | .preThrottle c => Sys2Proof.Machine.execPreThrottle c s
  | .flowReportStale => Sys2Proof.Machine.execFlowReportStale s
  | .watchdogExpiry => Sys2Proof.Machine.execWatchdogExpiry s
  | .ownerLayerTimeout => Sys2Proof.Machine.execOwnerLayerTimeout s
  | .bootRestart boot => Sys2Proof.Machine.execBootRestart boot s
  | .lockstepMismatch => Sys2Proof.Machine.execLockstepMismatch s
  | .lockstepResume => Sys2Proof.Machine.execLockstepResume s
  | .liveActivation => Sys2Proof.Machine.execLiveActivation s
  | .activationTimeout => Sys2Proof.Machine.execActivationTimeout s
  | .activationEnd => Sys2Proof.Machine.execActivationEnd s
  | .lifecycleReset => Sys2Proof.Machine.execLifecycleReset s
  | .recoverDeviceReset => Sys2Proof.Machine.execRecoverDeviceReset s
  | .bankRepair b => Sys2Proof.Machine.execBankRepair b s
  | .workDoorbell fn ring tail => Sys2Proof.Machine.execWorkDoorbell fn ring tail s
  | .envDoorbell fn tail => Sys2Proof.Machine.execEnvDoorbell fn tail s
  | .envRingEnable fn on => Sys2Proof.Machine.execEnvRingEnable fn on s
  | .workRingEnable fn ring on => Sys2Proof.Machine.execWorkRingEnable fn ring on s
  | .completionRingEnable fn on => Sys2Proof.Machine.execCompletionRingEnable fn on s
  | .completionHeadWrite fn head => Sys2Proof.Machine.execCompletionHeadWrite fn head s
  | .eventClear bits => Sys2Proof.Machine.execEventClear bits s
  | .intEnableWrite v => Sys2Proof.Machine.execIntEnableWrite v s
  | .registerWrite fn off v bytes => Sys2Proof.Machine.execRegisterWrite fn off v bytes s
  | .vfFlr n => Sys2Proof.Machine.execVfFlr n s
  | .pfFlr => Sys2Proof.Machine.execPfFlr s
  | .envEntryFetch fn entry env replyMaxFails => Sys2Proof.Machine.execEnvEntryFetch fn entry env replyMaxFails s
  | .descriptorFetch fn ring desc input => Sys2Proof.Machine.execDescriptorFetch fn ring desc input s
  | .entryPost fn ring => Sys2Proof.Machine.execEntryPost fn ring s
  | .outputCopyDone fn hostOk => Sys2Proof.Machine.execOutputCopyDone fn hostOk s
  | .gridRelease => Sys2Proof.Machine.execGridRelease s
  | .refusedRelease => Sys2Proof.Machine.execRefusedRelease s
  | .hostCompletionTimeout fn ring => Sys2Proof.Machine.execHostCompletionTimeout fn ring s
  | .postedCreditStall => Sys2Proof.Machine.execPostedCreditStall s
  | .memoryRequest r => Sys2Proof.Machine.execMemoryRequest r s
  | .turnstileEngineFault t => Sys2Proof.Machine.execTurnstileEngineFault t s
  | .engineParity e katOk => Sys2Proof.Machine.execEngineParity e katOk s
  | .entropyHealthFail => Sys2Proof.Machine.execEntropyHealthFail s
  | .entropyRetestDone ok => Sys2Proof.Machine.execEntropyRetestDone ok s
  | .hsbExpiry => Sys2Proof.Machine.execHsbExpiry s
  | .deStart n args => Sys2Proof.Machine.execDeStart n args s
  | .deData n frags => Sys2Proof.Machine.execDeData n frags s
  | .deFinish n => Sys2Proof.Machine.execDeFinish n s
  | .deRoute n route => Sys2Proof.Machine.execDeRoute n route s
  | .deAbort n => Sys2Proof.Machine.execDeAbort n s
  | .wkrLoad use useBit => Sys2Proof.Machine.execWkrLoad use useBit s
  | .seGcm op => Sys2Proof.Machine.execSeGcm op s
  | .seXts op => Sys2Proof.Machine.execSeXts op s
  | .seKwWrap src dst => Sys2Proof.Machine.execSeKwWrap src dst s
  | .seKwUnwrap cipher dst => Sys2Proof.Machine.execSeKwUnwrap cipher dst s
  | .ecdsaSign use digest => Sys2Proof.Machine.execEcdsaSign use digest s
  | .ecdsaVerify pub digest sig => Sys2Proof.Machine.execEcdsaVerify pub digest sig s
  | .ecdh use peer => Sys2Proof.Machine.execEcdh use peer s
  | .mldsaKeygen seed => Sys2Proof.Machine.execMldsaKeygen seed s
  | .mldsaSign use digest ctx => Sys2Proof.Machine.execMldsaSign use digest ctx s
  | .mldsaVerify pub msg ctx sig => Sys2Proof.Machine.execMldsaVerify pub msg ctx sig s
  | .mlkemKeygen => Sys2Proof.Machine.execMlkemKeygen s
  | .mlkemEncaps pub => Sys2Proof.Machine.execMlkemEncaps pub s
  | .mlkemDecaps use ct => Sys2Proof.Machine.execMlkemDecaps use ct s
  | .drbgGenerate lenM1 reseedOk => Sys2Proof.Machine.execDrbgGenerate lenM1 reseedOk s
  | .pkeMark => Sys2Proof.Machine.execPkeMark s
  | .admissionStart hd => Sys2Proof.Machine.execAdmissionStart hd s
  | .chunkComplete lane read => Sys2Proof.Machine.execChunkComplete lane read s
  | .admissionRelease p window => Sys2Proof.Machine.execAdmissionRelease p window s
  | .scrubComplete rtype rid ok durUs => Sys2Proof.Machine.execScrubComplete rtype rid ok durUs s
  | .sessionTimeout n => Sys2Proof.Machine.execSessionTimeout n s
  | .reportExpiry n => Sys2Proof.Machine.execReportExpiry n s
  | .mirrorAckTimeout => Sys2Proof.Machine.execMirrorAckTimeout s
  | .leaseTick => Sys2Proof.Machine.execLeaseTick s
  | .leaseFrame f => Sys2Proof.Machine.execLeaseFrame f s
  | .leaseExpiry => Sys2Proof.Machine.execLeaseExpiry s
  | .rejoinHoldExpiry => Sys2Proof.Machine.execRejoinHoldExpiry s
  | .twinPortTrained => Sys2Proof.Machine.execTwinPortTrained s
  | .h0 msg => Sys2Proof.Machine.execH0 msg s
  | .h1 msg => Sys2Proof.Machine.execH1 msg s
  | .h2 msg => Sys2Proof.Machine.execH2 msg s
  | .h3 msg => Sys2Proof.Machine.execH3 msg s
  | .pairingRetry => Sys2Proof.Machine.execPairingRetry s
  | .pairingTimeout => Sys2Proof.Machine.execPairingTimeout s
  | .mirrorRecord f => Sys2Proof.Machine.execMirrorRecord f s
  | .linkTrained n => Sys2Proof.Machine.execLinkTrained n s
  | .linkDown n => Sys2Proof.Machine.execLinkDown n s
  | .l0 n msg => Sys2Proof.Machine.execL0 n msg s
  | .l1 n msg => Sys2Proof.Machine.execL1 n msg s
  | .l2 n msg => Sys2Proof.Machine.execL2 n msg s
  | .l3 n msg => Sys2Proof.Machine.execL3 n msg s
  | .linkReady n f => Sys2Proof.Machine.execLinkReady n f s
  | .linkHandshakeRetry n => Sys2Proof.Machine.execLinkHandshakeRetry n s
  | .handshakeTimeout n => Sys2Proof.Machine.execHandshakeTimeout n s
  | .rekeyStart port => Sys2Proof.Machine.execRekeyStart port s
  | .linkFrameSend port => Sys2Proof.Machine.execLinkFrameSend port s
  | .linkDataFrame n f => Sys2Proof.Machine.execLinkDataFrame n f s
  | .acknowledgementFrame port f => Sys2Proof.Machine.execAcknowledgementFrame port f s
  | .linkReplay port counter => Sys2Proof.Machine.execLinkReplay port counter s
  | .advertTick => Sys2Proof.Machine.execAdvertTick s
  | .advert n f => Sys2Proof.Machine.execAdvert n f s
  | .reorderHoldExpiry post => Sys2Proof.Machine.execReorderHoldExpiry post s
  | .unreachableDiscard post => Sys2Proof.Machine.execUnreachableDiscard post s
  | .join n fs => Sys2Proof.Machine.execJoin n fs s
  | .joinAck n f => Sys2Proof.Machine.execJoinAck n f s
  | .joinReject n f => Sys2Proof.Machine.execJoinReject n f s
  | .directoryExpiry post => Sys2Proof.Machine.execDirectoryExpiry post s
  | .linkLeaveFrame n f => Sys2Proof.Machine.execLinkLeaveFrame n f s
  | .channelBlockSend ch => Sys2Proof.Machine.execChannelBlockSend ch s
  | .channelDataFrame n f => Sys2Proof.Machine.execChannelDataFrame n f s
  | .tokenSignalFrame n f => Sys2Proof.Machine.execTokenSignalFrame n f s
  | .creditFrame n f => Sys2Proof.Machine.execCreditFrame n f s
  | .rollupPeriodTick => Sys2Proof.Machine.execRollupPeriodTick s
  | .roundOpen n f => Sys2Proof.Machine.execRoundOpen n f s
  | .memberStatement n fs => Sys2Proof.Machine.execMemberStatement n fs s
  | .roundClose => Sys2Proof.Machine.execRoundClose s
  | .rollupRecord n fs => Sys2Proof.Machine.execRollupRecord n fs s
  | .rollupFetchReply n fs => Sys2Proof.Machine.execRollupFetchReply n fs s
  | .rdS tile stack line part => Sys2Proof.Machine.execRdS tile stack line part s
  | .rdM tile stack line part => Sys2Proof.Machine.execRdM tile stack line part s
  | .evict tile stack line => Sys2Proof.Machine.execEvict tile stack line s
  | .wb tile stack line part => Sys2Proof.Machine.execWb tile stack line part s
  | .snpInv tile stack line => Sys2Proof.Machine.execSnpInv tile stack line s
  | .snpFetch tile stack line => Sys2Proof.Machine.execSnpFetch tile stack line s
  | .ack sid data => Sys2Proof.Machine.execAck sid data s
  | .notPresent sid => Sys2Proof.Machine.execNotPresent sid s
  | .wnop c w => Sys2Proof.Machine.execWnop c w s
  | .mma c w => Sys2Proof.Machine.execMma c w s
  | .accrd c w => Sys2Proof.Machine.execAccrd c w s
  | .accwr c w => Sys2Proof.Machine.execAccwr c w s
  | .vadd c w => Sys2Proof.Machine.execVadd c w s
  | .vsub c w => Sys2Proof.Machine.execVsub c w s
  | .vmul c w => Sys2Proof.Machine.execVmul c w s
  | .vmax c w => Sys2Proof.Machine.execVmax c w s
  | .vmin c w => Sys2Proof.Machine.execVmin c w s
  | .vand c w => Sys2Proof.Machine.execVand c w s
  | .vor c w => Sys2Proof.Machine.execVor c w s
  | .vxor c w => Sys2Proof.Machine.execVxor c w s
  | .vshr c w => Sys2Proof.Machine.execVshr c w s
  | .vshl c w => Sys2Proof.Machine.execVshl c w s
  | .vcmpgt c w => Sys2Proof.Machine.execVcmpgt c w s
  | .vcmpeq c w => Sys2Proof.Machine.execVcmpeq c w s
  | .vsel c w => Sys2Proof.Machine.execVsel c w s
  | .wls c w => Sys2Proof.Machine.execWls c w s
  | .wss c w => Sys2Proof.Machine.execWss c w s
  | .xld c w => Sys2Proof.Machine.execXld c w s
  | .xldLineArrival c tag index upset => Sys2Proof.Machine.execXldLineArrival c tag index upset s
  | .xst c w => Sys2Proof.Machine.execXst c w s
  | .xstResponse c tag index upset => Sys2Proof.Machine.execXstResponse c tag index upset s
  | .snop c x => Sys2Proof.Machine.execSnop c x s
  | .add c o => Sys2Proof.Machine.execAdd c o s
  | .sub c o => Sys2Proof.Machine.execSub c o s
  | .mul c o => Sys2Proof.Machine.execMul c o s
  | .mulh c o => Sys2Proof.Machine.execMulh c o s
  | .and c o => Sys2Proof.Machine.execAnd c o s
  | .or c o => Sys2Proof.Machine.execOr c o s
  | .xor c o => Sys2Proof.Machine.execXor c o s
  | .shl c o => Sys2Proof.Machine.execShl c o s
  | .shr c o => Sys2Proof.Machine.execShr c o s
  | .sar c o => Sys2Proof.Machine.execSar c o s
  | .min c o => Sys2Proof.Machine.execMin c o s
  | .max c o => Sys2Proof.Machine.execMax c o s
  | .slt c o => Sys2Proof.Machine.execSlt c o s
  | .sltu c o => Sys2Proof.Machine.execSltu c o s
  | .seq c o => Sys2Proof.Machine.execSeq c o s
  | .ldi c o => Sys2Proof.Machine.execLdi c o s
  | .ldhi c o => Sys2Proof.Machine.execLdhi c o s
  | .lds c o => Sys2Proof.Machine.execLds c o s
  | .sts c o => Sys2Proof.Machine.execSts c o s
  | .mset c o => Sys2Proof.Machine.execMset c o s
  | .mget c o => Sys2Proof.Machine.execMget c o s
  | .csrr c o => Sys2Proof.Machine.execCsrr c o s
  | .cnop c o => Sys2Proof.Machine.execCnop c o s
  | .br c o => Sys2Proof.Machine.execBr c o s
  | .call c o => Sys2Proof.Machine.execCall c o s
  | .ret c o => Sys2Proof.Machine.execRet c o s
  | .jr c o => Sys2Proof.Machine.execJr c o s
  | .qtake c o => Sys2Proof.Machine.execQtake c o s
  | .qdone c o => Sys2Proof.Machine.execQdone c o s
  | .twait c o => Sys2Proof.Machine.execTwait c o s
  | .tsig c o => Sys2Proof.Machine.execTsig c o s
  | .ttry c o => Sys2Proof.Machine.execTtry c o s
  | .fence c o => Sys2Proof.Machine.execFence c o s
  | .xwait c o => Sys2Proof.Machine.execXwait c o s
  | .l2wb c o => Sys2Proof.Machine.execL2wb c o s
  | .deviceInfoGet e => Sys2Proof.Machine.execDeviceInfoGet e s
  | .deadletterRead e => Sys2Proof.Machine.execDeadletterRead e s
  | .faultLogRead e => Sys2Proof.Machine.execFaultLogRead e s
  | .recover e => Sys2Proof.Machine.execRecover e s
  | .powerPolicySet e => Sys2Proof.Machine.execPowerPolicySet e s
  | .powerPolicyGet e => Sys2Proof.Machine.execPowerPolicyGet e s
  | .mgmtNetSet e => Sys2Proof.Machine.execMgmtNetSet e s
  | .mgmtNetApply => Sys2Proof.Machine.execMgmtNetApply s
  | .mgmtNetGet e => Sys2Proof.Machine.execMgmtNetGet e s
  | .mgmtAlertAck e => Sys2Proof.Machine.execMgmtAlertAck e s
  | .wrapEstablish e => Sys2Proof.Machine.execWrapEstablish e s
  | .fuseSummaryGet e => Sys2Proof.Machine.execFuseSummaryGet e s
  | .fuseNonceGet e => Sys2Proof.Machine.execFuseNonceGet e s
  | .fuseAction e => Sys2Proof.Machine.execFuseAction e s
  | .keyInstall e => Sys2Proof.Machine.execKeyInstall e s
  | .keyReplace e => Sys2Proof.Machine.execKeyReplace e s
  | .keyDestroy e => Sys2Proof.Machine.execKeyDestroy e s
  | .keyAbandonPending e => Sys2Proof.Machine.execKeyAbandonPending e s
  | .keyInfo e => Sys2Proof.Machine.execKeyInfo e s
  | .keySealExport e => Sys2Proof.Machine.execKeySealExport e s
  | .keySealImport e => Sys2Proof.Machine.execKeySealImport e s
  | .partitionCreate e => Sys2Proof.Machine.execPartitionCreate e s
  | .partitionDestroy e => Sys2Proof.Machine.execPartitionDestroy e s
  | .partitionStatusGet e => Sys2Proof.Machine.execPartitionStatusGet e s
  | .partitionGrant e => Sys2Proof.Machine.execPartitionGrant e s
  | .partitionRevoke e => Sys2Proof.Machine.execPartitionRevoke e s
  | .partitionModeSet e => Sys2Proof.Machine.execPartitionModeSet e s
  | .partitionStart e => Sys2Proof.Machine.execPartitionStart e s
  | .partitionStop e => Sys2Proof.Machine.execPartitionStop e s
  | .contextCreate e => Sys2Proof.Machine.execContextCreate e s
  | .contextDestroy e => Sys2Proof.Machine.execContextDestroy e s
  | .contextSwitch e => Sys2Proof.Machine.execContextSwitch e s
  | .arbitrationSet e => Sys2Proof.Machine.execArbitrationSet e s
  | .epochCommit e => Sys2Proof.Machine.execEpochCommit e s
  | .epochRollback e => Sys2Proof.Machine.execEpochRollback e s
  | .epochStatusGet e => Sys2Proof.Machine.execEpochStatusGet e s
  | .programBind e => Sys2Proof.Machine.execProgramBind e s
  | .programUnbind e => Sys2Proof.Machine.execProgramUnbind e s
  | .parcelPolicySet e => Sys2Proof.Machine.execParcelPolicySet e s
  | .parcelAdmit e => Sys2Proof.Machine.execParcelAdmit e s
  | .parcelStatusGet e => Sys2Proof.Machine.execParcelStatusGet e s
  | .parcelEvict e => Sys2Proof.Machine.execParcelEvict e s
  | .parcelPin e => Sys2Proof.Machine.execParcelPin e s
  | .parcelUnbind e => Sys2Proof.Machine.execParcelUnbind e s
  | .circleCreate e => Sys2Proof.Machine.execCircleCreate e s
  | .circleJoin e => Sys2Proof.Machine.execCircleJoin e s
  | .circleLeave e => Sys2Proof.Machine.execCircleLeave e s
  | .circleStatusGet e => Sys2Proof.Machine.execCircleStatusGet e s
  | .reportGet e => Sys2Proof.Machine.execReportGet e s
  | .reportRead e => Sys2Proof.Machine.execReportRead e s
  | .certChainGet e => Sys2Proof.Machine.execCertChainGet e s
  | .identityCsrGet e => Sys2Proof.Machine.execIdentityCsrGet e s
  | .identityCertSet e => Sys2Proof.Machine.execIdentityCertSet e s
  | .tenantBind e => Sys2Proof.Machine.execTenantBind e s
  | .postcardGet e => Sys2Proof.Machine.execPostcardGet e s
  | .heartbeatGet e => Sys2Proof.Machine.execHeartbeatGet e s
  | .postmarkLogRead e => Sys2Proof.Machine.execPostmarkLogRead e s
  | .rollupStart e => Sys2Proof.Machine.execRollupStart e s
  | .rollupGet e => Sys2Proof.Machine.execRollupGet e s
  | .updateBegin e => Sys2Proof.Machine.execUpdateBegin e s
  | .updateWrite e => Sys2Proof.Machine.execUpdateWrite e s
  | .updateFinish e => Sys2Proof.Machine.execUpdateFinish e s
  | .updateActivate e => Sys2Proof.Machine.execUpdateActivate e s
  | .updateCommit e => Sys2Proof.Machine.execUpdateCommit e s
  | .updateRollback e => Sys2Proof.Machine.execUpdateRollback e s
  | .updateDiscard e => Sys2Proof.Machine.execUpdateDiscard e s
  | .updateStatusGet e => Sys2Proof.Machine.execUpdateStatusGet e s
  | .counterReanchor e => Sys2Proof.Machine.execCounterReanchor e s
  | .thermalPlanSet e => Sys2Proof.Machine.execThermalPlanSet e s
  | .coolantReport e => Sys2Proof.Machine.execCoolantReport e s
  | .carouselSet e => Sys2Proof.Machine.execCarouselSet e s
  | .thermalStatusGet e => Sys2Proof.Machine.execThermalStatusGet e s
  | .throttleSet e => Sys2Proof.Machine.execThrottleSet e s
  | .twinBondSet e => Sys2Proof.Machine.execTwinBondSet e s
  | .twinBondClear e => Sys2Proof.Machine.execTwinBondClear e s
  | .twinStatusGet e => Sys2Proof.Machine.execTwinStatusGet e s
  | .twinShadowRead e => Sys2Proof.Machine.execTwinShadowRead e s
  | .twinLogRead e => Sys2Proof.Machine.execTwinLogRead e s
  | .twinSwitchover e => Sys2Proof.Machine.execTwinSwitchover e s
  | .pairConfirm e => Sys2Proof.Machine.execPairConfirm e s
  | .reconcile e => Sys2Proof.Machine.execReconcile e s
  | .switchoverOffer e => Sys2Proof.Machine.execSwitchoverOffer e s
  | .leave e => Sys2Proof.Machine.execLeave e s
  | .caravanJoinSet e => Sys2Proof.Machine.execCaravanJoinSet e s
  | .caravanLeave e => Sys2Proof.Machine.execCaravanLeave e s
  | .caravanStatusGet e => Sys2Proof.Machine.execCaravanStatusGet e s
  | .channelSet e => Sys2Proof.Machine.execChannelSet e s
  | .channelClear e => Sys2Proof.Machine.execChannelClear e s
  | .routeTableRead e => Sys2Proof.Machine.execRouteTableRead e s
  | .caravanLogRead e => Sys2Proof.Machine.execCaravanLogRead e s
  | .scrubStatusGet e => Sys2Proof.Machine.execScrubStatusGet e s
  | .scrubLogRead e => Sys2Proof.Machine.execScrubLogRead e s
  | .upkeepSet e => Sys2Proof.Machine.execUpkeepSet e s
  | .debugStateSet e => Sys2Proof.Machine.execDebugStateSet e s
  | .debugHalt e => Sys2Proof.Machine.execDebugHalt e s
  | .debugResume e => Sys2Proof.Machine.execDebugResume e s
  | .debugRead e => Sys2Proof.Machine.execDebugRead e s
  | .debugWrite e => Sys2Proof.Machine.execDebugWrite e s
  | .debugFaultPolicy e => Sys2Proof.Machine.execDebugFaultPolicy e s
  | .debugTraceSet e => Sys2Proof.Machine.execDebugTraceSet e s
  | .periodSet e => Sys2Proof.Machine.execPeriodSet e s
  | .periodStatusGet e => Sys2Proof.Machine.execPeriodStatusGet e s
  | .tokenSignal e => Sys2Proof.Machine.execTokenSignal e s
  | .tokenStatusGet e => Sys2Proof.Machine.execTokenStatusGet e s
  | .tokenImportSet e => Sys2Proof.Machine.execTokenImportSet e s
  | .tokenPageSet e => Sys2Proof.Machine.execTokenPageSet e s
  | .getVersion m => Sys2Proof.Machine.execGetVersion m s
  | .getCapabilities m => Sys2Proof.Machine.execGetCapabilities m s
  | .negotiateAlgorithms m => Sys2Proof.Machine.execNegotiateAlgorithms m s
  | .getDigests m => Sys2Proof.Machine.execGetDigests m s
  | .getCertificate m => Sys2Proof.Machine.execGetCertificate m s
  | .challenge m => Sys2Proof.Machine.execChallenge m s
  | .getMeasurements m => Sys2Proof.Machine.execGetMeasurements m s
  | .keyExchange m => Sys2Proof.Machine.execKeyExchange m s
  | .finish m leaf => Sys2Proof.Machine.execFinish m leaf s
  | .heartbeat m => Sys2Proof.Machine.execHeartbeat m s
  | .keyUpdate m => Sys2Proof.Machine.execKeyUpdate m s
  | .endSession m => Sys2Proof.Machine.execEndSession m s
  | .chunkSend m => Sys2Proof.Machine.execChunkSend m s
  | .chunkGet m => Sys2Proof.Machine.execChunkGet m s
  | .spdmUnsupportedRequest m => Sys2Proof.Machine.execSpdmUnsupportedRequest m s
  | .setEndpointId op eid => Sys2Proof.Machine.execSetEndpointId op eid s
  | .getEndpointId => Sys2Proof.Machine.execGetEndpointId s
  | .getEndpointUuid => Sys2Proof.Machine.execGetEndpointUuid s
  | .getMctpVersionSupport mtype => Sys2Proof.Machine.execGetMctpVersionSupport mtype s
  | .getMessageTypeSupport => Sys2Proof.Machine.execGetMessageTypeSupport s
  | .setdasa addr => Sys2Proof.Machine.execSetdasa addr s
  | .entdaa addr => Sys2Proof.Machine.execEntdaa addr s
  | .getTid => Sys2Proof.Machine.execGetTid s
  | .setTid tid => Sys2Proof.Machine.execSetTid tid s
  | .getPldmVersion ptype => Sys2Proof.Machine.execGetPldmVersion ptype s
  | .getPldmTypes => Sys2Proof.Machine.execGetPldmTypes s
  | .getPldmCommands ptype => Sys2Proof.Machine.execGetPldmCommands ptype s
  | .getPdrRepositoryInfo => Sys2Proof.Machine.execGetPdrRepositoryInfo s
  | .getPdr handle => Sys2Proof.Machine.execGetPdr handle s
  | .getSensorReading id => Sys2Proof.Machine.execGetSensorReading id s
  | .getStateSensorReadings id => Sys2Proof.Machine.execGetStateSensorReadings id s
  | .neighborSolicitation src target => Sys2Proof.Machine.execNeighborSolicitation src target s
  | .routerAdvertisement src prefixes => Sys2Proof.Machine.execRouterAdvertisement src prefixes s
  | .echoRequest src dst data => Sys2Proof.Machine.execEchoRequest src dst data s
  | .reassemblyTimeout => Sys2Proof.Machine.execReassemblyTimeout s
  | .mgmtDiscard why => Sys2Proof.Machine.execMgmtDiscard why s
  | .vddAonRise crcOk => Sys2Proof.Machine.execVddAonRise crcOk s
  | .xt32CrystalStart => Sys2Proof.Machine.execXt32CrystalStart s
  | .tamperNLow => Sys2Proof.Machine.execTamperNLow s
  | .fuseProgramDone bad => Sys2Proof.Machine.execFuseProgramDone bad s
  | .flashJobDone ok => Sys2Proof.Machine.execFlashJobDone ok s
  | .dadComplete ip dup => Sys2Proof.Machine.execDadComplete ip dup s
  | .turnstileBackInService t => Sys2Proof.Machine.execTurnstileBackInService t s

end Sys2Proof.Machine
end

