-- ==== Sys2Proof/Machine/Step.lean ====
section
/-! DEFINITION. The step: the command at the front of the queue, or on an empty queue one tick of the always-on
timebase. -/

namespace Sys2Proof.Machine

/-- One XT32 tick: the 48-bit tick counter of R69 while VDD_AON is in tolerance. DESIGN CHOICE (log 2): it is what the
block does while no command waits. -/
def State.idle (s : State) : State :=
  if s.aon.vddAon then { s with aon := { s.aon with tick := s.aon.tick + 1 } } else s

/-- The state with the command that a table word spells at the front of its queue; unchanged where the word spells
none, which is every word (see `decodeTableWord`). -/
def State.withFetchWord (s : State) (nbits w : Nat) : State :=
  match decodeTableWord nbits w with
  | some c => { s with pending := c :: s.pending }
  | none => s

/-- One step. -/
def step (s : State) : Host.Outcome State Fault Refusal :=
  match s.pending with
  | [] => .next s.idle
  | c :: rest => exec c { s with pending := rest }

end Sys2Proof.Machine
end

