-- ==== Sys2Proof/Safety.lean ====
section
/-! DEFINITION. What a safe run means, and the terms frames are said in: the pieces of the state, and which of them a
command leaves alone. -/

namespace Sys2Proof

/-- A step that answers a next state. -/
def Safe (s : Machine.State) : Prop := ∃ t, Machine.step s = .next t

/-- The pieces of the block's state. `gens` are the device generation and the view generations of R338, which the end of
every command counts; `att` is the rest of the attestation state. -/
inductive Piece where
  | aon | power | boot | fuses | vault | eng | parts | mem | cores | q | desk | scrub | att | gens | therm | twin | port | car
  | flash | mgmt | mail | tele | out | free
  deriving DecidableEq, Repr

/-- A piece is the same in two states. -/
def Same (s t : Machine.State) : Piece → Prop
  | .aon => t.aon = s.aon
  | .power => t.power = s.power
  | .boot => t.boot = s.boot
  | .fuses => t.fuses = s.fuses
  | .vault => t.vault = s.vault
  | .eng => t.eng = s.eng
  | .parts => t.parts = s.parts
  | .mem => t.mem = s.mem
  | .cores => t.cores = s.cores
  | .q => t.q = s.q
  | .desk => t.desk = s.desk
  | .scrub => t.scrub = s.scrub
  | .att => { t.att with gen := 0, views := [] } = { s.att with gen := 0, views := [] }
  | .gens => t.att.gen = s.att.gen ∧ t.att.views = s.att.views
  | .therm => t.therm = s.therm
  | .twin => t.twin = s.twin
  | .port => t.port = s.port
  | .car => t.car = s.car
  | .flash => t.flash = s.flash
  | .mgmt => t.mgmt = s.mgmt
  | .mail => t.mail = s.mail
  | .tele => t.tele = s.tele
  | .out => t.out = s.out
  | .free => t.free = s.free

/-- The command answers a next state, of which `P` holds. -/
def Runs (i : Instr) (s : Machine.State) (P : Machine.State → Prop) : Prop := ∃ t, Machine.exec i s = .next t ∧ P t

/-- Every piece but those listed is the same, and so is the queue. -/
def Keeps (changed : List Piece) (s t : Machine.State) : Prop :=
  t.pending = s.pending ∧ ∀ p, p ∉ changed → Same s t p

/-- Every piece but those listed and the generations is the same: what a command that changes those pieces leaves. -/
def Touches (changed : List Piece) (s t : Machine.State) : Prop := Keeps (.gens :: changed) s t

end Sys2Proof
end

