-- ==== Sys2Proof/WellFormed.lean ====
section
/-! DEFINITION. Which commands a sender of the block can send. Most operands fill their types; these are the checks
that remain: numbers of units that fewer exist of than the operand's width counts, fields that are
one-hot in fewer bits, and a write's length. An envelope, a frame, a message or the text of an engine operation may hold
anything: chapters 07, 08, 10 and 15 say what the block answers. -/

namespace Sys2Proof

/-- Table 17-1: 24 hub sensors. -/
def SensorId.wf : SensorId → Bool
  | .core _ => true
  | .hub n => decide (n.toNat < 24)
  | .stack _ => true

/-- Table 06-2: CALLER has seven bits and WORLD three. -/
def Use.wf (u : Use) : Bool := decide (u.caller.toNat < 7) && decide (u.world.toNat < 3)

/-- A write brings as many bytes as its length says; a slot is an owner's, a shared one or the hub's (R24). -/
def MemReq.wf (r : MemReq) : Bool :=
  (match r.write with | none => true | some b => decide (b.length = r.lenM1.toNat + 1)) && decide (r.slot.toNat < 3)

/-- Table 07-1: six digest engines, DE_0 to DE_5. -/
def engineNumber (n : BitVec 3) : Bool := decide (n.toNat < 6)

/-- Table 07-5: a result register is a digest engine's. -/
def ResultRoute.wf : ResultRoute → Bool
  | .compareResult n => engineNumber n
  | .compareSram _ | .compareBank _ _ | .slot _ _ | .wkr | .keybus _ _ | .postmark _ | .pkeDigest | .read _ => true

/-- The engine a parity fault names. -/
def EngineId.wf : EngineId → Bool
  | .de n => engineNumber n
  | .se | .pke | .drbg => true

/-- A prefix is no longer than an address. -/
def RaPrefix.wf (p : RaPrefix) : Bool := decide (p.len.toNat ≤ 128)

/-- The commands that some sender can send. -/
def Instr.wf : Instr → Bool
  | .internalResetRelease _ b => decide (b.milestone.toNat ≤ 5)
  | .bootRestart b => decide (b.milestone.toNat ≤ 5)
  | .domainReady pd _ => decide (pd.toNat < 22)
  | .sensorSample id _ _ => id.wf
  | .registerWrite _ _ _ n => decide (1 ≤ n.toNat) && decide (n.toNat ≤ 8)
  | .memoryRequest r => r.wf
  | .engineParity e _ => e.wf
  | .deStart n _ => engineNumber n
  | .deData n _ => engineNumber n
  | .deFinish n => engineNumber n
  | .deRoute n r => engineNumber n && r.wf
  | .deAbort n => engineNumber n
  | .wkrLoad u _ => u.wf
  | .seGcm op => match op.use with | some u => u.wf | none => true
  | .ecdsaSign u _ => u.wf
  | .ecdh u _ => u.wf
  | .mldsaSign u _ c => u.wf && decide (c.length ≤ 255)
  | .mlkemDecaps u _ => u.wf
  | .scrubComplete t _ _ _ => decide (1 ≤ t.toNat) && decide (t.toNat ≤ 3)
  | .sessionTimeout n => decide (n.toNat < 12)
  | .routerAdvertisement _ ps => ps.all RaPrefix.wf
  | _ => true

end Sys2Proof
end

