-- ==== Sys2Proof/Certificates/Slice0/Obligations.lean ====
section
/-! DEFINITION. The statements for the provers: what the machine does as a whole, what each family of commands does, and
what it leaves alone. `Runs i s P` says that the command i answers a next state in s, of which P holds; `Touches ps s t`
that no piece of the state but those listed changes, the generations of R338 apart. -/

open Sys2Proof Sys2Proof.Machine

/-! ### The whole machine -/

/-- Every command answers a next state in every state: no command is refused and none stops the block. The queue is the
one the command was handed. -/
def Says.everyCommandAnswers : Prop :=
  ∀ (i : Instr) (s : State), ∃ t, exec i s = .next t ∧ t.pending = s.pending

/-- The step with a command at the front of the queue is that command on the rest of the queue. -/
def Obligations.StepTakesTheFront : Prop :=
  ∀ (c : Instr) (rest : List Instr) (s : State), s.pending = c :: rest →
    step s = exec c { s with pending := rest } ∧ ∃ t, step s = .next t ∧ t.pending = rest

/-- The step on an empty queue counts one tick of XT32 while VDD_AON is in tolerance, and nothing else (the model's choice
of when the counter of R69 counts: log 2). -/
def Says.emptyQueueTicks : Prop :=
  ∀ s : State, s.pending = [] →
    (s.aon.vddAon = true → step s = .next { s with aon := { s.aon with tick := s.aon.tick + 1 } }) ∧
    (s.aon.vddAon = false → step s = .next s)

/-- Every command answers in every state, and the step on an empty queue counts a tick (log 2). -/
def Obligations.EveryStepAnswers : Prop :=
  Says.everyCommandAnswers ∧ Says.emptyQueueTicks

/-! ### Envelopes -/

/-- An envelope that the checks before the opcode's own let through in state t is answered by r, its opcode's result in t.
`conclude` replies at once, or keeps the envelope where it waits for an event. -/
def Says.served (i : Instr) (sp : OpSpec) (e : Env) (s t : State) (r : State × Ans) : Prop :=
  ∀ q, gate sp e s = .open_ t q → exec i s = .next (after s (conclude sp e q r))

/-- The order of the checks on the host rings (Tables 08-4 and 08-10): a form fault is MALFORMED, a device that is not ready
answers RETRY_AFTER, a caller outside its path, world or partition REFUSED, an outcome that does not accept the group STATE;
the first of these that fails decides the reply, and with none of them an unfranked envelope of a caller without a budget
reaches its opcode. -/
def Says.checksInOrder : Prop :=
  ∀ (sp : OpSpec) (e : Env) (s : State), serves s = true → domOf s 1 = .on → (e.path = .pf ∨ ∃ n, e.path = .vf n) →
    (∀ k d, formFault s sp e = some (k, d) →
      gate sp e s = .shut (reply e sp.op { status := 3, detail := d, check := k } none s)) ∧
    (formFault s sp e = none → deviceBusy s = true → ∃ ms : BitVec 32, 1 ≤ ms.toNat ∧
      gate sp e s = .shut (reply e sp.op { status := 2, detail := ms, check := 3 } none { s with free := s.free + 1 })) ∧
    (formFault s sp e = none → deviceBusy s = false → authorised s sp e = false →
      gate sp e s = .shut (reply e sp.op { status := 1, detail := 0, check := 4 } none s)) ∧
    (formFault s sp e = none → deviceBusy s = false → authorised s sp e = true → outcomeAccepts s (callerOf e.path) sp.op = false →
      gate sp e s = .shut (reply e sp.op { status := 10, detail := 0, check := 5 } none s)) ∧
    (formFault s sp e = none → deviceBusy s = false → authorised s sp e = true → outcomeAccepts s (callerOf e.path) sp.op = true →
      budgetParts s e = [] → isFranked e = false → sp.own = false →
      (sp.owned = false ∨ s.fuses.shadow.code = 7 → gate sp e s = .open_ s none) ∧
      (sp.owned = true → s.fuses.shadow.code ≠ 7 → gate sp e s = .shut
        (reply e sp.op { status := 10, detail := s.fuses.shadow.code.zeroExtend 32 } none s)))

/-- Franking (R183): an envelope whose BOOT_NONCE or counter is not current is STALE with the last counter in DETAIL, and
records nothing; a current one is recorded before the opcode runs. -/
def Says.frankingIsChecked : Prop :=
  ∀ (sp : OpSpec) (e : Env) (s : State), serves s = true → domOf s 1 = .on → e.path = .pf → formFault s sp e = none →
    deviceBusy s = false → authorised s sp e = true → outcomeAccepts s .pf sp.op = true → isFranked e = true → sp.own = false →
    sp.owned = false → sp.op ≠ 0x101 →
    let last := lastCounter s (.slot e.cred.toNat)
    (e.bootNonce = s.boot.bn → last.toNat < e.franking.toNat →
      let t := recordCounter (.slot e.cred.toNat) e.franking s
      gate sp e s = .open_ t (some t.twin.mseqOut) ∧ ownCounter t (.slot e.cred.toNat) = e.franking) ∧
    (¬ (e.bootNonce = s.boot.bn ∧ last.toNat < e.franking.toNat) → gate sp e s =
      .shut (reply e sp.op { status := 4, detail := last.truncate 32, check := 6 } none s))

/-- The checks before an opcode's own, in their order, and the franking check among them. -/
def Obligations.EnvelopeChecks : Prop :=
  Says.checksInOrder ∧ Says.frankingIsChecked

/-- The reply to an envelope of a host ring (R194): DONE counts, OUTSTANDING falls, the reply is written and the ring's
vector signalled; a REFUSED reply is held for the mailbox timer (R189), one of a Confidential partition for the grid
(R188); REFUSED, MALFORMED, STALE and INTEGRITY leave a dead letter (R200), other statuses none. -/
def Says.repliesOnRings : Prop :=
  ∀ (e : Env) (op : Nat) (a : Ans) (s : State) (f : Fn), e.path = pathFn f → e.replyFails = false → s.mail.lost = [] →
    (a.status = 0 ∨ a.status = 10 ∨ a.status = 2 ∨ a.status = 5 ∨ a.status = 6 ∨ a.status = 7 →
      gridPart s e = false → (mgetD (fnRegs s f).msix (fnRegs s f).env.vector.toNat msixReset).getLsbD 96 = false →
      let t := reply e op a none s
      t.mail = s.mail ∧ (fnRegs t f).env.done = (fnRegs s f).env.done + 1 ∧
      (fnRegs t f).env.outstanding = (if (fnRegs s f).env.outstanding = 0 then 0 else (fnRegs s f).env.outstanding - 1) ∧
      t.out = .msix f (fnRegs s f).env.vector.toNat :: .reply
        { env := e, op := BitVec.ofNat 16 op, status := BitVec.ofNat 16 a.status, detail := a.detail,
          payload := if a.status = 0 then a.payload else [] } :: s.out) ∧
    (a.status = 1 → let t := reply e op a none s
      t.out = s.out ∧ t.q = s.q ∧ t.mail.dead ≠ [] ∧ ∃ h, t.mail.held = s.mail.held ++ [h] ∧ h.why = .refused ∧
        h.reply.env = e ∧ h.reply.status = 1) ∧
    (a.status = 0 → gridPart s e = true → let t := reply e op a none s
      t.out = s.out ∧ t.mail.dead = s.mail.dead ∧ ∃ h, t.mail.held = s.mail.held ++ [h] ∧ h.why = .grid ∧ h.reply.env = e)

/-! ### Lands, resets and clocks -/

/-- What a reset of the device leaves (R49, R50): every domain but PD0 at its reset values with the fuse cells, the shadow
and the flash contents kept, retention kept but for the cause, the tick counter running on. -/
def Says.resetBy (cause : ResetCause) (due : Bool) (s t : State) : Prop :=
  t.boot = Boot.reset ∧ t.power = Power.reset ∧ t.vault = Vault.reset ∧ t.eng = Engines.reset ∧ t.parts = Parts.reset ∧
  t.mem = Mem.reset ∧ t.cores = [] ∧ t.q = Queues.reset ∧ t.desk = Desk.reset ∧ t.scrub = Scrub.reset ∧
  t.att = Attest.reset ∧ t.therm = Thermal.reset ∧ t.twin = Twin.reset ∧ t.port = TwinPort.reset ∧ t.car = Caravan.reset ∧
  t.mgmt = Mgmt.reset ∧ t.mail = Mail.reset ∧ t.tele = Tele.reset ∧ t.aon.ret = { s.aon.ret with cause := cause } ∧
  t.aon.tick = s.aon.tick ∧ t.aon.frames = s.aon.frames ∧ t.aon.releaseDue = due ∧ t.aon.fusePwrEn = false ∧
  t.fuses.shadow = s.fuses.shadow ∧ t.fuses.op = none ∧ (s.fuses.op = none → t.fuses.cells = s.fuses.cells) ∧
  t.flash.bankA = s.flash.bankA ∧ t.flash.bankB = s.flash.bankB ∧ t.flash.sectors = s.flash.sectors ∧
  t.flash.blocks = s.flash.blocks ∧ t.flash.jobs = []

/-- PWR_OK, SYS_RST_N and the rails reset the device, each with its cause recorded (R49, R50); SYS_RST_N has no effect of
its own while PWR_OK is low, and VDD_FUSE has no threshold. -/
def Says.landsResetTheDevice : Prop :=
  ∀ s : State, s.aon.vddAon = true →
    (s.aon.pwrOk = true → Runs .pwrOkFall s fun t =>
      Says.resetBy .pwrOk false s t ∧ t.aon.pwrOk = false ∧ t.aon.thermTripLow = false ∧ t.aon.sysRstN = s.aon.sysRstN) ∧
    (s.aon.sysRstN = true → s.aon.pwrOk = true → Runs .sysRstNLow s fun t =>
      Says.resetBy .sysRstN false s t ∧ t.aon.sysRstN = false ∧ t.aon.pwrOk = true) ∧
    (s.aon.sysRstN = true → s.aon.pwrOk = false → Runs .sysRstNLow s fun t =>
      Touches [.aon] s t ∧ t.aon = { s.aon with sysRstN := false }) ∧
    (∀ r, r ≠ .fuse → Runs (.brownout r) s fun t =>
      Says.resetBy (.rail r) false s t ∧ t.aon.pwrOk = s.aon.pwrOk ∧ t.aon.vddAon = decide (r ≠ .aon)) ∧
    Runs (.brownout .fuse) s fun t => Keeps [] s t

/-- Rising lands schedule the release of internal reset (R47); PWR_OK clears the trip latch (R57). -/
def Says.landsScheduleTheRelease : Prop :=
  ∀ s : State, s.aon.vddAon = true → s.aon.tamperHold = false →
    (s.aon.pwrOk = false → Runs .pwrOkRise s fun t => Touches [.aon] s t ∧
      t.aon = { s.aon with pwrOk := true, releaseDue := s.aon.sysRstN, thermTripLow := false, tamperCycled := false,
                           ret := { s.aon.ret with tripLatch := false, tripCause := 0 } }) ∧
    (s.aon.sysRstN = false → Runs .sysRstNRise s fun t => Touches [.aon] s t ∧
      t.aon = { s.aon with sysRstN := true, releaseDue := s.aon.pwrOk })

/-- The lands and rails: what falls resets the device, what rises schedules its release. -/
def Obligations.LandsAndResets : Prop :=
  Says.landsResetTheDevice ∧ Says.landsScheduleTheRelease

/-- The release of internal reset: with TEST_SEL at 0 a boot begins with the boot-restart register counted and the root
locked; another TEST_SEL enters its test mode under a BLANK or TEST life-cycle code and is a fault, with THERMTRIP_N low,
under any other (R35, R36, R47). -/
def Obligations.ReleaseBeginsTheBoot : Prop :=
  ∀ (sense : SenseEnv) (b : BootEnv) (s : State),
    s.aon.vddAon = true → s.aon.releaseDue = true → s.aon.tamperHold = false → s.boot.phase = .held →
    (sense.testSel = 0 → Runs (.internalResetRelease sense b) s fun t =>
      t.boot.phase ≠ .held ∧ t.boot.attempts = (if s.boot.attempts = 15 then 15 else s.boot.attempts + 1) ∧
      t.fuses.rootLock = true ∧ t.fuses.cells = s.fuses.cells ∧ t.aon.releaseDue = false ∧
      (b.romOk = false → t.boot.phase = .done ∧ t.boot.outcome = .haltedRom)) ∧
    (sense.testSel ≠ 0 → Runs (.internalResetRelease sense b) s fun t =>
      let f := decodeShadow (senseAll sense s.fuses.cells)
      let open_ := f.undecodable = false ∧ (f.code = 0 ∨ f.code = 1)
      Touches [.aon, .boot, .fuses] s t ∧ t.fuses.shadow = f ∧ t.aon.testSel = sense.testSel ∧
      (open_ → t.boot = { s.boot with phase := .testMode sense.testSel } ∧ t.fuses.rootLock = true ∧
        t.aon.ret = { s.aon.ret with testMode := sense.testSel }) ∧
      (¬ open_ → t.boot = { s.boot with phase := .selFault } ∧ t.aon.thermTripLow = true ∧
        t.aon.ret = { s.aon.ret with testSelFault := true }))

/-- The tamper response (R75): each assertion is recorded with its tick; with its fuse blown the vault's keys are zeroed
and the device is held in reset until TAMPER_N has read low and a land has cycled; without it the alert is raised. -/
def Says.tamperIsRecorded : Prop :=
  ∀ s : State, s.aon.vddAon = true →
    (s.fuses.shadow.tamperResp = true → Runs .tamper s fun t =>
      t.vault = Vault.reset ∧ t.boot = Boot.reset ∧ t.cores = [] ∧ t.mem = Mem.reset ∧ t.aon.tamperHold = true ∧
      t.aon.tamperLow1s = false ∧ t.aon.ret.cause = .tamper ∧ t.aon.ret.tamperTicks = s.aon.tick :: s.aon.ret.tamperTicks) ∧
    (s.fuses.shadow.tamperResp = false → (s.boot.phase = .held ∨ s.boot.phase = .selFault) → Runs .tamper s fun t =>
      Touches [.aon] s t ∧ t.aon = { s.aon with ret := { s.aon.ret with
        tamperTicks := s.aon.tick :: s.aon.ret.tamperTicks, tamperCount := satInc s.aon.ret.tamperCount } }) ∧
    (s.fuses.shadow.tamperResp = false → s.boot.phase ≠ .held → s.boot.phase ≠ .selFault → Runs .tamper s fun t =>
      Touches [.aon, .mgmt, .q, .out] s t ∧ t.aon.ret.tamperCount = satInc s.aon.ret.tamperCount ∧
      t.mgmt = { s.mgmt with alert := s.mgmt.alert ||| 0x40#8 } ∧ t.aon.alertLow = true) ∧
    (s.aon.tamperHold = true → s.aon.tamperCycled = true → Runs .tamperNLow s fun t => Touches [.aon] s t ∧
      t.aon = { s.aon with tamperLow1s := true, tamperHold := false })

/-- The fuse supply, the crystal, HOSC and VDD_AON (R43, R44, R68, R70, R76). -/
def Says.suppliesAndClocks : Prop :=
  ∀ s : State,
    (s.aon.vddAon = true → s.aon.fusePwrEn = false → Runs .vddFuseUnexpected s fun t => Touches [.aon] s t ∧
      t.aon = { s.aon with ret := { s.aon.ret with fuseUnexp := min 255 (s.aon.ret.fuseUnexp + 1) } }) ∧
    (∀ o, s.fuses.op = some o → s.aon.fusePwrEn = true → o.ready = false → Runs .vddFuseReady s fun t =>
      Touches [.aon, .fuses] s t ∧ t.fuses = { s.fuses with op := some { o with ready := true } } ∧
      t.aon = { s.aon with vddFuse := true }) ∧
    (s.aon.crystal = true → Runs .xt32Lost s fun t => Touches [.aon] s t ∧
      t.aon = { s.aon with crystal := false, ret := { s.aon.ret with xt32Lost := true } }) ∧
    (s.aon.vddAon = true → s.aon.crystalTried = false → s.aon.frames ≤ 20 → Runs .xt32CrystalStart s fun t =>
      Touches [.aon] s t ∧ t.aon = { s.aon with crystal := true, crystalTried := true }) ∧
    (∀ ppm : BitVec 16, s.aon.vddAon = true → domOf s 1 = .on → Runs (.hoscDiscipline ppm) s fun t => Touches [.aon] s t ∧
      t.aon = { s.aon with hoscPpm := t.aon.hoscPpm } ∧ -20 ≤ t.aon.hoscPpm ∧ t.aon.hoscPpm ≤ 20 ∧
      (-20 ≤ ppm.toInt → ppm.toInt ≤ 20 → t.aon.hoscPpm = ppm.toInt)) ∧
    (s.aon.vddAon = false → Runs (.vddAonRise true) s fun t =>
      t.aon = { Aon.reset with vddAon := true, tick := s.aon.tick, ret := s.aon.ret }) ∧
    (s.aon.vddAon = false → Runs (.vddAonRise false) s fun t =>
      t.aon = { Aon.reset with vddAon := true, ret := { Retention.reset with cold := true, tamperCount := 0xFFFF } })

/-- The tamper response, the fuse supply and the always-on clocks. -/
def Obligations.TamperAndSupplies : Prop :=
  Says.tamperIsRecorded ∧ Says.suppliesAndClocks

/-! ### Power domains, the host link, boot restarts and flash jobs -/

/-- PERST_N low takes the host link down: every function's registers reset and the copies given up (R51); high, or PD3
ready with PERST_N high, trains it (R52); a configuration request gets Retry Status until the boot ends (R96), and NumVFs
enables the VFs of the part (Table 24-1). -/
def Obligations.TheHostLink : Prop :=
  ∀ s : State,
    (s.aon.perstN = true → s.aon.pwrOk = true → s.aon.sysRstN = true → domOf s 3 = .on → Runs .perstNLow s fun t =>
      t.aon = { s.aon with perstN := false } ∧ t.power = { s.power with pcie := false } ∧ t.q.regs = [] ∧
      t.q.events = Events.reset ∧ t.q.outs = [] ∧ t.q.tokens = s.q.tokens ∧ t.parts.vfEnable = 0 ∧
      t.cores = s.cores ∧ t.mem = s.mem ∧ t.vault = s.vault ∧ t.fuses = s.fuses) ∧
    (domOf s 3 = .on → Runs .perstNRise s fun t => Touches [.aon, .power] s t ∧
      t.aon = { s.aon with perstN := true } ∧ t.power = { s.power with pcie := true }) ∧
    (domOf s 3 ≠ .on → s.boot.phase ≠ .held → s.boot.phase ≠ .selFault → Runs .pd3Ready s fun t =>
      Touches [.power] s t ∧ domOf t 3 = .on ∧ t.power.pcie = s.aon.perstN) ∧
    (∀ fn n, s.power.pcie = true → s.boot.retryUntilReady = true → Runs (.configRequest fn n) s fun t =>
      Touches [.out] s t ∧ t.out = .retryStatus fn :: s.out) ∧
    (∀ fn n, s.power.pcie = true → s.boot.retryUntilReady = false → Runs (.configRequest fn n) s fun t =>
      Touches [.parts, .out] s t ∧ t.out = .configDone fn :: s.out ∧
      t.parts = { s.parts with vfEnable := t.parts.vfEnable } ∧
      (n = none ∨ fn ≠ .pf → t.parts.vfEnable = s.parts.vfEnable) ∧
      (∀ k : BitVec 8, fn = .pf → n = some k → hostReady s = true → k.toNat ≤ nParts s →
        ∀ i, i < 128 → t.parts.vfEnable.getLsbD i = decide (i < k.toNat)))

/-- Domains that fall idle power down (R60, R62, R63): a tile loses its cores' registers, local stores and L2 lines and
keeps their window descriptors, queues and program records (Table 03-3). -/
def Says.idleDomainsPowerDown : Prop :=
  ∀ s : State, hostReady s = true →
    (domOf s 1 = .on → pd1Busy s = false → Runs .pd1Sleep s fun t => Touches [.power] s t ∧ domOf t 1 = .off) ∧
    (∀ k : BitVec 3, domOf s (6 + k.toNat) = .on → s.power.policy.tileOn.getLsbD k.toNat = false →
      tileConf s k.toNat = false → tileScrub s k.toNat = false → (s.power.reload.any fun c => c.toNat / 16 == k.toNat) = false →
      (∀ c, c / 16 = k.toNat → (core s c).st = .unassigned ∨ (core s c).st = .stopped ∨ (core s c).st = .gated ∨
        (core s c).st = .haltedFault) →
      Runs (.tileIdlePowerDown k) s fun t => Touches [.power, .cores, .q, .mem] s t ∧ domOf t (6 + k.toNat) = .off ∧
        (∀ c, c / 16 ≠ k.toNat → core t c = core s c) ∧
        (∀ c, c / 16 = k.toNat → (core s c).st ≠ .unassigned →
          (core t c).x = [] ∧ (core t c).w = [] ∧ (core t c).m = [] ∧ (core t c).ls = [] ∧ (core t c).istore = [] ∧
          (core t c).verified = false ∧ (core t c).wd = (core s c).wd ∧ (core t c).queue = (core s c).queue ∧
          (core t c).program = (core s c).program) ∧
        t.mem.l2 = s.mem.l2.filter (fun l => l.tile != k.toNat) ∧ t.mem.hbm = s.mem.hbm) ∧
    (domOf s 2 = .on → pd2Busy s = false → (∀ k, k < 8 → domOf s (6 + k) = .off) → Runs .pd2PowerDown s fun t =>
      Touches [.power, .eng, .q] s t ∧ domOf t 2 = .off ∧ t.q.dir = [] ∧ t.q.tokens = s.q.tokens ∧ t.eng.hsbEcdh = none ∧
      t.eng.hsbKem = none ∧ t.eng.seFenced = s.eng.seFenced) ∧
    (∀ n : BitVec 3, domOf s (14 + n.toNat) = .on → s.power.policy.stackOn.getLsbD n.toNat = false →
      stackInUse s n.toNat = false → stackTarget s n.toNat = false → Runs (.stackSrHold n) s fun t =>
        Touches [.power, .vault] s t ∧ domOf t (14 + n.toNat) = .off ∧
        t.vault = { s.vault with mce := s.vault.mce.filter (fun e => e.1 / 128 ≠ n.toNat) })

/-- A starting domain comes up with the requests held for it served, oldest first; a tile or stack whose start fails is
fenced instead (R74, R92, Table 03-2). -/
def Says.domainsStart : Prop :=
  ∀ (pd : BitVec 5) (ok : Bool) (s : State), pd.toNat < 22 → domOf s pd.toNat = .starting →
    (∀ d ∈ startDeps pd.toNat, d = 0 ∨ domOf s d = .on) →
    Runs (.domainReady pd ⟨ok⟩) s fun t =>
      t.power.held = s.power.held.filter (fun h => h.1 != pd.toNat) ∧
      (ok = true ∨ pd.toNat < 6 → domOf t pd.toNat = .on) ∧
      (ok = false → 6 ≤ pd.toNat → pd.toNat ≤ 13 → domOf t pd.toNat = .off ∧
        t.power.tileFence.getLsbD (pd.toNat - 6) = true) ∧
      (ok = false → 14 ≤ pd.toNat → domOf t pd.toNat = .off ∧ t.power.stackFence.getLsbD (pd.toNat - 14) = true) ∧
      (ok = false → pd.toNat = 2 → t.eng.entropyFailed = true ∧ t.eng.drbgStopped = true)

/-- Cores gate and wake (R72), and a powered tile's program is read, digested and loaded again (R67). -/
def Says.coresGateAndReload : Prop :=
  ∀ (c : BitVec 7) (s : State),
    ((core s c.toNat).st = .wait → (core s c.toNat).waiting = .queue ∨ (∃ k rd, (core s c.toNat).waiting = .token k rd) →
      Runs (.coreGate c) s fun t => Touches [.cores] s t ∧ core t c.toNat = { core s c.toNat with st := .gated } ∧
        ∀ k, k ≠ c.toNat → core t k = core s k) ∧
    ((core s c.toNat).st = .gated → (core s c.toNat).waiting = .none → Runs (.coreWake c) s fun t => Touches [.cores] s t ∧
      core t c.toNat = { core s c.toNat with st := .run } ∧ ∀ k, k ≠ c.toNat → core t k = core s k) ∧
    (∀ p x y d w off len cs, c ∈ s.power.reload → domOf s (6 + c.toNat / 16) = .on → coreHolder s c.toNat = some p →
      part? s p = some x → mget x.ctxs x.running = some y → bindOf y c.toNat = some (.program d w off len cs) →
      let r := memRead (.host (BitVec.ofNat 7 p)) w off len
        { s with power := { s.power with reload := removeFirst (· == c) s.power.reload } }
      r.2.1 = 0 → sha384 r.2.2 = d → Runs (.programReload c []) s fun t =>
        (core t c.toNat).verified = true ∧ (core t c.toNat).program = some d ∧
        t.power.reload = removeFirst (· == c) s.power.reload ∧ ∀ k, k ≠ c.toNat → core t k = core s k)

/-- Domains power down and start, cores gate, wake and reload. -/
def Obligations.PowerDomains : Prop :=
  Says.idleDomainsPowerDown ∧ Says.domainsStart ∧ Says.coresGateAndReload

/-- Watchdog, owner layer and lockstep events before host-ready restart the boot, move it to the other bank or halt it
(R84, R86, R98). -/
def Says.bootFailures : Prop :=
  ∀ s : State, booting s = true →
    (2 ≤ s.boot.restarts86 →
      Runs .watchdogExpiry s (fun t => Touches [.boot] s t ∧ t.boot.phase = .done ∧ t.boot.outcome = .haltedWatchdog) ∧
      Runs .lockstepMismatch s (fun t => Touches [.boot] s t ∧ t.boot.phase = .done ∧ t.boot.outcome = .haltedLockstep)) ∧
    (s.boot.restarts86 < 2 →
      Runs .lockstepMismatch s (fun t => Touches [.boot] s t ∧ t.boot = { s.boot with
        restarts86 := s.boot.restarts86 + 1, restartDue := some .lockstep, restartReason := .lockstep }) ∧
      ((bankOf s (!s.boot.bank)).st = .good ∧ s.boot.moved = false → Runs .watchdogExpiry s fun t =>
        Touches [.boot, .flash] s t ∧ t.boot.restartDue = some .watchdog ∧ t.boot.bank = !s.boot.bank ∧ t.boot.moved = true) ∧
      (¬ ((bankOf s (!s.boot.bank)).st = .good ∧ s.boot.moved = false) → Runs .watchdogExpiry s fun t =>
        Touches [.boot] s t ∧ t.boot = { s.boot with
          restarts86 := s.boot.restarts86 + 1, restartDue := some .watchdog, restartReason := .watchdog })) ∧
    (s.boot.phase = .boot 1 → s.fuses.shadow.code = 7 → mhas s.boot.layers 4 = true →
      Runs .ownerLayerTimeout s fun t => t.boot.failedLayer = 4 ∧
        (if (bankOf s (!s.boot.bank)).st = .good ∧ s.boot.moved = false
         then t.boot.restartDue = some .image ∧ t.boot.bank = !s.boot.bank
         else t.boot.phase = .done ∧ t.boot.outcome = .layerFailed))

/-- A boot restart begins a boot again with everything but PD3, the boot-restart register, the fuses and the flash reset
(R85). -/
def Says.bootRestarts : Prop :=
  ∀ (b : BootEnv) (s : State) (r : RestartReason), s.boot.restartDue = some r → Runs (.bootRestart b) s fun t =>
    t.boot.attempts = (if s.boot.attempts = 15 then 15 else s.boot.attempts + 1) ∧ t.boot.restartReason = r ∧
    t.fuses.rootLock = true ∧ (s.fuses.op = none → t.fuses.cells = s.fuses.cells) ∧ t.cores = [] ∧ t.parts.parts = [] ∧
    domOf t 3 = domOf s 3 ∧ (b.romOk = false → t.boot.phase = .done ∧ t.boot.outcome = .haltedRom)

/-- Lockstep recovery after host-ready, and the resets the device applies to itself (R111, R461, R475). -/
def Says.recoveryAndSelfResets : Prop :=
  ∀ s : State,
    (booting s = false → hostReady s = true → s.flash.lastLockstep = none → Runs .lockstepMismatch s fun t =>
      imageFault s.fuses.shadow 1 (imageOf s s.boot.bank 1) = none →
        t.flash = { s.flash with lockRecover := true, lastLockstep := some s.aon.tick } ∧ t.cores = s.cores ∧
        t.mem = s.mem ∧ t.vault = s.vault ∧ t.parts = s.parts ∧ t.aon = s.aon) ∧
    (s.flash.lockRecover = true → Runs .lockstepResume s fun t =>
      if imageFault s.fuses.shadow 1 (imageOf s s.boot.bank 1) = none
      then Touches [.flash] s t ∧ t.flash = { s.flash with lockRecover := false }
      else Says.resetBy .lockstep (s.aon.pwrOk && s.aon.sysRstN) s t) ∧
    (s.fuses.lifecycleReset = true → Runs .lifecycleReset s fun t =>
      Says.resetBy .lifecycle (s.aon.pwrOk && s.aon.sysRstN) s t) ∧
    (s.mail.recoverDue = true → Runs .recoverDeviceReset s fun t =>
      Says.resetBy .recover (s.aon.pwrOk && s.aon.sysRstN) s t)

/-- How a boot fails, restarts and recovers, and the resets the device applies to itself. -/
def Obligations.BootsEnd : Prop :=
  Says.bootFailures ∧ Says.bootRestarts ∧ Says.recoveryAndSelfResets

/-- Live activation takes effect once nothing else waits (R433), and ends in its reply (R434); an activation that cannot
take effect in time is answered RETRY_AFTER. -/
def Says.liveActivation : Prop :=
  ∀ (s : State) (b : Bool) (p : Pending),
    (s.flash.activation = some (b, p) → (waitingEnvs s).length ≤ 1 → otherJob s = false → s.fuses.op = none →
      Runs .liveActivation s fun t => imageFault s.fuses.shadow 1 (imageOf s b 1) = none →
        Config.declinesHandoff (imageBuild (imageOf s b 1)) = false → t.flash.activating = true ∧ t.flash.activation = none ∧
        t.flash.actEnv = some p ∧
        t.flash.actReply = some (0, 0) ∧ t.boot.bank = b ∧ t.boot.logSeq = s.boot.logSeq + 2 ∧
        (bankOf t b).st = .trial ∧ (bankOf t b).consumed = true) ∧
    (s.flash.activation = some (b, p) → exec .activationTimeout s = .next (after s
      (finish p (Ans.retry 100) { s with flash := { s.flash with activation := none } }))) ∧
    (∀ st d, s.flash.activating = true → s.flash.actReply = some (st, d) → s.flash.actEnv = some p →
      exec .activationEnd s = .next (after s (finish p { Ans.ok with status := st.toNat, detail := d }
        { s with flash := { s.flash with activating := false, actReply := none, actEnv := none } })))

/-- Flash jobs end one at a time, a bank's erase sector by sector (R422, R425); a persistent store's write is followed by
the ratchet step (R139), a configuration copy's by its reply (R430). -/
def Says.flashJobsEnd : Prop :=
  ∀ (s : State) (rest : List FlashJob),
    (∀ b k, s.flash.jobs = .bankErase b k :: rest → k < 79 → Runs (.flashJobDone true) s fun t =>
      Touches [.flash] s t ∧ t.flash.jobs = rest ++ [.bankErase b (k + 1)] ∧ (bankOf t b).erased = k + 1 ∧
      bankOf t (!b) = bankOf s (!b)) ∧
    (∀ b, s.flash.jobs = .bankErase b 79 :: rest → Runs (.flashJobDone true) s fun t =>
      Touches [.flash] s t ∧ (bankOf t b).erased = 80 ∧ (bankOf t b).erasing = false ∧ ¬ (.bankErase b 80) ∈ t.flash.jobs) ∧
    (∀ p c, s.flash.jobs = .config (some p) c :: rest → ∃ c' : CfgCopy,
      c'.idSet = c.idSet ∧ c'.bond = c.bond ∧ c'.join = c.join ∧
      c'.gen = BitVec.ofNat 64 (topGen (s.flash.configs.map (fun x => x.gen)) + 1) ∧
      exec (.flashJobDone true) s = .next (after s (finish p Ans.ok { s with flash := { s.flash with
        jobs := rest, configs := replaceOld (fun x => x.gen) c' s.flash.configs } }))) ∧
    (∀ env n a k tg r st, s.flash.jobs = .store env (.letter n a k tg r) st :: rest → Runs (.flashJobDone true) s fun t =>
      t.fuses = { s.fuses with op := some { job := .letter n a k tg r, env := env, ready := false } } ∧
      t.aon = { s.aon with fusePwrEn := true } ∧ t.vault = s.vault ∧ t.flash.jobs = rest) ∧
    (∀ b, hostReady s = true → s.flash.answers = true → (bankOf s b).st = .writing → (bankOf s b).erasing = true →
      eraseQueued s b = false → Runs (.bankRepair b) s fun t =>
        Touches [.flash] s t ∧ t.flash.jobs = s.flash.jobs ++ [.repair b 0] ∧ bankOf t b = { bankOf s b with erased := 0 })

/-- Live activation and the flash jobs. -/
def Obligations.FlashAndActivation : Prop :=
  Says.liveActivation ∧ Says.flashJobsEnd

/-- A fuse-programming operation sets its job's cells stage by stage and lets FUSE_PWR_EN fall (R43, R118); where the
supply does not come it is abandoned with no cell set. -/
def Says.fuseProgramming : Prop :=
  ∀ (s : State) (o : FuseOp), s.fuses.op = some o →
    (o.ready = true → ∀ bad : List (BitVec 8 × BitVec 8), Runs (.fuseProgramDone bad) s fun t =>
      t.fuses.cells = (runStages s.fuses.shadow (bad.map fun c => (c.1.toNat, c.2.toNat)) (jobStages s.fuses.shadow o.job)
        s.fuses.cells).1 ∧
      ((∀ n, o.job ≠ .promote n) → t.fuses.op = none ∧ t.aon.fusePwrEn = false) ∧
      (∀ k, o.job = .transition k → t.fuses.lifecycleReset = true)) ∧
    (o.ready = false → s.aon.fusePwrEn = true → Runs .vddFuseTimeout s fun t =>
      t.fuses.op = none ∧ t.aon.fusePwrEn = false ∧ t.fuses.cells = s.fuses.cells)

/-! ### Rings, registers, work and completions of the host interface -/

/-- Ring and event registers (R191, R279, R285, R485, R486): a doorbell sets TAIL, ENABLE is set and cleared, the ring
bases ignore bits 11:0 and stay while ENABLE is 1, clearing a cause clears it alone, and a write that is neither 4 nor 8
bytes wide or not naturally aligned is not taken (R482). -/
def Says.hostRegisters : Prop :=
  ∀ (f : Fn) (s : State), fnLive s f = true →
    (∀ tail, doorbells s = true → domOf s 1 ≠ .off → Runs (.envDoorbell f tail) s fun t => Touches [.q] s t ∧
      (fnRegs t f).env = { (fnRegs s f).env with tail := tail.truncate 16 } ∧ (fnRegs t f).work = (fnRegs s f).work ∧
      (fnRegs t f).comp = (fnRegs s f).comp) ∧
    (∀ tail, doorbells s = true → domOf s 1 = .off → hostReady s = true → Runs (.envDoorbell f tail) s fun t =>
      Touches [.q, .power] s t ∧ (fnRegs t f).env.tail = tail.truncate 16 ∧ domOf t 1 = .starting ∧
      t.power.held = s.power.held ++ [(1, .env f)]) ∧
    (∀ (q : BitVec 6) (tail : BitVec 32), doorbells s = true →
      (tail.truncate 16 - (workRing s f q.toNat).head : BitVec 16).toNat ≤ 2 ^ (workRing s f q.toNat).log2.toNat →
      Runs (.workDoorbell f q tail) s fun t => Touches [.q, .power] s t ∧
        workRing t f q.toNat = { workRing s f q.toNat with tail := tail.truncate 16 }) ∧
    (∀ (q : BitVec 6) (tail : BitVec 32), doorbells s = true →
      2 ^ (workRing s f q.toNat).log2.toNat < (tail.truncate 16 - (workRing s f q.toNat).head : BitVec 16).toNat →
      Runs (.workDoorbell f q tail) s fun t => Touches [.q, .out] s t ∧ t.q.events.cause = s.q.events.cause ||| 8#4 ∧
        workRing t f q.toNat = { workRing s f q.toNat with
          tail := tail.truncate 16, fault := true, stopped := true, enable := false }) ∧
    Runs (.envRingEnable f true) s (fun t => Touches [.q] s t ∧
      (fnRegs t f).env = { (fnRegs s f).env with enable := true, stopped := false }) ∧
    Runs (.envRingEnable f false) s (fun t => Touches [.q] s t ∧
      (fnRegs t f).env = { (fnRegs s f).env with enable := false }) ∧
    (∀ q : BitVec 6, (workRing s f q.toNat).enable = false → Runs (.workRingEnable f q true) s fun t => Touches [.q] s t ∧
      workRing t f q.toNat = { workRing s f q.toNat with enable := true, stopped := false, accepted := 0, accepted56 := 0 }) ∧
    (∀ q : BitVec 6, Runs (.workRingEnable f q false) s fun t => Touches [.q] s t ∧
      workRing t f q.toNat = { workRing s f q.toNat with enable := false }) ∧
    Runs (.completionRingEnable f false) s (fun t => Touches [.q] s t ∧
      (fnRegs t f).comp = { (fnRegs s f).comp with enable := false }) ∧
    ((fnRegs s f).comp.held = [] → (∀ x, part? s (fnKey f) = some x → x.counts.hostDropped = 0) →
      Runs (.completionRingEnable f true) s fun t => Touches [.q] s t ∧
        (fnRegs t f).comp = { (fnRegs s f).comp with enable := true }) ∧
    (∀ head : BitVec 32, let c := (fnRegs s f).comp
      (c.tail - head).toNat ≤ 2 ^ c.log2.toNat → (head - c.head).toNat ≤ (c.tail - c.head).toNat →
      Runs (.completionHeadWrite f head) s fun t => Touches [.q] s t ∧ (fnRegs t f).comp = { c with head := head }) ∧
    (∀ v : BitVec 64, (fnRegs s f).env.enable = false → Runs (.registerWrite f 0x10000 v 4) s fun t => Touches [.q] s t ∧
      (fnRegs t f).env.base.extractLsb' 0 12 = 0 ∧ (fnRegs t f).env.base.extractLsb' 12 20 = v.extractLsb' 12 20 ∧
      (fnRegs t f).env.base.extractLsb' 32 32 = (fnRegs s f).env.base.extractLsb' 32 32) ∧
    (∀ v : BitVec 64, (fnRegs s f).env.enable = true → Runs (.registerWrite f 0x10000 v 4) s fun t => Touches [.q] s t ∧
      (fnRegs t f).env = (fnRegs s f).env) ∧
    (∀ (off : BitVec 32) (v : BitVec 64) (n : BitVec 4), ¬ (n = 4 ∧ off.toNat % 4 = 0) → ¬ (n = 8 ∧ off.toNat % 8 = 0) →
      Runs (.registerWrite f off v n) s fun t => Touches [] s t)

/-- The PF event registers (R485): writing a one clears a cause; the interrupt is sent when (cause AND INT_ENABLE) leaves
zero. -/
def Says.eventRegisters : Prop :=
  ∀ s : State, s.power.pcie = true →
    (∀ b : BitVec 32, Runs (.eventClear b) s fun t => Touches [.q] s t ∧
      t.q = { s.q with events := { s.q.events with cause := s.q.events.cause &&& ~~~(b.truncate 4) } }) ∧
    (∀ v : BitVec 32, ¬ (s.q.events.cause &&& s.q.events.enable = 0 ∧ s.q.events.cause &&& v.truncate 4 ≠ 0) →
      Runs (.intEnableWrite v) s fun t => Touches [.q] s t ∧
        t.q = { s.q with events := { s.q.events with enable := v.truncate 4 } }) ∧
    (∀ v : BitVec 32, s.q.events.cause &&& s.q.events.enable = 0 → s.q.events.cause &&& v.truncate 4 ≠ 0 →
      (mgetD (fnRegs s .pf).msix s.q.events.vector.toNat msixReset).getLsbD 96 = false →
      Runs (.intEnableWrite v) s fun t => Touches [.q, .out] s t ∧
        t.q = { s.q with events := { s.q.events with enable := v.truncate 4 } } ∧
        t.out = .msix .pf s.q.events.vector.toNat :: s.out)

/-- Function-level resets (R196, R464): a VF's rings and interrupt setup return to their reset values and its queued
entries are dropped; the PF's reset also clears VF Enable and the event registers. -/
def Says.functionResets : Prop :=
  ∀ s : State,
    (∀ n : BitVec 7, fnLive s (.vf n) = true → Runs (.vfFlr n) s fun t =>
      fnRegs t (.vf n) = FnRegs.reset ∧ (∀ f, fnKey f ≠ n.toNat → fnRegs t f = fnRegs s f) ∧
      (∀ c ∈ coresOf s n.toNat, (core t c).queue = [] ∧ (core t c).x = (core s c).x ∧ (core t c).ls = (core s c).ls) ∧
      (∀ x ∈ t.q.posting, x.entry.part ≠ n.toNat) ∧ t.mem = s.mem ∧ t.vault = s.vault) ∧
    (s.power.pcie = true → Runs .pfFlr s fun t => fnRegs t .pf = FnRegs.reset ∧ t.parts.vfEnable = 0 ∧
      t.q.events = Events.reset ∧ t.mem = s.mem ∧ t.vault = s.vault)

/-- The host registers, the event registers and the function resets. -/
def Obligations.HostInterface : Prop :=
  Says.hostRegisters ∧ Says.eventRegisters ∧ Says.functionResets

/-- Fetches from the rings (R191, R192, R279): an entry with its envelope readable advances HEAD and OUTSTANDING, an
unreadable one stops the ring; a descriptor of an Open partition that passes the checks of Table 12-3 has its input copied and waits for its post. -/
def Says.ringFetches : Prop :=
  ∀ (f : Fn) (s : State), fnLive s f = true → fnConf s f = false → s.mem.htClosed = false → hostReady s = true →
    (∀ b env : Bytes, (fnRegs s f).env.enable = true → (fnRegs s f).env.head ≠ (fnRegs s f).env.tail →
      (fnRegs s f).env.outstanding.toNat < 8 → b.length = 32 → allZero (slice b 24 8) = true → fld b 0 8 % 8 = 0 →
      72 ≤ fld b 8 4 → fld b 8 4 ≤ 61552 → 72 ≤ fld b 12 4 → fld b 16 8 % 8 = 0 →
      Runs (.envEntryFetch f (.plain b) (.plain env) false) s fun t => Touches [.q] s t ∧
        (fnRegs t f).env = { (fnRegs s f).env with
          head := (fnRegs s f).env.head + 1, outstanding := (fnRegs s f).env.outstanding + 1 }) ∧
    (∀ env, (fnRegs s f).env.enable = true → (fnRegs s f).env.head ≠ (fnRegs s f).env.tail →
      (fnRegs s f).env.outstanding.toNat < 8 → Runs (.envEntryFetch f .unreadable env false) s fun t =>
        (fnRegs t f).env.stopped = true ∧ (fnRegs t f).env.enable = false ∧ (fnRegs t f).env.entryFault = true ∧
        (fnRegs t f).env.head = (fnRegs s f).env.head ∧ t.q.events.cause.getLsbD 3 = true) ∧
    (∀ (vn : BitVec 7) (q : BitVec 6) (b input : Bytes) (x : Partition), f = .vf vn → part? s vn.toNat = some x →
      x.state = .running → (workRing s f q.toNat).enable = true → (workRing s f q.toNat).head ≠ (workRing s f q.toNat).tail →
      ((fnRegs s f).comp.tail - (fnRegs s f).comp.head).toNat + (fnRegs s f).comp.reserved.toNat + 1 <
        2 ^ (fnRegs s f).comp.log2.toNat →
      descFormOk b false = true → (byteAt b 1).getLsbD 0 = false → fld b 0x28 4 = 0 →
      input.length = fld b 0x14 2 * fld b 0x16 2 → coreHolder s (byteAt b 2).toNat = some vn.toNat →
      resFenced s 1 (byteAt b 2).toNat = false → (core s (physOf s (byteAt b 2).toNat)).queue.length < 32 →
      winHolds s (byteAt b 2).toNat ((byteAt b 3).toNat % 16) 1 (fld b 0x18 4) (fld b 0x10 4) = true →
      (∀ q', (memWrite (.host vn) ((byteAt b 3).toNat % 16) (fld b 0x18 4) input { s with q := q' }).2 = 0) →
      fld b 0x10 4 ≠ 0 → Runs (.descriptorFetch f q (.plain b) (.plain input)) s fun t =>
        (workRing t f q.toNat).head = (workRing s f q.toNat).head + 1 ∧
        (fnRegs t f).comp.reserved = (fnRegs s f).comp.reserved + 1 ∧
        ∃ y, t.q.posting = s.q.posting ++ [y] ∧ y.core = (byteAt b 2).toNat ∧ y.entry.ring = q.toNat ∧
          y.entry.part = vn.toNat ∧ y.entry.x = [BitVec.ofNat 64 (fld b 0x14 2 + fld b 0x16 2 * 2 ^ 16 +
            ((byteAt b 3).toNat % 16) * 2 ^ 32 + ((byteAt b 3).toNat / 16) * 2 ^ 36 + q.toNat * 2 ^ 40),
            BitVec.ofNat 64 (fld b 0x18 4), BitVec.ofNat 64 input.length, BitVec.ofNat 64 (fld b 0x1C 4), 0,
            BitVec.ofNat 64 (q.toNat * 2 ^ 56 + ((workRing s f q.toNat).accepted56 + 1).toNat),
            BitVec.ofNat 64 (fld b 0x30 8), BitVec.ofNat 64 (fld b 0x38 8)]) ∧
    (∀ (q : BitVec 6) (vn : BitVec 7) (d : HostInput), f = .vf vn → (∃ x, part? s vn.toNat = some x ∧ x.state = .running) →
      (workRing s f q.toNat).enable = true → (workRing s f q.toNat).head ≠ (workRing s f q.toNat).tail →
      ((fnRegs s f).comp.tail - (fnRegs s f).comp.head).toNat + (fnRegs s f).comp.reserved.toNat + 1 <
        2 ^ (fnRegs s f).comp.log2.toNat →
      Runs (.descriptorFetch f q .unreadable d) s fun t => (workRing t f q.toNat).stopped = true ∧
        (workRing t f q.toNat).fault = true ∧ (workRing t f q.toNat).head = (workRing s f q.toNat).head)

/-- The post of an entry whose input copy is done (R282): it leaves the postings and stands last in its core's queue with
its period's sequence. -/
def Says.entriesArePosted : Prop :=
  ∀ (f : Fn) (q : BitVec 6) (s : State) (y : Posting) (x : Partition),
    s.q.posting.find? (fun z => fnOf z.entry.part == f && z.entry.ring == q.toNat) = some y →
    part? s y.entry.part = some x → (core s (physOf s y.core)).queue.length < 32 → Runs (.entryPost f q) s fun t =>
      t.q.posting = removeFirst (fun z => z == y) s.q.posting ∧
      (core t (physOf s y.core)).queue = (core s (physOf s y.core)).queue ++
        [{ y.entry with period := x.periodSeq + (if y.defer then 1 else 0) }] ∧
      (∀ k, k ≠ physOf s y.core → core t k = core s k) ∧ t.mem = s.mem ∧ t.parts = s.parts

/-- Entries are fetched from their rings, checked, copied and posted. -/
def Obligations.RingEntries : Prop :=
  Says.ringFetches ∧ Says.entriesArePosted

/-- Output copies and held replies (R188, R189, R286, R456): an empty output's completion is written with status OK, one
the host did not take with INTEGRITY; the oldest reply held for a release point is released there; a stalled or timed-out
host link is logged. -/
def Says.outputsAndHeldReplies : Prop :=
  ∀ (f : Fn) (s : State),
    (∀ o, s.q.outs.find? (fun o => o.fn == f) = some o → o.lost = false → o.len = 0 → isConf s o.part = false →
      exec (.outputCopyDone f true) s = .next (after s (countRecord o.part (physOf s o.record.core.toNat) 0
        (writeRecord f o.record (emit (.hostWrite f o.addr [])
          { s with q := { s.q with outs := removeFirst (fun x => x == o) s.q.outs } }))))) ∧
    (∀ o, s.q.outs.find? (fun o => o.fn == f) = some o → o.lost = true → exec (.outputCopyDone f true) s = .next (after s
      (writeRecord f { o.record with status := 9, outLen := 0 }
        { s with q := { s.q with outs := removeFirst (fun x => x == o) s.q.outs } }))) ∧
    (∀ h, s.mail.held.find? (fun h => h.why == .grid) = some h → exec .gridRelease s = .next (after s (releaseReply h.reply
      { s with mail := { s.mail with held := removeFirst (fun x => x == h) s.mail.held } }))) ∧
    (∀ h, s.mail.held.find? (fun h => h.why == .refused) = some h → exec .refusedRelease s = .next (after s
      (releaseReply h.reply { s with mail := { s.mail with held := removeFirst (fun x => x == h) s.mail.held } }))) ∧
    (s.power.pcie = true → exec .postedCreditStall s = .next (after s (logFault 0x11 2 0xA 1 0 0xFF 0 0 s))) ∧
    (∀ (q : BitVec 6) (y : Posting), s.power.pcie = true →
      s.q.posting.find? (fun x => fnOf x.entry.part == f && x.entry.ring == q.toNat) = some y →
      Runs (.hostCompletionTimeout f q) s fun t => t.q.posting = removeFirst (fun z => z == y) s.q.posting ∧
        t.cores = s.cores ∧ t.mem.hbm = s.mem.hbm)

/-- Replies, held replies and completions leave as their rules say. -/
def Obligations.Replies : Prop :=
  Says.repliesOnRings ∧ Says.outputsAndHeldReplies

/-- The fault log (R462, R463): a fault of a class, scope and unit not yet seen in the frame is a new record, its PF
interrupt raised where it is severe; a further one is counted in that record. -/
def Says.faultLog : Prop :=
  ∀ (s : State) (cls sev scope unit_ loc prt action detail : Nat),
    let hit := fun r : FaultRec => r.frame = s.aon.frames ∧ r.cls.toNat = cls ∧ r.scope.toNat = scope ∧ r.unit_.toNat = unit_
    let t := logFault cls sev scope unit_ loc prt action detail s
    ((∃ r ∈ s.mail.faults, hit r) → t.mail.faultNext = s.mail.faultNext ∧ t.mail.faults.length = s.mail.faults.length) ∧
    ((∀ r ∈ s.mail.faults, ¬ hit r) → t.mail.faultNext = s.mail.faultNext + 1 ∧
      ∃ r, t.mail.faults.getLast? = some r ∧ r.entry = s.mail.faultNext ∧ r.tick = s.aon.tick ∧ r.count = 1) ∧
    (3 ≤ sev → t.q.events.cause.getLsbD 0 = true) ∧ (sev < 3 → t.q = s.q)

/-! ### Memory, turnstiles and engines -/

/-- A line written whole through a gate reads back as it was written (R229–R231): XTS is undone by its inverse, the tag of
a TAGGED line verifies, and every other line of every stack stays as it was. -/
def Says.memoryReadsBack : Prop :=
  ∀ (g : Gate) (part line : Nat) (plain : Bytes) (s : State), plain.length = 64 →
    let t := writeLine g line plain s
    readLine g part line t = (t, 0, plain) ∧
    (∀ n l, (n, l) ≠ (g.wd.stack, line) → lineInfo t n l = lineInfo s n l ∧ lineCipher t n l = lineCipher s n l) ∧
    Keeps [.mem] s t

/-- A memory operation keeps a stack in its canonical form: addresses strictly rising, no entry that reads as an unlisted
one does. -/
def Obligations.MemoryStaysCanonical : Prop :=
  let wf := fun st : Stack => mwf 0 st.bytes = true ∧ mwf LineInfo.cleared st.lines = true
  ∀ (who : Requester) (k off : Nat) (b : Bytes) (s : State), (∀ n, wf (stackOf s n)) →
    (∀ n, wf (stackOf (memWrite who k off b s).1 n)) ∧ (∀ n, wf (stackOf (memRead who k off b.length s).1 n)) ∧
    (∀ n line count m, wf (stackOf (clearLines n line count s) m)) ∧ (∀ n line m, wf (stackOf (poisonLine n line s) m)) ∧
    (∀ n us m, wf (stackOf (upsetLines n us s) m))

/-- A request of the host, an engine or the parcel desk in its slot is answered with its data or its write response where
every check of Table 10-2 passes, and with the first refusal where one does not (R227, R237). -/
def Says.memoryRequests : Prop :=
  ∀ (r : MemReq) (s : State), (∀ c, r.who ≠ .core c) → (∀ n, r.who ≠ .scrub n) → r.slot = 0 → r.upset = [] →
    slotServes s (resolve s r.who r.win.toNat).wd.stack r.who 0 = true →
    (r.write = none → let q := memRead r.who r.win.toNat r.off.toNat (r.lenM1.toNat + 1) s
      (q.2.1 = 0 → exec (.memoryRequest r) s = .next (after s (emit (.memData r.who q.2.2) q.1))) ∧
      (q.2.1 ≠ 0 → exec (.memoryRequest r) s = .next (after s (emit (.memRefused r.who (refusalName q.2.1)) q.1)))) ∧
    (∀ b, r.write = some b → let q := memWrite r.who r.win.toNat r.off.toNat (padTo (r.lenM1.toNat + 1) b) s
      (q.2 = 0 → exec (.memoryRequest r) s = .next (after s (emit (.memDone r.who) q.1))) ∧
      (q.2 ≠ 0 → exec (.memoryRequest r) s = .next (after s (emit (.memRefused r.who (refusalName q.2)) q.1))))

/-- What is written through a window reads back, and every request is answered by its checks. -/
def Obligations.Memory : Prop :=
  Says.memoryReadsBack ∧ Says.memoryRequests

/-- A turnstile whose engine faults closes, with its record of severity 3 (R27); back in service, the clearing it
interrupted goes on (R326). -/
def Says.turnstilesClose : Prop :=
  ∀ s : State,
    (∀ n : BitVec 3, s.scrub.jobs = [] → Runs (.turnstileEngineFault (.mt n)) s fun t =>
      (stackOf t n.toNat).closed = true ∧ (stackOf t n.toNat).bytes = (stackOf s n.toNat).bytes ∧
      (∀ k, k ≠ n.toNat → stackOf t k = stackOf s k) ∧ t.q.events.cause.getLsbD 0 = true) ∧
    Runs (.turnstileEngineFault .ht) s (fun t => t.mem = { s.mem with htClosed := true } ∧ t.q.events.cause.getLsbD 0 = true) ∧
    (∀ n : BitVec 4, Runs (.turnstileEngineFault (.lt n)) s fun t => t.mem.ltClosed.getLsbD n.toNat = true ∧
      t.mem.hbm = s.mem.hbm ∧ t.q.events.cause.getLsbD 0 = true) ∧
    Runs (.turnstileEngineFault .tt) s (fun t => t.mem = { s.mem with ttClosed := true }) ∧
    (∀ n : BitVec 3, Runs (.turnstileBackInService (.mt n)) s fun t => Touches [.mem, .scrub] s t ∧
      stackOf t n.toNat = { stackOf s n.toNat with closed := false } ∧
      (∀ j ∈ t.scrub.jobs, j.rtype = 2 → j.stack = n.toNat → j.paused = false)) ∧
    Runs (.turnstileBackInService .ht) s (fun t => Touches [.mem] s t ∧ t.mem = { s.mem with htClosed := false }) ∧
    (∀ n : BitVec 4, Runs (.turnstileBackInService (.lt n)) s fun t => Touches [.mem] s t ∧
      t.mem.ltClosed.getLsbD n.toNat = false) ∧
    Runs (.turnstileBackInService .tt) s (fun t => Touches [.mem] s t ∧ t.mem = { s.mem with ttClosed := false })

/-- Faults are logged, and a turnstile whose engine faults closes. -/
def Obligations.FaultsAndTurnstiles : Prop :=
  Says.faultLog ∧ Says.turnstilesClose

/-- The commands of a digest engine (Table 07-2): START loads a message, DATA streams it, FINISH forms the result, ROUTE
delivers it, ABORT leaves nothing of it and zeroes the WKR and the HSB (R130, R149, R150, R165). -/
def Says.digestEngines : Prop :=
  ∀ (n : BitVec 3) (s : State), n.toNat < 6 → domOf s 2 = .on → (deOf s n.toNat).fenced = false →
    (∀ alg, (deOf s n.toNat).st = .idle ∨ (deOf s n.toNat).st = .done →
      Runs (.deStart n { alg := alg, mode := .plain, key := .none, l := 0 }) s fun t => Touches [.eng] s t ∧
        (deOf t n.toNat).st = .loaded ∧ (deOf t n.toNat).args.alg = alg ∧ (deOf t n.toNat).msg = [] ∧
        ∀ k, k ≠ n.toNat → deOf t k = deOf s k) ∧
    (∀ a, (deOf s n.toNat).st = .loaded ∨ (deOf s n.toNat).st = .running → Runs (.deStart n a) s fun t => Touches [.eng] s t ∧
      deOf t n.toNat = { deOf s n.toNat with queued := (deOf s n.toNat).queued ++ [a] }) ∧
    (∀ f : DeFrag, (deOf s n.toNat).st = .loaded ∨ (deOf s n.toNat).st = .running → f.rsv = 0 → f.space = 0 →
      f.part.toNat < nParts s → f.addr.toNat + f.lenM1.toNat + 1 ≤ 0x200000 → (deOf s n.toNat).frags < 4095 →
      Runs (.deData n [f]) s fun t => Touches [.eng] s t ∧ (deOf t n.toNat).st = .running ∧
        (deOf t n.toNat).msg = (deOf s n.toNat).msg ++ mread s.eng.sram f.addr.toNat (f.lenM1.toNat + 1)) ∧
    ((deOf s n.toNat).st = .loaded ∨ (deOf s n.toNat).st = .running → (deOf s n.toNat).queued = [] →
      (deOf s n.toNat).args.mode = .plain → (deOf s n.toNat).args.key = .none → Runs (.deFinish n) s fun t => Touches [.eng] s t ∧
        (deOf t n.toNat).st = .done ∧ (deOf t n.toNat).resA = some (hashOf (deOf s n.toNat).args.alg (deOf s n.toNat).msg)) ∧
    (∀ (a : BitVec 21) (b : Bytes), (deOf s n.toNat).st = .done → (deOf s n.toNat).resA = some b →
      (deOf s n.toNat).args.mode = .plain → a.toNat + b.length ≤ 0x200000 → Runs (.deRoute n (.read a)) s fun t =>
        Touches [.eng, .out] s t ∧ t.eng = { s.eng with sram := mwrite s.eng.sram a.toNat b, results := b :: s.eng.results } ∧
        t.out = .engine b :: s.out) ∧
    (∀ (a : BitVec 21) (b : Bytes), (deOf s n.toNat).st = .done → (deOf s n.toNat).resA = some b →
      (deOf s n.toNat).args.mode ≠ .plain → Runs (.deRoute n (.read a)) s fun t => t.eng.sram = s.eng.sram ∧
        t.eng.results = s.eng.results ∧ (deOf t n.toNat).resA = none ∧ t.out = .engineStatus "ROUTE_REFUSED" :: s.out) ∧
    ((deOf s n.toNat).queued = [] → Runs (.deAbort n) s fun t => Touches [.eng, .vault] s t ∧
      (deOf t n.toNat).st = .idle ∧ (deOf t n.toNat).msg = [] ∧ (deOf t n.toNat).resA = none ∧ t.vault.wkr = 0 ∧
      t.eng.hsbEcdh = none ∧ t.eng.hsbKem = none)

/-- The symmetric engine and the WKR (R130, R159–R162): WKR_LOAD takes the first bank that R128 lets the use have; every
operation of SE leaves its output in Wenist SRAM and zeroes the WKR; an unwrap that fails its check delivers nothing. -/
def Says.symmetricEngine : Prop :=
  ∀ s : State, domOf s 2 = .on → s.eng.seFenced = false →
    (∀ (u : Use) (b : BitVec 4) (k : Digest), useKey s u b.toNat = some k → exec (.wkrLoad u b) s = .next (after s
      (status "OK" { s with vault := { s.vault with wkr := k.zeroExtend 512 } }))) ∧
    (∀ (u : Use) (b : BitVec 4), useKey s u b.toNat = none → exec (.wkrLoad u b) s = .next (after s (status "REFUSED" s))) ∧
    (∀ o : SeGcmOp, o.use = none → o.decrypt = false → o.aad.length ≤ 65536 → o.text.length ≤ 2 ^ 20 →
      o.dst.toNat + o.text.length ≤ 0x200000 →
      let c := gcmXor (wkrKey s) o.iv o.text
      exec (.seGcm o) s = .next (after s (emit (.engine (beBytes 16 (Config.gcmTag (wkrKey s) o.iv o.aad c).toNat)) (status "OK"
        { s with vault := { s.vault with wkr := 0 }, eng := { s.eng with sram := mwrite s.eng.sram o.dst.toNat c } })))) ∧
    (∀ o : SeGcmOp, o.use = none → o.decrypt = true → o.aad.length ≤ 65536 → o.text.length ≤ 2 ^ 20 →
      o.dst.toNat + o.text.length ≤ 0x200000 → Config.gcmTag (wkrKey s) o.iv o.aad o.text ≠ o.tag →
      exec (.seGcm o) s = .next (after s (status "TAG_FAIL" { s with vault := { s.vault with wkr := 0 } }))) ∧
    (∀ o : SeXtsOp, 32 ≤ o.text.length → o.text.length ≤ 2 ^ 20 → o.text.length % 16 = 0 →
      o.dst.toNat + o.text.length ≤ 0x200000 → (s.vault.wkr.truncate 256 : BitVec 256) ≠ s.vault.wkr.extractLsb' 256 256 →
      exec (.seXts o) s = .next (after s (status "OK" { s with
        vault := { s.vault with wkr := 0 }
        eng := { s.eng with sram := mwrite s.eng.sram o.dst.toNat (xtsData s.vault.wkr o.tweak o.decrypt o.text) } }))) ∧
    (∀ (a : BitVec 21) (len : BitVec 10) (dst : BitVec 21), 16 ≤ len.toNat → len.toNat % 8 = 0 →
      dst.toNat + len.toNat + 8 ≤ 0x200000 → exec (.seKwWrap (.record a len) dst) s = .next (after s (status "OK" { s with
        vault := { s.vault with wkr := 0 }
        eng := { s.eng with
          sram := mwrite s.eng.sram dst.toNat (kwWrap (wkrKey s) (mread s.eng.sram a.toNat len.toNat)) } }))) ∧
    (∀ (n : BitVec 10) (p : Bool) (dst : BitVec 21), (slot s n.toNat).exportable = false →
      exec (.seKwWrap (.bank n p) dst) s = .next (after s (status "REFUSED" s))) ∧
    (∀ (c : Bytes) (d : KwTarget), 24 ≤ c.length → c.length ≤ 4104 → c.length % 8 = 0 → ∃ u,
      exec (.seKwUnwrap c d) s = .next (after s u) ∧ match kwUnwrap (wkrKey s) c with
        | none => u = status "INTEGRITY" { s with vault := { s.vault with wkr := 0 } }
        | some b => d = .wkr → u = status "OK" { s with vault := { s.vault with wkr := BitVec.ofNat 512 (beNat (b.take 64)) } })

/-- The digest engines and the symmetric engine. -/
def Obligations.DigestAndSymmetric : Prop :=
  Says.digestEngines ∧ Says.symmetricEngine

/-- The public-key engine (R129, R163–R165): a signing key or a decapsulation key comes from a slot that serves the use,
randomness from the DRBG, and shared secrets go to the HSB alone; every private-key use ends with the WKR zeroed. -/
def Says.publicKeyEngine : Prop :=
  ∀ s : State, domOf s 2 = .on → s.eng.pkeFenced = false → s.eng.entropyFailed = false →
    (∀ (u : Use) (d k : Digest), useKey s u 9 = some k → Runs (.ecdsaSign u d) s fun t => Touches [.eng, .vault, .out, .free] s t ∧
      t.out = .engine (Config.ecdsaSign (ecPriv k) (s.eng.pkeDigest.getD d) s.free) :: s.out ∧ t.vault.wkr = 0 ∧
      t.vault.slots = s.vault.slots ∧ t.eng.pkeDigest = none) ∧
    (∀ (pub sig : Bytes) (d : Digest), Runs (.ecdsaVerify pub d sig) s fun t => Touches [.eng, .out] s t ∧
      t.eng = { s.eng with pkeDigest := none } ∧ t.out = .engineStatus
        (if Config.ecdsaVerify pub (s.eng.pkeDigest.getD d) sig then "VALID" else "INVALID") :: s.out) ∧
    (∀ (u : Use) (k : Digest) (peer : Bytes), useKey s u 10 = some k → Runs (.ecdh u peer) s fun t =>
      Touches [.eng, .vault, .out] s t ∧ t.vault = { s.vault with wkr := 0 } ∧ match Config.ecdhShared (ecPriv k) peer with
        | some x => t.eng = { s.eng with hsbEcdh := some x } ∧ t.out = .engineStatus "OK" :: s.out
        | none => t.eng = s.eng ∧ t.out = .engineStatus "PKE_INPUT" :: s.out) ∧
    (∀ seed, Runs (.mldsaKeygen seed) s fun t => Touches [.eng, .out] s t ∧ t.out = .engine (Config.mldsaPublic seed) :: s.out) ∧
    (∀ (u : Use) (k : Digest) (m ctx : Bytes), m.length ≤ 65536 → ctx.length ≤ 255 → useKey s u 9 = some k →
      Runs (.mldsaSign u m ctx) s fun t => Touches [.eng, .vault, .out, .free] s t ∧ t.vault = { s.vault with wkr := 0 } ∧
        t.out = (match Config.mldsaSign (mlSeed k) m ctx s.free with
          | some sg => Out.engine sg
          | none => .engineStatus "SIGN_RETRY") :: s.out) ∧
    (∀ pub m ctx sg : Bytes, m.length ≤ 65536 → ctx.length ≤ 255 → Runs (.mldsaVerify pub m ctx sg) s fun t =>
      Touches [.out] s t ∧ t.out = .engineStatus (if Config.mldsaVerify pub m ctx sg then "VALID" else "INVALID") :: s.out) ∧
    Runs .mlkemKeygen s (fun t => Touches [.eng, .out, .free] s t ∧ t.out = .engine (Config.mlkemKeygen s.free).1 :: s.out) ∧
    (∀ pub : Bytes, Runs (.mlkemEncaps pub) s fun t =>
      Touches [.eng, .out, .free] s t ∧ t.eng.hsbEcdh = s.eng.hsbEcdh ∧ match Config.mlkemEncaps pub s.free with
        | some (ct, ss) => t.eng.hsbKem = some ss ∧ t.out = .engine ct :: s.out
        | none => t.eng.hsbKem = s.eng.hsbKem ∧ t.out = .engineStatus "PKE_INPUT" :: s.out) ∧
    (∀ (u : Use) (k : Digest) (ct : Bytes), useKey s u 10 = some k → ct.length = 1568 → Runs (.mlkemDecaps u ct) s fun t =>
      Touches [.eng, .vault, .out] s t ∧ t.eng = { s.eng with hsbKem := some (Config.mlkemDecaps (kemKey k) ct) } ∧
      t.vault = { s.vault with wkr := 0 }) ∧
    Runs .hsbExpiry s (fun t => Touches [.eng] s t ∧ t.eng = { s.eng with hsbEcdh := none, hsbKem := none })

/-- The DRBG and its health (R166–R169): a generate request returns free bytes; a health-test failure stops the output, a
failed rerun of the start-up tests sets ENTROPY_FAILED; a parity fault fences an engine whose known-answer test fails. -/
def Says.drbgAndParity : Prop :=
  ∀ s : State, domOf s 2 = .on →
    (∀ (len : BitVec 16) (ok : Bool), s.eng.entropyFailed = false → s.eng.drbgStopped = false → s.eng.drbgRuns < 65536 →
      Runs (.drbgGenerate len ok) s fun t => Touches [.eng, .out, .free] s t ∧
        t.out = .engine (drawBytes s.free (len.toNat + 1)) :: s.out ∧ t.free = s.free + 1 ∧
        t.eng = { s.eng with drbgRuns := s.eng.drbgRuns + 1, results := drawBytes s.free (len.toNat + 1) :: s.eng.results }) ∧
    (∀ (len : BitVec 16) (ok : Bool), s.eng.entropyFailed = false → s.eng.drbgStopped = true →
      Runs (.drbgGenerate len ok) s fun t => Touches [.eng] s t ∧
        t.eng = { s.eng with drbgHeld := s.eng.drbgHeld ++ [len] }) ∧
    (s.eng.drbgStopped = false → s.eng.lastHealth = none → Runs .entropyHealthFail s fun t =>
      t.eng = { s.eng with drbgStopped := true, lastHealth := some s.aon.tick } ∧ t.mem = s.mem ∧ t.vault = s.vault) ∧
    (s.eng.drbgStopped = true → s.eng.entropyFailed = false → s.eng.drbgHeld = [] → Runs (.entropyRetestDone true) s fun t =>
      Touches [.eng] s t ∧
      t.eng = { s.eng with drbgStopped := false, drbgRuns := 0, drbgReseeds := s.eng.drbgReseeds + 1 }) ∧
    (s.eng.drbgStopped = true → s.eng.entropyFailed = false → Runs (.entropyRetestDone false) s fun t =>
      t.eng.entropyFailed = true ∧ t.eng.drbgHeld = [] ∧ t.mgmt.alert.getLsbD 5 = true) ∧
    Runs (.engineParity .se false) s (fun t => t.eng.seFenced = true ∧ t.eng.seFault = some s.aon.tick ∧ t.vault.wkr = 0 ∧
      t.mgmt.alert.getLsbD 3 = true ∧ t.vault.slots = s.vault.slots) ∧
    (∀ n : BitVec 3, n.toNat < 6 → (deOf s n.toNat).queued = [] → Runs (.engineParity (.de n) false) s fun t =>
      (deOf t n.toNat).fenced = true ∧ (deOf t n.toNat).st = .idle ∧ (deOf t n.toNat).msg = [] ∧
      ∀ k, k ≠ n.toNat → deOf t k = deOf s k)

/-- The public-key engine, the DRBG and the engines' health. -/
def Obligations.PublicKeysAndDrbg : Prop :=
  Says.publicKeyEngine ∧ Says.drbgAndParity

/-! ### Parcels and circles -/

/-- The commands of the parcel group (R300, R302, R310–R317), each after the checks before its own: a policy its tenant
sets, an admission accepted with its window, a parcel evicted, pinned or unbound, a circle created, joined and left. -/
def Obligations.ParcelCommands : Prop :=
  ∀ (e : Env) (s t : State) (x : Partition), part? t e.target.toNat = some x → x.state ≠ .destroying →
    (∀ n, e.path = .spdm n → sessionTid t n.toNat = some x.tenant →
      payFault ([(0, decide (p8 e 0 ≤ 8)), (1, decide (p8 e 1 ≤ 4))] ++ rsv e 2 6 ++
        rsv e (8 + 48 * p8 e 0) (48 * (8 - p8 e 0)) ++ rsv e (392 + 48 * p8 e 1) (48 * (4 - p8 e 1))) = none →
      t.desk.circles = [] → channelBases t e.target.toNat = [] →
      (∀ z ∈ t.desk.parcels, z.part ≠ e.target.toNat) →
      Says.served (.parcelPolicySet e) specParcelPolicySet e s t
        (modPart e.target.toNat (fun z => { z with policy :=
          { publishers := (List.range (p8 e 0)).map fun i => dig e.payload (8 + 48 * i),
            bases := (List.range (p8 e 1)).map fun i => dig e.payload (392 + 48 * i) } }) t, Ans.ok)) ∧
    (∀ (c k : Nat) (cx : Context), let h := parseHead e.payload
      payFault (admitChecks e) = none → p8 e 8192 = c → p8 e 8195 = 0 → x.mode ≠ .confidential → ctxOf t e x c = some cx →
      (resOf t 5 (p16 e 8193)).st = .held e.target.toNat → 0x180 ≤ p16 e 8193 →
      (resOf t 5 (p16 e 8193)).params.toNat % 256 = c → x.policy.publishers.contains h.pbd = true → h.kind ≠ 3 →
      parcelOf t e.target.toNat c h.hd = none → (∀ a ∈ t.desk.adms, a.head.hd ≠ h.hd) →
      chooseWindow t x e.target.toNat c h.plainLen = some k →
      ∃ a : Admission, ∃ y : Parcel, a.step = .waiting ∧ a.window = k ∧ a.head = h ∧ a.aid = t.desk.order ∧ a.slot = p16 e 8193 ∧
        y.st = .inProgress ∧ y.window = k ∧ y.head = h ∧ y.bound = false ∧
        Says.served (.parcelAdmit e) specParcelAdmit e s t
          ({ t with desk := { t.desk with
              order := t.desk.order + 1, adms := t.desk.adms ++ [a],
              parcels := t.desk.parcels.filter (fun z => !isParcel e.target.toNat c h.hd z) ++ [y] } },
           Ans.ok (digBytes h.hd ++ [BitVec.ofNat 8 k] ++ zeros 7))) ∧
    (∀ (cx : Context) (y : Parcel), ctxOf t e x (p8 e 0) = some cx →
      parcelOf t e.target.toNat (p8 e 0) (dig e.payload 8) = some y → y.bound = true →
      (isOperator e = false ∨ x.mode ≠ .confidential) →
      (payFault ([(0, decide (p8 e 0 < 16)), (1, decide (p8 e 1 ≤ 1))] ++ rsv e 2 6) = none →
        Says.served (.parcelPin e) specParcelPin e s t
          (modParcel y.part y.ctx y.head.hd (fun z => { z with pinned := p8 e 1 == 1 }) t, Ans.ok)) ∧
      (payFault ([(0, decide (p8 e 0 < 16))] ++ rsv e 1 7) = none →
        Says.served (.parcelUnbind e) specParcelUnbind e s t (unbindParcel y.part y.ctx y.head.hd t, Ans.ok) ∧
        (y.pinned = false → y.st = .resident → evictable t y = true → t.desk.adms = [] →
          Says.served (.parcelEvict e) specParcelEvict e s t
            (evictParcel y (if isOperator e then countAct x.tenant t else t), Ans.ok)) ∧
        (y.pinned = true → Says.served (.parcelEvict e) specParcelEvict e s t (t, Ans.state)))) ∧
    (∀ c : Nat, payFault ([(0, decide (p8 e 0 < 16) || p8 e 0 == 255)] ++ rsv e 1 1 ++ rsv e 4 4) = none → p8 e 0 = c → c ≠ 255 →
      (ctxOf t e x c).isSome = true → mkeys x.ctxs = [c] →
      let l := t.desk.parcels.filter fun y => y.part == e.target.toNat && y.ctx == c
      Says.served (.parcelStatusGet e) specParcelStatusGet e s t
        (returned (fillEntries t e 64 l parcelEntry).1 t, (fillEntries t e 64 l parcelEntry).2)) ∧
    (∀ (q : Sys2Proof.Machine.Circle) (cx : Context), payFault ([(0, decide (p8 e 0 < 32)), (1, decide (p8 e 1 < 16)), (2, decide (p8 e 2 < 16))] ++ rsv e 3 5) = none →
      mget t.desk.circles (p8 e 0) = some q → mget x.ctxs (p8 e 2) = some cx → q.members = [] →
      (∀ r ∈ t.desk.circles, ∀ m ∈ r.2.members, m.part ≠ e.target.toNat) → x.mode = q.mode → x.mode ≠ .confidential →
      x.policy.bases.contains q.baseHd = true → mget x.windows (p8 e 1) = none →
      let w : Window := { base := q.base, size := q.size, stack := q.stack, access := 4, ctx := p8 e 2,
                          use := .sharedParcel (p8 e 0), save := none, exposed := false }
      let q' : Sys2Proof.Machine.Circle := { q with
        members := [{ part := e.target.toNat, window := p8 e 1, ctx := p8 e 2, bound := false }],
        first := some (q.first.getD e.target.toNat) }
      Says.served (.circleJoin e) specCircleJoin e s t
        (modPart e.target.toNat (fun y => { y with windows := mput y.windows (p8 e 1) w })
          { t with desk := { t.desk with circles := mput t.desk.circles (p8 e 0) q' } }, Ans.ok)) ∧
    (∀ q : Sys2Proof.Machine.Circle, payFault ([(0, decide (p8 e 0 < 32))] ++ rsv e 1 7) = none → mget t.desk.circles (p8 e 0) = some q →
      (q.members.any fun m => m.part == e.target.toNat) = true →
      Says.served (.circleLeave e) specCircleLeave e s t
        (leaveCircle e.target.toNat (p8 e 0) (countAct x.tenant t), Ans.ok))

/-- A circle is created over a range that nothing holds, under a key of its own in the lowest free pool slot (R310); its
status names it (R478). -/
def Says.circlesAreCreated : Prop :=
  ∀ (e : Env) (s t : State) (k : Nat),
    let w : Window := { base := p32 e 8, size := p32 e 12, stack := p8 e 2, access := 4, ctx := 255, use := .plain, save := none,
                        exposed := false }
    (payFault ([(0, decide (p8 e 0 < 32)), (1, p8 e 1 == 1 || p8 e 1 == 2), (2, decide (p8 e 2 < nStacks t))] ++ rsv e 3 5 ++
        [(8, decide (p32 e 8 < 18432)), (12, decide (1 ≤ p32 e 12 ∧ p32 e 8 + p32 e 12 ≤ 18432))] ++ rsv e 16 4) = none →
      mget t.desk.circles (p8 e 0) = none → rangeHeld t w = false → stackShut t (p8 e 2) = false → modeOfCode (p8 e 1) ≠ .confidential →
      rangeScrub t w = false → t.eng.entropyFailed = false → freePool t = some k → ∃ u r,
        Says.served (.circleCreate e) specCircleCreate e s t (u, r) ∧ (r = Ans.ok ∨ r = Ans.waiting) ∧
        (∃ c, mget u.desk.circles (p8 e 0) = some c ∧ c.keySlot = k ∧ c.baseHd = dig e.payload 20 ∧ c.members = [] ∧
          c.base = p32 e 8 ∧ c.size = p32 e 12 ∧ c.stack = p8 e 2 ∧ c.resident = false) ∧
        (slot u k).activeValid = true ∧ (slot u k).exportable = false ∧ (resOf u 5 k).st = .held 255) ∧
    (payFault ([(0, decide (p8 e 0 < 32) || p8 e 0 == 255)] ++ rsv e 1 1 ++ rsv e 4 4) = none → p8 e 0 = 255 →
      Says.served (.circleStatusGet e) specCircleStatusGet e s t
        (t, (fillEntries t e 72 (circlesSeen t e) (circleEntry t e)).2))

/-- The steps of an admission (R303–R307): it takes the lowest free lane and waits for a PKE mark; a header whose
signatures fail ends it with INTEGRITY reason 1; a chunk table whose Merkle root is the header's is taken, one whose root is
not ends it with reason 4; a chunk that verifies is decrypted, written and counted; a Confidential outcome shows at its
release and an unready one counts an overrun. -/
def Says.admissionSteps : Prop :=
  ∀ (s : State) (a : Admission),
    (∀ n, s.desk.adms.find? (fun b => b.step == .waiting && b.head.hd == a.head.hd && laneTurn s b && startAllowed s b.part) = some a →
      freeLane s = some n → a.circle = none → residentIn s a.part a.window = none → a.readmit = false → isConf s a.part = false → Runs (.admissionStart a.head.hd) s fun t =>
        t.desk.adms = s.desk.adms.map (fun b => if b.aid = a.aid then { a with
          lane := some n, start := s.aon.tick, startSlots := (((part? s a.part).bind (·.host)).map (·.slotsA)).getD 0,
          hit := false, step := .headerMark } else b)) ∧
    (s.desk.adms.find? (fun b => b.step == .headerMark) = some a → s.eng.pkeFenced = false → exec .pkeMark s = .next (after s
      (if headSigned a.head = true then keyStep a (bindStep a s) else failAdm 9 1 a s))) ∧
    (∀ lane : BitVec 3, s.desk.adms.find? (fun b => b.lane == some lane.toNat && !b.hit && (b.step == .table || b.step == .chunks)) = some a →
      admBusy s a = false →
      (∀ b : Bytes, a.step = .table → b.length = 64 * a.head.chunks → tableRoot a.head.chunks b = a.head.root →
        Runs (.chunkComplete lane (.bytes b)) s fun t => t.desk.adms = s.desk.adms.map (fun c => if c.aid = a.aid then
          { a with step := .chunks, table := tableEntries a.head.chunks b } else c)) ∧
      (∀ b : Bytes, a.step = .table → b.length = 64 * a.head.chunks → tableRoot a.head.chunks b ≠ a.head.root →
        exec (.chunkComplete lane (.bytes b)) s = .next (after s (failAdm 9 4 a s))) ∧
      (∀ b : Bytes, a.step = .chunks → a.chunk + 1 < a.head.chunks → b.length = min (2 ^ 20) (a.head.plainLen - a.chunk * 2 ^ 20) →
        poolUp s = true → s.eng.seFenced = false → sha384 b = (a.table.getD a.chunk (0, 0)).1 → (slot s a.slot).isEmpty = false →
        Config.gcmTag a.key (chunkIv a.head a.chunk) (digBytes a.head.hd ++ be64 a.chunk) b = (a.table.getD a.chunk (0, 0)).2 →
        let w := deskWrite a (a.chunk * 2 ^ 20) (gcmXor a.key (chunkIv a.head a.chunk) b) s
        w.2 = 0 → exec (.chunkComplete lane (.bytes b)) s = .next (after s (setAdm { a with chunk := a.chunk + 1 } w.1)))) ∧
    (∀ (p : BitVec 7) (k : BitVec 4), isConf s p.toNat = true →
      s.desk.adms.find? (fun b => b.part == p.toNat && b.window == k.toNat && b.lane.isSome) = some a →
      (a.step ≠ .done → Runs (.admissionRelease p k) s fun t => Touches [.desk] s t ∧
        t.desk = { s.desk with overrun := satInc s.desk.overrun }) ∧
      (a.step = .done → a.ok = true → Runs (.admissionRelease p k) s fun t =>
        (∀ b ∈ t.desk.adms, b.aid ≠ a.aid) ∧
        ∀ w, windowOf s a.part a.window = some w → ∃ w', windowOf t a.part a.window = some w' ∧ w'.access = 1 ∧ w'.exposed = true))

/-- Circles are created and listed, admissions take their steps. -/
def Obligations.AdmissionsAndCircles : Prop :=
  Says.circlesAreCreated ∧ Says.admissionSteps

/-! ### The cores -/

/-- A core that takes a word: it runs, the word lies in its program, and no trace is set (R258, R450). -/
def Says.issues (c : BitVec 7) (s : State) : Prop :=
  (core s c.toNat).st = .run ∧ (core s c.toNat).pc < (core s c.toNat).progLen / 32 ∧ (core s c.toNat).dbg.trace = none

/-- A core whose broad word has retired and which goes on at `pc`: the word is counted, and the last step of a stepped
resume stops it. -/
def Says.retired (pc : Nat) (x : Core) : Core :=
  { x with pc := pc, st := if x.dbg.stepsLeft = 1 ∧ x.st = .run then .debugHalt else x.st,
           counts := { x.counts with issued := satInc x.counts.issued },
           dbg := { x.dbg with stepsLeft := x.dbg.stepsLeft - 1 } }

/-- A core after one of a broad word's four scalar slots: the word retires with its last slot. -/
def Says.slotted (l : SSlot) (x : Core) : Core := if l.slot = 3 then Says.retired (x.pc + 1) x else x

/-- The command runs and changes one core alone, to `y`. -/
def Says.coreTo (i : Instr) (c : BitVec 7) (s : State) (y : Core) : Prop :=
  Runs i s fun t => Touches [.cores] s t ∧ core t c.toNat = y ∧ ∀ k, k ≠ c.toNat → core t k = core s k

/-- Whether the predicate of a scalar slot or a control word lets it execute (R261). -/
def Says.on (x : Core) (pred : BitVec 3) (pbit : BitVec 6) (pneg : Bool) : Prop := (getM x pred.toNat).getLsbD pbit.toNat ≠ pneg

/-- The two-operand scalar operations of Table 11-8. -/
def Says.alu : List ((BitVec 7 → SSlot → Instr) × (BitVec 64 → BitVec 64 → BitVec 64)) :=
  [(.add, fun a b => a + b), (.sub, fun a b => a - b), (.mul, fun a b => BitVec.ofInt 64 (a.toInt * b.toInt)),
   (.mulh, fun a b => BitVec.ofInt 64 (a.toInt * b.toInt / 2 ^ 64)), (.and, fun a b => a &&& b), (.or, fun a b => a ||| b),
   (.xor, fun a b => a ^^^ b), (.shl, fun a b => a <<< (b.extractLsb' 0 6).toNat), (.shr, fun a b => a >>> (b.extractLsb' 0 6).toNat),
   (.sar, fun a b => a.sshiftRight (b.extractLsb' 0 6).toNat),
   (.min, fun a b => if a.toInt < b.toInt then a else b), (.max, fun a b => if a.toInt < b.toInt then b else a),
   (.slt, fun a b => if a.toInt < b.toInt then 1 else 0), (.sltu, fun a b => if a.toNat < b.toNat then 1 else 0),
   (.seq, fun a b => if a = b then 1 else 0)]

/-- The scalar register operations (R256, Table 11-8): the destination alone changes, from X[RA] and X[RB] or the
sign-extended immediate; with the predicate off nothing but the slot's retirement happens. X0 reads as zero and keeps no
write, M0 reads as all ones (R254). -/
def Obligations.ScalarResults : Prop :=
  ∀ (c : BitVec 7) (i : SSlot) (s : State), Says.issues c s → let x := core s c.toNat
    let b : BitVec 64 := if i.immsel then i.imm.signExtend 64 else getX x i.rb.toNat
    let on := Says.on x i.pred i.pbit i.pneg
    (sUnused { rd := true, ra := true, b := true } i = true → ∀ p ∈ Says.alu,
      (on → i.rd ≠ 0 → Says.coreTo (p.1 c i) c s
        (Says.slotted i { x with x := mset x.x i.rd.toNat (p.2 (getX x i.ra.toNat) b) 0 })) ∧
      (¬ on ∨ i.rd = 0 → Says.coreTo (p.1 c i) c s (Says.slotted i x))) ∧
    (sUnused {} i = true → Says.coreTo (.snop c i) c s (Says.slotted i x)) ∧
    (sUnused { rd := true, imm := true } i = true → on → Says.coreTo (.ldi c i) c s
      (Says.slotted i (setX i.rd.toNat (i.imm.signExtend 64) x))) ∧
    (sUnused { rd := true, ra := true, imm := true } i = true → on → Says.coreTo (.ldhi c i) c s
      (Says.slotted i (setX i.rd.toNat (i.imm ++ (getX x i.ra.toNat).extractLsb' 0 34) x))) ∧
    (sUnused { rd := true, ra := true } i = true → on → i.rd.toNat < 8 → i.rd ≠ 0 → Says.coreTo (.mset c i) c s
      (Says.slotted i { x with m := mset x.m i.rd.toNat (getX x i.ra.toNat) 0 })) ∧
    (sUnused { rd := true, ra := true } i = true → on → i.ra.toNat < 8 → Says.coreTo (.mget c i) c s
      (Says.slotted i (setX i.rd.toNat (if i.ra = 0 then BitVec.allOnes 64 else mgetD x.m i.ra.toNat 0) x))) ∧
    getX x 0 = 0 ∧ setX 0 b x = x ∧ getM x 0 = BitVec.allOnes 64

/-- LDS, STS and CSRR (Tables 11-2, 11-8): the eight bytes at X[RA] + IMM, little-endian; a misaligned address is LS_RANGE
with the address reported; a CSR number no row names reads as zero, and the cycle count of a Confidential partition reads
with its low ten bits clear. -/
def Says.scalarMemory : Prop :=
  ∀ (c : BitVec 7) (i : SSlot) (s : State), Says.issues c s → let x := core s c.toNat
    let a := (getX x i.ra.toNat + i.imm.signExtend 64).toNat
    Says.on x i.pred i.pbit i.pneg →
    (sUnused { rd := true, ra := true, imm := true } i = true →
      (a % 8 = 0 → a + 8 ≤ 8388608 → mget x.lsMark (a / 64) = none → Says.coreTo (.lds c i) c s
        (Says.slotted i (setX i.rd.toNat (BitVec.ofNat 64 (leNat (mread x.ls a 8))) x))) ∧
      (∀ k, a % 8 = 0 → a + 8 ≤ 8388608 → mget x.lsMark (a / 64) = some k →
        exec (.lds c i) s = .next (after s (coreFault c.toNat k.toNat i.slot.toNat (BitVec.ofNat 64 (64 * (a / 64))) s))) ∧
      (a % 8 ≠ 0 ∨ 8388608 < a + 8 →
        exec (.lds c i) s = .next (after s (coreFault c.toNat 2 i.slot.toNat (BitVec.ofNat 64 a) s)))) ∧
    (sUnused { ra := true, rb := true, imm := true } i = true →
      (a % 8 = 0 → a + 8 ≤ 8388608 → Says.coreTo (.sts c i) c s
        (Says.slotted i { x with ls := mwrite x.ls a (leBytes 8 (getX x i.rb.toNat).toNat) })) ∧
      (a % 8 ≠ 0 ∨ 8388608 < a + 8 →
        exec (.sts c i) s = .next (after s (coreFault c.toNat 2 i.slot.toNat (BitVec.ofNat 64 a) s)))) ∧
    (sUnused { rd := true, imm := true } i = true →
      (∀ v : BitVec 64, (i.imm = 0 → v = BitVec.ofNat 64 c.toNat) →
        (i.imm = 1 → v = BitVec.ofNat 64 ((coreHolder s c.toNat).getD 0)) →
        (∀ q, i.imm = 2 → (coreHolder s c.toNat).bind (part? s) = some q → v = BitVec.ofNat 64 q.running) →
        (∀ q, i.imm = 3 → (coreHolder s c.toNat).bind (part? s) = some q → v = q.periodSeq) →
        (∀ q, i.imm = 5 → (coreHolder s c.toNat).bind (part? s) = some q →
          v = BitVec.ofNat 64 (if q.mode = .confidential then q.level else x.step)) →
        (i.imm = 6 → v = x.lastDefer) → (6 < i.imm.toNat → v = 0) → i.imm ≠ 4 → i.imm.toNat ≤ 0xFFF →
        (i.imm.toNat ≤ 1 ∨ 6 ≤ i.imm.toNat ∨ ((coreHolder s c.toNat).bind (part? s)).isSome = true) →
        Says.coreTo (.csrr c i) c s (Says.slotted i (setX i.rd.toNat v x))) ∧
      (i.imm = 4 → Runs (.csrr c i) s fun t => Touches [.cores, .free] s t ∧ (∀ k, k ≠ c.toNat → core t k = core s k) ∧
        ∃ d : BitVec 64, 1 ≤ d.toNat ∧ (core t c.toNat).cycles = x.cycles + d ∧
          (i.rd ≠ 0 → ∀ q, (coreHolder s c.toNat).bind (part? s) = some q →
            mgetD (core t c.toNat).x i.rd.toNat 0 =
              if q.mode = .confidential then (core t c.toNat).cycles &&& ~~~0x3FF#64 else (core t c.toNat).cycles)))

/-- Where a word faults (R258, R270): beyond the program it is ISTORE_RANGE, with a field it must leave zero it is ILLEGAL.
The fault ends the entry the core holds and takes the core back to its entry state, to DEBUG_HALT under a halt-on-fault
policy of an Open partition, or to HALTED_FAULT at the sixty-fourth fault in a row (R273, R450). -/
def Says.wordsFault : Prop :=
  ∀ (c : BitVec 7) (i : CWord) (l : SSlot) (s : State), (core s c.toNat).st = .run →
    ((core s c.toNat).progLen / 32 ≤ (core s c.toNat).pc →
      exec (.cnop c i) s = .next (after s (coreFault c.toNat 3 0 0 s)) ∧
      exec (.snop c l) s = .next (after s (coreFault c.toNat 3 l.slot.toNat 0 s))) ∧
    ((core s c.toNat).pc < (core s c.toNat).progLen / 32 →
      (cUnused {} i = false → exec (.cnop c i) s = .next (after s (coreFault c.toNat 1 0 0 s))) ∧
      (sUnused {} l = false → exec (.snop c l) s = .next (after s (coreFault c.toNat 1 l.slot.toNat 0 s)))) ∧
    (∀ (code slot : Nat) (addr : BitVec 64) (p : Nat) (q : Partition), coreHolder s c.toNat = some p → part? s p = some q →
      s.power.pcie = true → (fnRegs s (fnOf p)).comp.enable = false →
      let x := core s c.toNat
      let t := coreFault c.toNat code slot addr s
      (core t c.toNat).entry = none ∧ (core t c.toNat).faultRun = x.faultRun + 1 ∧
      (core t c.toNat).counts.faulted = satInc x.counts.faulted ∧
      (x.dbg.haltOnFault = true ∧ q.mode ≠ .confidential → (core t c.toNat).st = .debugHalt ∧ (core t c.toNat).pc = x.pc) ∧
      (¬ (x.dbg.haltOnFault = true ∧ q.mode ≠ .confidential) → (core t c.toNat).pc = 0 ∧ (core t c.toNat).rstack = [] ∧
        (core t c.toNat).w = [] ∧ (core t c.toNat).acc = [] ∧ (core t c.toNat).x = x.x ∧ (core t c.toNat).ls = x.ls ∧
        (core t c.toNat).st = if 64 ≤ x.faultRun + 1 then .haltedFault else .run) ∧
      (∃ r, (fnRegs t (fnOf p)).comp.held = (fnRegs s (fnOf p)).comp.held ++ [r] ∧ r.status = 0x10 ∧
        r.fcode = BitVec.ofNat 8 code ∧ r.fslot = BitVec.ofNat 8 slot ∧ r.fpc = BitVec.ofNat 32 x.pc ∧ r.faddr = addr ∧
        r.tag = (x.entry.map fun e => e.tag).getD 0) ∧
      t.mem = s.mem ∧ t.vault = s.vault ∧ ∀ k, k ≠ c.toNat → core t k = core s k)

/-- Scalar loads, stores and CSRs, and where a word faults. -/
def Obligations.ScalarMemoryAndFaults : Prop :=
  Says.scalarMemory ∧ Says.wordsFault

/-- A vector lane's result is the lane operation on the operands' lanes, and a granule mask writes the granules it names
(R264). -/
def Says.vectorLanes : Prop :=
  ∀ (a b : BitVec 8192),
    (∀ (op : LaneOp) (d free i : Nat), d ≤ 4 → i < 8192 / laneBits d → ∃ nan,
      lane (vecLanes op d free a b) (laneBits d) i =
        laneOp op d nan (lane a (laneBits d) i) (lane b (laneBits d) i) % 2 ^ laneBits d) ∧
    (∀ (m : BitVec 64) (i : Nat), i < 8192 → (granules m a b).getLsbD i = if m.getLsbD (i / 128) then b.getLsbD i else a.getLsbD i) ∧
    (∀ (x y z : Nat), x < 2 ^ 32 → y < 2 ^ 32 → let v := sgn 32 x + sgn 32 y
      laneOp .add 3 z x y < 2 ^ 32 ∧ ((laneOp .add 3 z x y : Int) - v) % 2 ^ 32 = 0) ∧
    (∀ x y z : Nat, x < 2 ^ 8 → y < 2 ^ 8 →
      (x + y ≤ 255 → laneOp .add 1 z x y = x + y) ∧ (255 < x + y → laneOp .add 1 z x y = 255) ∧
      (y ≤ x → laneOp .sub 1 z x y = x - y) ∧ (x < y → laneOp .sub 1 z x y = 0) ∧
      (-128 ≤ sgn 8 x * sgn 8 y → sgn 8 x * sgn 8 y ≤ 127 → sgn 8 (laneOp .mul 0 z x y) = sgn 8 x * sgn 8 y) ∧
      (127 < sgn 8 x * sgn 8 y → laneOp .mul 0 z x y = 127))

/-- The wide-register operations (R264, R267): the destination register alone changes. -/
def Says.wideResults : Prop :=
  ∀ (c : BitVec 7) (w : WWord) (s : State), Says.issues c s → let x := core s c.toNat
    let a := getW x (wIndex w.da)
    let b := getW x (wIndex w.db)
    let old := getW x (wIndex w.dd)
    let m : BitVec 64 := if w.pneg then ~~~getM x w.pred.toNat else getM x w.pred.toNat
    let into := fun v => Says.retired (x.pc + 1) (setW (wIndex w.dd) v x)
    let freely := fun (i : Instr) (v : BitVec 8192) => Runs i s fun t => Touches [.cores, .free] s t ∧ t.free = s.free + 1024 ∧
      core t c.toNat = into v ∧ ∀ k, k ≠ c.toNat → core t k = core s k
    (descW w.da = true → descW w.dd = true →
      (descW w.db = true → w.dtype.toNat ≤ 4 →
        (wUnused { pred := true, dtype := true } w = true →
          ∀ p ∈ ([(.vadd, .add), (.vsub, .sub), (.vmul, .mul), (.vmax, .max), (.vmin, .min)] :
              List ((BitVec 7 → WWord → Instr) × LaneOp)),
            freely (p.1 c w) (granules m old (vecLanes p.2 w.dtype.toNat s.free a b))) ∧
        (wUnused { dtype := true } w = true →
          ∀ p ∈ ([(.vcmpgt, .gt), (.vcmpeq, .eq)] : List ((BitVec 7 → WWord → Instr) × LaneOp)),
            freely (p.1 c w) (vecLanes p.2 w.dtype.toNat s.free a b))) ∧
      (descW w.db = true → wUnused { pred := true } w = true →
        ∀ p ∈ ([(.vand, fun a b => a &&& b), (.vor, fun a b => a ||| b), (.vxor, fun a b => a ^^^ b)] :
            List ((BitVec 7 → WWord → Instr) × (BitVec 8192 → BitVec 8192 → BitVec 8192))),
          Says.coreTo (p.1 c w) c s (into (granules m old (p.2 a b)))) ∧
      (descW w.db = true → wUnused { sreg := true } w = true → ∃ v : BitVec 8192, Says.coreTo (.vsel c w) c s (into v) ∧
        ∀ n, n < 8192 → v.getLsbD n = if (getW x w.sreg.toNat).getLsbD n then a.getLsbD n else b.getLsbD n) ∧
      (descNone w.db = true → wUnused { dtype := true, shift := true } w = true → w.dtype = 0 ∨ w.dtype = 1 ∨ w.dtype = 3 →
        ∀ p ∈ ([(.vshr, false), (.vshl, true)] : List ((BitVec 7 → WWord → Instr) × Bool)), ∃ v : BitVec 8192,
          Says.coreTo (p.1 c w) c s (into v) ∧ ∀ n, n < 8192 / laneBits w.dtype.toNat →
            lane v (laneBits w.dtype.toNat) n =
              laneShift p.2 w.dtype.toNat w.shift.toNat (lane a (laneBits w.dtype.toNat) n) % 2 ^ laneBits w.dtype.toNat)) ∧
    (wUnused {} w = true → descNone w.da = true → descNone w.db = true → descNone w.dd = true →
      Says.coreTo (.wnop c w) c s (Says.retired (x.pc + 1) x)) ∧
    (wUnused {} w = true → descLs w.da = true → descNone w.db = true → descW w.dd = true → w.da.stride = 0 →
      descAddr x w.da 0 + 1024 ≤ 8388608 → x.lsMark = [] →
      Says.coreTo (.wls c w) c s (into (BitVec.ofNat 8192 (leNat (mread x.ls (descAddr x w.da 0) 1024))))) ∧
    (wUnused {} w = true → descW w.da = true → descNone w.db = true → descLs w.dd = true → w.dd.stride = 0 →
      descAddr x w.dd 0 + 1024 ≤ 8388608 → x.lsMark = [] → Says.coreTo (.wss c w) c s
        (Says.retired (x.pc + 1) { x with ls := mwrite x.ls (descAddr x w.dd 0) (leBytes 1024 a.toNat) }))

/-- The matrix operations (R262, R263): MMA adds the products of its K rows to each enabled accumulator element, exactly
and modulo 2^32 in the integer types; ACCRD writes an enabled element's scaled value to its place of the row; ACCWR reads
it. Every other element stays, but those ACLR clears. -/
def Says.matrixResults : Prop :=
  ∀ (c : BitVec 7) (w : WWord) (s : State), Says.issues c s → let x := core s c.toNat
    let m := w.mM1.toNat + 1
    let n := w.nM1.toNat + 1
    let k := w.kM1.toNat + 1
    let a := w.acc.toNat
    let on := fun i j => i < m ∧ j < n ∧ (getM x w.mrow.toNat).getLsbD i = true ∧ (getM x w.mcol.toNat).getLsbD j = true
    let one := fun (t : State) (y : Core) => core t c.toNat = Says.retired (x.pc + 1) y ∧ ∀ q, q ≠ c.toNat → core t q = core s q
    (wUnused { acc := true, aclr := true, dtype := true, m := true, n := true, k := true, mask := true } w = true →
      w.dtype.toNat ≤ 1 → descLs w.da = true → descLs w.db = true → descNone w.dd = true → x.lsMark = [] →
      (∀ r, r < k → descAddr x w.da r + m ≤ 8388608 ∧ descAddr x w.db r + n ≤ 8388608) →
      Runs (.mma c w) s fun t => Touches [.cores, .free] s t ∧ ∃ acc, one t { x with acc := acc } ∧
        (∀ b i j, i < 64 → j < 64 → mgetD acc (4096 * b + 64 * i + j) 0 =
          if b = a then
            (if on i j then BitVec.ofInt 32 ((if w.aclr then 0 else (getAcc x a i j).toInt) +
                ((List.range k).map fun r =>
                  (if w.dtype = 1 then (((lsRead x (descAddr x w.da r) m).getD i 0).toNat : Int)
                   else ((lsRead x (descAddr x w.da r) m).getD i 0).toInt) * ((lsRead x (descAddr x w.db r) n).getD j 0).toInt).sum)
             else if w.aclr then 0 else getAcc x a i j)
          else getAcc x b i j)) ∧
    (wUnused { acc := true, dtype := true, m := true, n := true, mask := true } w = true → w.dtype = 3 ∨ w.dtype = 4 →
      descLs w.da = true → descNone w.db = true → descNone w.dd = true → x.lsMark = [] →
      (∀ r, r < m → descAddr x w.da r + 4 * n ≤ 8388608) →
      Runs (.accwr c w) s fun t => Touches [.cores] s t ∧ ∃ acc, one t { x with acc := acc } ∧
        (∀ b i j, i < 64 → j < 64 → mgetD acc (4096 * b + 64 * i + j) 0 =
          if b = a ∧ on i j then BitVec.ofNat 32 (leNat (mread x.ls (descAddr x w.da i + 4 * j) 4)) else getAcc x b i j)) ∧
    (wUnused { acc := true, dtype := true, m := true, n := true, mask := true, scale := true, shift := true, sreg := true } w = true →
      w.dtype = 3 → w.smode = 0 → w.sreg = 0 → descNone w.da = true → descNone w.db = true → descLs w.dd = true →
      w.dd.stride.toNat = 4 * n → descAddr x w.dd 0 + 4 * n * m ≤ 8388608 →
      Runs (.accrd c w) s fun t => Touches [.cores, .free] s t ∧ ∃ ls mk, one t { x with ls := ls, lsMark := mk } ∧
        (∀ q, (∀ i j, on i j → q < descAddr x w.dd i + 4 * j ∨ descAddr x w.dd i + 4 * j + 4 ≤ q) →
          mgetD ls q 0 = mgetD x.ls q 0) ∧
        (∀ i j, on i j → ∃ v : BitVec 32, mread ls (descAddr x w.dd i + 4 * j) 4 = leBytes 4 v.toNat ∧
          let z : Int := ((getAcc x a i j).toInt + (if w.shift = 0 then 0 else 2 ^ (w.shift.toNat - 1))) / 2 ^ w.shift.toNat + w.zp.toInt
          (-(2 ^ 31) ≤ z → z < 2 ^ 31 → v.toInt = z) ∧ (z < -(2 ^ 31) → v.toInt = -(2 ^ 31)) ∧ (2 ^ 31 ≤ z → v.toInt = 2 ^ 31 - 1)))

/-- Vector lanes, wide registers and the matrix unit. -/
def Obligations.WideAndMatrix : Prop :=
  Says.vectorLanes ∧ Says.wideResults ∧ Says.matrixResults

/-- Transfers (R251, R265, R271, R272): XLD and XST check their rows, leave their lines outstanding under their tag and
retire; a tag in use holds the core. A line that arrives is committed to local store, one that is refused marks its
destination; a refused store is a deferred fault. -/
def Obligations.Transfers : Prop :=
  ∀ (c : BitVec 7) (s : State), let x := core s c.toNat
    (∀ w : WWord, Says.issues c s → w.cache ≠ 3 →
      (wUnused { m := true, k := true, nospec := true, cache := true } w = true → descWin w.da = true → descNone w.db = true →
        descLs w.dd = true →
        let rows := (List.range (w.mM1.toNat + 1)).map fun r => (descAddr x w.da r, descAddr x w.dd r)
        let es := rows.map fun r => (r.2, w.kM1.toNat + 1)
        (xferOut x (tagBit w.xtag) = true → Says.coreTo (.xld c w) c s { x with st := .wait, waiting := .transfers (tagBit w.xtag) }) ∧
        (xferOut x (tagBit w.xtag) = false → lsCheck x [] es = none →
          (xferCheck x w.da.win.toNat false rows (w.kM1.toNat + 1) = none → Says.coreTo (.xld c w) c s
            (Says.retired (x.pc + 1) { x with xfers := x.xfers ++
              [{ tag := w.xtag, isSt := false, win := w.da.win.toNat, cache := w.cache,
                 rows := xferLines rows (w.kM1.toNat + 1) fun _ _ => [] }] })) ∧
          ((Wd.ofBits (mgetD x.wd w.da.win.toNat 0)).valid = false → exec (.xld c w) s = .next (after s
            (coreFault c.toNat 0x11 0 (BitVec.ofNat 64 (descAddr x w.da 0)) s))))) ∧
      (wUnused { m := true, k := true, cache := true } w = true → descLs w.da = true → descNone w.db = true → descWin w.dd = true →
        w.cache = 2 → xferOut x (tagBit w.xtag) = false →
        let rows := (List.range (w.mM1.toNat + 1)).map fun r => (descAddr x w.dd r, descAddr x w.da r)
        lsCheck x (rows.map fun r => (r.2, w.kM1.toNat + 1)) [] = none →
        xferCheck x w.dd.win.toNat true rows (w.kM1.toNat + 1) = none → Says.coreTo (.xst c w) c s
          (Says.retired (x.pc + 1) { x with xfers := x.xfers ++
            [{ tag := w.xtag, isSt := true, win := w.dd.win.toNat, cache := w.cache,
               rows := xferLines rows (w.kM1.toNat + 1) fun a n => mread x.ls a n }] }))) ∧
    (∀ (tag : BitVec 4) (idx : BitVec 16) (f : Xfer) (r : XferLine) (p : Nat), coreHolder s c.toNat = some p → f.cache = 2 →
      tracked s p f.win r.off = false →
      (xferFind x tag false idx.toNat = some (f, r) → xferCheck x f.win false [(r.off, r.ls)] r.len = none →
        let q := memRead (.core c) f.win r.off r.len (touch p f.win s)
        (q.2.1 = 0 → Runs (.xldLineArrival c tag idx []) s fun t => (core t c.toNat).ls = mwrite x.ls r.ls (slice q.2.2 0 q.2.2.length) ∧
          xferFind (core t c.toNat) tag false idx.toNat = none ∧ (∀ k, k ≠ c.toNat → core t k = core s k) ∧ t.q = q.1.q) ∧
        (q.2.1 ≠ 0 → 0 < r.len → Runs (.xldLineArrival c tag idx []) s fun t => (core t c.toNat).ls = x.ls ∧
          mget (core t c.toNat).lsMark (r.ls / 64) = some (BitVec.ofNat 8 (0x10 + q.2.1)) ∧
          xferFind (core t c.toNat) tag false idx.toNat = none ∧ (∀ k, k ≠ c.toNat → core t k = core s k))) ∧
      (xferFind x tag true idx.toNat = some (f, r) →
        let g := resolve s (.core c) f.win
        let q := memWrite (.core c) f.win r.off r.data (l2Drop (c.toNat / 16) p g.wd.stack (gateAddr g r.off / 64) s)
        (q.2 = 0 → Runs (.xstResponse c tag idx []) s fun t => xferFind (core t c.toNat) tag true idx.toNat = none ∧
          (core t c.toNat).deferTag = x.deferTag ∧ t.mem = q.1.mem ∧ (∀ k, k ≠ c.toNat → core t k = core s k)) ∧
        (q.2 ≠ 0 → Runs (.xstResponse c tag idx []) s fun t => xferFind (core t c.toNat) tag true idx.toNat = none ∧
          (core t c.toNat).deferTag = x.deferTag ++ [tag] ∧ (core t c.toNat).lastDefer = BitVec.ofNat 64 (0x10 + q.2))))

/-- Branches and calls (R260, Tables 11-6 and 11-9): each condition on X[RA] and X[RB]; CALL and RET keep a stack of at most
64 return addresses, and a call beyond it or a return from an empty one faults with RSTACK. -/
def Obligations.ControlFlow : Prop :=
  ∀ (c : BitVec 7) (w : CWord) (s : State), Says.issues c s → let x := core s c.toNat
    let on := Says.on x w.pred w.pbit w.pneg
    let a := getX x w.ra.toNat
    let b := getX x w.rb.toNat
    let takes : Prop := w.cond = 0 ∨ (w.cond = 1 ∧ a = b) ∨ (w.cond = 2 ∧ a ≠ b) ∨ (w.cond = 3 ∧ a.toInt < b.toInt) ∨
      (w.cond = 4 ∧ b.toInt ≤ a.toInt) ∨ (w.cond = 5 ∧ a.toNat < b.toNat) ∨ (w.cond = 6 ∧ b.toNat ≤ a.toNat)
    (cUnused {} w = true → Says.coreTo (.cnop c w) c s (Says.retired (x.pc + 1) x)) ∧
    (cUnused { ra := true, rb := true, cond := true, target := true } w = true →
      (on → takes → ∀ n : Nat, (n : Int) = x.pc + w.target.toInt →
        Says.coreTo (.br c w) c s (Says.retired n { x with warm := true })) ∧
      (on → ¬ takes → Says.coreTo (.br c w) c s (Says.retired (x.pc + 1) { x with warm := true })) ∧
      (¬ on → Says.coreTo (.br c w) c s (Says.retired (x.pc + 1) x))) ∧
    (cUnused { target := true } w = true → on →
      (x.rstack.length < 64 → ∀ n : Nat, (n : Int) = x.pc + w.target.toInt → Says.coreTo (.call c w) c s
        (Says.retired n { x with warm := true, rstack := (x.pc + 1) :: x.rstack })) ∧
      (64 ≤ x.rstack.length → exec (.call c w) s = .next (after s (coreFault c.toNat 4 0 0 s)))) ∧
    (cUnused {} w = true → on →
      (∀ n as, x.rstack = n :: as → Says.coreTo (.ret c w) c s (Says.retired n { x with warm := true, rstack := as })) ∧
      (x.rstack = [] → exec (.ret c w) s = .next (after s (coreFault c.toNat 4 0 0 s)))) ∧
    (cUnused { ra := true } w = true → on →
      Says.coreTo (.jr c w) c s (Says.retired a.toNat { x with warm := true }))

/-- Work entries, tokens and fences on a core (R266, R269, R283, R284, R290): QTAKE takes the oldest entry of a period that
has begun into X24–X31 or waits; QDONE commits the entry's output; TWAIT and TTRY take one from a token's count, TSIG adds
to it and saturates; FENCE and XWAIT wait for the transfers they name. -/
def Obligations.QueuesAndTokens : Prop :=
  ∀ (c : BitVec 7) (w : CWord) (s : State) (p : Nat) (q : Partition), Says.issues c s → coreHolder s c.toNat = some p →
    part? s p = some q → let x := core s c.toNat
    Says.on x w.pred w.pbit w.pneg →
    (cUnused {} w = true →
      (∀ e, x.queue.find? (fun e => decide (e.period.toNat ≤ q.periodSeq.toNat)) = some e → x.entry = none →
        Runs (.qtake c w) s fun t => Touches [.cores] s t ∧ (core t c.toNat).entry = some e ∧ (core t c.toNat).pc = x.pc + 1 ∧
          (core t c.toNat).queue = removeFirst (fun z => z == e) x.queue ∧
          (∀ i, i < 8 → getX (core t c.toNat) (24 + i) = e.x.getD i 0) ∧
          (∀ i, i < 24 → getX (core t c.toNat) i = getX x i) ∧ ∀ k, k ≠ c.toNat → core t k = core s k) ∧
      ((∀ e ∈ x.queue, q.periodSeq.toNat < e.period.toNat) →
        Says.coreTo (.qtake c w) c s { x with st := .wait, waiting := .queue }) ∧
      ((x.xfers.any fun f => f.isSt) = true → Says.coreTo (.fence c w) c s { x with st := .wait, waiting := .fence }) ∧
      ((x.xfers.any fun f => f.isSt) = false → x.deferTag = [] →
        Says.coreTo (.fence c w) c s (Says.retired (x.pc + 1) x)) ∧
      ((x.xfers.any fun f => f.isSt) = false → x.deferTag ≠ [] → exec (.fence c w) s = .next (after s
        (coreFault c.toNat x.lastDefer.toNat 0 (Config.open64 s.free) { s with free := s.free + 1 }))) ∧
      ((∀ l ∈ s.mem.l2, l.tile = c.toNat / 16 → l.part = p → l.dirty = false) →
        Says.coreTo (.l2wb c w) c s (Says.retired (x.pc + 1) x)) ∧
      (∀ l r, s.mem.l2 = [l] → l.tile = c.toNat / 16 → l.part = p → l.dirty = true → writeBack l s = (r, true) →
        Runs (.l2wb c w) s fun t => t.mem.l2 = [{ l with dirty := false }] ∧ t.mem.hbm = r.mem.hbm ∧
          core t c.toNat = Says.retired (x.pc + 1) x)) ∧
    (cUnused { imm := true } w = true →
      (xferOut x w.imm16 = true → Says.coreTo (.xwait c w) c s { x with st := .wait, waiting := .transfers w.imm16 }) ∧
      (xferOut x w.imm16 = false → (∀ g ∈ x.deferTag, w.imm16.getLsbD g.toNat = false) →
        Says.coreTo (.xwait c w) c s (Says.retired (x.pc + 1) x))) ∧
    (cUnused { ra := true } w = true → (x.xfers.any fun f => f.isSt) = false → x.deferTag = [] →
      (∀ e : WorkEntry, x.entry = some e → let res := getX x w.ra.toNat
        res.toNat % 2 ^ 32 ≤ e.outLen → res.toNat % 2 ^ 32 = 0 ∨ windowOf s e.part e.outWin ≠ none →
        Runs (.qdone c w) s fun t => Touches [.cores, .q] s t ∧
          core t c.toNat = Says.retired (x.pc + 1) { x with entry := none, faultRun := 0 } ∧
          (∀ k, k ≠ c.toNat → core t k = core s k) ∧ ∃ o, t.q = { s.q with outs := s.q.outs ++ [o] } ∧ o.fn = fnOf e.part ∧
          o.win = e.outWin ∧ o.off = e.outOff ∧ o.len = res.toNat % 2 ^ 32 ∧ o.addr = e.outAddr ∧ o.lost = false ∧
          o.record.tag = e.tag ∧ o.record.status = 0 ∧ o.record.outLen = res.extractLsb' 0 32 ∧
          o.record.result = res.extractLsb' 32 32 ∧ o.record.entryId = e.x.getD 5 0) ∧
      (x.entry = none → exec (.qdone c w) s = .next (after s (coreFault c.toNat 5 0 0 s)))) ∧
    (∀ (k : Token), let n := (getX x w.ra.toNat + w.imm16.zeroExtend 64).toNat
      n < 4096 → (resOf s 4 n).st = .held p → mget s.q.tokens n = some k → k.proxy = false →
      (cUnused { ra := true, rd := true, imm := true } w = true →
        (k.count ≠ 0 → Runs (.twait c w) s fun t => Touches [.cores, .q] s t ∧
          core t c.toNat = Says.retired (x.pc + 1) (setX w.rd.toNat 0 x) ∧
          t.q = { s.q with tokens := mput s.q.tokens n { k with count := k.count - 1 } }) ∧
        (k.count = 0 → Runs (.twait c w) s fun t => Touches [.cores, .q] s t ∧
          core t c.toNat = { x with st := .wait, waiting := .token n w.rd } ∧
          t.q = { s.q with tokens := mput s.q.tokens n { k with waiters := k.waiters ++ [c.toNat] } }) ∧
        ((x.xfers.any fun f => f.isSt) = false → x.deferTag = [] →
          (k.count ≠ 0 → Runs (.ttry c w) s fun t => Touches [.cores, .q] s t ∧
            core t c.toNat = Says.retired (x.pc + 1) (setX w.rd.toNat 0 x) ∧
            t.q = { s.q with tokens := mput s.q.tokens n { k with count := k.count - 1 } }) ∧
          (k.count = 0 → Says.coreTo (.ttry c w) c s (Says.retired (x.pc + 1) (setX w.rd.toNat 2 x))))) ∧
      (cUnused { ra := true, rb := true, imm := true } w = true → (x.xfers.any fun f => f.isSt) = false → x.deferTag = [] →
        k.waiters = [] → let sum := k.count.toNat + (getX x w.rb.toNat).toNat % 2 ^ 32
        Runs (.tsig c w) s fun t => Touches [.cores, .q] s t ∧ core t c.toNat = Says.retired (x.pc + 1) x ∧
          ∃ k', t.q = { s.q with tokens := mput s.q.tokens n k' } ∧ k'.count.toNat = min sum (2 ^ 32 - 1) ∧
            k'.overflow = (k.overflow || decide (2 ^ 32 ≤ sum)) ∧ k'.waiters = [] ∧ k'.imp = k.imp)) ∧
    ((resOf s 4 (getX x w.ra.toNat + w.imm16.zeroExtend 64).toNat).st ≠ .held p →
      cUnused { ra := true, rd := true, imm := true } w = true →
      exec (.twait c w) s = .next (after s (coreFault c.toNat 0x20 0 0 s)))

/-- The line-ownership directory (R292–R294): a read of a line no tile holds answers it from memory and records the reader;
a line another tile owns is snooped first; a drop takes the tile off the line's sharers, and a dirty one writes the line
back; a tile answers a snoop by what it holds, and the directory applies the answer. -/
def Obligations.DirectoryRequests : Prop :=
  ∀ (tile stack : BitVec 3) (line : BitVec 30) (part : BitVec 7) (s : State), s.q.dirWaits = [] →
    let key := stack.toNat * 2 ^ 30 + line.toNat
    let p := part.toNat
    let mine := s.mem.l2.filter fun l => l.on tile.toNat stack.toNat line.toNat
    (domOf s 2 = .on → domOf s (6 + tile.toNat) = .on → hasWay s tile.toNat p = true → needStack stack.toNat s = s →
      (lineGate s p stack.toNat line.toNat).key ≠ none → stackShut s stack.toNat = false →
      l2Find s tile.toNat p stack.toNat line.toNat = none →
      let r := readLine (lineGate s p stack.toNat line.toNat) p line.toNat s
      (mget s.q.dir key = none → (s.q.dir.filter fun e => e.2.owner == p).length < 16384 * (heldOf s 3 p).length → r.2.1 = 0 →
        (Runs (.rdS tile stack line part) s fun t =>
          mget t.q.dir key = some { st := .s, sharers := BitVec.ofNat 8 (2 ^ tile.toNat), owner := p } ∧ t.q.dirWaits = [] ∧
          (l2Find t tile.toNat p stack.toNat line.toNat).map (fun l => (l.data, l.dirty)) = some (r.2.2, false) ∧
          t.out = .dirData tile.toNat stack.toNat line.toNat false :: r.1.out ∧ t.mem.hbm = r.1.mem.hbm) ∧
        (Runs (.rdM tile stack line part) s fun t =>
          mget t.q.dir key = some { st := .m, sharers := BitVec.ofNat 8 (2 ^ tile.toNat), owner := p } ∧ t.q.dirWaits = [] ∧
          (l2Find t tile.toNat p stack.toNat line.toNat).map (fun l => (l.data, l.dirty)) = some (r.2.2, false) ∧
          t.out = .dirData tile.toNat stack.toNat line.toNat true :: r.1.out)) ∧
      (∀ d o, mget s.q.dir key = some d → d.st = .m → otherTiles d tile.toNat = [o] →
        (∀ x ∈ s.q.snoops, ¬ (x.line = key ∧ x.tile = o)) → ∀ own : Bool,
        Runs (if own then .rdM tile stack line part else .rdS tile stack line part) s fun t => Touches [.q, .out] s t ∧
          t.q.dir = s.q.dir ∧ ∃ x, t.q.snoops = s.q.snoops ++ [x] ∧ x.line = key ∧ x.tile = o ∧ x.fetch = true ∧
            t.out = .snoop x.sid.toNat o key true :: s.out)) ∧
    ((∀ l ∈ mine, l.dirty = false) → (∀ x ∈ s.q.snoops, ¬ (x.line = key ∧ x.tile = tile.toNat)) →
      Runs (.evict tile stack line) s fun t => Touches [.mem, .q, .out] s t ∧
        t.mem = { s.mem with l2 := s.mem.l2.filter (fun l => !l.on tile.toNat stack.toNat line.toNat) } ∧
        t.q = (unshare key tile.toNat s).q ∧ t.out = .dirAck tile.toNat line.toNat :: s.out) ∧
    (∀ l r, l2Find s tile.toNat p stack.toNat line.toNat = some l → l.dirty = true → writeBack l s = (r, true) →
      (∀ x ∈ s.q.snoops, ¬ (x.line = key ∧ x.tile = tile.toNat)) → Runs (.wb tile stack line part) s fun t =>
        l2Find t tile.toNat p stack.toNat line.toNat = none ∧ t.mem.hbm = r.mem.hbm ∧
        t.q.dir = (unshare key tile.toNat s).q.dir) ∧
    (∀ x fetch, s.q.snoops.find? (fun x => x.line == key && x.tile == tile.toNat && x.fetch == fetch) = some x →
      (∀ l ∈ mine, l.dirty = false) →
      Runs (if fetch then .snpFetch tile stack line else .snpInv tile stack line) s fun t => Touches [.mem, .out] s t ∧
        t.mem.hbm = s.mem.hbm ∧
        (mine = [] → t.mem = s.mem ∧ t.out = .snoopAnswer x.sid.toNat "NOT_PRESENT" :: s.out) ∧
        (mine ≠ [] → t.out = .snoopAnswer x.sid.toNat (if fetch then "ACK_DATA" else "ACK") :: s.out ∧
          t.mem.l2 = if fetch then s.mem.l2 else s.mem.l2.filter (fun l => !l.on tile.toNat stack.toNat line.toNat))) ∧
    (∀ (sid : BitVec 12) (x : Snoop), s.q.snoops.find? (fun x => x.sid == sid) = some x →
      (Runs (.notPresent sid) s fun t => Touches [.q] s t ∧ t.q.snoops = removeFirst (fun y => y == x) s.q.snoops ∧
        ∀ d, mget s.q.dir x.line = some d →
          let m := setBit d.sharers x.tile false
          mget t.q.dir x.line = if m = 0 then none else some { d with sharers := m }) ∧
      (x.fetch = true → Runs (.ack sid true) s fun t => Touches [.q] s t ∧
        t.q.snoops = removeFirst (fun y => y == x) s.q.snoops ∧
        ∀ d, mget s.q.dir x.line = some d → mget t.q.dir x.line = some { d with st := .s })) ∧
    (∀ sid : BitVec 12, (∀ x ∈ s.q.snoops, x.sid ≠ sid) →
      Runs (.ack sid false) s (fun t => Keeps [] s t) ∧ Runs (.notPresent sid) s (fun t => Keeps [] s t))

/-! ### The thermal governor, frames, periods and scrubs -/

/-- Sensor readings (R368, R369, R376, R379, R383): a plausible one is recorded; one outside 0 to 150 °C faults its sensor
and caps the package or the core; at 105 °C an Open core steps down; the second reading in a row at the trip threshold
trips, with THERMTRIP_N low, the cause latched and every tile fenced. -/
def Says.sensorReadings : Prop :=
  ∀ (s : State) (temp : BitVec 16) (act : BitVec 8),
    (∀ n : BitVec 7, n.toNat < nCores s → domOf s (6 + n.toNat / 16) = .on → (coreSensor s n.toNat).faulted = false →
      (0 ≤ temp.toInt → temp.toInt < 1050 → (coreSensor s n.toNat).same < 399 → (coreSensor s n.toNat).diff < 39 →
        Runs (.sensorSample (.core n) temp act) s fun t => Touches [.therm] s t ∧ (coreSensor t n.toNat).temp = temp.toInt ∧
          (coreSensor t n.toNat).tick = s.aon.tick ∧ (coreSensor t n.toNat).faulted = false ∧
          (coreTherm t n.toNat).activity = act ∧ ∀ k, k ≠ n.toNat → coreSensor t k = coreSensor s k) ∧
      (1050 ≤ temp.toInt → temp.toInt < 1150 → (coreSensor s n.toNat).same < 399 → (coreSensor s n.toNat).diff < 39 →
        openCore s n.toNat = true → (core s n.toNat).step < 4 → (coreTherm s n.toNat).lastDown = none →
        Runs (.sensorSample (.core n) temp act) s fun t => Touches [.therm, .cores] s t ∧
          core t n.toNat = { core s n.toNat with step := (core s n.toNat).step + 1 } ∧ ∀ k, k ≠ n.toNat → core t k = core s k) ∧
      (temp.toInt < 0 ∨ 1500 < temp.toInt → (coreSensor s n.toNat).tripRun = 0 →
        Runs (.sensorSample (.core n) temp act) s fun t => (coreSensor t n.toNat).faulted = true ∧
          t.therm.sensorFaults = s.therm.sensorFaults + 1 ∧ t.mgmt.alert.getLsbD 1 = true ∧
          (openCore s n.toNat = true → 3 ≤ (core t n.toNat).step)) ∧
      (1150 ≤ temp.toInt → temp.toInt ≤ 1500 → (coreSensor s n.toNat).tripRun = 1 → s.aon.ret.tripLatch = false →
        Runs (.sensorSample (.core n) temp act) s fun t => t.aon.thermTripLow = true ∧ t.aon.ret.tripLatch = true ∧
          t.aon.ret.tripCause = 1 ∧ t.power.tileFence = 0xFF ∧ t.therm.trips = s.therm.trips + 1)) ∧
    (∀ n : BitVec 5, n.toNat < 24 → domOf s 2 = .on → (hubSensor s n.toNat).faulted = false →
      (temp.toInt < 0 ∨ 1500 < temp.toInt → (hubSensor s n.toNat).tripRun = 0 →
        Runs (.sensorSample (.hub n) temp act) s fun t => (hubSensor t n.toNat).faulted = true ∧ t.therm.hubCap = true ∧
          t.mgmt.alert.getLsbD 1 = true ∧ powerCap t ≤ 600000) ∧
      (0 ≤ temp.toInt → temp.toInt < 1150 → (hubSensor s n.toNat).same < 399 →
        Runs (.sensorSample (.hub n) temp act) s fun t => Touches [.therm] s t ∧ (hubSensor t n.toNat).temp = temp.toInt ∧
          ∀ k, k ≠ n.toNat → hubSensor t k = hubSensor s k)) ∧
    (∀ (n : BitVec 3) (i : Instr), n.toNat < nStacks s →
      (i = .sensorSample (.stack n) temp act ∧ domOf s (14 + n.toNat) = .on) ∨
        (i = .stackTempPoll n temp ∧ domOf s (14 + n.toNat) ≠ .on) →
      (temp.toInt < 1050 → Runs i s fun t => Touches [.therm] s t ∧ (stackSensor t n.toNat).temp = temp.toInt ∧
        (850 ≤ temp.toInt → (stackTherm t n.toNat).refresh2 = true) ∧
        (temp.toInt ≤ 820 → (stackTherm t n.toNat).refresh2 = false) ∧
        (820 < temp.toInt → temp.toInt < 850 → (stackTherm t n.toNat).refresh2 = (stackTherm s n.toNat).refresh2) ∧
        (confShare s n.toNat = true → (stackTherm t n.toNat).level = (stackTherm s n.toNat).level) ∧
        (confShare s n.toNat = false → 950 ≤ temp.toInt → (stackTherm s n.toNat).lastChange = none →
          (stackTherm s n.toNat).level < 3 → (stackTherm t n.toNat).level = (stackTherm s n.toNat).level + 1)) ∧
      (1050 ≤ temp.toInt → (stackSensor s n.toNat).tripRun = 1 → (stackSensor s n.toNat).faulted = false →
        s.aon.ret.tripLatch = false → Runs i s fun t =>
          t.aon.thermTripLow = true ∧ t.aon.ret.tripLatch = true ∧ t.aon.ret.tripCause = 2 ∧ t.power.tileFence = 0xFF))

/-- The governor's ticks (R56, R370–R378): the package cap from the inlet, the flow and a faulted hub sensor; the model
advances; a core of the Open world is held to its step limits; a reported flow below 0.6 L/min for 1 s trips; the forecast
never lifts a core above its limit and leaves Confidential cores alone; PRE_THROTTLE takes a core to its forecast's step;
a stale flow report counts as 1.2 L/min. -/
def Says.governorTicks : Prop :=
  ∀ s : State,
    (∀ e : ModelEnv, domOf s 1 = .on → hostReady s = true →
      (s.therm.lowFlow = none → Runs (.modelTick e) s fun t => Touches [.therm, .cores] s t ∧
        t.therm.pcap = min (if s.therm.hubCap then 600000 else 900000) (min (if isU620 s then 500000 else 900000)
          (min ((75000 - inletT s * 100).toNat * 100 / 3) (7500 * flowOf s))) ∧
        t.therm.lid = Config.lag 3000 1 s.therm.lid (inletT s * 100 + 30 * t.therm.power / 1000) ∧
        (∀ c, c < nCores s → openCore s c = true → stepFloor s c ≤ 4 → stepFloor s c ≤ (core t c).step) ∧
        (∀ c, openCore s c = false → (core t c).step = (core s c).step)) ∧
      (∀ k, s.therm.lowFlow = some k → 32768 ≤ age s k → s.aon.ret.tripLatch = false → Runs (.modelTick e) s fun t =>
        t.aon.thermTripLow = true ∧ t.aon.ret.tripLatch = true ∧ t.aon.ret.tripCause = 4 ∧ t.power.tileFence = 0xFF)) ∧
    (hostReady s = true → (∃ k, k < nTiles s ∧ domOf s (6 + k) = .on) → Runs .forecastTick s fun t =>
      Touches [.therm, .cores, .power, .mail] s t ∧
      (∀ c, openCore s c = false ∨ nCores s ≤ c → core t c = core s c) ∧
      (∀ c, c < nCores s → openCore s c = false → (coreTherm t c).preStep = 0) ∧
      (∀ c, c < nCores s → openCore s c = true → (core t c).step ≤ (core s c).step ∧
        (stepFloor s c ≤ (core s c).step → stepFloor s c ≤ (core t c).step))) ∧
    ((∀ k, k < nTiles s → domOf s (6 + k) ≠ .on) → (∀ e ∈ s.therm.coreT, e.2.plan = none) →
      Runs .forecastTick s fun t => Keeps [] s t) ∧
    (∀ c : BitVec 7, openCore s c.toNat = true → (core s c.toNat).step < (coreTherm s c.toNat).preStep →
      Runs (.preThrottle c) s fun t => Touches [.cores] s t ∧
        core t c.toNat = { core s c.toNat with step := (coreTherm s c.toNat).preStep } ∧ ∀ k, k ≠ c.toNat → core t k = core s k) ∧
    (∀ c : BitVec 7, openCore s c.toNat = false ∨ (coreTherm s c.toNat).preStep ≤ (core s c.toNat).step →
      Runs (.preThrottle c) s fun t => Keeps [] s t) ∧
    (s.therm.flowStale = false → Runs .flowReportStale s fun t => Touches [.therm, .mgmt, .aon, .q, .out] s t ∧
      t.therm = { s.therm with flowStale := true, lowFlow := none } ∧ flowOf t = 120 ∧ t.mgmt.alert.getLsbD 2 = true) ∧
    (s.therm.flowStale = true → Runs .flowReportStale s fun t => Keeps [] s t)

/-- Sensor readings and the governor's ticks. -/
def Obligations.Governor : Prop :=
  Says.sensorReadings ∧ Says.governorTicks

/-- Frame edges (R55, R69, R357, R361): the frame is counted, the plate thermistors sampled and the tag allowances of the
frame given back; with PD0 alone nothing else happens; after host-ready the views are rewritten under the next even SEQ. A
Confidential partition's LEVEL moves by at most one at an edge and no other partition changes; a tenth edge gives each
Confidential partition one envelope credit, up to 16. -/
def Obligations.FrameEdges : Prop :=
  ∀ (e : FrameEnv) (s : State),
    (s.aon.vddAon = false → Runs (.frameEdge e) s fun t => Keeps [] s t) ∧
    (s.aon.vddAon = true → serves s = false → hostReady s = false → Runs (.frameEdge e) s fun t => Touches [.aon, .mgmt] s t ∧
      t.aon.frames = s.aon.frames + 1 ∧ t.aon.readyFrames = s.aon.readyFrames ∧
      t.aon.tick.toNat = max s.aon.tick.toNat (16384 * ((s.aon.frames + 1) / 5) + 3277 * ((s.aon.frames + 1) % 5)) % 2 ^ 48 ∧
      t.aon.thIn = thermistorAfter s.aon.thIn e.thIn ∧ t.aon.thOut = thermistorAfter s.aon.thOut e.thOut ∧
      t.mgmt.tagChecks = 0 ∧ t.mgmt.alert = s.mgmt.alert) ∧
    (s.aon.vddAon = true → hostReady s = true → Runs (.frameEdge e) s fun t => t.aon.frames = s.aon.frames + 1 ∧
      t.aon.readyFrames = s.aon.readyFrames + 1 ∧ t.tele.view.seq = s.tele.view.seq + 2 ∧ t.tele.view.frame = t.aon.readyFrames ∧
      t.tele.view.tick = t.aon.tick ∧ t.vault.slots = s.vault.slots) ∧
    (∀ (x : Thermistor) (v : BitVec 16), (thermistorAfter x .open_).valid = false ∧ (thermistorAfter x .short).valid = false ∧
      (x.cls = .valid → (thermistorAfter x (.temp v)).valid = true) ∧
      (x.cls ≠ .valid → x.goodRun < 4 → (thermistorAfter x (.temp v)).valid = false) ∧
      (x.cls ≠ .valid → x.goodRun = 4 → (thermistorAfter x (.temp v)).valid = true ∧ (thermistorAfter x (.temp v)).temp = v.toInt)) ∧
    (mrises 0 s.parts.parts = true → ∀ p x, part? s p = some x →
      (∃ y, part? (levelEdge s) p = some y ∧ y = { x with level := y.level } ∧ (x.mode ≠ .confidential → y = x) ∧
        y.level ≤ x.level + 1 ∧ (x.level ≤ 3 → y.level ≤ 3 ∧ x.level ≤ y.level + 1)) ∧
      ∃ y, part? (creditBudgets s) p = some y ∧ y = { x with budget := y.budget } ∧
        (x.mode = .confidential → y.budget = min 16 (x.budget + 1)) ∧ (x.mode ≠ .confidential → y = x))

/-- A period boundary (R287–R290): the sequence counts, each core of the partition is placed at entry with the entries of
ended periods gone from its queue, and a token with PERIOD_RESET returns to its initial count; a partition without a period
meets none. -/
def Says.periodBoundaries : Prop :=
  ∀ (p : BitVec 7) (s : State) (x : Partition), part? s p.toNat = some x →
    (x.periodUs = 0 ∨ x.state = .destroying → Runs (.periodBoundary p) s fun t => Keeps [] s t) ∧
    (x.periodUs ≠ 0 → x.state = .running → x.switchTo = none → x.pendUs = 0 → s.therm.groups = [] → s.q.posting = [] →
      (coresOf s p.toNat).Nodup → (∀ c ∈ coresOf s p.toNat, (core s c).waiting ≠ .queue ∧ (core s c).st ≠ .unassigned ∧
        (core s c).queue = [] ∧ (core s c).entry = none) →
      Runs (.periodBoundary p) s fun t =>
        (∃ y, part? t p.toNat = some y ∧ y = { x with periodSeq := x.periodSeq + 1 }) ∧
        (∀ c ∈ coresOf s p.toNat, (core t c).pc = 0 ∧ (core t c).queue = [] ∧ (core t c).rstack = [] ∧ (core t c).w = [] ∧
          (core t c).acc = [] ∧ (core t c).cycles = 0 ∧ (core t c).x = (core s c).x ∧ (core t c).ls = (core s c).ls ∧
          ((core s c).st = .run → (core t c).st = .run) ∧ ((core s c).st = .wait → (core t c).st = .run)) ∧
        (∀ c, c ∉ coresOf s p.toNat → core t c = core s c) ∧
        (∀ n k, n ∈ heldOf s 4 p.toNat → (heldOf s 4 p.toNat).Nodup → mget s.q.tokens n = some k → k.periodReset = true →
          k.proxy = false → (mget t.q.tokens n).map (fun y => y.count) = some k.initial)) ∧
    (x.periodUs ≠ 0 → x.state ≠ .running → x.state ≠ .destroying → x.pendUs ≠ 0 → Runs (.periodBoundary p) s fun t =>
      Touches [.parts] s t ∧ ∃ y, part? t p.toNat = some y ∧ y = { x with periodUs := x.pendUs, pendUs := 0, anchor := s.aon.tick })

/-- Scrubs end (R318–R326): a scrubbed core is reset and free, its generation increases, and the record with its duration is
the log's last; a core that fails its evidence is scrubbed again, and one that fails twice is fenced; a cleared window's
lines read as cleared. -/
def Says.scrubsEnd : Prop :=
  ∀ (s : State) (j : ScrubJob) (rid dur : BitVec 32), s.scrub.jobs = [j] → j.tripped = false → j.paused = false →
    s.parts.rollback = none →
    (j.rtype = 1 → j.rid = rid.toNat → j.next = .free → j.env = none → (∀ x, part? s j.former = some x → x.state ≠ .destroying) →
      (Runs (.scrubComplete 1 rid true dur) s fun t => t.scrub.jobs = [] ∧ (resOf t 1 j.rid).st = .free ∧
        (core t j.rid).x = [] ∧ (core t j.rid).ls = [] ∧ (core t j.rid).w = [] ∧ (core t j.rid).istore = [] ∧
        (∀ k, k ≠ j.rid → core t k = core s k) ∧ t.scrub.logNext = s.scrub.logNext + 1 ∧
        genOf t 1 j.rid = genOf s 1 j.rid + 1 ∧ ∃ r, t.scrub.log.getLast? = some r ∧ r.rtype = 1 ∧ r.durUs = dur ∧
          r.rid = BitVec.ofNat 32 j.rid ∧ (r.result = if j.repeated then 1 else 0)) ∧
      (j.repeated = false → Runs (.scrubComplete 1 rid false dur) s fun t => Touches [.scrub] s t ∧
        t.scrub = { s.scrub with jobs := [{ j with repeated := true }] }) ∧
      (j.repeated = true → Runs (.scrubComplete 1 rid false dur) s fun t => t.scrub.jobs = [] ∧
        (resOf t 1 j.rid).st = .fenced ∧ ∃ r, t.scrub.log.getLast? = some r ∧ r.result = 2)) ∧
    (j.rtype = 2 → j.former < 16 → j.rid < 16 → rid.toNat = 16 * j.former + j.rid → j.next = .free → j.env = none →
      (∀ x, part? s j.former = some x → x.state ≠ .destroying) →
      (Runs (.scrubComplete 2 rid true dur) s fun t => t.scrub.jobs = [] ∧
        (∀ l, 32768 * j.base ≤ l → l < 32768 * (j.base + j.size) → lineInfo t j.stack l = LineInfo.cleared) ∧
        (∀ n l, n ≠ j.stack ∨ l < 32768 * j.base ∨ 32768 * (j.base + j.size) ≤ l → lineInfo t n l = lineInfo s n l ∧
          lineCipher t n l = lineCipher s n l) ∧ t.cores = s.cores ∧
        mgetD t.scrub.rates j.stack 0 = BitVec.ofNat 32 (j.size * 2 ^ 21 / max 1 dur.toNat)) ∧
      (Runs (.scrubComplete 2 rid false dur) s fun t => Keeps [] s t))

/-- Period boundaries and the ends of scrubs. -/
def Obligations.PeriodsAndScrubsEnd : Prop :=
  Says.periodBoundaries ∧ Says.scrubsEnd

/-! ### Partitions, contexts and epochs -/

/-- A TARGET that a partition command can act on, with room for its steps and no rollback under way (R185, R207, R219). -/
def Says.target (e : Env) (t : State) (x : Partition) : Prop :=
  part? t e.target.toNat = some x ∧ x.state ≠ .destroying ∧ t.parts.rollback = none ∧ t.parts.openSteps.length ≤ 3000 ∧
  t.parts.openTids.length < 100 ∧ (allHeld t e.target.toNat x).length ≤ 500 ∧ x.ctxs.length ≤ 16

/-- The step a configuration command records last (Table 09-6). -/
def Says.stepped (action rtype part rid : Nat) (t u : State) : Prop :=
  u.parts.openSteps.length = t.parts.openSteps.length + 1 ∧ ∃ r, u.parts.openSteps.getLast? = some r ∧
    r.action = BitVec.ofNat 8 action ∧ r.rtype = BitVec.ofNat 8 rtype ∧ r.part = BitVec.ofNat 8 part ∧ r.rid = BitVec.ofNat 32 rid

/-- Partition commands (R205–R209): creation draws the partition's key and takes its tenant; destruction leaves nothing
once its scrubs are done; start and stop; a mode change to Open keeps the partition with a full budget, and one to its own
mode changes nothing. -/
def Obligations.PartitionCommands : Prop :=
  ∀ (e : Env) (s t : State), let p := e.target.toNat
    let pay := payFault ([(0, p8 e 0 == 1 || p8 e 0 == 2)] ++ rsv e 1 7) = none
    (pay → part? t p = none → t.eng.entropyFailed = false → t.parts.rollback = none → t.parts.openSteps.length < 4096 →
      t.parts.openTids.length < 128 → (p8 e 0 = 1 → t.parts.debugOpen = false) → ∃ u,
      Says.served (.partitionCreate e) specPartitionCreate e s t (u, Ans.ok) ∧
        (∃ x, part? u p = some x ∧ x.mode = (if p8 e 0 = 1 then .confidential else .open) ∧ x.state = .held ∧
          x.tenant = dig e.payload 8 ∧ x.running = 0 ∧ mkeys x.ctxs = [0] ∧ x.windows = [] ∧ x.budget = 16) ∧
        (∀ k, k ≠ p → part? u k = part? t k) ∧ (slot u (0x80 + p)).activeValid = true ∧
        (slot u (0x80 + p)).exportable = false ∧ (∀ n, n ≠ 0x80 + p → slot u n = slot t n) ∧ Says.stepped 4 0x10 p 0 t u) ∧
    (∀ x, part? t p = some x → x.state ≠ .destroying → pay →
      Says.served (.partitionCreate e) specPartitionCreate e s t (t, Ans.conflict)) ∧
    (∀ x, Says.target e t x → ∃ u, Says.served (.partitionDestroy e) specPartitionDestroy e s t (u, Ans.waiting) ∧
      (part? u p = none ∨ ∃ y, part? u p = some y ∧ y.state = .destroying) ∧
      ((∀ j ∈ u.scrub.jobs, j.former ≠ p) → part? u p = none)) ∧
    (∀ x, part? t p = some x → x.state = .held → startable x t p = true → ∃ u,
      Says.served (.partitionStart e) specPartitionStart e s t (u, Ans.ok) ∧ Keeps [.parts, .cores] t u ∧
        part? u p = some { x with state := .running } ∧ (∀ k, k ≠ p → part? u k = part? t k) ∧
        ∀ c, c ∉ coresOf t p → core u c = core t c) ∧
    (∀ x, part? t p = some x → x.state = .held → startable x t p = false →
      Says.served (.partitionStart e) specPartitionStart e s t (t, Ans.state)) ∧
    (∀ x, part? t p = some x → x.state = .held → Says.served (.partitionStop e) specPartitionStop e s t (t, Ans.ok)) ∧
    (∀ x, part? t p = some x → x.state = .running → x.switchTo = none → t.q.posting = [] →
      (∀ c ∈ coresOf t p, (core t c).queue = [] ∧ (core t c).entry = none) → ∃ u,
      Says.served (.partitionStop e) specPartitionStop e s t (u, Ans.ok) ∧ part? u p = some { x with state := .held } ∧
        (∀ c ∈ coresOf t p, (core u c).st ≠ .run ∧ (core u c).st ≠ .wait ∧ (core u c).st ≠ .gated ∧ (core u c).pc = 0 ∧
          (core u c).x = (core t c).x ∧ (core u c).ls = (core t c).ls) ∧ ∀ c, c ∉ coresOf t p → core u c = core t c) ∧
    (∀ x, Says.target e t x → pay →
      (x.mode = (if p8 e 0 = 1 then .confidential else .open) →
        Says.served (.partitionModeSet e) specPartitionModeSet e s t (t, Ans.ok)) ∧
      (x.mode = .confidential → p8 e 0 = 2 → ∃ u,
        Says.served (.partitionModeSet e) specPartitionModeSet e s t (u, Ans.waiting) ∧
        ∃ y, part? u p = some y ∧ y.mode ≠ .confidential ∧ y.state = .held ∧ y.budget = 16 ∧ y.level = 0 ∧ y.tenant = x.tenant))

/-- Grants and revokes (R203, R213, R214, R233, R239): a free resource comes to its partition and one that is held
is a conflict; a window over cleared memory is granted at once with the partition's key copied to the stack, one over fresh
memory waits for its clear; a revoked core of an Open partition is free and keeps its former tenant's tag, a revoked
window is gone and its range scrubbed. -/
def Obligations.GrantsAndRevokes : Prop :=
  ∀ (e : Env) (s t : State) (x : Partition), Says.target e t x → let p := e.target.toNat
    let rt := p8 e 0
    let rid := p32 e 4
    let v := BitVec.ofNat 128 (fld e.payload 8 16)
    let w := windowFrom v
    (payFault (grantChecks t e) = none →
      (rt = 1 ∨ rt = 3 ∨ rt = 4 ∨ rt = 5 → (resOf t rt rid).st = .free → (resOf t rt rid).tag = none →
        resFenced t rt rid = false → (rt = 5 → mhas x.ctxs (v.toNat % 256) = true) → ∃ u,
        Says.served (.partitionGrant e) specPartitionGrant e s t (u, Ans.ok) ∧ (resOf u rt rid).st = .held p ∧
          Says.stepped 1 rt p rid t u ∧ (rt = 1 → (core u rid).st = .stopped) ∧
          (rt = 4 → (mget u.q.tokens rid).map (fun k => k.count) = some (v.truncate 32))) ∧
      (rt = 1 ∨ rt = 3 ∨ rt = 4 ∨ rt = 5 → (∃ q, (resOf t rt rid).st = .held q) →
        Says.served (.partitionGrant e) specPartitionGrant e s t (t, Ans.conflict)) ∧
      (rt = 1 ∨ rt = 3 → ∀ d, (resOf t rt rid).st = .free → (resOf t rt rid).tag = some d → resFenced t rt rid = false →
        x.mode = .confidential ∨ d ≠ x.tenant → ∃ u,
        Says.served (.partitionGrant e) specPartitionGrant e s t (u, Ans.waiting) ∧ (resOf u rt rid).st = .scrubbing ∧
          ∃ j, u.scrub.jobs = t.scrub.jobs ++ [j] ∧ j.rtype = rt ∧ j.rid = rid ∧ j.next = .grant p v) ∧
      (6 ≤ rt → partShare x rt rid = none → t.scrub.jobs = [] → pathShut t rt rid = false → slotsFit t p rt rid (shareOf v) = true →
        (x.mode = .confidential → fixedOn t rt rid = true) → ∃ u y,
        Says.served (.partitionGrant e) specPartitionGrant e s t (u, Ans.ok) ∧ part? u p = some y ∧
          partShare y rt rid = some { slotsA := v.toNat % 2 ^ 16, slotsB := v.toNat / 2 ^ 16 % 2 ^ 16 } ∧ Says.stepped 1 rt p rid t u) ∧
      (6 ≤ rt → partShare x rt rid = none → t.scrub.jobs = [] → pathShut t rt rid = false → slotsFit t p rt rid (shareOf v) = false →
        (x.mode = .confidential → fixedOn t rt rid = true) →
        Says.served (.partitionGrant e) specPartitionGrant e s t (t, Ans.exhausted)) ∧
      (rt = 2 → mget x.windows rid = none → rangeHeld t w = false → w.ctx = 255 ∨ mhas x.ctxs w.ctx = true →
        stackShut t w.stack = false → t.scrub.jobs = [] → x.mode ≠ .confidential → mget x.mem w.stack ≠ none →
        (rangeFresh t w = false → ∃ u y, Says.served (.partitionGrant e) specPartitionGrant e s t (u, Ans.ok) ∧
          part? u p = some y ∧ mget y.windows rid = some w ∧ (∀ k, k ≠ rid → mget y.windows k = mget x.windows k) ∧
          mget u.vault.mce (128 * w.stack + p) = some (slot t (0x80 + p)).active ∧ Says.stepped 1 2 p rid t u) ∧
        (rangeFresh t w = true → ∃ u, Says.served (.partitionGrant e) specPartitionGrant e s t (u, Ans.waiting) ∧
          part? u p = some x ∧ ∃ j, u.scrub.jobs = [j] ∧ j.rtype = 2 ∧ j.stack = w.stack ∧ j.base = w.base ∧ j.size = w.size ∧
            j.next = .firstGrant p rid v)) ∧
      (rt = 2 → mget x.windows rid ≠ none → Says.served (.partitionGrant e) specPartitionGrant e s t (t, Ans.conflict))) ∧
    (payFault ((grantChecks t { e with payload := padTo 24 e.payload }).take 5) = none →
      (rt = 1 → (resOf t 1 rid).st = .held p → x.mode ≠ .confidential → ∃ u r,
        Says.served (.partitionRevoke e) specPartitionRevoke e s t (u, r) ∧ (r.status = 0 ∨ r.status = 8) ∧ r.wait = false ∧
          (resOf u 1 rid).st = .free ∧ (resOf u 1 rid).tag = some x.tenant ∧ (core u rid).st = .unassigned ∧ (core u rid).queue = []) ∧
      (rt = 1 → (resOf t 1 rid).st = .held p → x.mode = .confidential → ∃ u,
        Says.served (.partitionRevoke e) specPartitionRevoke e s t (u, Ans.waiting) ∧ (resOf u 1 rid).st = .scrubbing ∧
          (core u rid).st = .unassigned) ∧
      (rt = 4 ∨ rt = 5 → (resOf t rt rid).st = .held p → ∃ u,
        Says.served (.partitionRevoke e) specPartitionRevoke e s t (u, Ans.ok) ∧ (resOf u rt rid).st = .free ∧
          (rt = 5 → (slot u rid).activeValid = false) ∧ (rt = 4 → mget u.q.tokens rid = none)) ∧
      (rt = 2 → ∀ y, mget x.windows rid = some y → (∀ i, y.use ≠ .sharedParcel i) → ∃ u,
        Says.served (.partitionRevoke e) specPartitionRevoke e s t (u, Ans.waiting) ∧
          (∃ z, part? u p = some z ∧ mget z.windows rid = none) ∧ ∃ j ∈ u.scrub.jobs, j.rtype = 2 ∧ j.stack = y.stack ∧
            j.base = y.base ∧ j.size = y.size) ∧
      (rt = 1 ∨ rt = 3 ∨ rt = 4 ∨ rt = 5 → (resOf t rt rid).st ≠ .held p →
        Says.served (.partitionRevoke e) specPartitionRevoke e s t (t, Ans.notFound)))

/-- Contexts, arbitration and epochs (R217–R222, R239, R496): a context is created with its tenant and destroyed unless it
runs; a switch on a running partition waits for its boundary; slots and fixed-slot arbitration are set step by step, and a
setting already in force is no step (R212 as log 23 reads it); the open steps become the next epoch at a commit. -/
def Says.contextsAndEpochs : Prop :=
  ∀ (e : Env) (s t : State), let p := e.target.toNat
    (∀ x, Says.target e t x →
      (payFault ([(0, decide (p8 e 0 < 16))] ++ rsv e 1 3 ++ [(4, decide (p8 e 4 < 16) || p8 e 4 == 255)] ++ rsv e 5 3) = none →
        mget x.ctxs (p8 e 0) = none → p8 e 4 = 255 → x.mode ≠ .confidential ∨ dig e.payload 8 = x.tenant → ∃ u,
        Says.served (.contextCreate e) specContextCreate e s t (u, Ans.ok) ∧ Says.stepped 4 0x11 p 0 t u ∧
          part? u p = some { x with ctxs := mput x.ctxs (p8 e 0) { tid := dig e.payload 8, save := none, binds := [] } }) ∧
      (payFault ([(0, decide (p8 e 0 < 16))] ++ rsv e 1 7) = none → ∀ k, mget x.ctxs (p8 e 0) = some k →
        (p8 e 0 = 0 ∨ p8 e 0 = x.running → Says.served (.contextDestroy e) specContextDestroy e s t (t, Ans.state)) ∧
        (p8 e 0 ≠ 0 → p8 e 0 ≠ x.running → x.switchTo = none → x.windows = [] → heldOf t 5 p = [] → t.desk.circles = [] →
          t.desk.parcels = [] → t.desk.adms = [] → ∃ u,
          Says.served (.contextDestroy e) specContextDestroy e s t (u, Ans.ok) ∧ Says.stepped 5 0x11 p 0 t u ∧
            part? u p = some { x with ctxs := mdel x.ctxs (p8 e 0) }) ∧
        (x.switchTo = none → p8 e 0 ≠ x.running → x.state = .running → ∃ u,
          Says.served (.contextSwitch e) specContextSwitch e s t (u, Ans.waiting) ∧ Says.stepped 3 0x11 p 0 t u ∧
            part? u p = some { x with switchTo := some (p8 e 0), switchEnv := some { env := e, op := 0x40B } }) ∧
        (p8 e 0 = x.running → Says.served (.contextSwitch e) specContextSwitch e s t (t, Ans.state))) ∧
      (payFault ([(0, pathOk t (p8 e 0)), (1, decide (1 ≤ p8 e 1 ∧ p8 e 1 ≤ 3))] ++ rsv e 2 6 ++
          (if p8 e 0 = 0x10 then rsv e 12 12 else rsv e 10 14)) = none → p8 e 1 = 3 → e.target ≠ 0xFF → p8 e 0 < 8 →
        let h : Share := { slotsA := fld e.payload 8 2, slotsB := fld e.payload 10 2 }
        ∀ old, mget x.mem (p8 e 0) = some old →
        (slotsFit t p 8 (p8 e 0) h = true → x.mode ≠ .confidential → shareParams h ≠ shareParams old → ∃ u,
          Says.served (.arbitrationSet e) specArbitrationSet e s t (u, Ans.ok) ∧ Says.stepped 3 0x12 p (p8 e 0) t u ∧
            part? u p = some { x with mem := mput x.mem (p8 e 0) h }) ∧
        (slotsFit t p 8 (p8 e 0) h = true → x.mode ≠ .confidential → shareParams h = shareParams old →
          Says.served (.arbitrationSet e) specArbitrationSet e s t (t, Ans.ok)) ∧
        (slotsFit t p 8 (p8 e 0) h = false → Says.served (.arbitrationSet e) specArbitrationSet e s t (t, Ans.exhausted)))) ∧
    (payFault ([(0, pathOk t (p8 e 0)), (1, decide (1 ≤ p8 e 1 ∧ p8 e 1 ≤ 3))] ++ rsv e 2 6 ++ rsv e 8 16) = none →
      p8 e 1 = 1 → e.target = 0xFF → t.parts.rollback = none → t.parts.openSteps.length < 4096 →
      let r := pathOf (p8 e 0)
      (fixedOn t r.1 r.2 = false → ∃ u,
        Says.served (.arbitrationSet e) specArbitrationSet e s t (u, Ans.ok) ∧ Says.stepped 3 0x12 0xFF (p8 e 0) t u ∧
          (p8 e 0 < 8 → u.parts.fixedMt.getLsbD (p8 e 0) = true) ∧ (p8 e 0 = 0x10 → u.parts.fixedHt = true) ∧
          (0x20 ≤ p8 e 0 → u.parts.fixedLt.getLsbD (p8 e 0 - 0x20) = true)) ∧
      (fixedOn t r.1 r.2 = true → Says.served (.arbitrationSet e) specArbitrationSet e s t (t, Ans.ok))) ∧
    (t.parts.rollback = none →
      (t.parts.openSteps = [] → Says.served (.epochCommit e) specEpochCommit e s t
        (t, Ans.ok (leBytes 8 t.parts.current.num.toNat ++ digBytes (epochDigest t.parts.current)))) ∧
      (t.parts.openSteps ≠ [] → ∃ u, Says.served (.epochCommit e) specEpochCommit e s t (u, Ans.waiting) ∧
        u.parts = { t.parts with current := { num := t.parts.current.num + 1, steps := t.parts.openSteps, tids := t.parts.openTids },
                                 previous := some t.parts.current, openSteps := [], openTids := [] }) ∧
      (t.parts.previous = none → Says.served (.epochRollback e) specEpochRollback e s t (t, Ans.notFound)) ∧
      (t.parts.previous ≠ none → t.parts.openSteps = [] → t.parts.current.steps = [] → t.scrub.jobs = [] → t.parts.parts = [] → ∃ u,
        Says.served (.epochRollback e) specEpochRollback e s t (u, Ans.waiting) ∧ u.parts.rollback = none ∧
          u.parts.current.num = t.parts.current.num + 1 ∧ u.parts.openSteps = [])) ∧
    (∃ b, Says.served (.epochStatusGet e) specEpochStatusGet e s t (t, Ans.ok b) ∧ b.length = 120 ∧
      slice b 0 8 = leBytes 8 t.parts.current.num.toNat ∧ slice b 8 48 = digBytes (epochDigest t.parts.current) ∧
      (e.path = .pf → slice b 56 4 = leBytes 4 t.parts.openSteps.length) ∧ ((∃ n, e.path = .spdm n) → slice b 56 64 = zeros 64))

/-- Programs (R255, R477): a bind reads the program through its window, records its digest in the context and loads the
cores of a running context; an unbind forgets it. -/
def Says.programsAreBound : Prop :=
  ∀ (e : Env) (s t : State) (x : Partition) (k : Context), part? t e.target.toNat = some x → x.state ≠ .destroying →
    ctxOf t e x (p8 e 0) = some k → isOperator e = false ∨ x.mode ≠ .confidential → let p := e.target.toNat
    let cores := BitVec.ofNat 128 (fld e.payload 16 16)
    let gone := BitVec.ofNat 128 (fld e.payload 8 16)
    (payFault ([(0, decide (p8 e 0 < 16)), (1, decide (p8 e 1 < 16))] ++ rsv e 2 2 ++
        [(4, decide (32 ≤ p32 e 4 ∧ p32 e 4 ≤ 524288 ∧ p32 e 4 % 32 = 0))] ++ coresChecks t e 16) = none →
      (∀ i ∈ bitsOf cores, bindOf k i = none ∧ coreHolder t i = some p) →
      (x.running = p8 e 0 ∧ x.state = .running → Says.served (.programBind e) specProgramBind e s t (t, Ans.state)) ∧
      (¬ (x.running = p8 e 0 ∧ x.state = .running) → ∀ w, mget x.windows (p8 e 1) = some w → w.access.getLsbD 0 = true →
        p64 e 8 + p32 e 4 ≤ w.size * 2 ^ 21 → (memRead (.host (BitVec.ofNat 7 p)) (p8 e 1) (p64 e 8) (p32 e 4) t).2.1 = 0 →
        let b := (memRead (.host (BitVec.ofNat 7 p)) (p8 e 1) (p64 e 8) (p32 e 4) t).2.2
        ∃ u, Says.served (.programBind e) specProgramBind e s t (u, Ans.ok (digBytes (sha384 b))) ∧
          (∃ y, part? u p = some y ∧ (mget y.ctxs (p8 e 0)).map (fun c => c.binds) =
            (mget x.ctxs (p8 e 0)).map (fun c => c.binds ++ [.program (sha384 b) (p8 e 1) (p64 e 8) (p32 e 4) cores])) ∧
          (x.running = p8 e 0 → ∀ i ∈ bitsOf cores, (core u i).program = some (sha384 b) ∧ (core u i).verified = true ∧
            (core u i).progLen = b.length) ∧
          (∀ i, i ∉ bitsOf cores → core u i = core t i))) ∧
    (payFault ([(0, decide (p8 e 0 < 16))] ++ rsv e 1 7 ++ coresChecks t e 8) = none →
      ((∃ i ∈ bitsOf gone, bindOf k i = none) → Says.served (.programUnbind e) specProgramUnbind e s t (t, Ans.notFound)) ∧
      ((∀ i ∈ bitsOf gone, bindOf k i ≠ none) → ∃ u, Says.served (.programUnbind e) specProgramUnbind e s t (u, Ans.ok) ∧
        (x.running ≠ p8 e 0 → Keeps [.parts] t u) ∧
        (x.running = p8 e 0 → ∀ i ∈ bitsOf gone, (core u i).program = none ∧ (core u i).progLen = 0 ∧ (core u i).istore = []) ∧
        ∃ y z, part? u p = some y ∧ mget y.ctxs (p8 e 0) = some z ∧ ∀ i ∈ bitsOf gone, bindOf z i = none))

/-- Contexts, epochs, programs and weights. -/
def Obligations.ContextsAndPrograms : Prop :=
  Says.contextsAndEpochs ∧ Says.programsAreBound

/-! ### The device, its logs and its management paths -/

/-- A page of a list read (R473): the records from FIRST on, as many as fit, how many, the position after them, and in
DETAIL how many remain. -/
def Says.page (e : Env) (limit : Nat) (head : Bytes) (recs : List (Nat × Bytes)) (r : Ans) : Prop :=
  let l := recs.filter fun x => decide (p64 e 0 ≤ x.1)
  ∃ n, n ≤ l.length ∧ n ≤ limit ∧ (p32 e 8 ≠ 0 → n ≤ p32 e 8) ∧ r.status = 0 ∧ r.wait = false ∧ r.detail = count31 (l.length - n) ∧
    r.payload = head ++ leBytes 4 n ++ zeros 4 ++ leBytes 8 (match (l.take n).getLast? with | some x => x.1 + 1 | none => p64 e 0) ++
      cat ((l.take n).map Prod.snd)

/-- The list reads (R201, R325, R343, R397, R400, R408, R462, R473): a page of the log's records from FIRST on; a FIRST
older than the oldest kept record is NOT_FOUND with that record's position; without a shadow or a join set there is none. -/
def Obligations.LogsAreRead : Prop :=
  ∀ (e : Env) (s t : State), payFault (rsv e 12 4) = none →
    let log := fun (i : Instr) (sp : OpSpec) (limit : Nat) (recs : List (Nat × Bytes)) =>
      (∀ x ∈ recs.head?, x.1 ≤ p64 e 0) → ∃ r, Says.served i sp e s t (t, r) ∧ Says.page e limit [] recs r
    let old := fun (i : Instr) (sp : OpSpec) (recs : List (Nat × Bytes)) =>
      ∀ x ∈ recs.head?, p64 e 0 < x.1 → Says.served i sp e s t (t, Ans.notFound (BitVec.ofNat 32 (x.1 % 2 ^ 31)))
    log (.deadletterRead e) specDeadletterRead 900 (t.mail.dead.map fun d => (d.entry.toNat, deadBytes d)) ∧
    old (.deadletterRead e) specDeadletterRead (t.mail.dead.map fun d => (d.entry.toNat, deadBytes d)) ∧
    log (.faultLogRead e) specFaultLogRead 900 (t.mail.faults.map fun r => (r.entry.toNat, faultBytes r)) ∧
    old (.faultLogRead e) specFaultLogRead (t.mail.faults.map fun r => (r.entry.toNat, faultBytes r)) ∧
    log (.postmarkLogRead e) specPostmarkLogRead 65536 (t.boot.log.map fun x => (x.seq.toNat, pmEntryBytes x)) ∧
    old (.postmarkLogRead e) specPostmarkLogRead (t.boot.log.map fun x => (x.seq.toNat, pmEntryBytes x)) ∧
    log (.scrubLogRead e) specScrubLogRead 1800
      (t.scrub.log.zipIdx.map fun r => (t.scrub.logNext - t.scrub.log.length + r.2, scrubRecBytes r.1)) ∧
    (t.twin.shadow ≠ [] →
      log (.twinShadowRead e) specTwinShadowRead 65536 (t.twin.shadow.map fun r => (r.mseq.toNat, mirrorBytes r)) ∧
      log (.twinLogRead e) specTwinLogRead 65536 ((ordinals t.twin.logNext t.twin.log).map fun r => (r.1, twinLogBytes r.2))) ∧
    (t.twin.shadow = [] → Says.served (.twinShadowRead e) specTwinShadowRead e s t (t, Ans.notFound) ∧
      Says.served (.twinLogRead e) specTwinLogRead e s t (t, Ans.notFound)) ∧
    (t.car.join ≠ none →
      (∃ r, Says.served (.routeTableRead e) specRouteTableRead e s t (t, r) ∧
        Says.page e 65536 [] (t.car.routes.map fun r => (r.1, routeRecord r)) r) ∧
      log (.caravanLogRead e) specCaravanLogRead 65536 ((ordinals t.car.logNext t.car.log).map fun r => (r.1, carLogBytes r.2))) ∧
    (t.car.join = none → Says.served (.routeTableRead e) specRouteTableRead e s t (t, Ans.notFound)) ∧
    (∀ x, part? t e.target.toNat = some x → x.state ≠ .destroying → ∃ head recs r,
      Says.served (.partitionStatusGet e) specPartitionStatusGet e s t ({ t with free := t.free + 1 }, r) ∧
      Says.page e (recs.length) head recs r ∧ head.length = 24 ∧
      slice head 0 2 = [BitVec.ofNat 8 (modeCode x.mode), BitVec.ofNat 8 (pstateCode t e.target.toNat)] ∧
      slice head 4 1 = [BitVec.ofNat 8 x.running] ∧ slice head 8 8 = leBytes 8 t.parts.current.num.toNat)

/-- Identity and power policy (R62–R65, R464, R474, R475, Table 23-5): what the device tells of itself, a policy taken whole
or refused with STATE, a link or the device recovered. -/
def Obligations.DeviceCommands : Prop :=
  ∀ (e : Env) (s t : State),
    (∃ b, Says.served (.deviceInfoGet e) specDeviceInfoGet e s t (t, Ans.ok b) ∧ b.length = 96 ∧
      slice b 2 2 = [t.fuses.shadow.code, if t.parts.debugOpen then 1 else 0] ∧
      slice b 8 8 = leBytes 8 t.fuses.shadow.serial.toNat ∧ slice b 16 8 = leBytes 8 t.boot.bn.toNat ∧
      slice b 24 8 = leBytes 8 (bootStatus t).toNat ∧ slice b 32 48 = digBytes t.vault.did) ∧
    (∃ b, Says.served (.powerPolicyGet e) specPowerPolicyGet e s t (t, Ans.ok b) ∧ b.length = 40 ∧
      slice b 0 2 = leBytes 2 t.power.policy.tileIdleMs.toNat ∧ slice b 2 2 = leBytes 2 t.power.policy.stackIdleMs.toNat ∧
      slice b 6 3 = [t.power.policy.tileOn, t.power.policy.tileOff, t.power.policy.stackOn] ∧ slice b 16 1 = [1] ∧
      (domOf t 1 = .on → slice b 17 1 = [1]) ∧ (domOf t 6 = .off → slice b 22 1 = [0])) ∧
    (payFault (policyChecks t e) = none →
      (p8 e 6 = 0 → p8 e 7 = 0 → p8 e 8 = 0 → p8 e 4 = 0 → Says.served (.powerPolicySet e) specPowerPolicySet e s t
        ({ t with power := { t.power with policy :=
          { tileIdleMs := BitVec.ofNat 16 (p16 e 0), stackIdleMs := BitVec.ofNat 16 (p16 e 2), deepIdle := false,
            tileOn := 0, tileOff := 0, stackOn := 0 } } }, Ans.okD 0)) ∧
      (∀ k, k < 8 → (byteAt e.payload 7).getLsbD k = true → tileConf t k = true ∨ tileScrub t k = true →
        Says.served (.powerPolicySet e) specPowerPolicySet e s t (t, Ans.state)) ∧
      (∀ k, k < 8 → (byteAt e.payload 8).getLsbD k = true → t.power.stackFence.getLsbD k = true →
        Says.served (.powerPolicySet e) specPowerPolicySet e s t (t, Ans.state)) ∧
      (p8 e 4 = 1 → t.twin.bond ≠ none → Says.served (.powerPolicySet e) specPowerPolicySet e s t (t, Ans.state)) ∧
      (∀ k, k < 8 → byteAt e.payload 6 = 0 → byteAt e.payload 8 = 0 → p8 e 4 = 0 → byteAt e.payload 7 = BitVec.ofNat 8 (2 ^ k) →
        tileConf t k = false → tileScrub t k = false → domOf t (6 + k) = .on → ∃ u r,
        Says.served (.powerPolicySet e) specPowerPolicySet e s t (u, r) ∧ r.status = 0 ∧ domOf u (6 + k) = .off ∧
          u.power.policy.tileOff = BitVec.ofNat 8 (2 ^ k) ∧ ∀ c, c / 16 ≠ k → core u c = core t c)) ∧
    (payFault (recoverChecks t e) = none →
      (p8 e 0 = 0xFF → Says.served (.recover e) specRecover e s t ({ t with mail := { t.mail with recoverDue := true } }, Ans.ok)) ∧
      (p8 e 0 = 7 → Says.served (.recover e) specRecover e s t ({ t with flash := { t.flash with lockRecover := true } }, Ans.ok)) ∧
      (p8 e 0 = 5 → (linkOf t (p8 e 1)).st = .disabled → Says.served (.recover e) specRecover e s t (t, Ans.notFound)) ∧
      (p8 e 0 = 5 → (linkOf t (p8 e 1)).st ≠ .disabled → ∃ u, Says.served (.recover e) specRecover e s t (u, Ans.ok) ∧
        (linkOf u (p8 e 1)).st = .training ∧ u.mem = t.mem ∧ u.cores = t.cores) ∧
      (p8 e 0 = 3 → tileScrub t (p8 e 1) = false → t.aon.ret.tripLatch = false → t.power.tileFence.getLsbD (p8 e 1) = false → ∃ u,
        Says.served (.recover e) specRecover e s t (u, Ans.waiting) ∧ domOf u (6 + p8 e 1) = .starting ∧
          ∃ q, u.mail.recovering = t.mail.recovering ++ [q] ∧ q.1 = p8 e 1))

/-- The management port (R436–R441): settings wait until they are applied, an alert stays until it is acknowledged, an
address is used once its duplicate detection ends, solicitations and echoes of preferred addresses are answered, and
what is discarded is counted. -/
def Says.managementPort : Prop :=
  ∀ (e : Env) (s t : State),
    (payFault (netChecks e) = none → ∃ n : NetSet, n.sgmii = (p8 e 0 == 2) ∧ n.jumbo = (p8 e 1 == 1) ∧ n.slaac = (p8 e 2 == 1) ∧
      n.mac = BitVec.ofNat 48 (beNat (slice e.payload 8 6)) ∧ n.static.length = p8 e 3 ∧
      Says.served (.mgmtNetSet e) specMgmtNetSet e s t ({ t with mgmt := { t.mgmt with pending := some n } }, Ans.ok)) ∧
    (∃ b, Says.served (.mgmtNetGet e) specMgmtNetGet e s t (t, Ans.ok b) ∧ slice b 2 1 = [if t.mgmt.net.slaac then 1 else 0] ∧
      (t.mgmt.net.static.length ≤ 2 → t.mgmt.addrs.length ≤ 8 → b.length = 328)) ∧
    (payFault (rsv e 1 7) = none → let left := t.mgmt.alert &&& ~~~(byteAt e.payload 0)
      Says.served (.mgmtAlertAck e) specMgmtAlertAck e s t
        ({ t with mgmt := { t.mgmt with alert := left }, aon := { t.aon with alertLow := decide (left ≠ 0) } }, Ans.ok (left :: zeros 7))) ∧
    (s.mgmt.pending = none → Runs .mgmtNetApply s fun t => Keeps [] s t) ∧
    (∀ n, s.mgmt.pending = some n → Runs .mgmtNetApply s fun t => Touches [.mgmt, .out] s t ∧ t.mgmt.net = n ∧
      t.mgmt.pending = none ∧ (n.mac ≠ s.mgmt.net.mac → n.static = [] → t.mgmt.addrs.map (fun a => (a.ip, a.dad)) = [(linkLocal n.mac, .tentative)])) ∧
    (mgmtUp s = true →
      (∀ src dst data, ownAddr s dst .preferred = true → s.mgmt.echoes < 10 → Runs (.echoRequest src dst data) s fun t =>
        Touches [.mgmt, .out] s t ∧ t.mgmt = { s.mgmt with echoes := s.mgmt.echoes + 1 } ∧ t.out = .echoReply src data :: s.out) ∧
      (∀ src dst data, ownAddr s dst .preferred = false ∨ 10 ≤ s.mgmt.echoes → Runs (.echoRequest src dst data) s fun t => Keeps [] s t) ∧
      (∀ src target, ownAddr s target .preferred = true → src ≠ 0 → Runs (.neighborSolicitation src target) s fun t =>
        Touches [.out] s t ∧ t.out = .ndAdvert target src :: s.out) ∧
      (∀ target, ownAddr s target .preferred = false → ownAddr s target .tentative = true →
        Runs (.neighborSolicitation 0 target) s fun t => Touches [.mgmt] s t ∧ ownAddr t target .tentative = false) ∧
      (∀ src p, s.mgmt.net.slaac = true → isLinkLocal src = true → p.auto = true → p.len = 64 → p.pre.toNat / 2 ^ 54 ≠ 0x3FA →
        s.mgmt.addrs.length < 8 → let ip := BitVec.ofNat 128 (p.pre.toNat * 2 ^ 64 + eui64 s.mgmt.net.mac)
        (∀ a ∈ s.mgmt.addrs, a.ip ≠ ip) → Runs (.routerAdvertisement src [p]) s fun t => Touches [.mgmt, .out] s t ∧
          ∃ a, t.mgmt = { s.mgmt with addrs := s.mgmt.addrs ++ [a] } ∧ a.ip = ip ∧ a.dad = .tentative ∧ a.prefix_ = 64) ∧
      (∀ ip dup a, s.mgmt.addrs = [a] → a.ip = ip → a.dad = .tentative → Runs (.dadComplete ip dup) s fun t => Touches [.mgmt] s t ∧
        t.mgmt = { s.mgmt with addrs := [{ a with dad := if dup then .duplicate else .preferred }] }) ∧
      (Runs .reassemblyTimeout s fun t => Touches [.mgmt] s t ∧ mgetD t.mgmt.stats 5 0 = mgetD s.mgmt.stats 5 0 + 1) ∧
      (Runs (.mgmtDiscard .protocol) s fun t => Touches [.mgmt] s t ∧ mgetD t.mgmt.stats 0 0 = mgetD s.mgmt.stats 0 0 + 1) ∧
      (Runs (.mgmtDiscard .badTag) s fun t => mgetD t.mgmt.stats 3 0 = mgetD s.mgmt.stats 3 0 + 1 ∧ t.mail.dead ≠ [] ∧
        t.parts = s.parts ∧ t.vault = s.vault))

/-- MCTP control, I3C and PLDM on the management target (R366, R440, R448, Table 21-5): each request is answered, an
endpoint or terminus identifier is taken where it is one, and a reading is that of the last tenth frame edge. Codes and
layouts are the family's (log 19). -/
def Says.managementTarget : Prop :=
  ∀ s : State, mgmtUp s = true →
    let answers := fun (i : Instr) (o : Out) => Runs i s fun t => Touches [.out] s t ∧ t.out = o :: s.out
    (∀ op eid : BitVec 8, op.toNat ≤ 1 → 8 ≤ eid.toNat → eid ≠ 0xFF → Runs (.setEndpointId op eid) s fun t =>
      Touches [.mgmt, .out] s t ∧ t.mgmt = { s.mgmt with eid := eid } ∧ t.out = .mctp 1 0 [0, eid, 0] :: s.out) ∧
    (∀ op : BitVec 8, answers (.setEndpointId op 0) (.mctp 1 2 [])) ∧ answers .getEndpointId (.mctp 2 0 [s.mgmt.eid, 0, 0]) ∧
    answers .getEndpointUuid (.mctp 3 0 ((List.range 16).map Config.endpointUuid)) ∧
    answers .getMessageTypeSupport (.mctp 5 0 [4, 1, 5, 6, 0x7F]) ∧ answers (.getMctpVersionSupport 0xFF) (.mctp 4 0 [1, 0xF1, 0xF3, 0xFF, 0]) ∧
    (∀ m : BitVec 8, m ∉ [0, 1, 5, 6, 0x7F, 0xFF] → answers (.getMctpVersionSupport m) (.mctp 4 0x80 [])) ∧
    (∀ a : BitVec 7, a ≠ 0 → s.mgmt.i3cAddr = 0 → ∀ i, i = Instr.setdasa a ∨ i = Instr.entdaa a → Runs i s fun t =>
      Touches [.mgmt, .out] s t ∧ t.mgmt = { s.mgmt with i3cAddr := a } ∧ t.out = .i3c a :: s.out) ∧
    (∀ a : BitVec 7, s.mgmt.i3cAddr ≠ 0 → Runs (.setdasa a) s (fun t => Keeps [] s t) ∧ Runs (.entdaa a) s (fun t => Keeps [] s t)) ∧
    answers .getTid (.pldm 2 0 [s.mgmt.tid]) ∧
    (∀ tid : BitVec 8, tid ≠ 0 → tid ≠ 0xFF → Runs (.setTid tid) s fun t => Touches [.mgmt, .out] s t ∧
      t.mgmt = { s.mgmt with tid := tid } ∧ t.out = .pldm 1 0 [] :: s.out) ∧
    (∀ p : BitVec 8, p = 0 ∨ p = 2 → answers (.getPldmVersion p)
      (.pldm 3 0 (zeros 4 ++ [5] ++ leBytes 8 (Config.pldmVersion p.toNat).toNat))) ∧
    answers .getPldmTypes (.pldm 4 0 [5, 0, 0, 0, 0, 0, 0, 0]) ∧
    (∃ b, answers (.getPldmCommands 2) (.pldm 5 0 b) ∧ b.length = 32 ∧ ∀ i, i < 256 →
      ((byteAt b (i / 8)).getLsbD (i % 8) = true ↔ i ∈ [0x11, 0x21, 0x50, 0x51])) ∧
    (∃ b, answers .getPdrRepositoryInfo (.pldm 0x50 0 b) ∧ slice b 27 4 = [8, 0, 0, 0]) ∧
    (∀ h : BitVec 32, 8 < h.toNat → answers (.getPdr h) (.pldm 0x51 0x82 [])) ∧
    (∀ h : BitVec 32, h.toNat < 8 → ∃ b, answers (.getPdr h) (.pldm 0x51 0 b) ∧ slice b 0 4 = leBytes 4 (max 1 h.toNat + 1)) ∧
    (∀ id : BitVec 16, 1 ≤ id.toNat → id.toNat ≤ 6 → ∀ v, mget s.mgmt.readings id.toNat = some v →
      answers (.getSensorReading id) (.pldm 0x11 0 ([3, 0, 0, 1, 0, 1] ++ leBytes 2 (BitVec.ofInt 16 v).toNat))) ∧
    (∀ id : BitVec 16, id = 0 ∨ 6 < id.toNat → answers (.getSensorReading id) (.pldm 0x11 0x80 [])) ∧
    (s.mgmt.sampled = true →
      answers (.getStateSensorReadings 7) (.pldm 0x21 0 [1, 0, s.mgmt.readState, 0, s.mgmt.readState]) ∧
      ∃ b, answers (.getStateSensorReadings 8) (.pldm 0x21 0 b) ∧ b.length = 33 ∧
        ∀ i, i < 8 → byteAt b (4 * i + 2) = if s.mgmt.readAlert.getLsbD i then 2 else 1)

/-- The management port and the management target. -/
def Obligations.Management : Prop :=
  Says.managementPort ∧ Says.managementTarget

/-! ### Keys, fuses and updates -/

/-- A volatile letter that passes the checks of R138 up to its wrapped key: its form, the wrap key, the authority over the
slot, the device's identity, the boot's nonce, a fresh counter, the life-cycle bit. -/
def Says.lettered (e : Env) (t : State) (kek : BitVec 256) : Prop :=
  let n := p16 e 6
  letterForm t e = none ∧ p8 e 5 = 0 ∧ wrapKey t e = some kek ∧ slotAuthority t e n = true ∧ dig e.payload 0x10 = t.vault.did ∧
  fld e.payload 0x40 8 = t.boot.bn.toNat ∧ (letterLast t e false).toNat < e.franking.toNat ∧ t.boot.fuseDegraded = false ∧
  (∃ b, lcBit t.fuses.shadow.code = some b ∧ (BitVec.ofNat 64 (p64 e 8)).getLsbD b = true) ∧ (slot t n).version ≠ 0xFFFF

/-- Letters (R138–R141): an install fills an empty slot and counts its version, a replacement goes to the pending bank
beside the active key; no other slot changes and the issuer's counter is recorded. A wrapped key that does not unwrap is
INTEGRITY, a letter for another device REFUSED. -/
def Says.lettersInstallKeys : Prop :=
  ∀ (e : Env) (s t : State) (kek : BitVec 256), let n := p16 e 6
    let a := BitVec.ofNat 64 (p64 e 8)
    let x := slot t n
    let others := fun u : State => (∀ k, k ≠ n → slot u k = slot t k) ∧ ∀ i, issuerOf t e = some i → ownCounter u i = e.franking
    (Says.lettered e t kek →
      (x.isEmpty = true → ∃ u r, Says.served (.keyInstall e) specKeyInstall e s t (u, r) ∧ others u ∧
        match kwUnwrap kek (e.payload.drop 0x80) with
        | some b => r = (letterReply n u).noted ∧ (slot u n).active = BitVec.ofNat 384 (beNat b) ∧
            (slot u n).activeValid = true ∧ (slot u n).pendingValid = false ∧
            (slot u n).version = x.version + 1 ∧ (slot u n).attr &&& attrRw = a &&& attrRw
        | none => r = (Ans.integrity.at_ 8).noted ∧ slot u n = x) ∧
      (x.isEmpty = false → ∃ u,
        Says.served (.keyInstall e) specKeyInstall e s t (u, ((Ans.conflict 1).at_ 6).noted) ∧ u.vault.slots = t.vault.slots) ∧
      (x.isEmpty = false → x.attr &&& attrRw = a &&& attrRw → ∃ u r,
        Says.served (.keyReplace e) specKeyReplace e s t (u, r) ∧ others u ∧ (slot u n).active = x.active ∧
          (slot u n).version = x.version ∧
          match kwUnwrap kek (e.payload.drop 0x80) with
          | some b => (x.activeValid = false ∨ BitVec.ofNat 384 (beNat b) ≠ x.active → r = (letterReply n u).noted ∧
              (slot u n).pending = BitVec.ofNat 384 (beNat b) ∧ (slot u n).pendingValid = true ∧
              (slot u n).activeValid = x.activeValid)
          | none => r = (Ans.integrity.at_ 8).noted ∧ slot u n = x) ∧
      (x.isEmpty = true → ∃ u, Says.served (.keyReplace e) specKeyReplace e s t
        (u, ((Ans.notFound (x.version.zeroExtend 32)).at_ 6).noted) ∧ u.vault.slots = t.vault.slots)) ∧
    (letterForm t e = none → wrapKey t e = some kek → slotAuthority t e n = true → dig e.payload 0x10 ≠ t.vault.did →
      Says.served (.keyInstall e) specKeyInstall e s t (t, Ans.refused.at_ 3) ∧
      Says.served (.keyReplace e) specKeyReplace e s t (t, Ans.refused.at_ 3))

/-- Other key commands (R136, R141, R145, R443, R498): a destroyed slot keeps its version and nothing else, a persistent
one waits for its fuse operation; an abandoned pending bank is gone; a slot's attributes and targets are told, never its
key; an exportable key leaves wrapped under the context's seal key and comes back by it; WRAP_ESTABLISH installs an
operator wrap key. -/
def Says.keyCommands : Prop :=
  ∀ (e : Env) (s t : State), let n := p16 e 0
    (payFault (keySlotChecks t e) = none → slotAuthority t e n = true → t.fuses.op = none →
      (staleCounter t specKeyDestroy e = none →
        ((slot t n).isEmpty = false → (slot t n).persist = false → ∃ u,
          Says.served (.keyDestroy e) specKeyDestroy e s t (u, Ans.ok.noted) ∧ (slot u n).attr = versionOnly (slot t n).version ∧
            (slot u n).active = 0 ∧ (slot u n).pending = 0 ∧ ∀ k, k ≠ n → slot u k = slot t k) ∧
        ((slot t n).isEmpty = false → (slot t n).persist = true → ∃ u,
          Says.served (.keyDestroy e) specKeyDestroy e s t (u, Ans.waiting.noted) ∧ u.vault.slots = t.vault.slots ∧
            u.fuses.op = some { job := .destroy n, env := some { env := e, op := 0x303 }, ready := false }) ∧
        ((slot t n).isEmpty = true → ∃ u, Says.served (.keyDestroy e) specKeyDestroy e s t
          (u, (Ans.notFound ((slot t n).version.zeroExtend 32)).noted) ∧ u.vault.slots = t.vault.slots)) ∧
      (staleCounter t specKeyAbandonPending e = none →
        ((slot t n).pendingValid = true → ∃ u,
          Says.served (.keyAbandonPending e) specKeyAbandonPending e s t (u, Ans.ok.noted) ∧ (slot u n).pendingValid = false ∧
            (slot u n).pending = 0 ∧ (slot u n).active = (slot t n).active ∧ ∀ k, k ≠ n → slot u k = slot t k) ∧
        ((slot t n).pendingValid = false → ∃ u,
          Says.served (.keyAbandonPending e) specKeyAbandonPending e s t (u, Ans.notFound.noted) ∧
            u.vault.slots = t.vault.slots))) ∧
    (payFault (keySlotChecks t e) = none →
      (slotAuthority t e n = true → (slot t n).isEmpty = false → Says.served (.keyInfo e) specKeyInfo e s t (t, Ans.ok
        (leBytes 8 (slot t n).attr.toNat ++ digBytes (slot t n).targetA ++ digBytes (slot t n).targetP))) ∧
      (slotAuthority t e n = false → Says.served (.keyInfo e) specKeyInfo e s t (t, Ans.refused)) ∧
      (slotAuthority t e n = true → t.boot.fuseDegraded = false → (slot t n).activeValid = true →
        ((slot t n).exportable = false → Says.served (.keySealExport e) specKeySealExport e s t (t, Ans.state 0x4558)) ∧
        ((slot t n).exportable = true → ∀ g, slotTarget t e.target.toNat n = some g →
          ((slot t n).sealed = true → (slot t n).targetA = g) → Says.served (.keySealExport e) specKeySealExport e s t
            (t, Ans.ok (leBytes 4 0x55445342 ++ [1, 0, 0, 0] ++ digBytes t.vault.did ++
              kwWrap (sealKey t g) (leBytes 8 (slot t n).attr.toNat ++ digBytes (slot t n).active)))))) ∧
    (payFault (keySlotChecks t e ++ [(8, p8 e 8 == 0x42), (9, p8 e 9 == 0x53), (10, p8 e 10 == 0x44), (11, p8 e 11 == 0x55),
        (12, p8 e 12 == 1)] ++ rsv e 13 3) = none → slotAuthority t e n = true → t.boot.fuseDegraded = false →
      (slot t n).isEmpty = true →
      (dig e.payload 16 ≠ t.vault.did → Says.served (.keySealImport e) specKeySealImport e s t (t, Ans.integrity)) ∧
      (dig e.payload 16 = t.vault.did → ∀ g, slotTarget t e.target.toNat n = some g → ∃ u r,
        Says.served (.keySealImport e) specKeySealImport e s t (u, r) ∧ (∀ k, k ≠ n → slot u k = slot t k) ∧
          match kwUnwrap (sealKey t g) (slice e.payload 64 64) with
          | some b => r = Ans.ok (leBytes 8 (slot u n).attr.toNat) ∧ (slot u n).active = dig b 8 ∧ (slot u n).activeValid = true
          | none => r = Ans.integrity ∧ u = t)) ∧
    (payFault ([(0, decide (p8 e 0 ≤ 0x3F))] ++ rsv e 1 7) = none → t.boot.fuseDegraded = false → t.eng.entropyFailed = false →
      t.eng.pkeFenced = false → let k := 0x40 + p8 e 0
      ((slot t k).isEmpty = false → Says.served (.wrapEstablish e) specWrapEstablish e s t (t, Ans.conflict)) ∧
      ((slot t k).isEmpty = true → ∃ u r, Says.served (.wrapEstablish e) specWrapEstablish e s t (u, r) ∧
        (∀ j, j ≠ k → slot u j = slot t j) ∧
        match Config.ecdhShared (BitVec.ofNat 384 (beNat (drawBytes t.free 48))) (slice e.payload 8 97),
          Config.mlkemEncaps (slice e.payload 105 1568) (t.free + 1) with
        | some _, some _ => r.status = 0 ∧ (slot u k).type = 1 ∧ (slot u k).activeValid = true
        | none, _ => r = Ans.malformed 0x48 ∧ u = t
        | some _, none => r = Ans.malformed 0xA9 ∧ u = t))

/-- Key letters and the other key commands. -/
def Obligations.Keys : Prop :=
  Says.lettersInstallKeys ∧ Says.keyCommands

/-- The fuse commands (R107, R115, R116, R120, R125): the summary is the sensed shadow's, a nonce replaces the one held,
and an action whose token is well formed, signed, fresh and permitted uses up the nonce and starts its fuse operation;
actions that change the life-cycle state zero every key first. -/
def Says.fuseCommands : Prop :=
  ∀ (e : Env) (s t : State),
    (s.fuses.transition = false → Says.served (.fuseSummaryGet e) specFuseSummaryGet e s t
      (t, Ans.ok (fuseSummary t.fuses.shadow))) ∧
    (t.eng.entropyFailed = false → ∃ u b, Says.served (.fuseNonceGet e) specFuseNonceGet e s t (u, Ans.ok b) ∧ b.length = 16 ∧
      Keeps [.fuses, .eng, .free] t u ∧ u.fuses = { t.fuses with nonce := some (BitVec.ofNat 128 (leNat b)) }) ∧
    (tokenFormat e = none →
      (t.fuses.op ≠ none → Says.served (.fuseAction e) specFuseAction e s t (t, (Ans.retry 100).at_ 2)) ∧
      (t.fuses.op = none → ∃ u r, Says.served (.fuseAction e) specFuseAction e s t (u, r) ∧ u.fuses.cells = t.fuses.cells ∧
        let fresh := t.fuses.nonce = some (BitVec.ofNat 128 (fld e.payload 0x10 16))
        (tokenSigned t.fuses.shadow e = false → u = t ∧ r = Ans.refused.at_ 3) ∧
        (tokenSigned t.fuses.shadow e = true → u.fuses.nonce = none) ∧
        (tokenSigned t.fuses.shadow e = true → ¬ fresh → u.fuses.op = none ∧ r = (Ans.stale 0).at_ 4) ∧
        (tokenSigned t.fuses.shadow e = true → fresh → actionPermitted t.fuses.shadow (p8 e 5) (p8 e 6) = false →
          u.fuses.op = none ∧ r = (Ans.state (t.fuses.shadow.code.zeroExtend 32)).at_ 5) ∧
        (tokenSigned t.fuses.shadow e = true → fresh → actionPermitted t.fuses.shadow (p8 e 5) (p8 e 6) = true →
          actionConflict t e = false → r = Ans.waiting ∧ u.aon.fusePwrEn = true ∧
          u.fuses.op = some { job := actionJob t e, env := some { env := e, op := 0x203 }, ready := false } ∧
          (p8 e 5 = 1 ∨ p8 e 5 = 3 → u.fuses.transition = true ∧ u.vault.slots = [] ∧ u.vault.wkr = 0 ∧ u.vault.mce = []) ∧
          (p8 e 5 ≠ 1 → p8 e 5 ≠ 3 → u.vault = t.vault ∧ u.fuses.transition = t.fuses.transition))))

/-- The fuse commands and the operation they start. -/
def Obligations.Fuses : Prop :=
  Says.fuseCommands ∧ Says.fuseProgramming

/-- Staging and activation (R431–R433): a begin erases a bank that does not run, writes append to its images, a finish
verifies them (R79) and names the layer and condition that fails, activation makes the staged bank the trial of the next
boot or waits for its live effect. Only the flash changes. -/
def Says.updatesAreStaged : Prop :=
  ∀ (e : Env) (s t : State), t.flash.answers = true → let b := bankArg e
    let other := fun u : State => Keeps [.flash] t u ∧ bankOf u (!b) = bankOf t (!b)
    (payFault (bankChecks e) = none →
      (runningBank t = some b → Says.served (.updateBegin e) specUpdateBegin e s t (t, Ans.conflict)) ∧
      (runningBank t ≠ some b → eraseQueued t b = false → ∃ u, Says.served (.updateBegin e) specUpdateBegin e s t (u, Ans.ok) ∧
        other u ∧ (bankOf u b).st = .writing ∧ (bankOf u b).erasing = true ∧ (bankOf u b).written = [] ∧
        FlashJob.bankErase b 0 ∈ u.flash.jobs) ∧
      ((bankOf t b).st ≠ .writing → Says.served (.updateFinish e) specUpdateFinish e s t (t, Ans.state)) ∧
      ((bankOf t b).st = .writing → (bankOf t b).erasing = false →
        ∃ u r, Says.served (.updateFinish e) specUpdateFinish e s t (u, r) ∧ other u ∧
          (bankOf u b).images = (bankOf t b).images ∧
          match bankFault t b with
          | some (l, c) => r = Ans.integrity (BitVec.ofNat 32 (l * 256 + c)) ∧ u = t
          | none => r = Ans.ok ∧ (bankOf u b).st = .staged)) ∧
    (payFault (writeChecks e) = none → let l := p8 e 1
      ((bankOf t b).st ≠ .writing ∨ (bankOf t b).erasing = true →
        Says.served (.updateWrite e) specUpdateWrite e s t (t, Ans.state)) ∧
      ((bankOf t b).st = .writing → (bankOf t b).erasing = false →
        (p32 e 4 ≠ mgetD (bankOf t b).written l 0 → Says.served (.updateWrite e) specUpdateWrite e s t
          (t, Ans.conflict (BitVec.ofNat 32 (mgetD (bankOf t b).written l 0)))) ∧
        (p32 e 4 = mgetD (bankOf t b).written l 0 → ∃ u, Says.served (.updateWrite e) specUpdateWrite e s t (u, Ans.ok) ∧ other u ∧
          mgetD (bankOf u b).written l 0 = p32 e 4 + (e.payload.length - 8) ∧
          mgetD (bankOf u b).images l [] = mgetD (bankOf t b).images l [] ++ e.payload.drop 8))) ∧
    (payFault (activateChecks e) = none → romRecovery t = false →
      ((bankOf t b).st ≠ .staged → Says.served (.updateActivate e) specUpdateActivate e s t (t, Ans.state)) ∧
      ((bankOf t b).st = .staged → p8 e 1 = 1 → ∃ u, Says.served (.updateActivate e) specUpdateActivate e s t (u, Ans.ok) ∧
        other u ∧ (bankOf u b).st = .trial ∧ (bankOf u b).consumed = false) ∧
      ((bankOf t b).st = .staged → p8 e 1 = 2 → sameLayers t b = true → t.fuses.op = none → t.flash.activation = none →
        Says.served (.updateActivate e) specUpdateActivate e s t
          ({ t with flash := { t.flash with activation := some (b, { env := e, op := 0x704 }) } }, Ans.waiting)))

/-- Commit, rollback, discard, status and reanchoring (R123, R429, R431): a consumed trial becomes good and active, its
security versions fused where it is asked to; a rollback activates the other good bank unless a security version forbids
it; a reanchor token that is signed and fresh takes one ratchet step. -/
def Says.updatesAreCommitted : Prop :=
  ∀ (e : Env) (s t : State), t.flash.answers = true → romRecovery t = false → let b := t.boot.bank
    let svn := fun l : Nat => match mget t.boot.layers l with | some r => r.svn.toNat | none => 0
    (payFault ([(0, decide (p8 e 0 ≤ 1))] ++ rsv e 1 7) = none →
      (p8 e 0 = 0 → (bankOf t b).st ≠ .trial ∨ (bankOf t b).consumed = false →
        Says.served (.updateCommit e) specUpdateCommit e s t (t, Ans.state)) ∧
      ((bankOf t b).st = .trial → (bankOf t b).consumed = true →
        (p8 e 0 = 0 → ∃ u, Says.served (.updateCommit e) specUpdateCommit e s t (u, Ans.ok) ∧ Keeps [.flash] t u ∧
          (bankOf u b).st = .good ∧ bankOf u (!b) = bankOf t (!b) ∧ u.flash.active = b) ∧
        (p8 e 0 = 1 → t.fuses.op = none → (bankOf t (!b)).st ≠ .good → (bankOf t (!b)).st ≠ .staged →
          (∀ l ∈ layersOf t.fuses.shadow, svn l ≤ 64) →
          (∃ l ∈ layersOf t.fuses.shadow, t.fuses.shadow.svn.getD (l - 1) 0 < svn l) → ∃ u ts,
          Says.served (.updateCommit e) specUpdateCommit e s t (u, Ans.waiting) ∧ Keeps [.flash, .fuses, .aon] t u ∧
            (bankOf u b).st = .good ∧ u.flash.active = b ∧ u.fuses.cells = t.fuses.cells ∧ u.aon.fusePwrEn = true ∧
            u.fuses.op = some { job := .svnAdvance ts, env := some { env := e, op := 0x705 }, ready := false } ∧
            ∀ l n, (l, n) ∈ ts ↔ l ∈ layersOf t.fuses.shadow ∧ n = svn l ∧ t.fuses.shadow.svn.getD (l - 1) 0 < n))) ∧
    ((bankOf t (!b)).st = .good → imageBelow t (!b) (fun l => t.fuses.shadow.svn.getD (l - 1) 0) = false → ∃ u,
      Says.served (.updateRollback e) specUpdateRollback e s t (u, Ans.ok) ∧ Keeps [.flash] t u ∧ u.flash.active = !b ∧
        u.flash.bankA = t.flash.bankA ∧ u.flash.bankB = t.flash.bankB) ∧
    ((bankOf t (!b)).st ≠ .good → Says.served (.updateRollback e) specUpdateRollback e s t (t, Ans.state)) ∧
    (payFault (bankChecks e) = none →
      (bankArg e = b → Says.served (.updateDiscard e) specUpdateDiscard e s t (t, Ans.conflict)) ∧
      (bankArg e ≠ b → ∃ u, Says.served (.updateDiscard e) specUpdateDiscard e s t (u, Ans.ok) ∧ Keeps [.flash] t u ∧
        (bankOf u (!b)).st = .empty ∧ bankOf u b = bankOf t b)) ∧
    (∃ v, Says.served (.updateStatusGet e) specUpdateStatusGet e s t (t, Ans.ok v) ∧ v.length = 32 ∧
      slice v 0 3 = [bankCode t.flash.active, bankStCode t.flash.bankA.st, bankStCode t.flash.bankB.st]) ∧
    (payFault (reanchorChecks e) = none → t.fuses.op = none →
      ∃ u r, Says.served (.counterReanchor e) specCounterReanchor e s t (u, r) ∧ Keeps [.fuses, .aon] t u ∧
        u.fuses.cells = t.fuses.cells ∧
        (reanchorSigned t.fuses.shadow e = false → u = t ∧ r = Ans.refused) ∧
        (reanchorSigned t.fuses.shadow e = true → u.fuses.nonce = none) ∧
        (reanchorSigned t.fuses.shadow e = true → t.fuses.nonce = some (BitVec.ofNat 128 (fld e.payload 16 16)) →
          t.boot.fuseDegraded = false → t.boot.unanchored = true → t.fuses.shadow.ratchet < 4096 →
          r = Ans.waiting ∧ u.aon.fusePwrEn = true ∧
          u.fuses.op = some { job := .reanchor (BitVec.ofNat 64 (p64 e 32)), env := some { env := e, op := 0x709 }, ready := false }))

/-- Firmware is staged, activated, committed, rolled back and discarded. -/
def Obligations.Updates : Prop :=
  Says.updatesAreStaged ∧ Says.updatesAreCommitted

/-! ### Attestation -/

/-- Reports and certificates (R331, R333, R335, R353, R479): a report carries the caller's nonce, the device's identity, its
boot nonce and generation, and is kept for its caller where it does not fit the reply; the rest is read from the kept one
until it expires; the certificates are told; an identity set is taken where its leaves hold the identity key. -/
def Says.reportsAndCertificates : Prop :=
  ∀ (e : Env) (s t : State),
    (payFault ([(0, decide (p8 e 0 = 1 ∨ p8 e 0 = 2))] ++ rsv e 1 7) = none →
      (t.boot.fuseDegraded = true → Says.served (.reportGet e) specReportGet e s t (t, Ans.state 0x4644)) ∧
      (t.boot.fuseDegraded = false → t.eng.entropyFailed = false → t.eng.pkeFenced = false → ∃ u b,
        Says.served (.reportGet e) specReportGet e s t (u, Ans.okD (count31 b.length) (b.take (space t e))) ∧
        Keeps [.att, .free] t u ∧ slice b 4 2 = [1, byteAt e.payload 0] ∧ slice b 16 32 = padTo 32 (slice e.payload 8 32) ∧
        slice b 48 48 = digBytes t.vault.did ∧ slice b 96 8 = leBytes 8 t.boot.bn.toNat ∧
        ((∀ n, e.path ≠ .spdm n) → slice b 6 1 = [1] ∧ slice b 104 8 = leBytes 8 t.att.gen.toNat) ∧
        let rest := t.att.kept.filter (fun k => k.owner != reportOwner e)
        u.att.kept = if space t e < b.length then rest ++ [{ owner := reportOwner e, bytes := b }] else rest)) ∧
    (∀ k, t.att.kept.find? (fun k => k.owner == reportOwner e) = some k → Says.served (.reportRead e) specReportRead e s t
      (t, Ans.ok (slice k.bytes (p32 e 0) (min (p32 e 4) (space t e))))) ∧
    ((∀ k ∈ t.att.kept, k.owner ≠ reportOwner e) → Says.served (.reportRead e) specReportRead e s t (t, Ans.notFound)) ∧
    (∀ n : BitVec 4, Runs (.reportExpiry n) s fun t => Touches [.att] s t ∧ t.att.kept = s.att.kept.eraseIdx n.toNat ∧
      t.att.sessions = s.att.sessions) ∧
    (payFault ([(0, decide (p8 e 0 ≤ 2))] ++ rsv e 1 3) = none → t.boot.fuseDegraded = false →
      let got := fun b : Bytes => Says.served (.certChainGet e) specCertChainGet e s t
        (t, Ans.ok (leBytes 4 b.length ++ zeros 4 ++ slice b (p32 e 4) (space t e - 8)))
      (p8 e 0 = 0 → got (mgetD t.att.certs 2 [] ++ mgetD t.att.certs 3 [] ++ t.att.idDual)) ∧
      (p8 e 0 = 1 → got (t.att.idChain ++ mgetD t.att.certs 0x12 [] ++ mgetD t.att.certs 0x13 [])) ∧
      (p8 e 0 = 2 → got (t.att.idChain ++ t.att.idDual))) ∧
    (t.boot.fuseDegraded = false → t.eng.entropyFailed = false → t.eng.pkeFenced = false → ∃ u,
      Says.served (.identityCsrGet e) specIdentityCsrGet e s t (u, Ans.ok (idkSelfCert t)) ∧ Keeps [.free] t u) ∧
    (t.boot.fuseDegraded = true → Says.served (.identityCsrGet e) specIdentityCsrGet e s t (t, Ans.state 0x4644)) ∧
    (p32 e 4 = 0 ∨ p32 e 4 = 7616 → e.payload.length = 8 + p32 e 0 + p32 e 4 → p32 e 0 + p32 e 4 ≤ 32768 →
      t.boot.fuseDegraded = false →
      let chain := slice e.payload 8 (p32 e 0)
      let dual := slice e.payload (8 + p32 e 0) (p32 e 4)
      ∃ u r, Says.served (.identityCertSet e) specIdentityCertSet e s t (u, r) ∧
        (identityFits t chain dual = false → u = t ∧ r = Ans.conflict) ∧
        (identityFits t chain dual = true → r = Ans.waiting ∧ Keeps [.att, .flash] t u ∧ u.att.idChain = chain ∧
          u.att.idDual = dual ∧ ∃ c, u.flash.jobs = t.flash.jobs ++ [.config (some { env := e, op := 0x605 }) c] ∧ c.idSet = (chain, dual)))

/-- A tenant's session (R344, R345, R348, R349): a binding that both of the tenant's keys back gives the session its TID and
postcard secret, a postcard carries its nonce and a tag under that secret, a standing one gives heartbeats, and the end of
the session destroys the secret, the kept reports and the held replies. -/
def Says.tenantSessions : Prop :=
  ∀ (e : Env) (s t : State),
    (∀ n x, sessionOf t e = some (n, x) →
      (payFault (rsv e 97 7 ++ rsv e 7323 5) = none → t.eng.pkeFenced = false →
        (x.tid ≠ none → Says.served (.tenantBind e) specTenantBind e s t (t, Ans.state)) ∧
        (x.tid = none → let ec := slice e.payload 0 97
          let ml := slice e.payload 104 2592
          let good := ec = x.leaf ∧
            Config.mldsaVerify ml (digBytes x.th2) (ascii "U-TENANT") (slice e.payload 2696 4627) = true
          ∃ u r, Says.served (.tenantBind e) specTenantBind e s t (u, r) ∧
            (¬ good → u = t ∧ r = Ans.refused) ∧
            (good → r = Ans.ok (digBytes (sha384 (ec ++ ml))) ∧
              mget u.att.sessions n = some { x with tid := some (sha384 (ec ++ ml)) } ∧
              (slot u (0x014 + n)).activeValid = true ∧ ∀ k, k ≠ 0x014 + n → slot u k = slot t k))) ∧
      (payFault ([(32, decide (p8 e 32 ≤ 1))] ++ rsv e 33 7) = none → e.payload.length = 40 → ∀ d, x.tid = some d →
        (partHasTid t e.target.toNat d = true → ∃ u b, Says.served (.postcardGet e) specPostcardGet e s t (u, Ans.ok b) ∧
          Keeps [.att] t u ∧ slice b 4 4 = [1, 1, e.target, 0] ∧ slice b 8 32 = padTo 32 (slice e.payload 0 32) ∧
          slice b 40 8 = leBytes 8 t.boot.bn.toNat ∧ slice b 48 8 = zeros 8 ∧
          b.drop 160 = hmac384 (digBytes (slot t (0x014 + n)).active) (b.take 160) ∧
          ((byteAt e.payload 32).getLsbD 0 = false → u = t) ∧
          ((byteAt e.payload 32).getLsbD 0 = true → ∃ k, mget u.att.sessions n = some { x with standing := some k } ∧
            k.part = e.target.toNat ∧ k.beat = 0 ∧ k.latest = none))) ∧
      (∀ k d, x.standing = some k → x.tid = some d → k.part = e.target.toNat → partHasTid t k.part d = true →
        (∀ b, k.latest = some b → Says.served (.heartbeatGet e) specHeartbeatGet e s t (t, Ans.ok b)) ∧
        (k.latest = none → Says.served (.heartbeatGet e) specHeartbeatGet e s t (t, Ans.notFound))) ∧
      (x.standing = none → Says.served (.heartbeatGet e) specHeartbeatGet e s t (t, Ans.notFound))) ∧
    (∀ n : BitVec 4,
      (mget s.att.sessions n.toNat = none → Runs (.sessionTimeout n) s fun t => Keeps [] s t) ∧
      (mget s.att.sessions n.toNat ≠ none → Runs (.sessionTimeout n) s fun t =>
        Touches [.vault, .att, .mail, .twin, .port, .out] s t ∧ t.att.sessions = mdel s.att.sessions n.toNat ∧
        (slot t (0x014 + n.toNat)).active = 0 ∧ (∀ k ∈ t.att.kept, k.owner ≠ .spdm n) ∧
        (∀ h ∈ t.mail.held, h.reply.env.path ≠ .spdm n) ∧ ∀ k, k ≠ 0x014 + n.toNat → slot t k = slot s k))

/-- Reports, certificates, standing tickets and tenant sessions. -/
def Obligations.Attestation : Prop :=
  Says.reportsAndCertificates ∧ Says.tenantSessions

/-! ### The thermal group, periods and tokens, scrub settings, debug -/

/-- The thermal group (R370, R373, R381, R385): plans are kept for their cores until they have ended, a coolant report is the
inlet and flow of now, a carousel group is bound to its members in order, a throttle caps an Open partition's cores at
once, and the status shows it all. -/
def Says.thermalCommands : Prop :=
  ∀ (e : Env) (s t : State),
    (payFault (planChecks t e) = none → let cs := bitsOf (BitVec.ofNat 128 (planMask e))
      ((tick t).toNat + 32768 < p64 e 0 → Says.served (.thermalPlanSet e) specThermalPlanSet e s t (t, Ans.state)) ∧
      (p64 e 0 ≤ (tick t).toNat + 32768 → ∃ u, Says.served (.thermalPlanSet e) specThermalPlanSet e s t (u, Ans.ok) ∧
        Keeps [.therm] t u ∧
        (∀ c ∈ cs, ∀ q, (coreTherm u c).plan = some q → q.start = BitVec.ofNat 48 (p64 e 0) ∧ q.loads.length = p16 e 8) ∧
        (∀ c ∈ cs, (tick t).toNat < p64 e 0 → (coreTherm u c).plan ≠ none) ∧
        (∀ c, c ∉ cs → (coreTherm u c).plan = if p8 e 10 = 1 then none else (coreTherm t c).plan))) ∧
    (payFault (rsv e 4 4) = none → ∃ u, Says.served (.coolantReport e) specCoolantReport e s t (u, Ans.ok) ∧
      u.therm.inlet = some ((BitVec.ofNat 16 (p16 e 0)).toInt, tick t) ∧ u.therm.flow = some (p16 e 2, tick t) ∧
      u.therm.flowStale = false ∧ (60 ≤ p16 e 2 → u.therm.lowFlow = none) ∧
      (t.aon.thIn.valid = false → Keeps [.therm] t u) ∧
      (t.aon.thIn.valid = true → 30 < (t.aon.thIn.temp - (BitVec.ofNat 16 (p16 e 0)).toInt).natAbs →
        u.therm.inletMismatch = t.therm.inletMismatch + 1 ∧ u.aon.alertLow = true)) ∧
    (payFault (carouselChecks t e) = none → ∀ x, part? t e.target.toNat = some x →
      let g := p8 e 0
      let ms := carouselMembers e
      (ms = [] → (∃ y, mget t.therm.groups g = some y ∧ y.part = e.target.toNat) → ∃ u,
        Says.served (.carouselSet e) specCarouselSet e s t (u, Ans.ok) ∧ Keeps [.therm] t u ∧ mget u.therm.groups g = none) ∧
      (ms = [] → mget t.therm.groups g = none → Says.served (.carouselSet e) specCarouselSet e s t (t, Ans.notFound)) ∧
      (ms ≠ [] → mget t.therm.groups g = none → (∃ y ∈ t.therm.groups, ∃ c ∈ ms, c ∈ y.2.members) →
        Says.served (.carouselSet e) specCarouselSet e s t (t, Ans.conflict)) ∧
      (ms ≠ [] → t.therm.groups = [] → carouselFits t e.target.toNat x ms = true → x.mode ≠ .confidential ∨ p16 e 2 ≠ 0 → ∃ u,
        Says.served (.carouselSet e) specCarouselSet e s t (u, Ans.ok) ∧ Keeps [.therm] t u ∧
          u.therm.groups = [(g, { part := e.target.toNat, every := p16 e 2, members := ms, bind := ms, since := 0, lastTick := tick t })])) ∧
    (∃ b, Says.served (.thermalStatusGet e) specThermalStatusGet e s t (t, Ans.ok b) ∧ b.length = 1944 ∧
      ∀ c, c < 128 → slice b (8 + 8 * c + 5) 1 = [BitVec.ofNat 8 (stepOf t c)]) ∧
    (payFault ([(0, decide (p8 e 0 ≤ 4))] ++ rsv e 1 7) = none → ∀ x, part? t e.target.toNat = some x →
      (x.mode = .confidential → 3 < p8 e 0 → Says.served (.throttleSet e) specThrottleSet e s t (t, Ans.malformed 0x40)) ∧
      (x.mode = .open → ∃ u, Says.served (.throttleSet e) specThrottleSet e s t (u, Ans.ok) ∧
        part? u e.target.toNat = some { x with maxStep := p8 e 0 } ∧ actsOf u x.tenant = satInc (actsOf t x.tenant) ∧
        (∀ c ∈ coresOf t e.target.toNat, (core u c).step = max (p8 e 0) (core t c).step ∧ (core u c).x = (core t c).x) ∧
        ∀ c, c ∉ coresOf t e.target.toNat → core u c = core t c))

/-- Periods and tokens (R287, R290–R292, R480): a period set on a running partition that has one waits for its boundary, else it is
anchored at once; a home token's signal adds to its count and stays at its highest value with OVERFLOW; an import binds a
home token to a sender and channel once; a token page claims a range of a window. -/
def Obligations.PeriodsAndTokens : Prop :=
  ∀ (e : Env) (s t : State) (x : Partition), part? t e.target.toNat = some x → x.state ≠ .destroying →
    let p := e.target.toNat
    (payFault ([(0, decide (50 ≤ p32 e 0 ∧ p32 e 0 ≤ 1000000))] ++ rsv e 4 4) = none → ∃ u y,
      Says.served (.periodSet e) specPeriodSet e s t (u, Ans.ok) ∧ Keeps [.parts] t u ∧ part? u p = some y ∧
        (∀ k, k ≠ p → part? u k = part? t k) ∧
        (x.periodUs ≠ 0 → x.state = .running → y = { x with pendUs := p32 e 0 }) ∧
        (x.periodUs = 0 ∨ x.state ≠ .running → y = { x with periodUs := p32 e 0, pendUs := 0, anchor := tick t })) ∧
    Says.served (.periodStatusGet e) specPeriodStatusGet e s t (t, Ans.ok (leBytes 4 x.periodUs ++ leBytes 4 x.pendUs ++
      leBytes 8 x.periodSeq.toNat ++ leBytes 8 x.anchor.toNat ++ leBytes 8 x.counts.dropped.toNat)) ∧
    (payFault ([(0, decide (p16 e 0 < 4096))] ++ rsv e 2 2 ++ [(4, decide (1 ≤ p32 e 4))]) = none →
      ((resOf t 4 (p16 e 0)).st ≠ .held p → Says.served (.tokenSignal e) specTokenSignal e s t (t, Ans.notFound)) ∧
      (∀ k, (resOf t 4 (p16 e 0)).st = .held p → mget t.q.tokens (p16 e 0) = some k → k.proxy = false → k.waiters = [] → ∃ u k',
        Says.served (.tokenSignal e) specTokenSignal e s t (u, Ans.ok) ∧ Keeps [.q] t u ∧
          mget u.q.tokens (p16 e 0) = some k' ∧ k'.count.toNat = min (k.count.toNat + p32 e 4) (2 ^ 32 - 1) ∧
          k'.overflow = (k.overflow || decide (2 ^ 32 ≤ k.count.toNat + p32 e 4)) ∧
          ∀ n, n ≠ p16 e 0 → mget u.q.tokens n = mget t.q.tokens n)) ∧
    (payFault ([(0, decide (p16 e 0 < 4096))] ++ rsv e 2 6) = none → ∀ k, (resOf t 4 (p16 e 0)).st = .held p →
      mget t.q.tokens (p16 e 0) = some k → k.proxy = false → ∃ b,
      Says.served (.tokenStatusGet e) specTokenStatusGet e s t (t, Ans.ok b) ∧ b.length = 16 ∧ slice b 0 4 = leBytes 4 k.count.toNat ∧
        slice b 8 4 = leBytes 4 k.initial.toNat ∧ (byteAt b 5).getLsbD 0 = k.overflow ∧ (byteAt b 5).getLsbD 2 = k.periodReset) ∧
    (payFault (importChecks e) = none → ∀ k, (resOf t 4 (p16 e 0)).st = .held p → mget t.q.tokens (p16 e 0) = some k →
      (∀ n, e.path ≠ .vf n) →
      (p16 e 4 = 0 → k.imp ≠ none → ∃ u, Says.served (.tokenImportSet e) specTokenImportSet e s t (u, Ans.ok) ∧ Keeps [.q] t u ∧
        mget u.q.tokens (p16 e 0) = some { k with imp := none }) ∧
      (p16 e 4 = 0 → k.imp = none → Says.served (.tokenImportSet e) specTokenImportSet e s t (t, Ans.notFound)) ∧
      (p16 e 4 ≠ 0 → k.proxy = false → k.imp = none → x.mode ≠ .confidential → p8 e 6 = 0xFF →
        (∀ y ∈ t.q.tokens, y.2.imp = none) → ∃ u i,
        Says.served (.tokenImportSet e) specTokenImportSet e s t (u, Ans.ok) ∧ Keeps [.q] t u ∧
          mget u.q.tokens (p16 e 0) = some { k with imp := some i } ∧ i.src.toNat = p16 e 2 ∧ i.channel.toNat = p16 e 4 ∧
          i.broken = false ∧ i.nextSeq = none) ∧
      (p16 e 4 ≠ 0 → k.proxy = false → k.imp = none → p8 e 6 = 0xFF → (∃ y ∈ t.q.tokens, ∃ i, y.2.imp = some i ∧ y.1 ≠ p16 e 0 ∧
          i.src.toNat = p16 e 2 ∧ i.channel.toNat = p16 e 4) →
        Says.served (.tokenImportSet e) specTokenImportSet e s t (t, Ans.conflict))) ∧
    (payFault ([(0, decide (p8 e 0 < 16)), (1, decide (p8 e 1 < 16)), (2, decide (p8 e 2 < 2))] ++ rsv e 3 5 ++
        [(8, p64 e 8 % 65536 == 0)]) = none →
      let mine := fun q : TokPage => q.part = p ∧ q.page = p8 e 1
      (p8 e 2 = 0 → (∀ q ∈ t.q.pages, ¬ mine q) → Says.served (.tokenPageSet e) specTokenPageSet e s t (t, Ans.notFound)) ∧
      (p8 e 2 = 0 → (∃ q ∈ t.q.pages, mine q) → ∃ u, Says.served (.tokenPageSet e) specTokenPageSet e s t (u, Ans.ok) ∧
        Keeps [.q] t u ∧ ∀ q, q ∈ u.q.pages ↔ q ∈ t.q.pages ∧ ¬ mine q) ∧
      (p8 e 2 = 1 → mget x.windows (p8 e 0) = none → Says.served (.tokenPageSet e) specTokenPageSet e s t (t, Ans.notFound)) ∧
      (∀ w, p8 e 2 = 1 → mget x.windows (p8 e 0) = some w → w.access.getLsbD 2 = false → w.use = .plain →
        p64 e 8 + 65536 ≤ w.size * 2 ^ 21 → (∀ q ∈ t.q.pages, q.part ≠ p) → ∃ u,
        Says.served (.tokenPageSet e) specTokenPageSet e s t (u, Ans.ok) ∧ Keeps [.q] t u ∧
          u.q.pages = t.q.pages ++ [{ part := p, page := p8 e 1, window := p8 e 0, offset := p64 e 8 }]))

/-- Scrub settings (R322, R327): the status shows each stack's rate and each scrub under way; an upkeep share is taken for the
part's stacks unless one of them is fenced. -/
def Says.scrubSettings : Prop :=
  ∀ (e : Env) (s t : State),
    (∃ b, Says.served (.scrubStatusGet e) specScrubStatusGet e s t ({ t with free := t.free + 1 }, Ans.ok b) ∧
      slice b 0 4 = leBytes 4 (mgetD t.scrub.rates 0 0).toNat ∧ (t.scrub.jobs = [] → b.length = 40)) ∧
    (payFault ((List.range 8).map fun i => (i, decide (p8 e i ≤ 16) && (decide (i < nStacks t) || p8 e i == 0))) = none →
      ((∃ i, i < 8 ∧ p8 e i ≠ 0 ∧ t.power.stackFence.getLsbD i = true) →
        Says.served (.upkeepSet e) specUpkeepSet e s t (t, Ans.state)) ∧
      ((∀ i, i < 8 → p8 e i ≠ 0 → t.power.stackFence.getLsbD i = false) → ∃ u,
        Says.served (.upkeepSet e) specUpkeepSet e s t (u, Ans.ok) ∧ Keeps [.scrub] t u ∧
          (∀ i, i < nStacks t → mgetD u.scrub.slices i 1 = byteAt e.payload i) ∧ u.scrub.jobs = t.scrub.jobs))

/-- The thermal group and the scrub settings. -/
def Obligations.ThermalAndUpkeep : Prop :=
  Says.thermalCommands ∧ Says.scrubSettings

/-- Debug (R224, R225, R449, R450): the debug state opens only on an owned device without a Confidential partition, bond or
join set, and its changes are measured; the cores of an Open partition halt and resume where they stand, and their state is
read and written only while they are halted. -/
def Obligations.DebugCommands : Prop :=
  ∀ (e : Env) (s t : State),
    (payFault ([(0, decide (p8 e 0 ≤ 1))] ++ rsv e 1 7) = none →
      (p8 e 0 = 1 → t.fuses.shadow.code ≠ 7 ∨ anyConf t = true ∨ t.twin.bond ≠ none ∨ t.car.join ≠ none →
        Says.served (.debugStateSet e) specDebugStateSet e s t (t, Ans.state)) ∧
      (p8 e 0 = 1 → t.fuses.shadow.code = 7 → anyConf t = false → t.twin.bond = none → t.car.join = none →
        t.parts.debugOpen = false → ∃ u, Says.served (.debugStateSet e) specDebugStateSet e s t (u, Ans.ok) ∧
          u.parts = { t.parts with debugOpen := true } ∧ u.boot.logSeq = t.boot.logSeq + 1 ∧ u.aon.alertLow = true ∧
          u.cores = t.cores ∧ u.mem = t.mem) ∧
      (p8 e 0 = 0 → t.parts.debugOpen = false → Says.served (.debugStateSet e) specDebugStateSet e s t (t, Ans.ok)) ∧
      (p8 e 0 = 0 → t.parts.debugOpen = true → ∃ u, Says.served (.debugStateSet e) specDebugStateSet e s t (u, Ans.ok) ∧
        Keeps [.parts, .boot] t u ∧ u.parts = { t.parts with debugOpen := false } ∧ u.boot.logSeq = t.boot.logSeq + 1)) ∧
    (∀ x, part? t e.target.toNat = some x → x.mode = .open → let p := e.target.toNat
      let cs := coresArg e 0
      let others := fun u : State => ∀ c, c ∉ cs → core u c = core t c
      (fld e.payload 0 16 < 2 ^ nCores t → (∀ c ∈ cs, coreHolder t c = some p) →
        ((∀ c ∈ cs, coreLive t c = true) → ∃ u, Says.served (.debugHalt e) specDebugHalt e s t (u, Ans.ok) ∧
          Keeps [.cores, .q] t u ∧ others u ∧ ∀ c ∈ cs, (core u c).st = .debugHalt ∧ (core u c).pc = (core t c).pc ∧
            (core u c).x = (core t c).x ∧ (core u c).queue = (core t c).queue) ∧
        ((∃ c ∈ cs, coreLive t c = false) → Says.served (.debugHalt e) specDebugHalt e s t (t, Ans.state)) ∧
        (payFault (rsv e 18 6) = none → (∀ c ∈ cs, (core t c).st = .debugHalt) → ∃ u,
          Says.served (.debugResume e) specDebugResume e s t (u, Ans.ok) ∧ Keeps [.cores] t u ∧ others u ∧
            ∀ c ∈ cs, core u c = { core t c with
              st := if canRun t c then .run else .stopped, dbg := { (core t c).dbg with stepsLeft := p16 e 16 } }) ∧
        (payFault ([(16, decide (p8 e 16 ≤ 1))] ++ rsv e 17 7) = none → ∃ u,
          Says.served (.debugFaultPolicy e) specDebugFaultPolicy e s t (u, Ans.ok) ∧ Keeps [.cores] t u ∧ others u ∧
            ∀ c ∈ cs, core u c = { core t c with dbg := { (core t c).dbg with haltOnFault := p8 e 16 == 1 } }) ∧
        (payFault ([(16, decide (p8 e 16 < 16)), (17, decide (p8 e 17 ≤ 1))] ++ rsv e 18 6) = none →
          (p8 e 17 = 0 → ∃ u, Says.served (.debugTraceSet e) specDebugTraceSet e s t (u, Ans.ok) ∧ Keeps [.cores] t u ∧ others u ∧
            ∀ c ∈ cs, core u c = { core t c with dbg := { (core t c).dbg with trace := none } }) ∧
          (∀ w, p8 e 17 = 1 → mget x.windows (p8 e 16) = some w → w.use = .plain → w.save = none → w.access.getLsbD 1 = true →
            p64 e 24 + p64 e 32 ≤ w.size * 2097152 → ∃ u, Says.served (.debugTraceSet e) specDebugTraceSet e s t (u, Ans.ok) ∧
              Keeps [.cores] t u ∧ others u ∧ (∀ c, cs = [c] → core u c = { core t c with
                dbg := { (core t c).dbg with trace := some (p8 e 16, p64 e 24, p64 e 32, 0) } })))) ∧
      (payFault (spaceChecks t e false) = none → coreHolder t (p8 e 0) = some p → let c := p8 e 0
        let n := min (p32 e 8) (space t e)
        ((core t c).st ≠ .debugHalt → Says.served (.debugRead e) specDebugRead e s t (t, Ans.state)) ∧
        ((core t c).st = .debugHalt →
          (p8 e 1 = 1 → Says.served (.debugRead e) specDebugRead e s t
            (t, Ans.ok (slice (leBytes 8 (getX (core t c) (p16 e 2)).toNat) (p32 e 4) n))) ∧
          (p8 e 1 = 5 → ∃ u b, Says.served (.debugRead e) specDebugRead e s t (u, Ans.ok b)) ∧
          (p8 e 1 = 6 → Says.served (.debugRead e) specDebugRead e s t (t, Ans.ok (slice (leBytes 4 (core t c).pc) (p32 e 4) n))) ∧
          (p8 e 1 = 7 → Says.served (.debugRead e) specDebugRead e s t (t, Ans.ok (lsRead (core t c) (p32 e 4) n))))) ∧
      (payFault (spaceChecks t e true) = none → coreHolder t (p8 e 0) = some p → e.payload.length = 16 + p32 e 8 →
        let c := p8 e 0
        let d := e.payload.drop 16
        ((core t c).st ≠ .debugHalt → Says.served (.debugWrite e) specDebugWrite e s t (t, Ans.state)) ∧
        ((core t c).st = .debugHalt → ∃ u, Says.served (.debugWrite e) specDebugWrite e s t (u, Ans.ok) ∧ Keeps [.cores] t u ∧
          (∀ k, k ≠ c → core u k = core t k) ∧
          (p8 e 1 = 1 → d.length = 8 → core u c = setX (p16 e 2) (BitVec.ofNat 64 (leNat d)) (core t c)) ∧
          (p8 e 1 = 6 → d.length = 4 → core u c = { core t c with pc := leNat d }) ∧
          (p8 e 1 = 7 → core u c = lsWrite (p32 e 4) d (core t c)))))

/-! ### Twins -/

/-- A frame f that the peer of a keyed, open port seals for it arrives as w: under the active key of the direction toward
this end, with the COUNTER expected next (R245, R248). -/
def Says.heard (port : Option Nat) (f : Frame) (w : WireFrame) (s : State) : Prop :=
  ∃ k, portKeys s port = some k ∧ portShut s port = false ∧ f.ftype ≠ 5 ∧ f.payload.length ≤ 1024 ∧
    (wireOf s port).cipher.rxCount.toNat < counterLimit ∧
    w = sealFrame k.active (rxLabel s port false) (wireOf s port).cipher.rxCount f

/-- Pairing (R386, R388–R390): a trained port sends H0, both H0s decide the initiator, a clash of terms and roles ends it, and
each later message is answered where its checks pass and counted as rejected where they do not; the last one keys the port
and fixes the roles. A pairing that takes too long is dropped. -/
def Says.twinsPair : Prop :=
  ∀ (s : State) (b : Bond), s.twin.bond = some b →
    (twinEnabled s = false → Runs .twinPortTrained s fun t => Keeps [] s t) ∧
    (twinEnabled s = true → canShake s = true → s.vault.tce = none →
      let rejected := fun t : State => t.twin.hs = none ∧ t.twin.pairReject = satInc s.twin.pairReject ∧ t.vault = s.vault
      let pairs := fun t : State => t.twin.hs = some (hsNew (h0Bytes s b) []) ∧ t.out = .handshake none (h0Bytes s b) :: s.out ∧
        t.twin.st = (if s.twin.st = .unpaired then .pairing else s.twin.st)
      (s.twin.hs = none → Runs .twinPortTrained s fun t => Touches [.twin, .out] s t ∧ pairs t ∧ t.twin.trained = true) ∧
      (s.twin.trained = true →
        (s.twin.hs = none → Runs .pairingRetry s fun t => Touches [.twin, .out] s t ∧ pairs t) ∧
        (∀ m, m.length = 64 → s.twin.hs = none → Runs (.h0 m) s fun t => Touches [.twin] s t ∧
          t.twin = { s.twin with hs := some (hsNew [] m) }) ∧
        (∀ m mine, m.length = 64 → s.twin.hs = some (hsNew mine []) → mine ≠ [] →
          let a := fld mine 48 8
          let c := fld m 48 8
          (a = c → byteAt mine 56 = byteAt m 56 → Runs (.h0 m) s fun t => t.twin.hs = none ∧ t.vault = s.vault ∧
            t.twin.roleClash = satInc s.twin.roleClash) ∧
          (a < c → Runs (.h0 m) s fun t => Touches [.twin, .port] s t ∧
            t.twin.hs = some (hsOpen (hsNew mine m) false) ∧ t.port.peerTerm = BitVec.ofNat 64 c) ∧
          (c < a → Runs (.h0 m) s fun t => Touches [.twin, .port, .out, .free] s t ∧ ∃ h out, t.twin.hs = some h ∧
            h.initiator = true ∧ h.transcript = mine ++ m ++ out ∧ t.out = .handshake none out :: s.out)) ∧
        (∀ h m, s.twin.hs = some h → h.initiator = false → h.transcript ≠ [] → h.ssEc = none → Runs (.h1 m) s fun t =>
          match hsSecond h m s with
          | some (h', out, _) => t.twin.hs = some h' ∧ t.out = .handshake none out :: s.out
          | none => rejected t) ∧
        (∀ h m, s.twin.hs = some h → h.initiator = true → h.ephEc ≠ [] → h.ssEc = none → Runs (.h2 m) s fun t =>
          match hsThird h m b.partner b.acceptW b.acceptO s with
          | some (h', out, _) => t.vault.tce ≠ none ∧ (slot t 0x30).activeValid = true ∧ t.twin.role = .primary ∧
              t.twin.pairCount = 0 ∧ t.out = .twinEnv 0x981 1 (sha384b h'.transcript) :: .handshake none out :: s.out
          | none => rejected t) ∧
        (∀ h m kem, s.twin.hs = some h → h.initiator = false → h.ssEc ≠ none → h.ssKem = some kem → Runs (.h3 m) s fun t =>
          match hsLast h m b.partner b.acceptW b.acceptO s with
          | some h' => t.vault.tce ≠ none ∧ (slot t 0x30).activeValid = true ∧ t.twin.role = .secondary ∧ t.twin.pairCount = 0 ∧
              t.out = .twinEnv 0x981 1 (sha384b h'.transcript) :: s.out
          | none => rejected t)) ∧
      (∀ h, s.twin.hs = some h → s.twin.st = .pairing → Runs .pairingTimeout s fun t => Touches [.twin] s t ∧
        t.twin.hs = none ∧ t.twin.st = .unpaired ∧ t.twin.role = .none))

/-- Lease and mirror (R391–R398): the primary sends a lease frame at each tick and the secondary acknowledges it, a mirror
record stands last in the shadow in place of the one it supersedes, a reply that waited too long for the partner leaves
UNMIRRORED, a lease that expires makes each side SOLO, the secondary primary under a higher term, and a hold that expires
ends the pair. A frame that does not verify destroys the pair key. -/
def Obligations.TwinsMirror : Prop :=
  ∀ s : State,
    ((∀ h ∈ s.mail.held, ∀ q, h.why ≠ .mirror q) → Runs .mirrorAckTimeout s fun t => Keeps [] s t) ∧
    (∀ h q, s.mail.held = [h] → h.why = .mirror q → h.reply.env.path = .pf → h.reply.status ≠ 1 →
      h.reply.env.replyFails = false → s.mail.lost = [] → Runs .mirrorAckTimeout s fun t =>
        t.mail.held = [] ∧ Out.reply (unmirrored h.reply) ∈ t.out) ∧
    (s.twin.st ≠ .paired → Runs .leaseTick s fun t => Touches [.twin] s t ∧
      t.twin = { s.twin with leaseIdx := (s.twin.leaseIdx + 1) % 25 }) ∧
    (∀ k, s.twin.st = .paired → s.vault.tce = some k → s.twin.role = .primary → s.port.rekeyDue = false → s.port.fresh = false →
      Runs .leaseTick s fun t => Touches [.twin, .port, .out] s t ∧ t.twin.leaseSeq = s.twin.leaseSeq + 1 ∧
        t.port.wire.cipher.txCount = s.port.wire.cipher.txCount + 1 ∧ ∃ w, t.out = .twinFrame w :: s.out ∧ w.channel = 1) ∧
    (∀ f w, Says.heard none f w s → f.ftype = 4 → f.channel = 1 → f.payload.length = 40 → s.twin.st = .paired → s.mail.held = [] →
      s.twin.outMirror = [] → s.port.fresh = false → Runs (.leaseFrame w) s fun t => Touches [.twin, .port, .out] s t ∧
        t.twin.lastLease = tick s ∧ t.port.peerTerm = BitVec.ofNat 64 (fld f.payload 0 8) ∧
        t.port.wire.cipher.rxCount = s.port.wire.cipher.rxCount + 1 ∧
        ((byteAt f.payload 0x11).getLsbD 0 = false → s.twin.role = .secondary →
          t.twin.leaseSeq = BitVec.ofNat 64 (fld f.payload 8 8) ∧ ∃ a w', t.out = .twinFrame w' :: a :: s.out ∧ w'.channel = 1) ∧
        ((byteAt f.payload 0x11).getLsbD 0 = false → s.twin.role = .primary → s.twin.term.toNat < fld f.payload 0 8 →
          t.twin.role = .secondary)) ∧
    (∀ f w r, Says.heard none f w s → f.ftype = 4 → f.channel = 2 → f.payload = mirrorBytes r → s.twin.st = .paired →
      Runs (.mirrorRecord w) s fun t => Touches [.twin, .port, .out] s t ∧
        t.twin.shadow = s.twin.shadow.filter (fun o => !supersedes r o) ++ [r] ∧
        t.twin.mseqIn.toNat = max s.twin.mseqIn.toNat r.mseq.toNat ∧
        (r.mtype = 3 → mgetD t.port.versions (fld r.body 0 2) 0 = BitVec.ofNat 16 (fld r.body 2 2))) ∧
    (∀ k w, s.vault.tce = some k → s.mem.ttClosed = false → w.ftype ≠ 5 → slot s 0x30 ≠ Slot.empty →
      w.counter ≠ s.port.wire.cipher.rxCount → w.counter ≠ 0 →
      ∀ i, i = Instr.leaseFrame w ∨ i = Instr.mirrorRecord w → Runs i s fun t =>
        t.vault.tce = none ∧ (slot t 0x30).active = 0 ∧ t.twin.trained = false ∧ t.twin.hs = none ∧ t.port.fresh = true) ∧
    (∀ w, s.vault.tce = none → ∀ i, i = Instr.leaseFrame w ∨ i = Instr.mirrorRecord w → Runs i s fun t => Keeps [] s t) ∧
    (s.twin.st ≠ .paired → Runs .leaseExpiry s fun t => Keeps [] s t) ∧
    (s.twin.st = .paired → Runs .leaseExpiry s fun t => t.twin.st = .solo ∧ t.twin.failovers = s.twin.failovers + 1 ∧
      t.twin.hs = none ∧ t.port.soloTick = tick s ∧ t.mgmt.alert.getLsbD 0 = true ∧ t.aon.alertLow = true ∧
      (slot t 0x30).active = 0 ∧ (∀ h ∈ t.mail.held, ∀ q, h.why ≠ .mirror q) ∧
      (s.twin.role = .secondary → t.twin.role = .primary ∧ t.twin.term = pairTerm s + 1) ∧
      (s.twin.role ≠ .secondary → t.twin.role = s.twin.role ∧ t.twin.term = s.twin.term)) ∧
    (s.twin.st = .solo → Runs .rejoinHoldExpiry s fun t => Touches [.twin, .port] s t ∧ t.twin.st = .unpaired ∧
      t.twin.role = .none ∧ t.twin.shadow = [] ∧ t.twin.bond = s.twin.bond)

/-- The twin group (R387, R390, R396, R399, R401, R402): a bond is set once and cleared whole, the status shows it, a switchover
offers the lease to a secondary that takes it under a higher term, the confirmation of the pairing's transcript starts the
reconciliation, whose last part pairs the two, and LEAVE makes this side SOLO. -/
def Says.twinCommands : Prop :=
  ∀ (e : Env) (s t : State),
    (payFault (bondChecks e) = none →
      (t.parts.debugOpen = true → Says.served (.twinBondSet e) specTwinBondSet e s t (t, Ans.state)) ∧
      (t.parts.debugOpen = false → t.twin.bond ≠ none → Says.served (.twinBondSet e) specTwinBondSet e s t (t, Ans.conflict)) ∧
      (t.parts.debugOpen = false → t.twin.bond = none → ∃ u c, Says.served (.twinBondSet e) specTwinBondSet e s t (u, Ans.waiting) ∧
        Keeps [.twin, .power, .flash] t u ∧ u.twin = { t.twin with bond := some (parseBond e.payload) } ∧
        u.power = { t.power with twinSub := .on } ∧
        u.flash.jobs = t.flash.jobs ++ [.config (some { env := e, op := 0x901 }) c] ∧ c.bond = some e.payload)) ∧
    (t.twin.bond = none → Says.served (.twinBondClear e) specTwinBondClear e s t (t, Ans.notFound)) ∧
    (t.twin.bond ≠ none → ∃ u, Says.served (.twinBondClear e) specTwinBondClear e s t (u, Ans.waiting) ∧ u.twin.bond = none ∧
      u.twin.st = .unpaired ∧ u.twin.role = .none ∧ u.twin.shadow = [] ∧ u.power.twinSub = .off ∧ (slot u 0x30).active = 0) ∧
    (∃ b, Says.served (.twinStatusGet e) specTwinStatusGet e s t (t, Ans.ok b) ∧ b.length = 4184 ∧
      slice b 0 2 = [BitVec.ofNat 8 (roleCode t.twin.role), BitVec.ofNat 8 (twinStCode t.twin.st)] ∧
      slice b 8 8 = leBytes 8 t.twin.term.toNat ∧ slice b 16 8 = leBytes 8 t.twin.failovers.toNat) ∧
    (¬ (t.twin.st = .paired ∧ t.twin.role = .primary ∧ t.vault.tce.isSome) →
      Says.served (.twinSwitchover e) specTwinSwitchover e s t (t, Ans.state)) ∧
    (t.twin.st = .paired → t.twin.role = .primary → t.vault.tce ≠ none → ∃ u,
      Says.served (.twinSwitchover e) specTwinSwitchover e s t (u, Ans.ok) ∧
        Out.twinEnv 0x983 (t.port.envOut + 1) (leBytes 8 t.twin.term.toNat) ∈ u.out ∧ u.twin.role = .primary ∧ u.twin.st = .paired) ∧
    (∀ h, t.twin.hs = some h → t.vault.tce ≠ none → h.confirmed = true → t.twin.confirmIn = false →
      (dig e.payload 0 ≠ sha384 h.transcript → Says.served (.pairConfirm e) specPairConfirm e s t (t, Ans.state)) ∧
      (dig e.payload 0 = sha384 h.transcript → ∃ u, Says.served (.pairConfirm e) specPairConfirm e s t (u, Ans.ok) ∧
        u.twin.confirmIn = true ∧ u.vault = t.vault ∧ (t.twin.st = .paired → u.port.fresh = true ∧ u.out = t.out) ∧
        (t.twin.st ≠ .paired → ∃ c p, Out.twinEnv 0x982 c p ∈ u.out))) ∧
    (payFault (rsv e 4 4) = none → t.vault.tce ≠ none → t.twin.confirmIn = true → t.twin.st ≠ .paired →
      (p16 e 0 ≠ t.twin.reconParts → Says.served (.reconcile e) specReconcile e s t (t, Ans.state)) ∧
      (p16 e 0 = t.twin.reconParts → p16 e 0 < p16 e 2 → ∃ u, Says.served (.reconcile e) specReconcile e s t (u, Ans.ok) ∧
        (p16 e 0 + 1 = p16 e 2 → u.twin.st = .paired ∧ u.twin.lastLease = tick t ∧ u.twin.baseline = []) ∧
        (p16 e 0 + 1 < p16 e 2 → u.twin.st = t.twin.st ∧ u.twin.reconParts = p16 e 0 + 1))) ∧
    (t.twin.st = .paired → t.vault.tce ≠ none →
      (t.twin.role = .secondary → ∃ u, Says.served (.switchoverOffer e) specSwitchoverOffer e s t (u, Ans.ok) ∧
        u.twin.role = .primary ∧ u.twin.term = BitVec.ofNat 64 (max (pairTerm t).toNat (p64 e 0) + 1) ∧ u.port.rekeyDue = true ∧
        u.twin.st = .paired) ∧
      (t.twin.role ≠ .secondary → Says.served (.switchoverOffer e) specSwitchoverOffer e s t (t, Ans.state)) ∧
      ∃ u, Says.served (.leave e) specLeave e s t (u, Ans.ok) ∧ u.twin.st = .solo ∧ u.twin.role = t.twin.role ∧
        u.twin.failovers = t.twin.failovers + 1) ∧
    (t.twin.st ≠ .paired → Says.served (.leave e) specLeave e s t (t, Ans.state))

/-- Twins pair, and the twin group's commands. -/
def Obligations.TwinPairing : Prop :=
  Says.twinsPair ∧ Says.twinCommands

/-! ### Caravans -/

/-- Link keying (R386, R403–R407, R249, R420): a trained link sends L0, both L0s decide the end that goes on unless their
postcodes clash, each later message is answered where its checks pass and counted where they do not, the last two key the
link and announce it ready, and a verified LINK_READY makes it KEYED. A lost or late link trains again without its key, and
a key that is due for it is replaced. -/
def Obligations.LinksShakeHands : Prop :=
  ∀ (n : BitVec 4) (s : State) (j : JoinSet), s.car.join = some j → let k := n.toNat
    (linkEnabled s k = false → Runs (.linkTrained n) s fun t => Keeps [] s t) ∧
    (linkEnabled s k = true → canShake s = true → mget s.vault.lce k = none →
      let opens := fun t : State => Touches [.car, .out] s t ∧ (linkOf t k).st = .handshake ∧
        (linkOf t k).hs = some (hsNew (l0Bytes s k j) []) ∧ t.out = .handshake (some k) (l0Bytes s k j) :: s.out
      let rejected := fun t : State => t.car.reject = satInc s.car.reject ∧ (linkOf t k).hs = none ∧ (linkOf t k).st = .training ∧
        t.vault = s.vault
      let keyed := fun t : State => mget t.vault.lce k ≠ none ∧ (slot t (0x20 + k)).activeValid = true ∧ (linkOf t k).readySent = true
      ((linkOf s k).hs = none → Runs (.linkTrained n) s opens ∧
        ((linkOf s k).st = .training → Runs (.linkHandshakeRetry n) s opens) ∧
        ∀ m, m.length = 80 → Runs (.l0 n m) s fun t => Touches [.car] s t ∧ (linkOf t k).hs = some (hsNew [] m) ∧
          ∀ i, i ≠ k → linkOf t i = linkOf s i) ∧
      (∀ m mine, m.length = 80 → (linkOf s k).hs = some (hsNew mine []) → mine ≠ [] → let a := fld mine 64 2
        let b := fld m 64 2
        (a = b ∨ attestedElsewhere s k b (dig m 0) = true → Runs (.l0 n m) s fun t => Touches [.car] s t ∧
          t.car.clash = satInc s.car.clash ∧ (linkOf t k).hs = none ∧ (linkOf t k).st = .training) ∧
        (b < a → attestedElsewhere s k b (dig m 0) = false → Runs (.l0 n m) s fun t => Touches [.car] s t ∧
          (linkOf t k).hs = some (hsOpen (hsNew mine m) false)) ∧
        (a < b → attestedElsewhere s k b (dig m 0) = false → Runs (.l0 n m) s fun t => Touches [.car, .out, .free] s t ∧
          ∃ h out, (linkOf t k).hs = some h ∧ h.initiator = true ∧ h.transcript = mine ++ m ++ out ∧
            t.out = .handshake (some k) out :: s.out)) ∧
      (∀ h m, (linkOf s k).hs = some h →
        (h.initiator = false → h.transcript ≠ [] → h.ssEc = none → Runs (.l1 n m) s fun t =>
          match hsSecond h m s with
          | some (h', out, _) => (linkOf t k).hs = some h' ∧ t.out = .handshake (some k) out :: s.out
          | none => rejected t) ∧
        (h.initiator = true → h.ephEc ≠ [] → h.ssEc = none → Runs (.l2 n m) s fun t =>
          (sameCaravan h = false → rejected t) ∧
          (sameCaravan h = true → match hsThird h m (l0Did h.theirs) j.acceptW j.acceptO s with
            | some (_, out, _) => keyed t ∧ ∃ w, t.out = .frame k w :: .handshake (some k) out :: s.out
            | none => rejected t)) ∧
        (∀ kem, h.initiator = false → h.ssEc ≠ none → h.ssKem = some kem → Runs (.l3 n m) s fun t =>
          (sameCaravan h = false → rejected t) ∧
          (sameCaravan h = true → match hsLast h m (l0Did h.theirs) j.acceptW j.acceptO s with
            | some _ => keyed t ∧ ∃ w, t.out = .frame k w :: s.out
            | none => rejected t)))) ∧
    (∀ f w, Says.heard (some k) f w s → f.ftype = 4 → f.cls = 0 → f.channel = 0 → byteAt f.payload 0 = 1 →
      (linkOf s k).st = .handshake → (linkOf s k).readySent = true → Runs (.linkReady n w) s fun t => Touches [.car, .out] s t ∧
        (linkOf t k).st = .keyed ∧ t.car.advert = 99) ∧
    ((linkOf s k).st ≠ .handshake → Runs (.handshakeTimeout n) s fun t => Keeps [] s t) ∧
    ((linkOf s k).st = .handshake → Runs (.handshakeTimeout n) s fun t => (linkOf t k).st = .training ∧ (linkOf t k).hs = none ∧
      (slot t (0x20 + k)).active = 0) ∧
    ((linkOf s k).st = .disabled → Runs (.linkDown n) s fun t => Keeps [] s t) ∧
    ((linkOf s k).st ≠ .disabled → Runs (.linkDown n) s fun t => (linkOf t k).st = .training ∧ (linkOf t k).hs = none ∧
      (slot t (0x20 + k)).active = 0 ∧ ∀ e ∈ t.car.routes, e.2.link = k → e.2.ok = false) ∧
    (rekeyDue s (some k) = false → Runs (.rekeyStart (some n)) s fun t => Keeps [] s t) ∧
    (∀ h c, rekeyDue s (some k) = true → (linkOf s k).hs = some h → (linkOf s k).st = .keyed → portA s (some k) = true →
      canShake s = true → (linkOf s k).wire.cipher.rekey = false → mget s.vault.lce k = some c →
      Runs (.rekeyStart (some n)) s fun t => Touches [.car, .out, .free] s t ∧ (linkOf t k).wire.cipher.rekey = true ∧
        ∃ h' w, (linkOf t k).hs = some h' ∧ h'.initiator = true ∧ Out.frame k w ∈ t.out)

/-- Frames on a keyed link (R245–R250, R410, R411, R457): a waiting frame that has its credit leaves sealed under the next
COUNTER, a frame for another device goes on with one hop less or is counted without any left, an acknowledgement frees
what it names, a replay sends the same frame under its own COUNTER, and a frame that does not verify ends the link's key. -/
def Says.linkFrames : Prop :=
  ∀ (n : BitVec 4) (s : State), let k := n.toNat
    let l := linkOf s k
    (l.st ≠ .keyed → Runs (.linkFrameSend (some n)) s fun t => Keeps [] s t) ∧
    (l.wire.txWait = [] → l.wire.cipher.txCount.toNat < counterLimit → Runs (.linkFrameSend (some n)) s fun t => Keeps [] s t) ∧
    (∀ c, mget s.vault.lce k = some c → l.st = .keyed → s.mem.ltClosed.getLsbD k = false →
      (∀ x rest, l.wire.txWait = x :: rest → l.wire.cipher.txCount.toNat < counterLimit → linkServes s k x.frame = true →
        mgetD l.wire.shared x.frame.cls.toNat 0 < sharedMax x.frame.cls.toNat → x.via = none → isAck x.frame = false →
        Runs (.linkFrameSend (some n)) s fun t => Touches [.car, .out] s t ∧ (linkOf t k).wire.txWait = rest ∧
          (linkOf t k).wire.cipher.txCount = l.wire.cipher.txCount + 1 ∧
          (linkOf t k).wire.retry = l.wire.retry ++ [(l.wire.cipher.txCount, x.frame)] ∧
          (∀ i, i ≠ k → linkOf t i = linkOf s i) ∧
          ∃ w, t.out = .frame k w :: s.out ∧ w.counter = l.wire.cipher.txCount ∧ w.cls = x.frame.cls) ∧
      (counterLimit ≤ l.wire.cipher.txCount.toNat → Runs (.linkFrameSend (some n)) s fun t =>
        (linkOf t k).st = .training ∧ (linkOf t k).keyFaults = satInc l.keyFaults) ∧
      (∀ w, w.ftype ≠ 5 → w.counter ≠ l.wire.cipher.rxCount → w.counter ≠ 0 → Runs (.linkDataFrame n w) s fun t =>
        (linkOf t k).st = .training ∧ (linkOf t k).keyFaults = satInc l.keyFaults ∧ (slot t (0x20 + k)).active = 0) ∧
      (∀ ctr f, l.wire.retry.find? (fun e => e.1 == ctr) = some (ctr, f) → Runs (.linkReplay (some n) ctr) s fun t =>
        t.car = s.car ∧ t.vault = s.vault ∧ ∃ w, t.out.head? = some (.frame k w) ∧ w.counter = ctr ∧ w.cls = f.cls)) ∧
    (l.wire.retry = [] → ∀ ctr, Runs (.linkReplay (some n) ctr) s fun t => Keeps [] s t) ∧
    (∀ f w, Says.heard (some k) f w s → f.ftype ≠ 3 → f.dst.toNat ≠ myPost s → f.cls ≠ 0 →
      (f.hops = 0 → Runs (.linkDataFrame n w) s fun t => Touches [.car, .out] s t ∧ t.car.hops0 = satInc s.car.hops0 ∧
        t.car.held = s.car.held) ∧
      (f.hops ≠ 0 → (∀ h ∈ s.car.held, h.post ≠ f.dst.toNat) →
        (∀ r, routeOf s f.dst.toNat = some r → Runs (.linkDataFrame n w) s fun t => Touches [.car, .out] s t ∧
          ∃ x, (linkOf t r.link).wire.txWait.getLast? = some x ∧ x.frame = { f with hops := f.hops - 1 } ∧
            x.via = some (k, f.cls, f.hops)) ∧
        (routeOf s f.dst.toNat = none → Runs (.linkDataFrame n w) s fun t => Touches [.car, .out] s t ∧
          ∃ h, t.car.held = s.car.held ++ [h] ∧ h.post = f.dst.toNat ∧ h.reorder = false ∧
            h.frames.map (fun x => x.frame) = [{ f with hops := f.hops - 1 }]))) ∧
    (∀ f w, Says.heard (some k) f w s → f.ftype = 3 → f.dst.toNat = myPost s → s.car.held = [] → l.wire.cipher.old = none →
      (∀ c, mget s.vault.lce k = some c → c.pending = none) → f.payload.length = 8 →
      Runs (.acknowledgementFrame (some n) w) s fun t => Touches [.car] s t ∧
        (linkOf t k).wire.retry = l.wire.retry.filter (fun e => fld f.payload 0 8 ≤ e.1.toNat) ∧
        (linkOf t k).wire.cipher.rxCount = l.wire.cipher.rxCount + 1 ∧ (linkOf t k).wire.shared = l.wire.shared ∧
        ∀ i, i ≠ k → linkOf t i = linkOf s i)

/-- Routes and members (R408, R410, R412, R413, R420): adverts go out as their interval says and an advert's entry makes,
replaces or withdraws a route; frames held for a route change or an unreachable postcode end their hold; a candidate takes
a JOIN whose credentials verify, and a member leaves the directory once it stays unreachable. -/
def Says.routesAndMembers : Prop :=
  ∀ (n : BitVec 4) (s : State), let k := n.toNat
    (s.car.join = none → Runs .advertTick s fun t => Keeps [] s t) ∧
    (∀ j, s.car.join = some j → s.car.routes = [] →
      (s.car.advert < 99 → Runs .advertTick s fun t => Touches [.car] s t ∧ t.car = { s.car with advert := s.car.advert + 1 }) ∧
      (∀ l c, 99 ≤ s.car.advert → s.car.links = [(k, l)] → l.st = .keyed → mget s.vault.lce k = some c →
        Runs .advertTick s fun t => Touches [.car, .out] s t ∧ t.car.advert = 0 ∧
          ∃ w, t.out = .frame k w :: s.out ∧ w.channel = 3 ∧ w.cls = 0)) ∧
    (∀ f w post dist prio, Says.heard (some k) f w s → f.ftype = 4 → f.cls = 0 → f.channel = 3 →
      f.payload = leBytes 8 s.att.highRound.toNat ++ advertEntry post dist prio → post < 65536 → dist < 256 → post ≠ myPost s →
      s.car.held = [] →
      (mget s.car.routes post = none → dist ≤ 24 → Runs (.advert n w) s fun t =>
        mget t.car.routes post = some { link := k, dist := max 1 dist, prio := prio, changed := true } ∧
        ∀ p, p ≠ post → mget t.car.routes p = mget s.car.routes p) ∧
      (∀ o, mget s.car.routes post = some o → o.dist ≤ 24 → o.link = k → 25 ≤ dist → Runs (.advert n w) s fun t =>
        Touches [.car, .out] s t ∧ mget t.car.routes post = some { o with dist := 25, changed := true }) ∧
      (∀ o, mget s.car.routes post = some o → o.dist ≤ 24 → o.link ≠ k → o.dist ≤ max 1 dist → Runs (.advert n w) s fun t =>
        Touches [.car, .out] s t ∧ t.car.routes = s.car.routes)) ∧
    (∀ p : BitVec 16,
      ((∀ h ∈ s.car.held, h.post = p.toNat → h.reorder = false) → Runs (.reorderHoldExpiry p) s fun t => Keeps [] s t) ∧
      ((∃ h ∈ s.car.held, h.post = p.toNat ∧ h.reorder = true) → Runs (.reorderHoldExpiry p) s fun t => Touches [.car] s t ∧
        t.car.reorder = satInc s.car.reorder ∧ ∀ h ∈ t.car.held, h.post = p.toNat → h.reorder = false) ∧
      (Runs (.unreachableDiscard p) s fun t => Touches [.car, .out] s t ∧
        t.car.held = s.car.held.filter (fun h => !(h.post == p.toNat && !h.reorder))) ∧
      (mget s.car.dir p.toNat = none → Runs (.directoryExpiry p) s fun t => Keeps [] s t) ∧
      (∀ m, mget s.car.dir p.toNat = some m → m.lost ≠ none → routeOf s p.toNat = none → Runs (.directoryExpiry p) s fun t =>
        Touches [.car] s t ∧ t.car = { s.car with dir := mdel s.car.dir p.toNat })) ∧
    (∀ f w, Says.heard (some k) f w s → f.ftype = 4 → f.channel = 4 → f.dst.toNat = myPost s →
      (byteAt f.payload 0 = 2 → Runs (.joinAck n w) s fun t => Touches [.car, .out] s t ∧ t.car.dir = s.car.dir ∧
        t.car.joinRej = s.car.joinRej ∧ (linkOf t k).wire.cipher.rxCount = (linkOf s k).wire.cipher.rxCount + 1) ∧
      (byteAt f.payload 0 = 3 → Runs (.joinReject n w) s fun t => Touches [.car, .out] s t ∧ t.car.joinRej = satInc s.car.joinRej ∧
        ∃ r, t.car.log.getLast? = some r ∧ r.event = 5 ∧ r.post = f.src)) ∧
    (∀ f w, Says.heard (some k) f w s → f.ftype = 4 → f.cls = 0 → f.channel = 0 → byteAt f.payload 0 = 2 →
      Runs (.linkLeaveFrame n w) s fun t => (linkOf t k).st = .training ∧ (linkOf t k).hs = none ∧ (slot t (0x20 + k)).active = 0) ∧
    (∀ fs u f b j, receiveAll (some k) 1 (isCtl 4 1) fs s = (u, some (f, b)) → u.car.join = some j → j.priority ≠ 0 →
      Runs (.join n fs) s fun t => match parseCreds b 0 with
        | none => t.car.joinRej = satInc u.car.joinRej ∧ t.car.dir = u.car.dir
        | some c =>
          let good := credsOk u c (hsNonce []) (credsDid c) j.acceptW j.acceptO = true ∧ fld c.stmt 6 2 = f.src.toNat
          (¬ good → t.car.joinRej = satInc u.car.joinRej ∧ t.car.dir = u.car.dir) ∧
          (good → mget u.car.dir f.src.toNat = none → t.car.joinRej = u.car.joinRej ∧
            t.car.dir = mput u.car.dir f.src.toNat { did := credsDid c, lost := none }))

/-- Channels (R291, R415, R416, R419): a block takes a credit and advances the ring, returned credits are counted up to the
ring, data in sequence is written to the inbox and out of sequence breaks the binding, a signal raises the home token it
is bound to, and a frame without a binding is counted. -/
def Says.channelFrames : Prop :=
  ∀ (n : BitVec 4) (s : State), let k := n.toNat
    (∀ (ch : BitVec 16) (c : Channel), mget s.car.channels ch.toNat = some c →
      (c.wait = [] ∨ (c.credits = 0 ∧ ∃ left v rest, c.wait = (left + 1, v) :: rest) → Runs (.channelBlockSend ch) s fun t => Keeps [] s t) ∧
      (∀ left v rest, c.wait = (left + 1, v) :: rest → 0 < c.credits → Runs (.channelBlockSend ch) s fun t =>
        ∃ d, mget t.car.channels ch.toNat = some d ∧ d.credits = c.credits - 1 ∧ d.next = (c.next + 1) % c.ring ∧
          d.wait = (if left = 0 then rest else (left, v) :: rest))) ∧
    (∀ (ch : BitVec 16), mget s.car.channels ch.toNat = none → Runs (.channelBlockSend ch) s fun t => Keeps [] s t) ∧
    (∀ f w, Says.heard (some k) f w s → f.dst.toNat = myPost s →
      (f.ftype = 4 → f.cls = 1 → 0x10 ≤ f.channel.toNat → ∀ c, mget s.car.channels f.channel.toNat = some c →
        (c.dst = f.src → Runs (.creditFrame n w) s fun t => Touches [.car, .out] s t ∧
          mget t.car.channels f.channel.toNat = some { c with credits := min c.ring (c.credits + fld f.payload 0 4) }) ∧
        (c.dst ≠ f.src → Runs (.creditFrame n w) s fun t => Touches [.car, .out] s t ∧ t.car.channels = s.car.channels)) ∧
      (boundToken s f = none →
        (f.ftype = 1 → Runs (.channelDataFrame n w) s fun t => Touches [.car, .q, .out] s t ∧ t.q.importErr = s.q.importErr + 1 ∧
          t.q.tokens = s.q.tokens) ∧
        (f.ftype = 2 → Runs (.tokenSignalFrame n w) s fun t => Touches [.car, .q, .out] s t ∧
          t.q.importErr = s.q.importErr + 1 ∧ t.q.tokens = s.q.tokens)) ∧
      (∀ tok x i, boundToken s f = some (tok, x, i) → mget s.q.tokens tok = some x → x.imp = some i → i.broken = false →
        (f.ftype = 2 → x.proxy = false → fld f.payload 0 2 = tok →
          let v := BitVec.ofNat 64 (fld f.payload 8 8)
          (i.nextSig ≠ none → i.nextSig ≠ some v → Runs (.tokenSignalFrame n w) s fun t => Touches [.car, .q, .out] s t ∧
            mget t.q.tokens tok = some { x with imp := some { i with broken := true, waiting := [] } } ∧
            t.car.broken = satInc s.car.broken) ∧
          (i.nextSig = none ∨ i.nextSig = some v → i.inbox = 0xFF → x.waiters = [] →
            Runs (.tokenSignalFrame n w) s fun t => Touches [.car, .q, .out] s t ∧ ∃ y, mget t.q.tokens tok = some y ∧
              y.count.toNat = min (x.count.toNat + fld f.payload 4 4) (2 ^ 32 - 1) ∧ y.imp = some { i with nextSig := some (v + 1) })) ∧
        (f.ftype = 1 → i.inbox ≠ 0xFF → let v := BitVec.ofNat 64 (fld f.payload 0 8)
          let line := fld f.payload 12 2
          let lines := (byteAt f.payload 14).toNat
          (i.nextSeq ≠ none → i.nextSeq ≠ some v → Runs (.channelDataFrame n w) s fun t => Touches [.car, .q, .out] s t ∧
            mget t.q.tokens tok = some { x with imp := some { i with broken := true, waiting := [] } } ∧
            t.car.broken = satInc s.car.broken) ∧
          (i.nextSeq = some v ∨ (i.nextSeq = none ∧ line = 0) → fld f.payload 8 4 < i.ring.toNat → 1 ≤ lines → lines ≤ 15 →
            64 * (line + lines) ≤ i.block.toNat → f.payload.length = 32 + 64 * lines → i.waiting = [] →
            ∀ p, (mgetD s.parts.tokens tok Res.free).st = .held p →
            let u := (receiveFrame (some k) w s).1
            let r := memWrite (.engine (BitVec.ofNat 7 p)) i.inbox.toNat
              (i.offset.toNat + i.block.toNat * fld f.payload 8 4 + 64 * line) (f.payload.drop 32) u
            r.2 = 0 → Runs (.channelDataFrame n w) s fun t => t.mem = r.1.mem ∧ t.car = u.car ∧
              ∃ j, mget t.q.tokens tok = some { x with imp := some j } ∧ j.nextSeq = some (v + 1) ∧ j.broken = false ∧
                j.blocks = (if i.block.toNat = 64 * (line + lines) then i.blocks + 1 else i.blocks)))))

/-- Frames on the links and in the channels. -/
def Obligations.LinkAndChannelFrames : Prop :=
  Says.linkFrames ∧ Says.channelFrames

/-- Roll-ups (R350–R352): the lead opens a round one above the highest seen with its own statement, a member answers a round,
the lead takes a statement whose DID, round and nonce are right, the close signs a header over the round, and a record is
kept, fetched and told. -/
def Obligations.RollUps : Prop :=
  ∀ (n : BitVec 4) (e : Env) (s t : State), let k := n.toNat
    (s.att.periodic = 0 ∨ s.att.round ≠ none ∨ s.car.join = none → Runs .rollupPeriodTick s fun t => Keeps [] s t) ∧
    (s.att.periodic ≠ 0 → s.att.round = none → s.car.join ≠ none → lead s = some (myPost s) → canShake s = true →
      Runs .rollupPeriodTick s fun t => t.att.highRound = s.att.highRound + 1 ∧ t.vault = s.vault ∧ t.mem = s.mem ∧
        ∃ r b, t.att.round = some r ∧ r.num = s.att.highRound + 1 ∧ r.stmts = [(myPost s, b)] ∧ b.length = 4984) ∧
    (∀ f w, Says.heard (some k) f w s → f.ftype = 4 → f.channel = 5 → byteAt f.payload 0 = 1 → f.dst.toNat = myPost s →
      canShake s = true → s.car.held = [] → mget s.car.routes f.src.toNat = none → Runs (.roundOpen n w) s fun t =>
        Touches [.car, .att, .out, .free] s t ∧ t.att.highRound.toNat = max s.att.highRound.toNat (fld f.payload 4 8) ∧
        ∃ h, t.car.held = [h] ∧ h.post = f.src.toNat ∧ h.frames.length = 5) ∧
    (∀ fs u f b r m, receiveAll (some k) 2 (isCtl 5 2) fs s = (u, some (f, b)) → u.att.round = some r →
      mget u.car.dir f.src.toNat = some m →
      let good := b.length = 4984 ∧ dig b 0x30 = m.did ∧ fld b 8 8 = r.num.toNat ∧ slice b 0x10 32 = beBytes 32 r.nonce.toNat ∧
        ∀ x ∈ r.stmts, x.1 ≠ f.src.toNat
      Runs (.memberStatement n fs) s fun t => (good → t.att.round = some { r with stmts := r.stmts ++ [(f.src.toNat, b)] }) ∧
        (¬ good → t.att.round = u.att.round)) ∧
    (s.att.round = none → Runs .roundClose s fun t => Keeps [] s t) ∧
    (∀ r, s.att.round = some r →
      (canShake s = false → Runs .roundClose s fun t => Touches [.att] s t ∧ t.att.round = none ∧ t.att.rollup = s.att.rollup) ∧
      (canShake s = true → Runs .roundClose s fun t => t.att.round = none ∧ t.att.records = [] ∧ ∃ x, t.att.rollup = some x ∧
        x.1.length = 4984 ∧ slice x.1 8 8 = leBytes 8 r.num.toNat ∧ slice x.1 16 32 = beBytes 32 r.nonce.toNat)) ∧
    (∀ fs u f b, receiveAll (some k) 3 (isCtl 5 3) fs s = (u, some (f, b)) → let v := (byteAt b 5).toNat
      Runs (.rollupRecord n fs) s fun t =>
        (b.length = 9968 + 720 * v → 1 ≤ v → v ≤ 4 → t.att.records = [] ∧
          t.att.rollup = some (b.take 4984, slice b 4984 (720 * v), b.drop (4984 + 720 * v))) ∧
        (b.length ≠ 9968 + 720 * v → t.att.rollup = u.att.rollup)) ∧
    (∀ fs u f b, receiveAll (some k) 5 (isCtl 5 5) fs s = (u, some (f, b)) → Runs (.rollupFetchReply n fs) s fun t =>
      (u.att.fetching.contains f.src.toNat = true → (f.src.toNat, b) ∈ t.att.records ∧ ¬ f.src.toNat ∈ t.att.fetching) ∧
      (u.att.fetching.contains f.src.toNat = false → t.att.records = u.att.records)) ∧
    (payFault ([(0, decide (p8 e 0 ≤ 2))] ++ rsv e 1 3 ++ (if p8 e 0 = 2 then [(4, decide (1 ≤ p32 e 4 ∧ p32 e 4 ≤ 3600))] else [])) = none →
      t.att.round = none →
      (t.car.join = none → Says.served (.rollupStart e) specRollupStart e s t (t, Ans.state)) ∧
      (t.car.join ≠ none → lead t = some (myPost t) →
        (p8 e 0 = 2 → Says.served (.rollupStart e) specRollupStart e s t
          ({ t with att := { t.att with periodic := p32 e 4 } }, Ans.ok (leBytes 8 t.att.highRound.toNat))) ∧
        (p8 e 0 = 0 → Says.served (.rollupStart e) specRollupStart e s t
          ({ t with att := { t.att with periodic := 0 } }, Ans.ok (leBytes 8 t.att.highRound.toNat))) ∧
        (p8 e 0 = 1 → t.eng.entropyFailed = false → t.eng.pkeFenced = false → ∃ u,
          Says.served (.rollupStart e) specRollupStart e s t (u, Ans.ok (leBytes 8 (t.att.highRound + 1).toNat)) ∧
            ∃ r, u.att.round = some r ∧ r.num = t.att.highRound + 1 ∧ r.nonce = BitVec.ofNat 256 (beNat (slice e.payload 8 32))))) ∧
    (payFault (rsv e 2 6) = none →
      (t.car.join = none → Says.served (.rollupGet e) specRollupGet e s t (t, Ans.state)) ∧
      (∀ j, t.car.join = some j →
        (t.att.rollup = none → Says.served (.rollupGet e) specRollupGet e s t (t, Ans.notFound)) ∧
        (∀ h p m, t.att.rollup = some (h, p, m) →
          (p16 e 0 = j.post.toNat → Says.served (.rollupGet e) specRollupGet e s t
            (t, Ans.ok (h ++ p ++ m ++ mgetD t.att.certs 2 [] ++ mgetD t.att.certs 3 [] ++ t.att.idDual))) ∧
          (∀ b, p16 e 0 ≠ j.post.toNat → p16 e 0 < 16 ^ (byteAt h 5).toNat → b ≠ [] →
            t.att.records.find? (fun r => r.1 == p16 e 0) = some (p16 e 0, b) →
            Says.served (.rollupGet e) specRollupGet e s t (t, Ans.ok b)))))

/-- The caravan group (R403, R415, R418, R419): a join set is taken once and enables the links of its mask, leaving clears it
with every link, route and hold, the status shows both, and a channel is set once and cleared. -/
def Says.caravanCommands : Prop :=
  ∀ (e : Env) (s t : State),
    (payFault (joinChecks e) = none →
      (t.parts.debugOpen = true → Says.served (.caravanJoinSet e) specCaravanJoinSet e s t (t, Ans.state)) ∧
      (t.parts.debugOpen = false → t.car.join ≠ none → Says.served (.caravanJoinSet e) specCaravanJoinSet e s t (t, Ans.conflict)) ∧
      (t.parts.debugOpen = false → t.car.join = none → ∃ u c, Says.served (.caravanJoinSet e) specCaravanJoinSet e s t (u, Ans.waiting) ∧
        Keeps [.car, .flash] t u ∧ u.car.join = some (parseJoin e.payload) ∧ c.join = some e.payload ∧
        u.flash.jobs = t.flash.jobs ++ [.config (some { env := e, op := 0xA01 }) c] ∧
        ∀ n, n < 16 → (linkOf u n).st = if (parseJoin e.payload).mask.getLsbD n then .training else .disabled)) ∧
    (t.car.join = none → Says.served (.caravanLeave e) specCaravanLeave e s t (t, Ans.notFound)) ∧
    (t.car.join ≠ none → ∃ u, Says.served (.caravanLeave e) specCaravanLeave e s t (u, Ans.waiting) ∧ u.car.join = none ∧
      u.car.links = [] ∧ u.car.routes = [] ∧ u.car.held = [] ∧ u.car.dir = [] ∧ u.att.round = none ∧ u.att.rollup = none ∧
      (∀ n, n < 16 → (slot u (0x20 + n)).active = 0) ∧ u.car.channels = t.car.channels) ∧
    (∃ b, Says.served (.caravanStatusGet e) specCaravanStatusGet e s t (t, Ans.ok b) ∧ b.length = 188 ∧
      slice b 0 2 = leBytes 2 (myPost t) ∧ slice b 20 4 = leBytes 4 t.car.dir.length ∧
      (∀ n, n < 16 → slice b (28 + 8 * n + 4) 4 = leBytes 4 (linkOf t n).keyFaults.toNat) ∧
      slice b 156 4 = leBytes 4 t.car.reject.toNat ∧ slice b 184 4 = leBytes 4 t.car.broken.toNat) ∧
    (payFault (channelChecks e) = none → ∀ x, part? t e.target.toNat = some x → x.state ≠ .destroying → let ch := p16 e 0
      (p8 e 3 = 2 → mget x.windows (p8 e 6) = none → Says.served (.channelSet e) specChannelSet e s t (t, Ans.notFound)) ∧
      (p8 e 3 = 1 ∨ mget x.windows (p8 e 6) ≠ none → mget t.car.channels ch ≠ none →
        Says.served (.channelSet e) specChannelSet e s t (t, Ans.conflict)) ∧
      (p8 e 3 = 1 ∨ mget x.windows (p8 e 6) ≠ none → mget t.car.channels ch = none → t.car.channels.length < 1024 →
        x.mode ≠ .confidential → ∃ u c, Says.served (.channelSet e) specChannelSet e s t (u, Ans.ok) ∧ Keeps [.car] t u ∧
          u.car = { t.car with channels := mput t.car.channels ch c } ∧ c.part = e.target.toNat ∧ c.data = (p8 e 3 == 2) ∧
          c.dst = BitVec.ofNat 16 (p16 e 4) ∧ c.credits = p16 e 20 ∧ c.wait = [])) ∧
    (payFault (rsv e 2 6) = none →
      (mget t.car.channels (p16 e 0) = none → Says.served (.channelClear e) specChannelClear e s t (t, Ans.notFound)) ∧
      (mget t.car.channels (p16 e 0) ≠ none → Says.served (.channelClear e) specChannelClear e s t
        ({ t with car := { t.car with channels := mdel t.car.channels (p16 e 0) } }, Ans.ok)))

/-- Routes, members and the caravan group. -/
def Obligations.CaravanMembers : Prop :=
  Says.routesAndMembers ∧ Says.caravanCommands

/-! ### SPDM -/

/-- A responder that serves, with firmware ready and PD1 on. -/
def Says.responder (s : State) : Prop := spdmRuns s = true ∧ deviceBusy s = false ∧ domOf s 1 = .on

/-- The response of a code, its two parameters and body leaves as the last output of state t. -/
def Says.responds (m : SpdmMsg) (code p1 p2 : BitVec 8) (body : Bytes) (s t : State) : Prop :=
  t.out = .spdm m.session code p1 p2 body :: s.out

/-- The SPDM connection (R334, R342, R346, Tables 15-9 and 15-10): requests outside their order, of another version, or of
an unserved kind get their errors, the negotiation goes on step by step, the chain of slot 0 and its digest are told, the
challenge and the measurements carry the caller's context, and large messages go in chunks. Codes and layouts are those of
DSP0274 (the model's presumption, log 16). -/
def Says.spdmConnection : Prop :=
  ∀ (m : SpdmMsg) (s : State), m.session = none → domOf s 1 = .on →
    (spdmRuns s = true → deviceBusy s = true → Runs (.getVersion m) s fun t => Touches [.out] s t ∧ Says.responds m 0x7F 3 0 [] s t) ∧
    (Says.responder s → m.version ≠ 0x13 → m.code ≠ 0x84 → Runs (.getCapabilities m) s fun t => Touches [.out] s t ∧
      Says.responds m 0x7F 0x41 0 [] s t) ∧
    (Says.responder s → m.version = 0x13 → let c := s.att.spdm
      let errs := fun (i : Instr) (code : BitVec 8) => Runs i s fun t => Touches [.out] s t ∧ Says.responds m 0x7F code 0 [] s t
      (Runs (.getVersion m) s fun t => Touches [.att, .out] s t ∧ Says.responds m 4 0 0 [0, 1, 0, 0x13] s t ∧
        t.att.spdm.ver = true ∧ t.att.spdm.cap = false ∧ t.att.spdm.alg = false ∧ t.att.sessions = s.att.sessions) ∧
      (c.ver = false → errs (.getCapabilities m) 4) ∧
      (c.ver = true → Runs (.getCapabilities m) s fun t => Touches [.att, .out] s t ∧ t.att.spdm.cap = true ∧
        ∃ b, Says.responds m 0x61 0 0 b s t ∧ b.drop 8 = leBytes 4 4096 ++ leBytes 4 65536) ∧
      (c.cap = false → errs (.negotiateAlgorithms m) 4) ∧
      (c.cap = true → Runs (.negotiateAlgorithms m) s fun t => Touches [.att, .out] s t ∧ t.att.spdm.alg = true ∧
        ∃ b, Says.responds m 0x63 4 0 b s t ∧ b.length = 48) ∧
      (c.alg = false → ∀ i, i ∈ [Instr.getDigests m, .getCertificate m, .challenge m, .getMeasurements m, .keyExchange m,
        .chunkSend m, .chunkGet m] → errs i 4) ∧
      (Runs (.spdmUnsupportedRequest m) s fun t => Touches [.out] s t ∧ Says.responds m 0x7F 7 m.code [] s t) ∧
      (c.alg = true →
        (Runs (.getDigests m) s fun t => Touches [.att, .out] s t ∧ Says.responds m 1 1 1 (sha384b (spdmChain s)) s t) ∧
        (m.param1.toNat % 16 = 0 → 4 ≤ m.body.length → fld m.body 0 2 < (spdmChain s).length →
          Runs (.getCertificate m) s fun t => Touches [.att, .out] s t ∧
            let b := slice (spdmChain s) (fld m.body 0 2) (min (fld m.body 2 2) 4088)
            Says.responds m 2 0 0 (leBytes 2 b.length ++ leBytes 2 ((spdmChain s).length - fld m.body 0 2 - b.length) ++ b) s t) ∧
        (m.param1.toNat % 16 ≠ 0 ∨ (spdmChain s).length ≤ fld m.body 0 2 → errs (.getCertificate m) 1) ∧
        (s.boot.fuseDegraded = false → (slot s 0x12).isEmpty = false → s.eng.pkeFenced = false → s.eng.entropyFailed = false →
          m.param1 = 0 → m.param2 = 0 → m.body.length = 40 → Runs (.challenge m) s fun t => Touches [.out, .free] s t ∧
            ∃ b, Says.responds m 3 0 1 b s t ∧ b.length = 186 ∧ b.take 48 = sha384b (spdmChain s) ∧
              slice b 82 8 = slice m.body 32 8) ∧
        (s.boot.fuseDegraded = true → m.param1 = 0 → m.param2 = 0 → m.body.length = 40 → errs (.challenge m) 5) ∧
        (m.param1 = 0 → m.body.length = 8 →
          (m.param2 = 0 → Runs (.getMeasurements m) s fun t => Touches [.att, .out, .free] s t ∧ ∃ b,
            Says.responds m 0x60 8 0 b s t ∧ b.length = 46 ∧ slice b 0 4 = zeros 4 ∧ b.drop 38 = m.body) ∧
          (∀ i : Nat, 1 ≤ i → i ≤ 8 → m.param2.toNat = i → Runs (.getMeasurements m) s fun t => Touches [.att, .out, .free] s t ∧
            ∃ b v, Says.responds m 0x60 0 0 b s t ∧ b = [1] ++ leBytes 3 (measBlock s i).length ++ measBlock s i ++ v ∧
              v.length = 42 ∧ v.drop 34 = m.body) ∧
          (8 < m.param2.toNat → m.param2 ≠ 0xFF → errs (.getMeasurements m) 1)) ∧
        (∀ data, data = slice m.body 12 (fld m.body 4 4) → fld m.body 0 2 = 0 → data.length = fld m.body 4 4 → data.length ≤ fld m.body 8 4 → fld m.body 8 4 ≤ 65536 →
          (m.param1.getLsbD 0 = false → Runs (.chunkSend m) s fun t => Touches [.att, .out] s t ∧
            Says.responds m 5 0 m.param2 [0, 0] s t ∧ t.att.spdm.chunkIn = data ∧ t.att.spdm.chunkNext = 1) ∧
          (m.param1.getLsbD 0 = true → data.length = fld m.body 8 4 → byteAt data 1 = 0x85 → Runs (.chunkSend m) s fun t =>
            Touches [.att, .out] s t ∧ Says.responds m 5 0 m.param2 [0, 0, 0x13, 0x7F, 7, 0x85] s t ∧ t.att.spdm.chunkIn = [])) ∧
        (fld m.body 0 2 ≠ 0 → fld m.body 0 2 ≠ c.chunkNext → Runs (.chunkSend m) s fun t => Touches [.att, .out] s t ∧
          t.att.spdm.chunkIn = [] ∧ ∃ b, Says.responds m 5 1 m.param2 b s t) ∧
        (fld m.body 0 2 = 0 → c.chunkOut ≠ [] → m.param2.toNat = c.handle → Runs (.chunkGet m) s fun t =>
          Touches [.att, .out] s t ∧
          Says.responds m 6 (if c.chunkOut.length ≤ 4080 then 1 else 0) (BitVec.ofNat 8 c.handle)
            ([0, 0, 0, 0] ++ leBytes 4 (min 4080 c.chunkOut.length) ++ leBytes 4 c.chunkOut.length ++ c.chunkOut.take 4080) s t ∧
          t.att.spdm.chunkOut = if c.chunkOut.length ≤ 4080 then [] else c.chunkOut) ∧
        (c.chunkOut = [] → errs (.chunkGet m) 1)))

/-- SPDM sessions (R347–R349): a key exchange with valid keys opens the handshake of the lowest free session; the finish whose
signature and verify data are right opens the session with the requester's leaf key, one that is not ends it; heartbeats and
key updates belong to open sessions, which END_SESSION ends. -/
def Says.spdmSessions : Prop :=
  ∀ (m : SpdmMsg) (s : State), Says.responder s → m.version = 0x13 → s.att.spdm.alg = true →
    (m.session = none →
      (freeSession s = none → Runs (.keyExchange m) s fun t => Touches [.out] s t ∧ Says.responds m 0x7F 0x0A 0 [] s t) ∧
      (∀ n, freeSession s = some n → m.param2 = 0 → m.param1 = 0 → m.body.length = 1702 → fld m.body 132 2 = 1568 →
        s.boot.fuseDegraded = false → (slot s 0x12).isEmpty = false → s.eng.pkeFenced = false → s.eng.entropyFailed = false →
        Runs (.keyExchange m) s fun t => match Config.ecdhShared (BitVec.ofNat 384 (beNat (drawBytes s.free 48))) (4 :: slice m.body 36 96),
            Config.mlkemEncaps (slice m.body 134 1568) (s.free + 1) with
          | some _, some _ => Touches [.att, .out, .free] s t ∧ (∃ b, Says.responds m 0x64 30 0 b s t ∧ b.length = 1846) ∧
              (∃ x, mget t.att.sessions n = some x ∧ x.open_ = false ∧ x.tid = none ∧ x.order = s.att.order + 1) ∧
              ∀ k, k ≠ n → mget t.att.sessions k = mget s.att.sessions k
          | _, _ => Touches [.out] s t ∧ Says.responds m 0x7F 1 0 [] s t)) ∧
    (∀ (n : BitVec 4) (x : Session), m.session = some n → mget s.att.sessions n.toNat = some x →
      (x.open_ = false → s.eng.pkeFenced = false →
        (∀ leaf, m.param1.getLsbD 0 = false → Runs (.finish m leaf) s fun t => mget t.att.sessions n.toNat = none ∧
          (slot t (0x014 + n.toNat)).active = 0 ∧ t.out.head? = some (.spdm m.session 0x7F 1 0 [])) ∧
        (∀ leaf, m.param1.getLsbD 0 = true → m.body.length = 144 →
          let tr := x.transcript ++ sha384b leaf ++ [m.version, m.code, m.param1, m.param2]
          let good := Config.ecdsaVerify leaf (sha384 (spdmSigned "requester-finish signing" (sha384 tr))) (m.body.take 96) = true ∧
            hmac384 (finishedKey x "req hs data" x.th2) (sha384b (tr ++ m.body.take 96)) = m.body.drop 96
          Runs (.finish m leaf) s fun t =>
            (good → Touches [.att, .out] s t ∧ Says.responds m 0x65 0 0 [] s t ∧ ∃ y, mget t.att.sessions n.toNat = some y ∧
              y.open_ = true ∧ y.leaf = leaf ∧ y.tid = x.tid ∧ y.lastTick = tick s) ∧
            (¬ good → mget t.att.sessions n.toNat = none ∧ t.out.head? = some (.spdm m.session 0x7F 6 0 [])))) ∧
      (x.open_ = true →
        (Runs (.heartbeat m) s fun t => Touches [.att, .out] s t ∧ Says.responds m 0x68 0 0 [] s t ∧
          mget t.att.sessions n.toNat = some { x with lastTick := tick s }) ∧
        (1 ≤ m.param1.toNat → m.param1.toNat ≤ 3 → Runs (.keyUpdate m) s fun t => Touches [.att, .out] s t ∧
          Says.responds m 0x69 m.param1 m.param2 [] s t ∧ mget t.att.sessions n.toNat = some { x with
            lastTick := tick s, keyGen := if m.param1.toNat = 3 then x.keyGen else x.keyGen + 1 }) ∧
        (m.param1 = 0 ∨ 3 < m.param1.toNat → Runs (.keyUpdate m) s fun t => Touches [.att, .out] s t ∧ Says.responds m 0x7F 1 0 [] s t) ∧
        (Runs (.endSession m) s fun t => mget t.att.sessions n.toNat = none ∧ (slot t (0x014 + n.toNat)).active = 0 ∧
          t.out.head? = some (.spdm m.session 0x6C 0 0 []))) ∧
      (x.open_ = false → ∀ i, i ∈ [Instr.heartbeat m, .keyUpdate m, .endSession m] → Runs i s fun t =>
        Touches [.att, .out] s t ∧ Says.responds m 0x7F 4 0 [] s t)) ∧
    (∀ n, m.session = some n → mget s.att.sessions n.toNat = none → ∀ i, i ∈ [Instr.heartbeat m, .keyUpdate m, .endSession m] →
      Runs i s fun t => Keeps [] s t)

/-- The SPDM connection and its sessions. -/
def Obligations.Spdm : Prop :=
  Says.spdmConnection ∧ Says.spdmSessions

/-! ### Reset, and rules of the spec stated whole -/

/-- The device's debug state is LOCKED after every boot (R224): it is LOCKED at reset, every reset and boot restart locks
it, and the boot that follows leaves it as it is. -/
def Obligations.DebugIsLockedAtBoot : Prop :=
  State.reset.parts.debugOpen = false ∧
  ∀ s : State,
    (s.aon.vddAon = true → s.aon.pwrOk = true → Runs .pwrOkFall s fun t => t.parts.debugOpen = false) ∧
    (s.aon.vddAon = true → s.aon.pwrOk = true → s.aon.sysRstN = true → Runs .sysRstNLow s fun t => t.parts.debugOpen = false) ∧
    (∀ r, r ≠ .fuse → s.aon.vddAon = true → Runs (.brownout r) s fun t => t.parts.debugOpen = false) ∧
    (∀ b, s.boot.restartDue ≠ none → Runs (.bootRestart b) s fun t => t.parts.debugOpen = false) ∧
    (∀ sense b, s.parts.debugOpen = false → Runs (.internalResetRelease sense b) s fun t => t.parts.debugOpen = false)

/-- Plans, groups, offsets, counts and steps are kept through PD1 sleep and lost through R49 and R50; after a boot every core
starts at 1.8 GHz (step 0), every Confidential partition at LEVEL 0 (no partition outlives a boot, and one is created at
LEVEL 0) and every stack at level 0 (R384). -/
def Obligations.PlansAndSteps : Prop :=
  let fresh := fun t : State => t.therm = Thermal.reset ∧ t.parts.parts = [] ∧ (∀ c, (core t c).step = 0) ∧
    (∀ c, (coreTherm t c).plan = none) ∧ ∀ n, (stackTherm t n).level = 0
  ∀ s : State,
    (Runs .pd1Sleep s fun t => t.therm = s.therm ∧ t.cores = s.cores ∧ t.parts = s.parts) ∧
    (s.aon.vddAon = true → s.aon.pwrOk = true → Runs .pwrOkFall s fresh) ∧
    (s.aon.vddAon = true → s.aon.pwrOk = true → s.aon.sysRstN = true → Runs .sysRstNLow s fresh) ∧
    (∀ r, r ≠ .fuse → s.aon.vddAon = true → Runs (.brownout r) s fresh) ∧
    (∀ b, s.boot.restartDue ≠ none → Runs (.bootRestart b) s fresh) ∧
    (∀ sense b, s.therm = Thermal.reset → s.cores = [] → s.parts.parts = [] → Runs (.internalResetRelease sense b) s fresh) ∧
    (∀ e t, payFault ([(0, p8 e 0 == 1 || p8 e 0 == 2)] ++ rsv e 1 7) = none → p8 e 0 = 1 → part? t e.target.toNat = none →
      t.eng.entropyFailed = false → t.parts.rollback = none → t.parts.openSteps.length < 4096 → t.parts.openTids.length < 128 →
      t.parts.debugOpen = false → ∃ u x, Says.served (.partitionCreate e) specPartitionCreate e s t (u, Ans.ok) ∧
        part? u e.target.toNat = some x ∧ x.mode = .confidential ∧ x.level = 0)

/-- The fuse nonce (R115): FUSE_NONCE_GET returns 16 bytes drawn from the DRBG, which replace the one nonce held; a
FUSE_ACTION that passes signature verification consumes it, whatever its outcome; a reset discards it. -/
def Obligations.FuseNonce : Prop :=
  ∀ (e : Env) (s t : State),
    (t.eng.entropyFailed = false → ∃ u, Says.served (.fuseNonceGet e) specFuseNonceGet e s t (u, Ans.ok (drawBytes t.free 16)) ∧
      (drawBytes t.free 16).length = 16 ∧ u.fuses.nonce = some (BitVec.ofNat 128 (leNat (drawBytes t.free 16))) ∧ u.free = t.free + 1) ∧
    (tokenFormat e = none → t.fuses.op = none → ∃ u r, Says.served (.fuseAction e) specFuseAction e s t (u, r) ∧
      (tokenSigned t.fuses.shadow e = true → u.fuses.nonce = none)) ∧
    (s.aon.vddAon = true → s.aon.pwrOk = true → Runs .pwrOkFall s fun t => t.fuses.nonce = none) ∧
    (s.aon.vddAon = true → s.aon.pwrOk = true → s.aon.sysRstN = true → Runs .sysRstNLow s fun t => t.fuses.nonce = none) ∧
    (∀ r, r ≠ .fuse → s.aon.vddAon = true → Runs (.brownout r) s fun t => t.fuses.nonce = none) ∧
    (∀ b, s.boot.restartDue ≠ none → Runs (.bootRestart b) s fun t => t.fuses.nonce = none)

/-- The device fetches the next entry of an envelope ring while ENABLE is 1, HEAD ≠ TAIL and OUTSTANDING < 8, never more than
8 ahead of its replies; a full ring is no error; HEAD advances when the envelope has been read (R191). -/
def Obligations.EntriesAreFetched : Prop :=
  ∀ (f : Fn) (s : State) (b env : HostRead) (fails : Bool), let r := (fnRegs s f).env
    (r.enable = false ∨ r.head = r.tail ∨ 8 ≤ r.outstanding.toNat → Runs (.envEntryFetch f b env fails) s fun t => Keeps [] s t) ∧
    (r.outstanding.toNat ≤ 8 → Runs (.envEntryFetch f b env fails) s fun t => (fnRegs t f).env.outstanding.toNat ≤ 8) ∧
    (fnLive s f = true → fnConf s f = false → s.mem.htClosed = false → hostReady s = true → r.enable = true → r.head ≠ r.tail →
      r.outstanding.toNat < 8 → ∀ d : Bytes, b = .plain d → d.length = 32 → allZero (slice d 24 8) = true → fld d 0 8 % 8 = 0 →
      72 ≤ fld d 8 4 → fld d 8 4 ≤ 61552 → 72 ≤ fld d 12 4 → fld d 16 8 % 8 = 0 →
      (∀ v, env = .plain v → Runs (.envEntryFetch f b env fails) s fun t => Touches [.q] s t ∧
        (fnRegs t f).env = { r with head := r.head + 1, outstanding := r.outstanding + 1 }) ∧
      (env = .unreadable → Runs (.envEntryFetch f b env fails) s fun t => (fnRegs t f).env.head = r.head ∧
        (fnRegs t f).env.outstanding = r.outstanding))

/-- A keyed result or KDF output is consumed by its first ROUTE, after which the engine is IDLE; a plain result may be routed
any number of times until the next START or DATA (R157). -/
def Obligations.ResultsAreRouted : Prop :=
  ∀ (n : BitVec 3) (s : State) (b : Bytes), n.toNat < 6 → domOf s 2 = .on → (deOf s n.toNat).fenced = false →
    (deOf s n.toNat).st = .done → (deOf s n.toNat).resA = some b →
    ((deOf s n.toNat).args.mode ≠ .plain → ∀ r, Runs (.deRoute n r) s fun t =>
      (deOf t n.toNat).st = .idle ∧ (deOf t n.toNat).resA = none ∧ (deOf t n.toNat).resB = none) ∧
    ((deOf s n.toNat).args.mode = .plain →
      (∀ r, Runs (.deRoute n r) s fun t => deOf t n.toNat = deOf s n.toNat) ∧
      (∀ alg, Runs (.deStart n { alg := alg, mode := .plain, key := .none, l := 0 }) s fun t =>
        (deOf t n.toNat).resA = none ∧ (deOf t n.toNat).st = .loaded) ∧
      (∀ f : DeFrag, f.rsv = 0 → f.space = 0 → f.part.toNat < nParts s → f.addr.toNat + f.lenM1.toNat + 1 ≤ 0x200000 →
        Runs (.deData n [f]) s fun t => (deOf t n.toNat).resA = none ∧ (deOf t n.toNat).st = .running))

/-- An XST refused by a turnstile after retirement is a deferred fault: its code stands in LAST_DEFER, and the next FENCE,
XWAIT naming its tag, QDONE, TSIG or TTRY raises it (R272). The fault's address is open (log 4). -/
def Obligations.DeferredFaults : Prop :=
  ∀ (c : BitVec 7) (s : State), let x := core s c.toNat
    (∀ (tag : BitVec 4) (idx : BitVec 16) (f : Xfer) (r : XferLine) (p : Nat), coreHolder s c.toNat = some p → f.cache = 2 →
      tracked s p f.win r.off = false → xferFind x tag true idx.toNat = some (f, r) →
      let g := resolve s (.core c) f.win
      let q := memWrite (.core c) f.win r.off r.data (l2Drop (c.toNat / 16) p g.wd.stack (gateAddr g r.off / 64) s)
      q.2 ≠ 0 → Runs (.xstResponse c tag idx []) s fun t => (core t c.toNat).deferTag = x.deferTag ++ [tag] ∧
        (core t c.toNat).lastDefer = BitVec.ofNat 64 (0x10 + q.2) ∧ (core t c.toNat).pc = x.pc ∧ (core t c.toNat).st = x.st) ∧
    (∀ w : CWord, Says.issues c s → Says.on x w.pred w.pbit w.pneg → (x.xfers.any fun f => f.isSt) = false → x.deferTag ≠ [] →
      let raises := fun i : Instr => exec i s = .next (after s
        (coreFault c.toNat x.lastDefer.toNat 0 (Config.open64 s.free) { s with free := s.free + 1 }))
      (cUnused {} w = true → raises (.fence c w)) ∧
      (cUnused { imm := true } w = true → xferOut x w.imm16 = false → (∃ g ∈ x.deferTag, w.imm16.getLsbD g.toNat = true) →
        raises (.xwait c w)) ∧
      (cUnused { ra := true } w = true → raises (.qdone c w)) ∧
      (cUnused { ra := true, rb := true, imm := true } w = true → raises (.tsig c w)) ∧
      (cUnused { ra := true, rd := true, imm := true } w = true → raises (.ttry c w)))

/-- An envelope for an opcode marked F that arrives without FRANKED is MALFORMED at step 2 with detail 3, the offset of FLAGS;
on any other opcode FRANKED is checked and recorded exactly as for an F opcode (R468). -/
def Obligations.FrankedOpcodes : Prop :=
  ∀ (sp : OpSpec) (e : Env) (s : State),
    (sp.franked = true → isFranked e = false → formFault s sp e ≠ none ∧
      (formFault s { sp with franked := false } e = none → formFault s sp e = some (2, 3) ∧
        (serves s = true → domOf s 1 = .on → (e.path = .pf ∨ ∃ n, e.path = .vf n) →
          gate sp e s = .shut (reply e sp.op { status := 3, detail := 3, check := 2 } none s)))) ∧
    (isFranked e = true → gate { sp with franked := true } e s = gate { sp with franked := false } e s)

/-- The machine right after reset: held in reset, nothing waiting, unlocked by nothing. The power policy is R474's, the patrol
slice R327's, LEASE_TERM R392's, the debug state R224's; every ring, every register of Table 24-11 and every key slot is
empty (R49, R489); of the fuse cells the canary rows 0 to 3 alone are programmed (R101) and memory lists nothing, which is
the model's choice of a part as delivered (logs 6 and 7). -/
def Obligations.ResetState : Prop :=
  let s := State.reset
  s.pending = [] ∧ s.boot.phase = .held ∧ s.power.policy =
    { tileIdleMs := 10, stackIdleMs := 100, deepIdle := false, tileOn := 0, tileOff := 0, stackOn := 0 } ∧
  (∀ n, mgetD s.scrub.slices n 1 = 1) ∧ s.twin.term = 0 ∧ s.parts.debugOpen = false ∧
  (∀ f, fnRegs s f = FnRegs.reset) ∧ s.q.events = Events.reset ∧ (∀ n, slot s n = Slot.empty) ∧ s.parts.parts = [] ∧
  (∀ c, (core s c).st = .unassigned ∧ (core s c).step = 0) ∧ (∀ k, k ≠ 0 → domOf s k = .off) ∧
  (∀ r c, r < 4 → c < 256 → cellAt s.fuses.cells r c = true) ∧ (∀ r c, 4 ≤ r → cellAt s.fuses.cells r c = false) ∧
  (∀ n, mwf 0 (stackOf s n).bytes = true ∧ mwf LineInfo.cleared (stackOf s n).lines = true)

/-- A programmed fuse cell stays programmed: no step of the machine ever returns a cell to blank (Table 05-1: a fuse is
written once). -/
def Obligations.FuseCellsStay : Prop :=
  ∀ (s t : State) (row col : Nat), step s = .next t → cellAt s.fuses.cells row col = true → cellAt t.fuses.cells row col = true
end

