-- ==== Sys2Proof/Laws/Maps.lean ====
section
/-! SUPPORT. What the sparse-map operations do: a read after a write, other keys untouched, and the canonical form kept
by every operation, the byte runs of a memory among them. -/

namespace Sys2Proof.Machine

variable {α : Type}

@[simp] theorem mget_mput_same (m : SMap α) (i : Nat) (v : α) : mget (mput m i v) i = some v := by
  induction m with
  | nil => simp [mput, mget]
  | cons e m ih =>
    obtain ⟨k, w⟩ := e
    unfold mput
    split
    · simp [mget]
    · split
      · simp [mget]
      · next h1 h2 => simp [mget, Ne.symm h2, ih]

theorem mget_mput_other (m : SMap α) {i j : Nat} (v : α) (h : i ≠ j) : mget (mput m i v) j = mget m j := by
  induction m with
  | nil => simp [mput, mget, h]
  | cons e m ih =>
    obtain ⟨k, w⟩ := e
    unfold mput
    split
    · simp [mget, h]
    · split
      · next h1 h2 => subst h2; simp [mget, h]
      · simp [mget, ih]

@[simp] theorem mget_mdel_same (m : SMap α) (i : Nat) : mget (mdel m i) i = none := by
  induction m with
  | nil => rfl
  | cons e m ih =>
    obtain ⟨k, w⟩ := e
    by_cases h : k = i
    · simpa [mdel, h] using ih
    · simpa [mdel, h, mget] using ih

theorem mget_mdel_other (m : SMap α) {i j : Nat} (h : i ≠ j) : mget (mdel m i) j = mget m j := by
  induction m with
  | nil => rfl
  | cons e m ih =>
    obtain ⟨k, w⟩ := e
    by_cases hk : k = i
    · subst hk; simpa [mdel, mget, h] using ih
    · by_cases hj : k = j
      · subst hj; simp [mdel, hk, mget]
      · simpa [mdel, hk, mget, hj] using ih

@[simp] theorem mgetD_mset_same [DecidableEq α] (m : SMap α) (i : Nat) (v d : α) : mgetD (mset m i v d) i d = v := by
  unfold mset mgetD
  split
  · next h => simp [h]
  · simp

theorem mgetD_mset_other [DecidableEq α] (m : SMap α) {i j : Nat} (v d : α) (h : i ≠ j) :
    mgetD (mset m i v d) j d = mgetD m j d := by
  unfold mset mgetD
  split
  · rw [mget_mdel_other m h]
  · rw [mget_mput_other m v h]

theorem mrises_mono {m : SMap α} {a b : Nat} (h : a ≤ b) (hm : mrises b m = true) : mrises a m = true := by
  cases m with
  | nil => rfl
  | cons e m =>
    simp only [mrises, Bool.and_eq_true, decide_eq_true_eq] at hm ⊢
    exact ⟨by omega, hm.2⟩

theorem mrises_filter (p : Nat × α → Bool) {m : SMap α} {a : Nat} (hm : mrises a m = true) :
    mrises a (m.filter p) = true := by
  induction m generalizing a with
  | nil => rfl
  | cons e m ih =>
    simp only [mrises, Bool.and_eq_true, decide_eq_true_eq] at hm
    by_cases h : p e = true
    · simp [h, mrises, hm.1, ih hm.2]
    · simp [h]; exact mrises_mono (by omega) (ih hm.2)

theorem mrises_mput {m : SMap α} {a i : Nat} (v : α) (hm : mrises a m = true) (ha : a ≤ i) :
    mrises a (mput m i v) = true := by
  induction m generalizing a with
  | nil => simp [mput, mrises, ha]
  | cons e m ih =>
    obtain ⟨k, w⟩ := e
    simp only [mrises, Bool.and_eq_true, decide_eq_true_eq] at hm
    unfold mput
    split
    · simp only [mrises, Bool.and_eq_true, decide_eq_true_eq]
      exact ⟨ha, by omega, hm.2⟩
    · split
      · next h1 h2 => subst h2; simp [mrises, hm.1, hm.2]
      · simp [mrises, hm.1, ih hm.2 (by omega)]

/-- Every entry of a map put to is the new one or an old one. -/
theorem mem_mput {m : SMap α} {i : Nat} {v : α} {e : Nat × α} (h : e ∈ mput m i v) : e = (i, v) ∨ e ∈ m := by
  induction m with
  | nil => simpa [mput] using h
  | cons f m ih =>
    obtain ⟨k, w⟩ := f
    unfold mput at h
    split at h
    · simpa using h
    · split at h
      · rcases List.mem_cons.1 h with h | h
        · exact .inl h
        · exact .inr (List.mem_cons_of_mem _ h)
      · rcases List.mem_cons.1 h with h | h
        · exact .inr (by simp [h])
        · exact (ih h).imp id (List.mem_cons_of_mem _)

variable [DecidableEq α] {d : α}

theorem mwf_filter (p : Nat × α → Bool) {m : SMap α} (hm : mwf d m = true) : mwf d (m.filter p) = true := by
  simp only [mwf, Bool.and_eq_true] at hm ⊢
  exact ⟨mrises_filter p hm.1, List.all_eq_true.2 fun e he => List.all_eq_true.1 hm.2 e (List.mem_of_mem_filter he)⟩

theorem mwf_mdel (i : Nat) {m : SMap α} (hm : mwf d m = true) : mwf d (mdel m i) = true := mwf_filter _ hm

theorem mwf_mclear (lo n : Nat) {m : SMap α} (hm : mwf d m = true) : mwf d (mclear m lo n) = true := mwf_filter _ hm

theorem mwf_mput (i : Nat) {v : α} (hv : v ≠ d) {m : SMap α} (hm : mwf d m = true) : mwf d (mput m i v) = true := by
  simp only [mwf, Bool.and_eq_true] at hm ⊢
  refine ⟨mrises_mput v hm.1 (Nat.zero_le i), List.all_eq_true.2 fun e he => ?_⟩
  rcases mem_mput he with rfl | h
  · simpa using hv
  · exact List.all_eq_true.1 hm.2 e h

theorem mwf_mset (i : Nat) (v : α) {m : SMap α} (hm : mwf d m = true) : mwf d (mset m i v d) = true := by
  unfold mset
  split
  · exact mwf_mdel i hm
  · next h => exact mwf_mput i h hm

theorem mwf_mmod (i : Nat) (f : α → α) {m : SMap α} (hm : mwf d m = true) : mwf d (mmod m i d f) = true := mwf_mset i _ hm

/-- A byte run keeps a memory's canonical form. -/
theorem mwf_mwrite {m : SMap Byte} (a : Nat) (bs : Bytes) (hm : mwf 0 m = true) : mwf 0 (mwrite m a bs) = true := by
  induction bs generalizing m a with
  | nil => exact hm
  | cons b bs ih => exact ih (a + 1) (mwf_mset a b hm)

/-- A byte below a written run, or past its end, reads as before. -/
theorem mgetD_mwrite_other {m : SMap Byte} {a j : Nat} (bs : Bytes) (h : j < a ∨ a + bs.length ≤ j) :
    mgetD (mwrite m a bs) j 0 = mgetD m j 0 := by
  induction bs generalizing m a with
  | nil => rfl
  | cons b bs ih =>
    simp only [List.length_cons] at h
    rw [mwrite, ih (by omega), mgetD_mset_other m b 0 (by omega)]

/-- A written run reads back. -/
theorem mread_mwrite (m : SMap Byte) (a : Nat) (bs : Bytes) : mread (mwrite m a bs) a bs.length = bs := by
  induction bs generalizing m a with
  | nil => rfl
  | cons b bs ih =>
    simp only [List.length_cons, mread, mwrite]
    rw [ih, mgetD_mwrite_other bs (by omega), mgetD_mset_same]

end Sys2Proof.Machine
end

