-- ==== Sys2Proof/Laws/State.lean ====
section
/-! SUPPORT. One lemma for each field of the state after each named update: what the update leaves alone, and the value
it puts. No later proof unfolds a record update. -/

namespace Sys2Proof.Machine

variable (s : State)


@[simp] theorem emit_aon (o : Out) : (emit o s).aon = s.aon := rfl
@[simp] theorem emit_power (o : Out) : (emit o s).power = s.power := rfl
@[simp] theorem emit_boot (o : Out) : (emit o s).boot = s.boot := rfl
@[simp] theorem emit_fuses (o : Out) : (emit o s).fuses = s.fuses := rfl
@[simp] theorem emit_vault (o : Out) : (emit o s).vault = s.vault := rfl
@[simp] theorem emit_eng (o : Out) : (emit o s).eng = s.eng := rfl
@[simp] theorem emit_parts (o : Out) : (emit o s).parts = s.parts := rfl
@[simp] theorem emit_mem (o : Out) : (emit o s).mem = s.mem := rfl
@[simp] theorem emit_cores (o : Out) : (emit o s).cores = s.cores := rfl
@[simp] theorem emit_q (o : Out) : (emit o s).q = s.q := rfl
@[simp] theorem emit_desk (o : Out) : (emit o s).desk = s.desk := rfl
@[simp] theorem emit_scrub (o : Out) : (emit o s).scrub = s.scrub := rfl
@[simp] theorem emit_att (o : Out) : (emit o s).att = s.att := rfl
@[simp] theorem emit_therm (o : Out) : (emit o s).therm = s.therm := rfl
@[simp] theorem emit_twin (o : Out) : (emit o s).twin = s.twin := rfl
@[simp] theorem emit_port (o : Out) : (emit o s).port = s.port := rfl
@[simp] theorem emit_car (o : Out) : (emit o s).car = s.car := rfl
@[simp] theorem emit_flash (o : Out) : (emit o s).flash = s.flash := rfl
@[simp] theorem emit_mgmt (o : Out) : (emit o s).mgmt = s.mgmt := rfl
@[simp] theorem emit_mail (o : Out) : (emit o s).mail = s.mail := rfl
@[simp] theorem emit_tele (o : Out) : (emit o s).tele = s.tele := rfl
@[simp] theorem emit_free (o : Out) : (emit o s).free = s.free := rfl
@[simp] theorem emit_pending (o : Out) : (emit o s).pending = s.pending := rfl

@[simp] theorem setCore_aon (c : Nat) (x : Core) : (setCore c x s).aon = s.aon := rfl
@[simp] theorem setCore_power (c : Nat) (x : Core) : (setCore c x s).power = s.power := rfl
@[simp] theorem setCore_boot (c : Nat) (x : Core) : (setCore c x s).boot = s.boot := rfl
@[simp] theorem setCore_fuses (c : Nat) (x : Core) : (setCore c x s).fuses = s.fuses := rfl
@[simp] theorem setCore_vault (c : Nat) (x : Core) : (setCore c x s).vault = s.vault := rfl
@[simp] theorem setCore_eng (c : Nat) (x : Core) : (setCore c x s).eng = s.eng := rfl
@[simp] theorem setCore_parts (c : Nat) (x : Core) : (setCore c x s).parts = s.parts := rfl
@[simp] theorem setCore_mem (c : Nat) (x : Core) : (setCore c x s).mem = s.mem := rfl
@[simp] theorem setCore_q (c : Nat) (x : Core) : (setCore c x s).q = s.q := rfl
@[simp] theorem setCore_desk (c : Nat) (x : Core) : (setCore c x s).desk = s.desk := rfl
@[simp] theorem setCore_scrub (c : Nat) (x : Core) : (setCore c x s).scrub = s.scrub := rfl
@[simp] theorem setCore_att (c : Nat) (x : Core) : (setCore c x s).att = s.att := rfl
@[simp] theorem setCore_therm (c : Nat) (x : Core) : (setCore c x s).therm = s.therm := rfl
@[simp] theorem setCore_twin (c : Nat) (x : Core) : (setCore c x s).twin = s.twin := rfl
@[simp] theorem setCore_port (c : Nat) (x : Core) : (setCore c x s).port = s.port := rfl
@[simp] theorem setCore_car (c : Nat) (x : Core) : (setCore c x s).car = s.car := rfl
@[simp] theorem setCore_flash (c : Nat) (x : Core) : (setCore c x s).flash = s.flash := rfl
@[simp] theorem setCore_mgmt (c : Nat) (x : Core) : (setCore c x s).mgmt = s.mgmt := rfl
@[simp] theorem setCore_mail (c : Nat) (x : Core) : (setCore c x s).mail = s.mail := rfl
@[simp] theorem setCore_tele (c : Nat) (x : Core) : (setCore c x s).tele = s.tele := rfl
@[simp] theorem setCore_out (c : Nat) (x : Core) : (setCore c x s).out = s.out := rfl
@[simp] theorem setCore_free (c : Nat) (x : Core) : (setCore c x s).free = s.free := rfl
@[simp] theorem setCore_pending (c : Nat) (x : Core) : (setCore c x s).pending = s.pending := rfl

@[simp] theorem modCore_aon (c : Nat) (f : Core → Core) : (modCore c f s).aon = s.aon := rfl
@[simp] theorem modCore_power (c : Nat) (f : Core → Core) : (modCore c f s).power = s.power := rfl
@[simp] theorem modCore_boot (c : Nat) (f : Core → Core) : (modCore c f s).boot = s.boot := rfl
@[simp] theorem modCore_fuses (c : Nat) (f : Core → Core) : (modCore c f s).fuses = s.fuses := rfl
@[simp] theorem modCore_vault (c : Nat) (f : Core → Core) : (modCore c f s).vault = s.vault := rfl
@[simp] theorem modCore_eng (c : Nat) (f : Core → Core) : (modCore c f s).eng = s.eng := rfl
@[simp] theorem modCore_parts (c : Nat) (f : Core → Core) : (modCore c f s).parts = s.parts := rfl
@[simp] theorem modCore_mem (c : Nat) (f : Core → Core) : (modCore c f s).mem = s.mem := rfl
@[simp] theorem modCore_q (c : Nat) (f : Core → Core) : (modCore c f s).q = s.q := rfl
@[simp] theorem modCore_desk (c : Nat) (f : Core → Core) : (modCore c f s).desk = s.desk := rfl
@[simp] theorem modCore_scrub (c : Nat) (f : Core → Core) : (modCore c f s).scrub = s.scrub := rfl
@[simp] theorem modCore_att (c : Nat) (f : Core → Core) : (modCore c f s).att = s.att := rfl
@[simp] theorem modCore_therm (c : Nat) (f : Core → Core) : (modCore c f s).therm = s.therm := rfl
@[simp] theorem modCore_twin (c : Nat) (f : Core → Core) : (modCore c f s).twin = s.twin := rfl
@[simp] theorem modCore_port (c : Nat) (f : Core → Core) : (modCore c f s).port = s.port := rfl
@[simp] theorem modCore_car (c : Nat) (f : Core → Core) : (modCore c f s).car = s.car := rfl
@[simp] theorem modCore_flash (c : Nat) (f : Core → Core) : (modCore c f s).flash = s.flash := rfl
@[simp] theorem modCore_mgmt (c : Nat) (f : Core → Core) : (modCore c f s).mgmt = s.mgmt := rfl
@[simp] theorem modCore_mail (c : Nat) (f : Core → Core) : (modCore c f s).mail = s.mail := rfl
@[simp] theorem modCore_tele (c : Nat) (f : Core → Core) : (modCore c f s).tele = s.tele := rfl
@[simp] theorem modCore_out (c : Nat) (f : Core → Core) : (modCore c f s).out = s.out := rfl
@[simp] theorem modCore_free (c : Nat) (f : Core → Core) : (modCore c f s).free = s.free := rfl
@[simp] theorem modCore_pending (c : Nat) (f : Core → Core) : (modCore c f s).pending = s.pending := rfl

@[simp] theorem setPart_aon (p : Nat) (x : Partition) : (setPart p x s).aon = s.aon := rfl
@[simp] theorem setPart_power (p : Nat) (x : Partition) : (setPart p x s).power = s.power := rfl
@[simp] theorem setPart_boot (p : Nat) (x : Partition) : (setPart p x s).boot = s.boot := rfl
@[simp] theorem setPart_fuses (p : Nat) (x : Partition) : (setPart p x s).fuses = s.fuses := rfl
@[simp] theorem setPart_vault (p : Nat) (x : Partition) : (setPart p x s).vault = s.vault := rfl
@[simp] theorem setPart_eng (p : Nat) (x : Partition) : (setPart p x s).eng = s.eng := rfl
@[simp] theorem setPart_mem (p : Nat) (x : Partition) : (setPart p x s).mem = s.mem := rfl
@[simp] theorem setPart_cores (p : Nat) (x : Partition) : (setPart p x s).cores = s.cores := rfl
@[simp] theorem setPart_q (p : Nat) (x : Partition) : (setPart p x s).q = s.q := rfl
@[simp] theorem setPart_desk (p : Nat) (x : Partition) : (setPart p x s).desk = s.desk := rfl
@[simp] theorem setPart_scrub (p : Nat) (x : Partition) : (setPart p x s).scrub = s.scrub := rfl
@[simp] theorem setPart_att (p : Nat) (x : Partition) : (setPart p x s).att = s.att := rfl
@[simp] theorem setPart_therm (p : Nat) (x : Partition) : (setPart p x s).therm = s.therm := rfl
@[simp] theorem setPart_twin (p : Nat) (x : Partition) : (setPart p x s).twin = s.twin := rfl
@[simp] theorem setPart_port (p : Nat) (x : Partition) : (setPart p x s).port = s.port := rfl
@[simp] theorem setPart_car (p : Nat) (x : Partition) : (setPart p x s).car = s.car := rfl
@[simp] theorem setPart_flash (p : Nat) (x : Partition) : (setPart p x s).flash = s.flash := rfl
@[simp] theorem setPart_mgmt (p : Nat) (x : Partition) : (setPart p x s).mgmt = s.mgmt := rfl
@[simp] theorem setPart_mail (p : Nat) (x : Partition) : (setPart p x s).mail = s.mail := rfl
@[simp] theorem setPart_tele (p : Nat) (x : Partition) : (setPart p x s).tele = s.tele := rfl
@[simp] theorem setPart_out (p : Nat) (x : Partition) : (setPart p x s).out = s.out := rfl
@[simp] theorem setPart_free (p : Nat) (x : Partition) : (setPart p x s).free = s.free := rfl
@[simp] theorem setPart_pending (p : Nat) (x : Partition) : (setPart p x s).pending = s.pending := rfl

@[simp] theorem modPart_aon (p : Nat) (f : Partition → Partition) : (modPart p f s).aon = s.aon := rfl
@[simp] theorem modPart_power (p : Nat) (f : Partition → Partition) : (modPart p f s).power = s.power := rfl
@[simp] theorem modPart_boot (p : Nat) (f : Partition → Partition) : (modPart p f s).boot = s.boot := rfl
@[simp] theorem modPart_fuses (p : Nat) (f : Partition → Partition) : (modPart p f s).fuses = s.fuses := rfl
@[simp] theorem modPart_vault (p : Nat) (f : Partition → Partition) : (modPart p f s).vault = s.vault := rfl
@[simp] theorem modPart_eng (p : Nat) (f : Partition → Partition) : (modPart p f s).eng = s.eng := rfl
@[simp] theorem modPart_mem (p : Nat) (f : Partition → Partition) : (modPart p f s).mem = s.mem := rfl
@[simp] theorem modPart_cores (p : Nat) (f : Partition → Partition) : (modPart p f s).cores = s.cores := rfl
@[simp] theorem modPart_q (p : Nat) (f : Partition → Partition) : (modPart p f s).q = s.q := rfl
@[simp] theorem modPart_desk (p : Nat) (f : Partition → Partition) : (modPart p f s).desk = s.desk := rfl
@[simp] theorem modPart_scrub (p : Nat) (f : Partition → Partition) : (modPart p f s).scrub = s.scrub := rfl
@[simp] theorem modPart_att (p : Nat) (f : Partition → Partition) : (modPart p f s).att = s.att := rfl
@[simp] theorem modPart_therm (p : Nat) (f : Partition → Partition) : (modPart p f s).therm = s.therm := rfl
@[simp] theorem modPart_twin (p : Nat) (f : Partition → Partition) : (modPart p f s).twin = s.twin := rfl
@[simp] theorem modPart_port (p : Nat) (f : Partition → Partition) : (modPart p f s).port = s.port := rfl
@[simp] theorem modPart_car (p : Nat) (f : Partition → Partition) : (modPart p f s).car = s.car := rfl
@[simp] theorem modPart_flash (p : Nat) (f : Partition → Partition) : (modPart p f s).flash = s.flash := rfl
@[simp] theorem modPart_mgmt (p : Nat) (f : Partition → Partition) : (modPart p f s).mgmt = s.mgmt := rfl
@[simp] theorem modPart_mail (p : Nat) (f : Partition → Partition) : (modPart p f s).mail = s.mail := rfl
@[simp] theorem modPart_tele (p : Nat) (f : Partition → Partition) : (modPart p f s).tele = s.tele := rfl
@[simp] theorem modPart_out (p : Nat) (f : Partition → Partition) : (modPart p f s).out = s.out := rfl
@[simp] theorem modPart_free (p : Nat) (f : Partition → Partition) : (modPart p f s).free = s.free := rfl
@[simp] theorem modPart_pending (p : Nat) (f : Partition → Partition) : (modPart p f s).pending = s.pending := rfl

@[simp] theorem setRegs_aon (f : Fn) (r : FnRegs) : (setRegs f r s).aon = s.aon := rfl
@[simp] theorem setRegs_power (f : Fn) (r : FnRegs) : (setRegs f r s).power = s.power := rfl
@[simp] theorem setRegs_boot (f : Fn) (r : FnRegs) : (setRegs f r s).boot = s.boot := rfl
@[simp] theorem setRegs_fuses (f : Fn) (r : FnRegs) : (setRegs f r s).fuses = s.fuses := rfl
@[simp] theorem setRegs_vault (f : Fn) (r : FnRegs) : (setRegs f r s).vault = s.vault := rfl
@[simp] theorem setRegs_eng (f : Fn) (r : FnRegs) : (setRegs f r s).eng = s.eng := rfl
@[simp] theorem setRegs_parts (f : Fn) (r : FnRegs) : (setRegs f r s).parts = s.parts := rfl
@[simp] theorem setRegs_mem (f : Fn) (r : FnRegs) : (setRegs f r s).mem = s.mem := rfl
@[simp] theorem setRegs_cores (f : Fn) (r : FnRegs) : (setRegs f r s).cores = s.cores := rfl
@[simp] theorem setRegs_desk (f : Fn) (r : FnRegs) : (setRegs f r s).desk = s.desk := rfl
@[simp] theorem setRegs_scrub (f : Fn) (r : FnRegs) : (setRegs f r s).scrub = s.scrub := rfl
@[simp] theorem setRegs_att (f : Fn) (r : FnRegs) : (setRegs f r s).att = s.att := rfl
@[simp] theorem setRegs_therm (f : Fn) (r : FnRegs) : (setRegs f r s).therm = s.therm := rfl
@[simp] theorem setRegs_twin (f : Fn) (r : FnRegs) : (setRegs f r s).twin = s.twin := rfl
@[simp] theorem setRegs_port (f : Fn) (r : FnRegs) : (setRegs f r s).port = s.port := rfl
@[simp] theorem setRegs_car (f : Fn) (r : FnRegs) : (setRegs f r s).car = s.car := rfl
@[simp] theorem setRegs_flash (f : Fn) (r : FnRegs) : (setRegs f r s).flash = s.flash := rfl
@[simp] theorem setRegs_mgmt (f : Fn) (r : FnRegs) : (setRegs f r s).mgmt = s.mgmt := rfl
@[simp] theorem setRegs_mail (f : Fn) (r : FnRegs) : (setRegs f r s).mail = s.mail := rfl
@[simp] theorem setRegs_tele (f : Fn) (r : FnRegs) : (setRegs f r s).tele = s.tele := rfl
@[simp] theorem setRegs_out (f : Fn) (r : FnRegs) : (setRegs f r s).out = s.out := rfl
@[simp] theorem setRegs_free (f : Fn) (r : FnRegs) : (setRegs f r s).free = s.free := rfl
@[simp] theorem setRegs_pending (f : Fn) (r : FnRegs) : (setRegs f r s).pending = s.pending := rfl

@[simp] theorem modRegs_aon (f : Fn) (g : FnRegs → FnRegs) : (modRegs f g s).aon = s.aon := rfl
@[simp] theorem modRegs_power (f : Fn) (g : FnRegs → FnRegs) : (modRegs f g s).power = s.power := rfl
@[simp] theorem modRegs_boot (f : Fn) (g : FnRegs → FnRegs) : (modRegs f g s).boot = s.boot := rfl
@[simp] theorem modRegs_fuses (f : Fn) (g : FnRegs → FnRegs) : (modRegs f g s).fuses = s.fuses := rfl
@[simp] theorem modRegs_vault (f : Fn) (g : FnRegs → FnRegs) : (modRegs f g s).vault = s.vault := rfl
@[simp] theorem modRegs_eng (f : Fn) (g : FnRegs → FnRegs) : (modRegs f g s).eng = s.eng := rfl
@[simp] theorem modRegs_parts (f : Fn) (g : FnRegs → FnRegs) : (modRegs f g s).parts = s.parts := rfl
@[simp] theorem modRegs_mem (f : Fn) (g : FnRegs → FnRegs) : (modRegs f g s).mem = s.mem := rfl
@[simp] theorem modRegs_cores (f : Fn) (g : FnRegs → FnRegs) : (modRegs f g s).cores = s.cores := rfl
@[simp] theorem modRegs_desk (f : Fn) (g : FnRegs → FnRegs) : (modRegs f g s).desk = s.desk := rfl
@[simp] theorem modRegs_scrub (f : Fn) (g : FnRegs → FnRegs) : (modRegs f g s).scrub = s.scrub := rfl
@[simp] theorem modRegs_att (f : Fn) (g : FnRegs → FnRegs) : (modRegs f g s).att = s.att := rfl
@[simp] theorem modRegs_therm (f : Fn) (g : FnRegs → FnRegs) : (modRegs f g s).therm = s.therm := rfl
@[simp] theorem modRegs_twin (f : Fn) (g : FnRegs → FnRegs) : (modRegs f g s).twin = s.twin := rfl
@[simp] theorem modRegs_port (f : Fn) (g : FnRegs → FnRegs) : (modRegs f g s).port = s.port := rfl
@[simp] theorem modRegs_car (f : Fn) (g : FnRegs → FnRegs) : (modRegs f g s).car = s.car := rfl
@[simp] theorem modRegs_flash (f : Fn) (g : FnRegs → FnRegs) : (modRegs f g s).flash = s.flash := rfl
@[simp] theorem modRegs_mgmt (f : Fn) (g : FnRegs → FnRegs) : (modRegs f g s).mgmt = s.mgmt := rfl
@[simp] theorem modRegs_mail (f : Fn) (g : FnRegs → FnRegs) : (modRegs f g s).mail = s.mail := rfl
@[simp] theorem modRegs_tele (f : Fn) (g : FnRegs → FnRegs) : (modRegs f g s).tele = s.tele := rfl
@[simp] theorem modRegs_out (f : Fn) (g : FnRegs → FnRegs) : (modRegs f g s).out = s.out := rfl
@[simp] theorem modRegs_free (f : Fn) (g : FnRegs → FnRegs) : (modRegs f g s).free = s.free := rfl
@[simp] theorem modRegs_pending (f : Fn) (g : FnRegs → FnRegs) : (modRegs f g s).pending = s.pending := rfl

@[simp] theorem setWork_aon (f : Fn) (n : Nat) (w : WorkRing) : (setWork f n w s).aon = s.aon := rfl
@[simp] theorem setWork_power (f : Fn) (n : Nat) (w : WorkRing) : (setWork f n w s).power = s.power := rfl
@[simp] theorem setWork_boot (f : Fn) (n : Nat) (w : WorkRing) : (setWork f n w s).boot = s.boot := rfl
@[simp] theorem setWork_fuses (f : Fn) (n : Nat) (w : WorkRing) : (setWork f n w s).fuses = s.fuses := rfl
@[simp] theorem setWork_vault (f : Fn) (n : Nat) (w : WorkRing) : (setWork f n w s).vault = s.vault := rfl
@[simp] theorem setWork_eng (f : Fn) (n : Nat) (w : WorkRing) : (setWork f n w s).eng = s.eng := rfl
@[simp] theorem setWork_parts (f : Fn) (n : Nat) (w : WorkRing) : (setWork f n w s).parts = s.parts := rfl
@[simp] theorem setWork_mem (f : Fn) (n : Nat) (w : WorkRing) : (setWork f n w s).mem = s.mem := rfl
@[simp] theorem setWork_cores (f : Fn) (n : Nat) (w : WorkRing) : (setWork f n w s).cores = s.cores := rfl
@[simp] theorem setWork_desk (f : Fn) (n : Nat) (w : WorkRing) : (setWork f n w s).desk = s.desk := rfl
@[simp] theorem setWork_scrub (f : Fn) (n : Nat) (w : WorkRing) : (setWork f n w s).scrub = s.scrub := rfl
@[simp] theorem setWork_att (f : Fn) (n : Nat) (w : WorkRing) : (setWork f n w s).att = s.att := rfl
@[simp] theorem setWork_therm (f : Fn) (n : Nat) (w : WorkRing) : (setWork f n w s).therm = s.therm := rfl
@[simp] theorem setWork_twin (f : Fn) (n : Nat) (w : WorkRing) : (setWork f n w s).twin = s.twin := rfl
@[simp] theorem setWork_port (f : Fn) (n : Nat) (w : WorkRing) : (setWork f n w s).port = s.port := rfl
@[simp] theorem setWork_car (f : Fn) (n : Nat) (w : WorkRing) : (setWork f n w s).car = s.car := rfl
@[simp] theorem setWork_flash (f : Fn) (n : Nat) (w : WorkRing) : (setWork f n w s).flash = s.flash := rfl
@[simp] theorem setWork_mgmt (f : Fn) (n : Nat) (w : WorkRing) : (setWork f n w s).mgmt = s.mgmt := rfl
@[simp] theorem setWork_mail (f : Fn) (n : Nat) (w : WorkRing) : (setWork f n w s).mail = s.mail := rfl
@[simp] theorem setWork_tele (f : Fn) (n : Nat) (w : WorkRing) : (setWork f n w s).tele = s.tele := rfl
@[simp] theorem setWork_out (f : Fn) (n : Nat) (w : WorkRing) : (setWork f n w s).out = s.out := rfl
@[simp] theorem setWork_free (f : Fn) (n : Nat) (w : WorkRing) : (setWork f n w s).free = s.free := rfl
@[simp] theorem setWork_pending (f : Fn) (n : Nat) (w : WorkRing) : (setWork f n w s).pending = s.pending := rfl

@[simp] theorem setStack_aon (n : Nat) (x : Stack) : (setStack n x s).aon = s.aon := rfl
@[simp] theorem setStack_power (n : Nat) (x : Stack) : (setStack n x s).power = s.power := rfl
@[simp] theorem setStack_boot (n : Nat) (x : Stack) : (setStack n x s).boot = s.boot := rfl
@[simp] theorem setStack_fuses (n : Nat) (x : Stack) : (setStack n x s).fuses = s.fuses := rfl
@[simp] theorem setStack_vault (n : Nat) (x : Stack) : (setStack n x s).vault = s.vault := rfl
@[simp] theorem setStack_eng (n : Nat) (x : Stack) : (setStack n x s).eng = s.eng := rfl
@[simp] theorem setStack_parts (n : Nat) (x : Stack) : (setStack n x s).parts = s.parts := rfl
@[simp] theorem setStack_cores (n : Nat) (x : Stack) : (setStack n x s).cores = s.cores := rfl
@[simp] theorem setStack_q (n : Nat) (x : Stack) : (setStack n x s).q = s.q := rfl
@[simp] theorem setStack_desk (n : Nat) (x : Stack) : (setStack n x s).desk = s.desk := rfl
@[simp] theorem setStack_scrub (n : Nat) (x : Stack) : (setStack n x s).scrub = s.scrub := rfl
@[simp] theorem setStack_att (n : Nat) (x : Stack) : (setStack n x s).att = s.att := rfl
@[simp] theorem setStack_therm (n : Nat) (x : Stack) : (setStack n x s).therm = s.therm := rfl
@[simp] theorem setStack_twin (n : Nat) (x : Stack) : (setStack n x s).twin = s.twin := rfl
@[simp] theorem setStack_port (n : Nat) (x : Stack) : (setStack n x s).port = s.port := rfl
@[simp] theorem setStack_car (n : Nat) (x : Stack) : (setStack n x s).car = s.car := rfl
@[simp] theorem setStack_flash (n : Nat) (x : Stack) : (setStack n x s).flash = s.flash := rfl
@[simp] theorem setStack_mgmt (n : Nat) (x : Stack) : (setStack n x s).mgmt = s.mgmt := rfl
@[simp] theorem setStack_mail (n : Nat) (x : Stack) : (setStack n x s).mail = s.mail := rfl
@[simp] theorem setStack_tele (n : Nat) (x : Stack) : (setStack n x s).tele = s.tele := rfl
@[simp] theorem setStack_out (n : Nat) (x : Stack) : (setStack n x s).out = s.out := rfl
@[simp] theorem setStack_free (n : Nat) (x : Stack) : (setStack n x s).free = s.free := rfl
@[simp] theorem setStack_pending (n : Nat) (x : Stack) : (setStack n x s).pending = s.pending := rfl

@[simp] theorem setDom_aon (pd : Nat) (d : Dom) : (setDom pd d s).aon = s.aon := rfl
@[simp] theorem setDom_boot (pd : Nat) (d : Dom) : (setDom pd d s).boot = s.boot := rfl
@[simp] theorem setDom_fuses (pd : Nat) (d : Dom) : (setDom pd d s).fuses = s.fuses := rfl
@[simp] theorem setDom_vault (pd : Nat) (d : Dom) : (setDom pd d s).vault = s.vault := rfl
@[simp] theorem setDom_eng (pd : Nat) (d : Dom) : (setDom pd d s).eng = s.eng := rfl
@[simp] theorem setDom_parts (pd : Nat) (d : Dom) : (setDom pd d s).parts = s.parts := rfl
@[simp] theorem setDom_mem (pd : Nat) (d : Dom) : (setDom pd d s).mem = s.mem := rfl
@[simp] theorem setDom_cores (pd : Nat) (d : Dom) : (setDom pd d s).cores = s.cores := rfl
@[simp] theorem setDom_q (pd : Nat) (d : Dom) : (setDom pd d s).q = s.q := rfl
@[simp] theorem setDom_desk (pd : Nat) (d : Dom) : (setDom pd d s).desk = s.desk := rfl
@[simp] theorem setDom_scrub (pd : Nat) (d : Dom) : (setDom pd d s).scrub = s.scrub := rfl
@[simp] theorem setDom_att (pd : Nat) (d : Dom) : (setDom pd d s).att = s.att := rfl
@[simp] theorem setDom_therm (pd : Nat) (d : Dom) : (setDom pd d s).therm = s.therm := rfl
@[simp] theorem setDom_twin (pd : Nat) (d : Dom) : (setDom pd d s).twin = s.twin := rfl
@[simp] theorem setDom_port (pd : Nat) (d : Dom) : (setDom pd d s).port = s.port := rfl
@[simp] theorem setDom_car (pd : Nat) (d : Dom) : (setDom pd d s).car = s.car := rfl
@[simp] theorem setDom_flash (pd : Nat) (d : Dom) : (setDom pd d s).flash = s.flash := rfl
@[simp] theorem setDom_mgmt (pd : Nat) (d : Dom) : (setDom pd d s).mgmt = s.mgmt := rfl
@[simp] theorem setDom_mail (pd : Nat) (d : Dom) : (setDom pd d s).mail = s.mail := rfl
@[simp] theorem setDom_tele (pd : Nat) (d : Dom) : (setDom pd d s).tele = s.tele := rfl
@[simp] theorem setDom_out (pd : Nat) (d : Dom) : (setDom pd d s).out = s.out := rfl
@[simp] theorem setDom_free (pd : Nat) (d : Dom) : (setDom pd d s).free = s.free := rfl
@[simp] theorem setDom_pending (pd : Nat) (d : Dom) : (setDom pd d s).pending = s.pending := rfl

@[simp] theorem setSlot_aon (n : Nat) (x : Slot) : (setSlot n x s).aon = s.aon := rfl
@[simp] theorem setSlot_power (n : Nat) (x : Slot) : (setSlot n x s).power = s.power := rfl
@[simp] theorem setSlot_boot (n : Nat) (x : Slot) : (setSlot n x s).boot = s.boot := rfl
@[simp] theorem setSlot_fuses (n : Nat) (x : Slot) : (setSlot n x s).fuses = s.fuses := rfl
@[simp] theorem setSlot_eng (n : Nat) (x : Slot) : (setSlot n x s).eng = s.eng := rfl
@[simp] theorem setSlot_parts (n : Nat) (x : Slot) : (setSlot n x s).parts = s.parts := rfl
@[simp] theorem setSlot_mem (n : Nat) (x : Slot) : (setSlot n x s).mem = s.mem := rfl
@[simp] theorem setSlot_cores (n : Nat) (x : Slot) : (setSlot n x s).cores = s.cores := rfl
@[simp] theorem setSlot_q (n : Nat) (x : Slot) : (setSlot n x s).q = s.q := rfl
@[simp] theorem setSlot_desk (n : Nat) (x : Slot) : (setSlot n x s).desk = s.desk := rfl
@[simp] theorem setSlot_scrub (n : Nat) (x : Slot) : (setSlot n x s).scrub = s.scrub := rfl
@[simp] theorem setSlot_att (n : Nat) (x : Slot) : (setSlot n x s).att = s.att := rfl
@[simp] theorem setSlot_therm (n : Nat) (x : Slot) : (setSlot n x s).therm = s.therm := rfl
@[simp] theorem setSlot_twin (n : Nat) (x : Slot) : (setSlot n x s).twin = s.twin := rfl
@[simp] theorem setSlot_port (n : Nat) (x : Slot) : (setSlot n x s).port = s.port := rfl
@[simp] theorem setSlot_car (n : Nat) (x : Slot) : (setSlot n x s).car = s.car := rfl
@[simp] theorem setSlot_flash (n : Nat) (x : Slot) : (setSlot n x s).flash = s.flash := rfl
@[simp] theorem setSlot_mgmt (n : Nat) (x : Slot) : (setSlot n x s).mgmt = s.mgmt := rfl
@[simp] theorem setSlot_mail (n : Nat) (x : Slot) : (setSlot n x s).mail = s.mail := rfl
@[simp] theorem setSlot_tele (n : Nat) (x : Slot) : (setSlot n x s).tele = s.tele := rfl
@[simp] theorem setSlot_out (n : Nat) (x : Slot) : (setSlot n x s).out = s.out := rfl
@[simp] theorem setSlot_free (n : Nat) (x : Slot) : (setSlot n x s).free = s.free := rfl
@[simp] theorem setSlot_pending (n : Nat) (x : Slot) : (setSlot n x s).pending = s.pending := rfl

@[simp] theorem modMgmt_aon (f : Mgmt → Mgmt) : (modMgmt f s).aon = s.aon := rfl
@[simp] theorem modMgmt_power (f : Mgmt → Mgmt) : (modMgmt f s).power = s.power := rfl
@[simp] theorem modMgmt_boot (f : Mgmt → Mgmt) : (modMgmt f s).boot = s.boot := rfl
@[simp] theorem modMgmt_fuses (f : Mgmt → Mgmt) : (modMgmt f s).fuses = s.fuses := rfl
@[simp] theorem modMgmt_vault (f : Mgmt → Mgmt) : (modMgmt f s).vault = s.vault := rfl
@[simp] theorem modMgmt_eng (f : Mgmt → Mgmt) : (modMgmt f s).eng = s.eng := rfl
@[simp] theorem modMgmt_parts (f : Mgmt → Mgmt) : (modMgmt f s).parts = s.parts := rfl
@[simp] theorem modMgmt_mem (f : Mgmt → Mgmt) : (modMgmt f s).mem = s.mem := rfl
@[simp] theorem modMgmt_cores (f : Mgmt → Mgmt) : (modMgmt f s).cores = s.cores := rfl
@[simp] theorem modMgmt_q (f : Mgmt → Mgmt) : (modMgmt f s).q = s.q := rfl
@[simp] theorem modMgmt_desk (f : Mgmt → Mgmt) : (modMgmt f s).desk = s.desk := rfl
@[simp] theorem modMgmt_scrub (f : Mgmt → Mgmt) : (modMgmt f s).scrub = s.scrub := rfl
@[simp] theorem modMgmt_att (f : Mgmt → Mgmt) : (modMgmt f s).att = s.att := rfl
@[simp] theorem modMgmt_therm (f : Mgmt → Mgmt) : (modMgmt f s).therm = s.therm := rfl
@[simp] theorem modMgmt_twin (f : Mgmt → Mgmt) : (modMgmt f s).twin = s.twin := rfl
@[simp] theorem modMgmt_port (f : Mgmt → Mgmt) : (modMgmt f s).port = s.port := rfl
@[simp] theorem modMgmt_car (f : Mgmt → Mgmt) : (modMgmt f s).car = s.car := rfl
@[simp] theorem modMgmt_flash (f : Mgmt → Mgmt) : (modMgmt f s).flash = s.flash := rfl
@[simp] theorem modMgmt_mail (f : Mgmt → Mgmt) : (modMgmt f s).mail = s.mail := rfl
@[simp] theorem modMgmt_tele (f : Mgmt → Mgmt) : (modMgmt f s).tele = s.tele := rfl
@[simp] theorem modMgmt_out (f : Mgmt → Mgmt) : (modMgmt f s).out = s.out := rfl
@[simp] theorem modMgmt_free (f : Mgmt → Mgmt) : (modMgmt f s).free = s.free := rfl
@[simp] theorem modMgmt_pending (f : Mgmt → Mgmt) : (modMgmt f s).pending = s.pending := rfl

@[simp] theorem useFree_aon : ((useFree s).2).aon = s.aon := rfl
@[simp] theorem useFree_power : ((useFree s).2).power = s.power := rfl
@[simp] theorem useFree_boot : ((useFree s).2).boot = s.boot := rfl
@[simp] theorem useFree_fuses : ((useFree s).2).fuses = s.fuses := rfl
@[simp] theorem useFree_vault : ((useFree s).2).vault = s.vault := rfl
@[simp] theorem useFree_eng : ((useFree s).2).eng = s.eng := rfl
@[simp] theorem useFree_parts : ((useFree s).2).parts = s.parts := rfl
@[simp] theorem useFree_mem : ((useFree s).2).mem = s.mem := rfl
@[simp] theorem useFree_cores : ((useFree s).2).cores = s.cores := rfl
@[simp] theorem useFree_q : ((useFree s).2).q = s.q := rfl
@[simp] theorem useFree_desk : ((useFree s).2).desk = s.desk := rfl
@[simp] theorem useFree_scrub : ((useFree s).2).scrub = s.scrub := rfl
@[simp] theorem useFree_att : ((useFree s).2).att = s.att := rfl
@[simp] theorem useFree_therm : ((useFree s).2).therm = s.therm := rfl
@[simp] theorem useFree_twin : ((useFree s).2).twin = s.twin := rfl
@[simp] theorem useFree_port : ((useFree s).2).port = s.port := rfl
@[simp] theorem useFree_car : ((useFree s).2).car = s.car := rfl
@[simp] theorem useFree_flash : ((useFree s).2).flash = s.flash := rfl
@[simp] theorem useFree_mgmt : ((useFree s).2).mgmt = s.mgmt := rfl
@[simp] theorem useFree_mail : ((useFree s).2).mail = s.mail := rfl
@[simp] theorem useFree_tele : ((useFree s).2).tele = s.tele := rfl
@[simp] theorem useFree_out : ((useFree s).2).out = s.out := rfl
@[simp] theorem useFree_pending : ((useFree s).2).pending = s.pending := rfl

@[simp] theorem emit_out (o : Out) : (emit o s).out = o :: s.out := rfl
@[simp] theorem useFree_free : (useFree s).2.free = s.free + 1 := rfl
@[simp] theorem useFree_index : (useFree s).1 = s.free := rfl
@[simp] theorem modMgmt_mgmt (f : Mgmt → Mgmt) : (modMgmt f s).mgmt = f s.mgmt := rfl
@[simp] theorem setPart_parts (p : Nat) (x : Partition) : (setPart p x s).parts.parts = mput s.parts.parts p x := rfl
@[simp] theorem modPart_parts (p : Nat) (f : Partition → Partition) : (modPart p f s).parts.parts = mupd s.parts.parts p f := rfl
@[simp] theorem setCore_core (c : Nat) (x : Core) : core (setCore c x s) c = x := by simp [core, setCore]
@[simp] theorem modCore_core (c : Nat) (f : Core → Core) : core (modCore c f s) c = f (core s c) := by simp [modCore]
@[simp] theorem setRegs_fnRegs (f : Fn) (r : FnRegs) : fnRegs (setRegs f r s) f = r := by simp [fnRegs, setRegs]
@[simp] theorem modRegs_fnRegs (f : Fn) (g : FnRegs → FnRegs) : fnRegs (modRegs f g s) f = g (fnRegs s f) := by simp [modRegs]
@[simp] theorem setStack_stackOf (n : Nat) (x : Stack) : stackOf (setStack n x s) n = x := by simp [stackOf, setStack]
@[simp] theorem setDom_domOf (n : Nat) (d : Dom) : domOf (setDom n d s) n = d := by simp [domOf, setDom]
@[simp] theorem setSlot_slot (n : Nat) (x : Slot) : slot (setSlot n x s) n = x := by simp [slot, setSlot]

theorem setCore_core_other {c k : Nat} (x : Core) (h : c ≠ k) : core (setCore c x s) k = core s k :=
  mgetD_mset_other _ _ _ h
theorem modCore_core_other {c k : Nat} (f : Core → Core) (h : c ≠ k) : core (modCore c f s) k = core s k :=
  setCore_core_other s _ h
theorem setRegs_fnRegs_other {f g : Fn} (r : FnRegs) (h : fnKey f ≠ fnKey g) : fnRegs (setRegs f r s) g = fnRegs s g :=
  mgetD_mset_other _ _ _ h
theorem setStack_stackOf_other {n k : Nat} (x : Stack) (h : n ≠ k) : stackOf (setStack n x s) k = stackOf s k :=
  mgetD_mset_other _ _ _ h
theorem setDom_domOf_other {n k : Nat} (d : Dom) (h : n ≠ k) : domOf (setDom n d s) k = domOf s k :=
  mgetD_mset_other _ _ _ h
theorem setSlot_slot_other {n k : Nat} (x : Slot) (h : n ≠ k) : slot (setSlot n x s) k = slot s k :=
  mgetD_mset_other _ _ _ h

end Sys2Proof.Machine
end

