-- ==== Sys2Proof/Laws/Done.lean ====
section
/-! SUPPORT. What the end of a command does: only the generations of R338 change beside the command's effect, and the
queue is the one the command was handed. -/

namespace Sys2Proof.Machine

variable (s t : State)

/-- `settle` either answers its second state or counts the generations of it. -/
theorem settle_cases : settle s t = t ∨
    ∃ g vs, settle s t = { t with att := { t.att with gen := g, views := vs } } := by
  unfold settle
  split
  · exact .inl rfl
  · exact .inr ⟨_, _, rfl⟩

@[simp] theorem after_aon : (after s t).aon = t.aon := by
  rcases settle_cases s t with h | ⟨_, _, h⟩ <;> simp [after, h]
@[simp] theorem after_power : (after s t).power = t.power := by
  rcases settle_cases s t with h | ⟨_, _, h⟩ <;> simp [after, h]
@[simp] theorem after_boot : (after s t).boot = t.boot := by
  rcases settle_cases s t with h | ⟨_, _, h⟩ <;> simp [after, h]
@[simp] theorem after_fuses : (after s t).fuses = t.fuses := by
  rcases settle_cases s t with h | ⟨_, _, h⟩ <;> simp [after, h]
@[simp] theorem after_vault : (after s t).vault = t.vault := by
  rcases settle_cases s t with h | ⟨_, _, h⟩ <;> simp [after, h]
@[simp] theorem after_eng : (after s t).eng = t.eng := by
  rcases settle_cases s t with h | ⟨_, _, h⟩ <;> simp [after, h]
@[simp] theorem after_parts : (after s t).parts = t.parts := by
  rcases settle_cases s t with h | ⟨_, _, h⟩ <;> simp [after, h]
@[simp] theorem after_mem : (after s t).mem = t.mem := by
  rcases settle_cases s t with h | ⟨_, _, h⟩ <;> simp [after, h]
@[simp] theorem after_cores : (after s t).cores = t.cores := by
  rcases settle_cases s t with h | ⟨_, _, h⟩ <;> simp [after, h]
@[simp] theorem after_q : (after s t).q = t.q := by
  rcases settle_cases s t with h | ⟨_, _, h⟩ <;> simp [after, h]
@[simp] theorem after_desk : (after s t).desk = t.desk := by
  rcases settle_cases s t with h | ⟨_, _, h⟩ <;> simp [after, h]
@[simp] theorem after_scrub : (after s t).scrub = t.scrub := by
  rcases settle_cases s t with h | ⟨_, _, h⟩ <;> simp [after, h]
@[simp] theorem after_therm : (after s t).therm = t.therm := by
  rcases settle_cases s t with h | ⟨_, _, h⟩ <;> simp [after, h]
@[simp] theorem after_twin : (after s t).twin = t.twin := by
  rcases settle_cases s t with h | ⟨_, _, h⟩ <;> simp [after, h]
@[simp] theorem after_port : (after s t).port = t.port := by
  rcases settle_cases s t with h | ⟨_, _, h⟩ <;> simp [after, h]
@[simp] theorem after_car : (after s t).car = t.car := by
  rcases settle_cases s t with h | ⟨_, _, h⟩ <;> simp [after, h]
@[simp] theorem after_flash : (after s t).flash = t.flash := by
  rcases settle_cases s t with h | ⟨_, _, h⟩ <;> simp [after, h]
@[simp] theorem after_mgmt : (after s t).mgmt = t.mgmt := by
  rcases settle_cases s t with h | ⟨_, _, h⟩ <;> simp [after, h]
@[simp] theorem after_mail : (after s t).mail = t.mail := by
  rcases settle_cases s t with h | ⟨_, _, h⟩ <;> simp [after, h]
@[simp] theorem after_tele : (after s t).tele = t.tele := by
  rcases settle_cases s t with h | ⟨_, _, h⟩ <;> simp [after, h]
@[simp] theorem after_out : (after s t).out = t.out := by
  rcases settle_cases s t with h | ⟨_, _, h⟩ <;> simp [after, h]
@[simp] theorem after_free : (after s t).free = t.free := by
  rcases settle_cases s t with h | ⟨_, _, h⟩ <;> simp [after, h]
@[simp] theorem after_att_measValid : (after s t).att.measValid = t.att.measValid := by
  rcases settle_cases s t with h | ⟨_, _, h⟩ <;> simp [after, h]
@[simp] theorem after_att_certs : (after s t).att.certs = t.att.certs := by
  rcases settle_cases s t with h | ⟨_, _, h⟩ <;> simp [after, h]
@[simp] theorem after_att_idChain : (after s t).att.idChain = t.att.idChain := by
  rcases settle_cases s t with h | ⟨_, _, h⟩ <;> simp [after, h]
@[simp] theorem after_att_idDual : (after s t).att.idDual = t.att.idDual := by
  rcases settle_cases s t with h | ⟨_, _, h⟩ <;> simp [after, h]
@[simp] theorem after_att_kept : (after s t).att.kept = t.att.kept := by
  rcases settle_cases s t with h | ⟨_, _, h⟩ <;> simp [after, h]
@[simp] theorem after_att_sessions : (after s t).att.sessions = t.att.sessions := by
  rcases settle_cases s t with h | ⟨_, _, h⟩ <;> simp [after, h]
@[simp] theorem after_att_order : (after s t).att.order = t.att.order := by
  rcases settle_cases s t with h | ⟨_, _, h⟩ <;> simp [after, h]
@[simp] theorem after_att_spdm : (after s t).att.spdm = t.att.spdm := by
  rcases settle_cases s t with h | ⟨_, _, h⟩ <;> simp [after, h]
@[simp] theorem after_att_round : (after s t).att.round = t.att.round := by
  rcases settle_cases s t with h | ⟨_, _, h⟩ <;> simp [after, h]
@[simp] theorem after_att_periodic : (after s t).att.periodic = t.att.periodic := by
  rcases settle_cases s t with h | ⟨_, _, h⟩ <;> simp [after, h]
@[simp] theorem after_att_highRound : (after s t).att.highRound = t.att.highRound := by
  rcases settle_cases s t with h | ⟨_, _, h⟩ <;> simp [after, h]
@[simp] theorem after_att_rollup : (after s t).att.rollup = t.att.rollup := by
  rcases settle_cases s t with h | ⟨_, _, h⟩ <;> simp [after, h]
@[simp] theorem after_att_records : (after s t).att.records = t.att.records := by
  rcases settle_cases s t with h | ⟨_, _, h⟩ <;> simp [after, h]
@[simp] theorem after_att_fetching : (after s t).att.fetching = t.att.fetching := by
  rcases settle_cases s t with h | ⟨_, _, h⟩ <;> simp [after, h]

@[simp] theorem after_pending : (after s t).pending = s.pending := rfl

theorem done_eq : done s t = .next (after s t) := rfl

/-- What the end of a command keeps: whatever its effect keeps, the generations apart. -/
theorem keeps_after {ch : List Piece} (h : ∀ p, p ∉ ch → Same s t p) : Keeps (.gens :: ch) s (after s t) := by
  refine ⟨rfl, fun p hp => ?_⟩
  have hg : p ≠ .gens := fun e => hp (by simp [e])
  have hs := h p (fun e => hp (List.mem_cons_of_mem _ e))
  cases p
  case att =>
    rcases settle_cases s t with h | ⟨_, _, h⟩
    · simpa [Same, after, h] using hs
    · simpa [Same, after, h] using hs
  case gens => exact absurd rfl hg
  all_goals simpa [Same] using hs

theorem keeps_trans {ch : List Piece} {s t u : State} (h : Keeps ch s t) (k : Keeps ch t u) : Keeps ch s u := by
  refine ⟨k.1.trans h.1, fun p hp => ?_⟩
  have a := h.2 p hp
  have b := k.2 p hp
  cases p <;> simp only [Same] at a b ⊢ <;> first | exact b.trans a | exact ⟨b.1.trans a.1, b.2.trans a.2⟩

theorem keeps_refl (ch : List Piece) (s : State) : Keeps ch s s := ⟨rfl, fun p _ => by cases p <;> simp [Same]⟩

theorem keeps_mono {a b : List Piece} {s t : State} (h : Keeps a s t) (hab : ∀ p ∈ a, p ∈ b) : Keeps b s t :=
  ⟨h.1, fun p hp => h.2 p (fun q => hp (hab p q))⟩

end Sys2Proof.Machine
end

