-- ==== Sys2Proof/Laws/Envelope.lean ====
section
/-! SUPPORT. What serving an envelope can do: an envelope that its checks shut out leaves the state they answer, and one
they let through ends with its opcode's own answer. -/

namespace Sys2Proof.Machine

variable {sp : OpSpec} {e : Env} {s t : State} {body : State → State × Ans}

/-- An envelope that its checks let through runs its opcode's body. -/
theorem serve_open {q : Option (BitVec 64)} (h : gate sp e s = .open_ t q) : serve sp e body s = conclude sp e q (body t) := by
  simp only [serve, h]

/-- An envelope that a check shuts out changes nothing but what that check answers. -/
theorem serve_shut (h : gate sp e s = .shut t) : serve sp e body s = t := by
  simp only [serve, h]

/-- Serving an envelope ends in one of the two. -/
theorem serve_cases : (∃ t, gate sp e s = .shut t ∧ serve sp e body s = t) ∨
    ∃ t q, gate sp e s = .open_ t q ∧ serve sp e body s = conclude sp e q (body t) := by
  cases h : gate sp e s with
  | shut t => exact .inl ⟨t, rfl, serve_shut h⟩
  | open_ t q => exact .inr ⟨t, q, rfl, serve_open h⟩

/-- A device in no state to serve envelopes leaves one unanswered. -/
theorem serve_silent (h : serves s = false) : serve sp e body s = s := by
  apply serve_shut
  simp [gate, h]

/-- An answer that waits leaves the state of the body. -/
theorem conclude_wait {q : Option (BitVec 64)} {a : Ans} (h : a.wait = true) : conclude sp e q (t, a) = t := by
  simp [conclude, h]

/-- A body whose payload checks pass runs. -/
theorem checked_pass {cs : List Chk} {k : State × Ans} (h : payFault cs = none) : checked cs s k = k := by
  simp only [checked, h]

/-- A payload fault is the answer, and nothing changes. -/
theorem checked_fault {cs : List Chk} {k : State × Ans} {a : Ans} (h : payFault cs = some a) : checked cs s k = (s, a) := by
  simp only [checked, h]

/-- A payload is faulted exactly where some check of it fails. -/
theorem payFault_none {cs : List Chk} : payFault cs = none ↔ ∀ c ∈ cs, c.2 = true := by
  induction cs with
  | nil => simp [payFault]
  | cons c cs ih => obtain ⟨o, b⟩ := c; cases b <;> simp [payFault, ih]

/-- A payload fault is MALFORMED. -/
theorem payFault_some {cs : List Chk} {a : Ans} (h : payFault cs = some a) : ∃ o, (o, false) ∈ cs ∧ a = Ans.malformed (payOff o) := by
  induction cs with
  | nil => simp [payFault] at h
  | cons c cs ih =>
    obtain ⟨o, b⟩ := c
    cases b
    · exact ⟨o, by simp, by simpa [payFault] using h.symm⟩
    · obtain ⟨p, hp, ha⟩ := ih (by simpa [payFault] using h)
      exact ⟨p, by simp [hp], ha⟩

end Sys2Proof.Machine
end

