-- ==== Sys2Proof/Laws/Frames.lean ====
section
/-! SUPPORT. Frames on the wire: sealing and opening are inverse under one key, label and COUNTER, and what a port does
with a frame its peer sealed for it. -/

namespace Sys2Proof.Machine

/-- The key stream is its own inverse. -/
@[simp] theorem gcmXor_gcmXor (k : BitVec 256) (iv : BitVec 96) (b : Bytes) : gcmXor k iv (gcmXor k iv b) = b := by
  apply List.ext_getElem (by simp [gcmXor])
  intro i h1 h2
  simp [gcmXor]

@[simp] theorem gcmXor_length (k : BitVec 256) (iv : BitVec 96) (b : Bytes) : (gcmXor k iv b).length = b.length := by
  simp [gcmXor]

/-- The tag of a sealed frame covers its header and ciphertext, so its receiver reads the frame that was sealed. -/
@[simp] theorem openFrame_sealFrame (k : Digest) (label : String) (c : BitVec 64) (f : Frame) :
    openFrame k label (sealFrame k label c f) = some f := by
  have h (w : WireFrame) (t : BitVec 128) : frameHeader { w with tag := t } = frameHeader w := rfl
  simp [openFrame, sealFrame, frameHeader]

/-- A frame for this device that its peer sealed under the active key and the expected COUNTER is handed on, after the
COUNTER has advanced and, but for an acknowledgement, been acknowledged (R247, R248). -/
theorem receiveFrame_sealed {port : Option Nat} {s : State} {k : KeyCopy} {f : Frame} (hk : portKeys s port = some k)
    (ho : portShut s port = false) (ht : f.ftype ≠ 5) (hl : f.payload.length ≤ 1024)
    (hc : (wireOf s port).cipher.rxCount.toNat < counterLimit)
    (hme : ∀ n, port = some n → f.dst.toNat = myPost s ∨ f.cls = 0) :
    receiveFrame port (sealFrame k.active (rxLabel s port false) (wireOf s port).cipher.rxCount f) s =
      let t := modCipher port (fun x => { x with rxCount := x.rxCount + 1 }) s
      (if isAck f then t else sendAck port (wireOf t port).cipher.rxCount (if f.cls = 0 then [] else [(f.cls, f.hops)]) t, some f) := by
  set w := sealFrame k.active (rxLabel s port false) (wireOf s port).cipher.rxCount f with hw
  have e1 : w.ftype = f.ftype := rfl
  have e2 : w.counter = (wireOf s port).cipher.rxCount := rfl
  have e3 : w.length.toNat = w.cipher.length ∧ w.cipher.length ≤ 1024 := by
    have : w.cipher.length = f.payload.length := by simp [hw, sealFrame]
    refine ⟨?_, by omega⟩
    rw [this, hw]
    simp only [sealFrame, BitVec.toNat_ofNat]
    omega
  have e4 : openFrame k.active (rxLabel s port false) w = some f := by simp [hw]
  have e5 : ¬ counterLimit ≤ (wireOf s port).cipher.rxCount.toNat := by omega
  have e6 : (match (generalizing := false) port with
      | some _ => f.dst.toNat == myPost s || f.cls == 0
      | none => true) = true := by
    cases port with
    | none => rfl
    | some n => rcases hme n rfl with h | h <;> simp [h]
  simp only [receiveFrame, hk, ho, e1, ht, e2, e3, e4, e5, if_true, if_false, or_self, and_self, decide_true, Bool.false_eq_true]
  exact if_pos e6

/-! ### Device links -/

@[simp] theorem linkOf_modLink (n : Nat) (f : Link → Link) (s : State) : linkOf (modLink n f s) n = f (linkOf s n) := by
  simp [linkOf, modLink, setLink]

theorem linkOf_modLink_other {n i : Nat} (h : n ≠ i) (f : Link → Link) (s : State) : linkOf (modLink n f s) i = linkOf s i := by
  simp [linkOf, modLink, setLink, mgetD_mset_other _ _ _ h]

/-- States that differ at most in one link's frames, COUNTERs aside, and in what left the device. -/
structure FramesOnly (n : Nat) (s t : State) : Prop where
  rest  : ∃ ls o, t = { s with car := { s.car with links := ls }, out := o }
  link  : ∃ w, linkOf t n = { linkOf s n with wire := w }
  other : ∀ i, i ≠ n → linkOf t i = linkOf s i

theorem FramesOnly.rfl_ (n : Nat) (s : State) : FramesOnly n s s := ⟨⟨_, _, rfl⟩, ⟨_, rfl⟩, fun _ _ => rfl⟩

theorem FramesOnly.trans {n : Nat} {s t u : State} (h : FramesOnly n s t) (g : FramesOnly n t u) : FramesOnly n s u := by
  obtain ⟨_, _, rfl⟩ := h.rest
  obtain ⟨_, _, rfl⟩ := g.rest
  obtain ⟨_, e⟩ := h.link
  obtain ⟨_, e'⟩ := g.link
  exact ⟨⟨_, _, rfl⟩, ⟨_, e'.trans (by rw [e])⟩, fun i hi => (g.other i hi).trans (h.other i hi)⟩

theorem framesOnly_modWire (n : Nat) (f : Wire → Wire) (s : State) : FramesOnly n s (modWire (some n) f s) :=
  ⟨⟨_, _, rfl⟩, ⟨_, linkOf_modLink ..⟩, fun _ hi => linkOf_modLink_other (Ne.symm hi) ..⟩

theorem wireOf_modWire (n : Nat) (f : Wire → Wire) (s : State) : wireOf (modWire (some n) f s) (some n) = f (wireOf s (some n)) := by
  show (linkOf (modLink n _ s) n).wire = _
  rw [linkOf_modLink]
  rfl

theorem wireOf_emit (o : Out) (p : Option Nat) (s : State) : wireOf (emit o s) p = wireOf s p := by cases p <;> rfl

/-- Sending a frame on a link changes its wire alone, and no COUNTER of what it receives. -/
theorem framesOnly_sendNow (n : Nat) (f : Frame) (s : State) :
    FramesOnly n s (sendNow (some n) f s) ∧
      (wireOf (sendNow (some n) f s) (some n)).cipher.rxCount = (wireOf s (some n)).cipher.rxCount := by
  unfold sendNow
  split
  · exact ⟨.rfl_ n s, rfl⟩
  · refine ⟨(framesOnly_modWire n _ s).trans ⟨⟨_, _, rfl⟩, ⟨_, rfl⟩, fun _ _ => rfl⟩, ?_⟩
    simp only [wireOf_emit, wireOf_modWire]

/-- The frames a peer seals one after the other for a device, as the link gives them over. -/
def sealAll (n : Nat) (k : Digest) : List Frame → State → List WireFrame
  | [], _ => []
  | f :: fs, s =>
    let w := sealFrame k (rxLabel s (some n) false) (wireOf s (some n)).cipher.rxCount f
    w :: sealAll n k fs (receiveFrame (some n) w s).1

/-- What the frames for this device of one such message must be. -/
def forMe (s : State) (f : Frame) : Prop := f.ftype ≠ 5 ∧ f.payload.length ≤ 1024 ∧ (f.dst.toNat = myPost s ∨ f.cls = 0)

/-- Receiving them changes the link's frames alone and hands every one of them on. -/
theorem receive_sealAll {n : Nat} {k : KeyCopy} (fs : List Frame) : ∀ (s : State) (got : List Frame),
    portKeys s (some n) = some k → portShut s (some n) = false →
    (wireOf s (some n)).cipher.rxCount.toNat + fs.length ≤ counterLimit → (∀ f ∈ fs, forMe s f) →
    ∃ u, (sealAll n k.active fs s).foldl (fun (a : State × List Frame) w =>
        let x := receiveFrame (some n) w a.1
        (x.1, a.2 ++ x.2.toList)) (s, got) = (u, got ++ fs) ∧ FramesOnly n s u := by
  induction fs with
  | nil => exact fun s got _ _ _ _ => ⟨s, by simp [sealAll], .rfl_ n s⟩
  | cons f fs ih =>
    intro s got hk ho hc hf
    obtain ⟨h1, h2, h3⟩ := hf f (by simp)
    have r := receiveFrame_sealed hk ho h1 h2 (by simp only [List.length_cons] at hc; omega)
      (fun i hi => by rcases Option.some.inj hi; exact h3)
    obtain ⟨t, e, ft, ct⟩ : ∃ t, receiveFrame (some n) (sealFrame k.active (rxLabel s (some n) false)
        (wireOf s (some n)).cipher.rxCount f) s = (t, some f) ∧ FramesOnly n s t ∧
        (wireOf t (some n)).cipher.rxCount = (wireOf s (some n)).cipher.rxCount + 1 := by
      have m := framesOnly_modWire n (fun w => { w with cipher := { w.cipher with rxCount := w.cipher.rxCount + 1 } }) s
      have c : (wireOf (modCipher (some n) (fun x => { x with rxCount := x.rxCount + 1 }) s) (some n)).cipher.rxCount =
          (wireOf s (some n)).cipher.rxCount + 1 := by
        show (wireOf (modWire (some n) _ s) (some n)).cipher.rxCount = _
        rw [wireOf_modWire]
      refine ⟨_, r, ?_⟩
      split
      · exact ⟨m, c⟩
      · exact ⟨m.trans (framesOnly_sendNow ..).1, ((framesOnly_sendNow ..).2).trans c⟩
    have hc' : (wireOf t (some n)).cipher.rxCount.toNat + fs.length ≤ counterLimit := by
      have one : ((1 : BitVec 64)).toNat = 1 := rfl
      have := Nat.mod_le ((wireOf s (some n)).cipher.rxCount.toNat + 1) (2 ^ 64)
      rw [ct, BitVec.toNat_add, one]
      simp only [List.length_cons] at hc
      omega
    obtain ⟨ls, o, ht⟩ := ft.rest
    obtain ⟨u, e', fu⟩ := ih t (got ++ [f]) (by rw [ht]; exact hk) (by rw [ht]; exact ho) hc'
      (fun g hg => by rw [ht]; exact hf g (by simp [hg]))
    refine ⟨u, ?_, ft.trans fu⟩
    simp only [sealAll, List.foldl_cons, e, Option.toList_some]
    simpa using e'

/-- The payloads of a message's fragments join to its bytes, once they are all there in order. -/
theorem receiveAll_sealAll {n msg : Nat} {k : KeyCopy} {ok : Frame → Bool} {s : State} (f : Frame) (fs : List Frame)
    (hk : portKeys s (some n) = some k) (ho : portShut s (some n) = false)
    (hc : (wireOf s (some n)).cipher.rxCount.toNat + (fs.length + 1) ≤ counterLimit) (hf : ∀ g ∈ f :: fs, forMe s g)
    (hg : (f :: fs).zipIdx.all (fun e => ok e.1 && byteAt e.1.payload 0 == BitVec.ofNat 8 msg &&
      byteAt e.1.payload 1 == BitVec.ofNat 8 e.2 && byteAt e.1.payload 2 == BitVec.ofNat 8 (fs.length + 1)) = true) :
    ∃ u, receiveAll (some n) msg ok (sealAll n k.active (f :: fs) s) s =
      (u, some (f, cat ((f :: fs).map (fun x => x.payload.drop 4)))) ∧ FramesOnly n s u := by
  obtain ⟨u, e, h⟩ := receive_sealAll (f :: fs) s [] hk ho hc hf
  have hl : ∀ (gs : List Frame) (t : State), (sealAll n k.active gs t).length = gs.length := by
    intro gs
    induction gs with
    | nil => intro t; rfl
    | cons g gs ih => intro t; simp [sealAll, ih]
  refine ⟨u, ?_, h⟩
  unfold receiveAll
  rw [e]
  simp only [List.nil_append, List.length_cons]
  rw [hg, hl]
  simp

/-! ### Messages in fragments -/

theorem cat_slices (b : Bytes) (n : Nat) : cat ((List.range n).map (fun i => slice b (1020 * i) 1020)) = b.take (1020 * n) := by
  induction n with
  | zero => simp [cat]
  | succ n ih =>
    rw [List.range_succ, List.map_append, cat, List.flatten_append, ← cat, ih, Nat.mul_succ, List.take_add]
    simp [slice]

/-- The fragments of a message, behind their four header bytes, are the message. -/
theorem cat_fragments (msg : Nat) (b : Bytes) : cat ((fragments msg b).map (fun p => p.drop 4)) = b := by
  have h : (fragments msg b).map (fun p => p.drop 4) =
      (List.range (max 1 (ceilDiv b.length 1020))).map (fun i => slice b (1020 * i) 1020) := by
    simp [fragments, Function.comp_def]
  rw [h, cat_slices, List.take_of_length_le]
  simp only [ceilDiv]
  omega

/-- A control message a peer seals for this device, fragment by fragment, is received whole. -/
theorem receiveAll_message {n : Nat} {k : KeyCopy} {s : State} (hd : Frame) (msg : Nat) (b : Bytes)
    (hk : portKeys s (some n) = some k) (ho : portShut s (some n) = false)
    (hc : (wireOf s (some n)).cipher.rxCount.toNat + max 1 (ceilDiv b.length 1020) ≤ counterLimit)
    (ht : hd.ftype = 4) (hp : hd.dst.toNat = myPost s ∨ hd.cls = 0) (hm : msg < 256) :
    let fs := (fragments msg b).map (fun p => { hd with payload := p })
    ∃ u f, receiveAll (some n) msg (isCtl hd.channel.toNat msg) (sealAll n k.active fs s) s = (u, some (f, b)) ∧
      FramesOnly n s u ∧ f.src = hd.src := by
  intro fs
  have hl : fs.length = max 1 (ceilDiv b.length 1020) := by simp [fs, fragments]
  have hb : cat (fs.map (fun x => x.payload.drop 4)) = b := by
    have : fs.map (fun x => x.payload.drop 4) = (fragments msg b).map (fun p => p.drop 4) := by simp [fs, Function.comp_def]
    rw [this, cat_fragments]
  have hi : ∀ i (h : i < fs.length), fs[i] =
      { hd with payload := ([BitVec.ofNat 8 msg, BitVec.ofNat 8 i, BitVec.ofNat 8 fs.length, 0] ++ slice b (1020 * i) 1020 : Bytes) } := by
    intro i h
    simp [fs, fragments]
  have hf : ∀ g ∈ fs, forMe s g := by
    intro g hg
    obtain ⟨i, h, rfl⟩ := List.getElem_of_mem hg
    rw [hi i h]
    refine ⟨by simp [ht], ?_, hp⟩
    simp [slice]
    omega
  have hz : fs.zipIdx.all (fun e => isCtl hd.channel.toNat msg e.1 && byteAt e.1.payload 0 == BitVec.ofNat 8 msg &&
      byteAt e.1.payload 1 == BitVec.ofNat 8 e.2 && byteAt e.1.payload 2 == BitVec.ofNat 8 fs.length) = true := by
    rw [List.all_eq_true]
    intro e he
    obtain ⟨i, h, rfl⟩ := List.getElem_of_mem he
    simp only [List.getElem_zipIdx, Nat.zero_add]
    rw [hi i (by simpa using h)]
    simp [isCtl, byteAt, ht, Nat.mod_eq_of_lt hm]
  revert hl hb hi hf hz
  generalize fs = gs
  intro hl hb hi hf hz
  match gs with
  | [] => simp at hl; omega
  | f :: gs =>
    obtain ⟨u, e, h⟩ := receiveAll_sealAll (k := k) f gs hk ho (by simp only [List.length_cons] at hl; omega) hf
      (by simpa using hz)
    rw [hb] at e
    refine ⟨u, f, e, h, ?_⟩
    have := hi 0 (by simp)
    simp only [List.getElem_cons_zero] at this
    rw [this]

end Sys2Proof.Machine
end

