-- ==== Sys2Proof/Tests/Slice0.lean ====
section
/-! SUPPORT. Tests: what the well-formedness check refuses, results written out in the spec, and for every statement with
hypotheses states and operands that meet them. -/

namespace Tests

open Sys2Proof Sys2Proof.Machine

/-! ### States and envelopes to test on -/

/-- A slot that holds a management credential. -/
def cred : Slot := { Slot.empty with attr := 0x00001008000A2082#64, active := 5 }

/-- A window of two units on stack 0, readable and writable. -/
def win : Window := { base := 4, size := 2, stack := 0, access := 3, ctx := 255, use := .plain, save := none, exposed := false }

/-- A running partition of tenant 9 with context 0 and window 0. -/
def part (m : Mode) : Partition :=
  { mode := m, state := .running, tenant := 9, ctxs := [(0, { tid := 9, save := none, binds := [] })], running := 0,
    switchTo := none, switchEnv := none, windows := [(0, win)], host := some { slotsA := 1, slotsB := 1 },
    mem := [(0, { slotsA := 1, slotsB := 1 })], link := [], policy := { publishers := [], bases := [] }, counts := .zero,
    budget := 16, level := 0, maxStep := 0, periodUs := 0, pendUs := 0, periodSeq := 0, anchor := 0, waitEnv := none }

/-- An open session of tenant 9. -/
def session : Session :=
  { open_ := true, tid := some 9, secret := 0, export_ := 0, sessId := 1, leaf := [], th2 := 0, slot := 0x014, standing := none,
    lastTick := 0, order := 1, outstanding := false, keyGen := 0, transcript := [] }

/-- Its descriptor in core 0. -/
def wd0 : Wd := { valid := true, read := true, write := true, tagged := false, stack := 0, part := 0, base := 4, size := 2 }

/-- A host-ready, owned device with its domains up, one Open partition, a credential and a session. -/
def ready : State :=
  { State.reset with
    aon := { Aon.reset with vddAon := true, pwrOk := true, sysRstN := true, perstN := true, tick := 100000, frames := 30 }
    power := { Power.reset with dom := [(1, .on), (2, .on), (3, .on), (4, .on), (5, .on), (6, .on), (14, .on)], pcie := true }
    boot := { Boot.reset with phase := .done, outcome := .hostReady, retryUntilReady := false, bn := 7 }
    fuses := { Fuses.reset with shadow := { FuseShadow.reset with code := 7 } }
    vault := { Vault.reset with slots := [(0x40, cred)], mce := [(0, 77)], did := 3 }
    parts := { Parts.reset with parts := [(0, part .open)], cores := [(0, { Res.free with st := .held 0 })], vfEnable := 1, fixedMt := 0xFF }
    cores := [(0, { Core.reset with st := .run, progLen := 320, wd := [(0, wd0.bits)] })]
    att := { Attest.reset with sessions := [(0, session)] } }

/-- An envelope in good form; a franking counter of 0 leaves FRANKED clear. -/
def env (p : Path) (op target cred fr : Nat) (b : Bytes) : Env :=
  let e : Env :=
    { path := p, magic := 0x5544, version := 1, flags := if fr = 0 then 0 else 2, target := BitVec.ofNat 8 target,
      cred := BitVec.ofNat 8 cred, seq := 0, franking := BitVec.ofNat 64 fr, length := BitVec.ofNat 32 b.length, rsv1 := 0,
      bootNonce := if fr = 0 then 0 else 7, status := 0, rsv2 := 0, detail := 0, rsv3 := 0, payload := b,
      trailer := .crc 0 0, replyMax := 61552, replyFails := false }
  { e with trailer := .crc (crc32c (envHeader op e ++ b)) 0 }

/-- An envelope of the PF, and a franked one. -/
def pf (sp : OpSpec) (target : Nat) (b : Bytes) : Env := env .pf sp.op target 0 (if sp.franked then 1 else 0) b

/-- An envelope of a session of tenant 9, and of the partner. -/
def sp0 (sp : OpSpec) (target : Nat) (b : Bytes) : Env := env (.spdm 0) sp.op target 0 (if sp.franked then 1 else 0) b
def tw (sp : OpSpec) (b : Bytes) : Env := env .twin sp.op 0xFF 0 1 b

/-- The CRC of such an envelope is right whatever its bytes are. -/
theorem env_crc (p : Path) (op target cred fr : Nat) (b : Bytes) : crcOk op (env p op target cred fr b) = true := by
  simp [crcOk, env, envHeader]

/-- The form checks but for the CRC. -/
def form (s : State) (sp : OpSpec) (e : Env) : Bool :=
  e.magic == 0x5544 && e.version == 1 && e.length.toNat == e.payload.length && decide (e.payload.length ≤ 61440) && trailerOk e &&
    e.flags.getLsbD 0 == false && (reservedFault sp.op e).isNone && targetOk sp e (nParts s) && credOk e && frankedOk sp e &&
    sp.len e.payload.length && decide (sp.reply ≤ replySpace s e)

theorem form_spec {s : State} {sp : OpSpec} {e : Env} (hc : crcOk sp.op e = true) (h : form s sp e = true) :
    formFault s sp e = none := by
  simp only [form, Bool.and_eq_true, decide_eq_true_eq, beq_iff_eq, Option.isNone_iff_eq_none] at h
  obtain ⟨⟨⟨⟨⟨⟨⟨⟨⟨⟨⟨h1, h2⟩, h3⟩, h4⟩, h5⟩, h6⟩, h7⟩, h8⟩, h9⟩, h10⟩, h11⟩, h12⟩ := h
  have h4' : ¬ 61440 < e.payload.length := by omega
  have h12' : ¬ replySpace s e < sp.reply := by omega
  simp only [formFault, h1, h2, h3, h4', h5, h6, h7, h8, h9, h10, h11, h12', hc, ne_eq, not_true, or_self, ite_false, Bool.not_true, Bool.false_eq_true]

/-- The checks before an opcode's own let the envelope through, in a state of which `h` holds. -/
def opens (sp : OpSpec) (e : Env) (s : State) (h : State → Bool) : Bool :=
  match e.path with
  | .pf | .vf _ => serves s && form (wakePd1 s) sp e && (match gateChecked sp e (wakePd1 s) with | .open_ t _ => h t | .shut _ => false)
  | .twin =>
    let t := { wakePd1 s with mail := { (wakePd1 s).mail with twOut := (wakePd1 s).mail.twOut + 1 } }
    serves s && form t sp e && (match gateChecked sp e t with | .open_ t _ => h t | .shut _ => false)
  | .spdm n =>
    match mget (wakePd1 s).att.sessions n.toNat with
    | none => false
    | some x =>
      let y : Session := { x with outstanding := true, lastTick := tick (wakePd1 s) }
      let t := { wakePd1 s with att := { (wakePd1 s).att with sessions := mput (wakePd1 s).att.sessions n.toNat y } }
      serves s && !x.outstanding && form t sp e && (match gateChecked sp e t with | .open_ t _ => h t | .shut _ => false)
  | .mgmt _ => false

/-- What `opens` says in the words of `Says.served`. -/
theorem opens_spec {sp : OpSpec} {e : Env} {s : State} {h : State → Bool} (hc : crcOk sp.op e = true) (w : opens sp e s h = true) :
    ∃ t q, gate sp e s = .open_ t q ∧ h t = true := by
  have last : ∀ t : State, form t sp e = true → (match gateChecked sp e t with | .open_ t _ => h t | .shut _ => false) = true →
      ∃ u q, gateAdmitted sp e t = .open_ u q ∧ h u = true := by
    intro t ht hg
    unfold gateAdmitted
    rw [form_spec hc ht]
    revert hg
    cases gateChecked sp e t with
    | open_ u q => exact fun hg => ⟨u, q, rfl, hg⟩
    | shut u => exact fun hg => absurd hg (by simp)
  unfold opens at w
  unfold gate
  cases hp : e.path with
  | pf =>
    simp only [hp, Bool.and_eq_true] at w
    obtain ⟨⟨h1, h2⟩, h3⟩ := w
    simpa [h1] using last _ h2 h3
  | vf n =>
    simp only [hp, Bool.and_eq_true] at w
    obtain ⟨⟨h1, h2⟩, h3⟩ := w
    simpa [h1] using last _ h2 h3
  | mgmt a =>
    rw [hp] at w
    exact absurd w (by simp)
  | twin =>
    simp only [hp, Bool.and_eq_true] at w
    obtain ⟨⟨h1, h2⟩, h3⟩ := w
    simpa [h1] using last _ h2 h3
  | spdm n =>
    simp only [hp] at w
    cases hx : mget (wakePd1 s).att.sessions n.toNat with
    | none => simp [hx] at w
    | some x =>
      simp only [hx, Bool.and_eq_true, Bool.not_eq_true'] at w
      obtain ⟨⟨⟨h1, h2⟩, h3⟩, h4⟩ := w
      simpa [h1, h2, hx] using last _ h3 h4

/-- The state in which a path's envelope is looked at. -/
def enter (p : Path) (s : State) : State :=
  match p with
  | .spdm n =>
    let x := (mget s.att.sessions n.toNat).getD session
    let y : Session := { x with outstanding := true, lastTick := tick s }
    { s with att := { s.att with sessions := mput s.att.sessions n.toNat y } }
  | _ => s

/-- An unfranked envelope that nothing before its opcode stops. -/
def plain (sp : OpSpec) (e : Env) (s : State) : Bool :=
  serves s && domOf s 1 == .on && form (enter e.path s) sp e && !deviceBusy (enter e.path s) && authorised (enter e.path s) sp e &&
    outcomeAccepts (enter e.path s) (callerOf e.path) sp.op && (budgetParts (enter e.path s) e).isEmpty &&
    (sp.own || !isFranked e) && (sp.own || !sp.owned || decide ((enter e.path s).fuses.shadow.code = 7)) &&
    (match e.path with
     | .pf | .vf _ => true
     | .spdm n => (match mget s.att.sessions n.toNat with | some x => !x.outstanding | none => false)
     | _ => false)

/-- Such an envelope opens in the state it enters. -/
theorem plain_spec {sp : OpSpec} {e : Env} {s : State} (hc : crcOk sp.op e = true) (w : plain sp e s = true) :
    gate sp e s = .open_ (enter e.path s) none := by
  simp only [plain, Bool.and_eq_true, beq_iff_eq, Bool.not_eq_true', List.isEmpty_iff, Bool.or_eq_true, decide_eq_true_eq] at w
  obtain ⟨⟨⟨⟨⟨⟨⟨⟨⟨h1, h2⟩, h3⟩, h4⟩, h5⟩, h6⟩, h7⟩, h8⟩, h9⟩, h10⟩ := w
  have hw : wakePd1 s = s := by simp [wakePd1, h2]
  have hg : gateAdmitted sp e (enter e.path s) = .open_ (enter e.path s) none := by
    simp only [gateAdmitted, form_spec hc h3, gateChecked, h4, h5, h6, h7, gateFranked, spendBudget]
    cases ho : sp.own with
    | true => simp
    | false =>
      have h8' : isFranked e = false := by simpa [ho] using h8
      have h9' : sp.owned = false ∨ (enter e.path s).fuses.shadow.code = 7 := by simpa [ho] using h9
      rcases h9' with h | h <;> simp [h8', gateOwned, h]
  unfold gate
  rw [hw, h1]
  cases hp : e.path with
  | pf => rw [hp] at hg; simpa [hp, enter] using hg
  | vf n => rw [hp] at hg; simpa [hp, enter] using hg
  | mgmt a => rw [hp] at h10; exact absurd h10 (by simp)
  | twin => rw [hp] at h10; exact absurd h10 (by simp)
  | spdm n =>
    rw [hp] at h10 hg
    cases hx : mget s.att.sessions n.toNat with
    | none => simp [hx] at h10
    | some x =>
      have : x.outstanding = false := by simpa [hx] using h10
      simpa [hx, this, enter] using hg

/-- A number of zero bytes. -/
def z (n : Nat) : Bytes := List.replicate n 0

/-! ### What meets the statements' hypotheses: the machine, envelopes, lands, power -/

/-- A statement's witness states that differ from `ready` in a piece. -/
def dark : State := { ready with aon := { ready.aon with vddAon := false } }

theorem witness_StepTakesTheFront : { ready with pending := [.xt32Lost] }.pending = [.xt32Lost] := rfl

theorem witness_EveryStepAnswers : ready.pending = [] ∧ ready.aon.vddAon = true ∧ dark.pending = [] ∧ dark.aon.vddAon = false := by
  decide +kernel

theorem witness_EnvelopeChecks :
    let e := pf specDeviceInfoGet 0xFF []
    let c := pf specPartitionCreate 0 (z 56)
    let r := pf specRecover 0xFF (z 8)
    let busy := { ready with flash := { ready.flash with activating := true } }
    let layer := { ready with boot := { ready.boot with outcome := .layerFailed } }
    (serves ready = true ∧ domOf ready 1 = .on ∧ formFault ready specDeviceInfoGet { e with magic := 0 } = some (1, 0)) ∧
    (formFault busy specDeviceInfoGet e = none ∧ deviceBusy busy = true ∧ serves busy = true) ∧
    (formFault ready specCoolantReport (pf specCoolantReport 0xFF (z 8)) = none ∧ deviceBusy ready = false ∧
      authorised ready specCoolantReport (pf specCoolantReport 0xFF (z 8)) = false) ∧
    (formFault layer specPartitionCreate c = none ∧ authorised layer specPartitionCreate c = true ∧
      outcomeAccepts layer .pf 0x401 = false ∧ deviceBusy layer = false ∧ serves layer = true) ∧
    (formFault ready specPartitionCreate c = none ∧ authorised ready specPartitionCreate c = true ∧
      outcomeAccepts ready .pf 0x401 = true ∧ budgetParts ready c = [] ∧ isFranked c = false ∧ specPartitionCreate.own = false ∧
      specPartitionCreate.owned = true ∧ ready.fuses.shadow.code = 7 ∧ specDeviceInfoGet.owned = false) ∧
    (formFault ready specRecover r = none ∧ authorised ready specRecover r = true ∧ isFranked r = true ∧ specRecover.own = false ∧
      specRecover.owned = false ∧ r.bootNonce = ready.boot.bn ∧ (lastCounter ready (.slot r.cred.toNat)).toNat < r.franking.toNat) := by
  have f : ∀ sp (x : Env) s, crcOk sp.op x = true → form s sp x = true → formFault s sp x = none := fun _ _ _ => form_spec
  refine ⟨by decide +kernel, ⟨f _ _ _ (env_crc ..) ?_, ?_⟩, ⟨f _ _ _ (env_crc ..) ?_, ?_⟩, ⟨f _ _ _ (env_crc ..) ?_, ?_⟩,
    ⟨f _ _ _ (env_crc ..) ?_, ?_⟩, ⟨f _ _ _ (env_crc ..) ?_, ?_⟩⟩ <;> decide +kernel

theorem witness_LandsAndResets :
    let off := { ready with aon := { ready.aon with pwrOk := false, sysRstN := false } }
    (ready.aon.vddAon = true ∧ ready.aon.pwrOk = true ∧ ready.aon.sysRstN = true ∧ ready.aon.tamperHold = false) ∧
    (off.aon.vddAon = true ∧ off.aon.pwrOk = false ∧ off.aon.sysRstN = false ∧ off.aon.tamperHold = false) ∧
    { off with aon := { off.aon with sysRstN := true } }.aon.sysRstN = true ∧ Rail.aon ≠ .fuse := by decide +kernel

/-- A device whose release from reset is due. -/
def due : State :=
  { State.reset with aon := { Aon.reset with vddAon := true, pwrOk := true, sysRstN := true, releaseDue := true } }

theorem witness_ReleaseBeginsTheBoot : due.aon.vddAon = true ∧ due.aon.releaseDue = true ∧ due.aon.tamperHold = false ∧
    due.boot.phase = .held := by decide +kernel

/-- A fuse-programming operation begun. -/
def burning (ok : Bool) : State :=
  { ready with
    fuses := { ready.fuses with op := some { job := .destroy 0x40, env := none, ready := ok } }
    aon := { ready.aon with fusePwrEn := true } }

theorem witness_TamperAndSupplies :
    let held := { ready with aon := { ready.aon with tamperHold := true, tamperCycled := true } }
    let armed := { ready with fuses := { ready.fuses with shadow := { ready.fuses.shadow with tamperResp := true } } }
    (armed.aon.vddAon = true ∧ armed.fuses.shadow.tamperResp = true) ∧
    (due.fuses.shadow.tamperResp = false ∧ due.boot.phase = .held) ∧
    (ready.fuses.shadow.tamperResp = false ∧ ready.boot.phase ≠ .held ∧ ready.boot.phase ≠ .selFault) ∧
    (held.aon.tamperHold = true ∧ held.aon.tamperCycled = true) ∧
    (ready.aon.vddAon = true ∧ ready.aon.fusePwrEn = false ∧ domOf ready 1 = .on ∧ ready.aon.crystalTried = false) ∧
    ((burning false).fuses.op ≠ none ∧ (burning false).aon.fusePwrEn = true) ∧
    { ready with aon := { ready.aon with crystal := true } }.aon.crystal = true ∧ { ready with aon := { ready.aon with frames := 20 } }.aon.frames ≤ 20 ∧
    dark.aon.vddAon = false := by decide +kernel

theorem witness_TheHostLink :
    let noPd3 := { ready with power := { ready.power with dom := [(1, .on)] } }
    let early := { ready with boot := { ready.boot with retryUntilReady := true } }
    (ready.aon.perstN = true ∧ ready.aon.pwrOk = true ∧ ready.aon.sysRstN = true ∧ domOf ready 3 = .on) ∧
    (domOf noPd3 3 ≠ .on ∧ noPd3.boot.phase ≠ .held ∧ noPd3.boot.phase ≠ .selFault) ∧
    (early.power.pcie = true ∧ early.boot.retryUntilReady = true) ∧
    (ready.power.pcie = true ∧ ready.boot.retryUntilReady = false ∧ hostReady ready = true ∧ (128#8).toNat ≤ nParts ready) := by
  decide +kernel

/-- A device whose cores are all idle. -/
def quiet : State := { ready with cores := [], parts := { ready.parts with cores := [] } }

theorem witness_PowerDomains :
    let still := { quiet with power := { quiet.power with dom := [(1, .on), (2, .on), (15, .on)] } }
    let starting := fun d => { quiet with power := { quiet.power with dom := [(d, .starting), (1, .on), (2, .on)] } }
    let wait := fun w => { ready with cores := [(0, { Core.reset with st := .wait, waiting := w })] }
    let gated := { ready with cores := [(0, { Core.reset with st := .gated })] }
    let p : Bytes := z 32
    let bound := { part .open with ctxs := [(0, { tid := 9, save := none, binds := [.program (sha384 p) 0 0 32 1] })] }
    let load := { ready with power := { ready.power with reload := [0] }, parts := { ready.parts with parts := [(0, bound)] } }
    (hostReady quiet = true ∧ domOf quiet 1 = .on ∧ pd1Busy quiet = false) ∧
    (domOf quiet 6 = .on ∧ quiet.power.policy.tileOn.getLsbD 0 = false ∧ tileConf quiet 0 = false ∧ tileScrub quiet 0 = false ∧
      (quiet.power.reload.any fun c => c.toNat / 16 == 0) = false ∧ ∀ c, c / 16 = 0 → (core quiet c).st = .unassigned) ∧
    (domOf still 2 = .on ∧ pd2Busy still = false ∧ ∀ k, k < 8 → domOf still (6 + k) = .off) ∧
    (domOf still 15 = .on ∧ still.power.policy.stackOn.getLsbD 1 = false ∧ stackInUse still 1 = false ∧ stackTarget still 1 = false) ∧
    (∀ d ∈ [2, 6, 13, 14, 21], domOf (starting d) d = .starting ∧ ∀ k ∈ startDeps d, k = 0 ∨ domOf (starting d) k = .on) ∧
    ((core (wait .queue) 0).st = .wait ∧ (core (wait .queue) 0).waiting = .queue ∧ (core (wait (.token 3 4)) 0).waiting = .token 3 4) ∧
    ((core gated 0).st = .gated ∧ (core gated 0).waiting = .none) ∧
    ((0 : BitVec 7) ∈ load.power.reload ∧ domOf load 6 = .on ∧ coreHolder load 0 = some 0 ∧ part? load 0 = some bound ∧
      (∃ y, mget bound.ctxs bound.running = some y ∧ bindOf y 0 = some (.program (sha384 p) 0 0 32 1))) := by
  refine ⟨by decide +kernel, ⟨by decide +kernel, by decide +kernel, by decide +kernel, by decide +kernel, by decide +kernel,
    fun c _ => rfl⟩, by decide +kernel, by decide +kernel, by decide +kernel, by decide +kernel, by decide +kernel,
    ⟨by decide +kernel, by decide +kernel, by decide +kernel, rfl, _, rfl, rfl⟩⟩

/-- A device that boots, before host-ready. -/
def booting_ (k : Nat) : State := { ready with boot := { ready.boot with phase := .boot k, outcome := .booting } }

theorem witness_BootsEnd :
    let b := booting_ 1
    let twice := { b with boot := { b.boot with restarts86 := 2 } }
    let two := { b with flash := { b.flash with bankB := { Bank.empty with st := .good } } }
    let owner := { b with boot := { b.boot with layers := [(4, { m := 0, svn := 1, key := 0, build := 0 })] } }
    let again := { b with boot := { b.boot with restartDue := some .image } }
    let rec_ := { ready with flash := { ready.flash with lockRecover := true } }
    (booting twice = true ∧ 2 ≤ twice.boot.restarts86) ∧ (booting b = true ∧ b.boot.restarts86 < 2) ∧
    ((bankOf two (!two.boot.bank)).st = .good ∧ two.boot.moved = false ∧ booting two = true) ∧
    (bankOf b (!b.boot.bank)).st ≠ .good ∧
    (owner.boot.phase = .boot 1 ∧ owner.fuses.shadow.code = 7 ∧ mhas owner.boot.layers 4 = true ∧ booting owner = true) ∧
    again.boot.restartDue = some .image ∧ (booting ready = false ∧ hostReady ready = true ∧ ready.flash.lastLockstep = none) ∧
    rec_.flash.lockRecover = true ∧
    { ready with fuses := { ready.fuses with lifecycleReset := true } }.fuses.lifecycleReset = true ∧
    { ready with mail := { ready.mail with recoverDue := true } }.mail.recoverDue = true := by decide +kernel

theorem witness_FlashAndActivation :
    let p : Pending := { env := pf specUpdateActivate 0xFF (z 8), op := 0x704 }
    let act := { ready with flash := { ready.flash with activation := some (true, p) } }
    let on := { ready with flash := { ready.flash with activating := true, actReply := some (0, 0), actEnv := some p } }
    let jobs := fun j => { ready with flash := { ready.flash with jobs := [j] } }
    let c : CfgCopy := { gen := 1, did := 3, idSet := ([], []), bond := none, join := none, tag := [] }
    let st : PStore := { gen := 1, entries := [] }
    let torn := { ready with flash := { ready.flash with bankB := { Bank.empty with st := .writing, erasing := true } } }
    (act.flash.activation = some (true, p) ∧ (waitingEnvs act).length ≤ 1 ∧ otherJob act = false ∧ act.fuses.op = none) ∧
    (on.flash.activating = true ∧ on.flash.actReply = some (0, 0) ∧ on.flash.actEnv = some p) ∧
    ((jobs (.bankErase true 78)).flash.jobs = [.bankErase true 78] ∧ (jobs (.bankErase true 79)).flash.jobs = [.bankErase true 79] ∧
      (jobs (.config (some p) c)).flash.jobs = [.config (some p) c] ∧
      (jobs (.store none (.letter 0x40 0 0 0 0) st)).flash.jobs = [.store none (.letter 0x40 0 0 0 0) st]) ∧
    (hostReady torn = true ∧ torn.flash.answers = true ∧ (bankOf torn true).st = .writing ∧ (bankOf torn true).erasing = true ∧
      eraseQueued torn true = false) :=
  ⟨⟨rfl, by decide +kernel, by decide +kernel, rfl⟩, ⟨rfl, rfl, rfl⟩, ⟨rfl, rfl, rfl, rfl⟩, by decide +kernel⟩

/-! ### Rings, memory, engines -/

/-- The PF's registers of `ready`. -/
def regs (g : FnRegs) (f : Fn) : State := { ready with q := { ready.q with regs := [(fnKey f, g)] } }

/-- An envelope ring with an entry to fetch, and a work ring of VF 0 beside a completion ring. -/
def envRing : FnRegs := { FnRegs.reset with env := { EnvRing.reset with enable := true, tail := 1 } }
def workRing_ : FnRegs :=
  { FnRegs.reset with work := [(0, { WorkRing.reset with enable := true, tail := 1 })], comp := { CompRing.reset with enable := true } }

theorem witness_HostInterface :
    let asleep := { ready with power := { ready.power with dom := [(3, .on)] } }
    let on := regs { FnRegs.reset with env := { EnvRing.reset with enable := true } } .pf
    let msi := { ready with
      q := { ready.q with regs := [(fnKey .pf, { FnRegs.reset with msix := [(0, 0)] })], events := { Events.reset with cause := 1 } } }
    (fnLive ready .pf = true ∧ fnLive ready (.vf 0) = true ∧ doorbells ready = true ∧ domOf ready 1 ≠ .off) ∧
    (fnLive asleep .pf = true ∧ doorbells asleep = true ∧ domOf asleep 1 = .off ∧ hostReady asleep = true) ∧
    ((64#32).truncate 16 - (workRing ready .pf 0).head : BitVec 16).toNat ≤ 2 ^ (workRing ready .pf 0).log2.toNat ∧
    2 ^ (workRing ready .pf 0).log2.toNat < ((65#32).truncate 16 - (workRing ready .pf 0).head : BitVec 16).toNat ∧
    (workRing ready .pf 0).enable = false ∧ (fnRegs ready .pf).comp.held = [] ∧
    (∀ x, part? ready 0 = some x → x.counts.hostDropped = 0) ∧
    (let c := (fnRegs ready .pf).comp
     (c.tail - 0).toNat ≤ 2 ^ c.log2.toNat ∧ (0 - c.head).toNat ≤ (c.tail - c.head).toNat) ∧
    (fnRegs ready .pf).env.enable = false ∧ (fnRegs on .pf).env.enable = true ∧ fnLive on .pf = true ∧
    (¬ ((4#4) = 4 ∧ (2#32).toNat % 4 = 0) ∧ ¬ ((4#4) = 8 ∧ (2#32).toNat % 8 = 0)) ∧
    (ready.power.pcie = true ∧ ¬ (ready.q.events.cause &&& ready.q.events.enable = 0 ∧ ready.q.events.cause &&& (1#32).truncate 4 ≠ 0)) ∧
    (msi.q.events.cause &&& msi.q.events.enable = 0 ∧ msi.q.events.cause &&& (1#32).truncate 4 ≠ 0 ∧ msi.power.pcie = true ∧
      (mgetD (fnRegs msi .pf).msix msi.q.events.vector.toNat msixReset).getLsbD 96 = false) := by
  refine ⟨?_, ?_, ?_, ?_, ?_, ?_, fun x h => ?_, ?_⟩
  all_goals try decide +kernel
  have : x = part .open := Option.some.inj (h.symm.trans rfl)
  rw [this]; rfl

/-- A ring entry whose envelope has 72 bytes. -/
def entry : Bytes := leBytes 8 0 ++ leBytes 4 72 ++ leBytes 4 72 ++ z 16

/-- A descriptor for core 0 of one record of 64 bytes into window 0, without output. -/
def desc : Bytes := [1, 0, 0, 0] ++ z 12 ++ leBytes 4 64 ++ leBytes 2 1 ++ leBytes 2 64 ++ z 40

/-- An entry for core 0, and one posted to it. -/
def work : WorkEntry :=
  { part := 0, ring := 0, tag := 0, period := 0, x := List.replicate 8 0, outAddr := 0, outWin := 0, outOff := 0, outLen := 64,
    irq := true }
def posting : Posting := { core := 0, defer := false, irq := true, entry := work }

/-- A completion record. -/
def compRec : CompRec :=
  { entryId := 1, tag := 0, status := 0, ring := 0, core := 0, period := 0, outLen := 0, result := 0, count := 1, fcode := 0,
    fslot := 0, fpc := 0, faddr := 0, irq := true }

/-- An output copy of no bytes. -/
def outCopy (lost : Bool) : OutCopy :=
  { fn := .vf 0, part := 0, win := 0, off := 0, len := 0, addr := 0, lost := lost, record := compRec }

/-- A line written through window 0 is taken, whatever stands in the queues. -/
theorem put (q : Queues) : (memWrite (.host 0) ((byteAt desc 3).toNat % 16) (fld desc 0x18 4) (z 64)
    { regs workRing_ (.vf 0) with q := q }).2 = 0 := by
  have a : (byteAt desc 3).toNat % 16 = 0 ∧ fld desc 0x18 4 = 0 := by decide +kernel
  have r : resolve { regs workRing_ (.vf 0) with q := q } (.host 0) 0 = { wd := wd0, key := some 77, tweak := 0 } := rfl
  have v : stackShut (regs workRing_ (.vf 0)) 0 = false := by decide +kernel
  have c : chunks (gateAddr { wd := wd0, key := some 77, tweak := 0 } 0) 64 = [(131072, 0, 64)] := by decide +kernel
  have n : ∀ s : State, domOf s 14 = .on → needStack 0 s = s := fun s h => if_pos (Or.inl h)
  have g : gateCheck { regs workRing_ (.vf 0) with q := q } { wd := wd0, key := some 77, tweak := 0 } true 0 64 = 0 := by
    simp [gateCheck, wd0]
    exact v
  rw [a.1, a.2, memWrite, r]
  simp only [show wd0.stack = 0 from rfl, show (z 64).length = 64 from rfl]
  rw [n _ rfl, r, g, c]
  simp [writeChunks]

theorem witness_RingEntries :
    let s := regs envRing .pf
    let v := regs workRing_ (.vf 0)
    let p := { ready with q := { ready.q with posting := [posting] } }
    (fnLive s .pf = true ∧ fnConf s .pf = false ∧ s.mem.htClosed = false ∧ hostReady s = true ∧ (fnRegs s .pf).env.enable = true ∧
      (fnRegs s .pf).env.head ≠ (fnRegs s .pf).env.tail ∧ (fnRegs s .pf).env.outstanding.toNat < 8) ∧
    (entry.length = 32 ∧ allZero (slice entry 24 8) = true ∧ fld entry 0 8 % 8 = 0 ∧ 72 ≤ fld entry 8 4 ∧ fld entry 8 4 ≤ 61552 ∧
      72 ≤ fld entry 12 4 ∧ fld entry 16 8 % 8 = 0) ∧
    (fnLive v (.vf 0) = true ∧ fnConf v (.vf 0) = false ∧ part? v 0 = some (part .open) ∧ (part .open).state = .running ∧
      (workRing v (.vf 0) 0).enable = true ∧ (workRing v (.vf 0) 0).head ≠ (workRing v (.vf 0) 0).tail ∧
      ((fnRegs v (.vf 0)).comp.tail - (fnRegs v (.vf 0)).comp.head).toNat + (fnRegs v (.vf 0)).comp.reserved.toNat + 1 <
        2 ^ (fnRegs v (.vf 0)).comp.log2.toNat) ∧
    (descFormOk desc false = true ∧ (byteAt desc 1).getLsbD 0 = false ∧ fld desc 0x28 4 = 0 ∧
      (z 64).length = fld desc 0x14 2 * fld desc 0x16 2 ∧ coreHolder v (byteAt desc 2).toNat = some 0 ∧
      resFenced v 1 (byteAt desc 2).toNat = false ∧ (core v (physOf v (byteAt desc 2).toNat)).queue.length < 32 ∧
      winHolds v (byteAt desc 2).toNat ((byteAt desc 3).toNat % 16) 1 (fld desc 0x18 4) (fld desc 0x10 4) = true ∧
      fld desc 0x10 4 ≠ 0) ∧
    (∀ q', (memWrite (.host 0) ((byteAt desc 3).toNat % 16) (fld desc 0x18 4) (z 64) { v with q := q' }).2 = 0) ∧
    (p.q.posting.find? (fun z => fnOf z.entry.part == Fn.vf 0 && z.entry.ring == 0) = some posting ∧
      part? p posting.entry.part = some (part .open) ∧ (core p (physOf p posting.core)).queue.length < 32) := by
  refine ⟨?_, ?_, ?_, ?_, fun q' => put q', ?_⟩ <;> decide +kernel

theorem witness_Replies :
    let e := pf specDeviceInfoGet 0xFF []
    let v := env (.vf 0) 0x403 0 0 0 (z 16)
    let s := regs { FnRegs.reset with msix := [(0, 0)] } .pf
    let conf := { ready with parts := { ready.parts with parts := [(0, part .confidential)] } }
    let outs := fun l => { ready with q := { ready.q with outs := [outCopy l] } }
    let held : HeldReply := { why := .grid, reply := { env := v, op := 0x403, status := 0, detail := 0, payload := [] } }
    let late : HeldReply := { why := .refused, reply := { env := e, op := 0x101, status := 1, detail := 0, payload := [] } }
    let hold := { ready with mail := { ready.mail with held := [held, late] } }
    (e.path = pathFn .pf ∧ e.replyFails = false ∧ s.mail.lost = [] ∧ gridPart s e = false ∧
      (mgetD (fnRegs s .pf).msix (fnRegs s .pf).env.vector.toNat msixReset).getLsbD 96 = false) ∧
    (v.path = pathFn (.vf 0) ∧ v.replyFails = false ∧ conf.mail.lost = [] ∧ gridPart conf v = true) ∧
    ((outs false).q.outs.find? (fun o => o.fn == Fn.vf 0) = some (outCopy false) ∧ isConf (outs false) 0 = false) ∧
    ((outs true).q.outs.find? (fun o => o.fn == Fn.vf 0) = some (outCopy true)) ∧
    (hold.mail.held.find? (fun h => h.why == .grid) = some held ∧ hold.mail.held.find? (fun h => h.why == .refused) = some late) ∧
    ready.power.pcie = true ∧ { ready with q := { ready.q with posting := [posting] } }.q.posting.find?
      (fun x => fnOf x.entry.part == Fn.vf 0 && x.entry.ring == 0) = some posting := by
  refine ⟨⟨rfl, rfl, rfl, rfl, by decide +kernel⟩, ⟨rfl, rfl, rfl, by decide +kernel⟩, ⟨rfl, by decide +kernel⟩, rfl, ⟨rfl, rfl⟩, rfl,
    rfl⟩

theorem witness_FaultsAndTurnstiles :
    let r : FaultRec := { entry := 0, cls := 1, scope := 1, unit_ := 0, severity := 1, action := 0, frame := 30, tick := 0, part := 0, location := 0, detail := 0, count := 1 }
    let s := { ready with mail := { ready.mail with faults := [r] } }
    (r ∈ s.mail.faults ∧ r.frame = s.aon.frames ∧ r.cls.toNat = 1 ∧ r.scope.toNat = 1 ∧ r.unit_.toNat = 0) ∧
    ready.mail.faults = [] ∧ ready.scrub.jobs = [] := by decide +kernel

theorem witness_MemoryStaysCanonical : ∀ n, mwf 0 (stackOf ready n).bytes = true ∧ mwf LineInfo.cleared (stackOf ready n).lines = true :=
  fun _ => ⟨rfl, rfl⟩

theorem witness_Memory :
    let r : MemReq := { who := .host 0, win := 0, off := 0, lenM1 := 63, write := none, slot := 0, upset := [] }
    let o : MemReq := { r with off := 0x3FFFC1 }
    (z 64).length = 64 ∧ (∀ c, r.who ≠ .core c) ∧ (∀ n, r.who ≠ .scrub n) ∧ r.slot = 0 ∧ r.upset = [] ∧
    slotServes ready (resolve ready r.who r.win.toNat).wd.stack r.who 0 = true ∧
    (memRead r.who r.win.toNat r.off.toNat (r.lenM1.toNat + 1) ready).2.1 = 0 ∧
    (memRead o.who o.win.toNat o.off.toNat (o.lenM1.toNat + 1) ready).2.1 = 3 ∧
    (memWrite r.who r.win.toNat r.off.toNat (padTo (r.lenM1.toNat + 1) (z 64)) ready).2 = 0 ∧
    (memWrite o.who o.win.toNat o.off.toNat (padTo (o.lenM1.toNat + 1) (z 64)) ready).2 = 3 := by
  refine ⟨rfl, fun _ => by simp, fun _ => by simp, rfl, rfl, ?_⟩
  decide +kernel
/-- A device whose slot 0x41 signs, decapsulates and is loaded for uses 9 and 10, and one whose DE_0 is in a state. -/
def keyed : State :=
  { ready with vault := { ready.vault with slots := [(0x40, cred), (0x41, { Slot.empty with attr := 0x0000100800012600#64, active := 6 })] } }
def use0 : Use := { slot := 0x41, caller := 0, index := 0, world := 1, ctx := 0 }
def withDe (d : DigestEngine) : State := { ready with eng := { ready.eng with de := [(0, d)] } }
def frag : DeFrag := { addr := 0x1FFFC0, lenM1 := 63, space := 0, window := 0, part := 0, last := true, rsv := 0, data := [] }

theorem witness_DigestAndSymmetric :
    let loaded := withDe { DigestEngine.idle with st := .loaded }
    let doneP := withDe { DigestEngine.idle with st := .done, resA := some [1, 2] }
    let doneK := withDe { DigestEngine.idle with st := .done, resA := some [1, 2], args := { DigestEngine.idle.args with mode := .hmac } }
    let g : SeGcmOp := { use := none, decrypt := false, iv := 0, aad := [], text := [1], tag := 0, dst := 0 }
    let x : SeXtsOp := { decrypt := false, tweak := 0, text := z 32, dst := 0 }
    let s := { ready with vault := { ready.vault with wkr := 1 } }
    (domOf ready 2 = .on ∧ (deOf ready 0).fenced = false ∧ (deOf ready 0).st = .idle ∧ (deOf ready 0).queued = []) ∧
    ((deOf loaded 0).st = .loaded ∧ (deOf loaded 0).queued = [] ∧ (deOf loaded 0).args.mode = .plain ∧ (deOf loaded 0).args.key = .none ∧
      (deOf loaded 0).frags < 4095 ∧ frag.rsv = 0 ∧ frag.space = 0 ∧ frag.part.toNat < nParts loaded ∧
      frag.addr.toNat + frag.lenM1.toNat + 1 ≤ 0x200000) ∧
    ((deOf doneP 0).st = .done ∧ (deOf doneP 0).resA = some [1, 2] ∧ (deOf doneP 0).args.mode = .plain ∧
      (0x1FFFFE#21).toNat + [1#8, 2].length ≤ 0x200000) ∧
    ((deOf doneK 0).st = .done ∧ (deOf doneK 0).resA = some [1, 2] ∧ (deOf doneK 0).args.mode ≠ .plain) ∧
    (keyed.eng.seFenced = false ∧ domOf keyed 2 = .on ∧ useKey keyed use0 9 = some 6 ∧ useKey keyed use0 8 = none) ∧
    (g.aad.length ≤ 65536 ∧ g.text.length ≤ 2 ^ 20 ∧ g.dst.toNat + g.text.length ≤ 0x200000) ∧
    (32 ≤ x.text.length ∧ x.text.length ≤ 2 ^ 20 ∧ x.text.length % 16 = 0 ∧ x.dst.toNat + x.text.length ≤ 0x200000 ∧
      (s.vault.wkr.truncate 256 : BitVec 256) ≠ s.vault.wkr.extractLsb' 256 256) ∧
    (16 ≤ (16#10).toNat ∧ (16#10).toNat % 8 = 0 ∧ (slot keyed 0x41).exportable = false) ∧
    (24 ≤ (z 24).length ∧ (z 24).length ≤ 4104 ∧ (z 24).length % 8 = 0) := by decide +kernel

/-- A tag that does not verify: any but the right one. -/
theorem witness_badTag : ∃ o : SeGcmOp, o.use = none ∧ o.decrypt = true ∧ o.text.length ≤ 2 ^ 20 ∧ o.aad.length ≤ 65536 ∧
    o.dst.toNat + o.text.length ≤ 0x200000 ∧ Config.gcmTag (wkrKey ready) o.iv o.aad o.text ≠ o.tag :=
  ⟨{ use := none, decrypt := true, iv := 0, aad := [], text := [], tag := Config.gcmTag (wkrKey ready) 0 [] [] + 1, dst := 0 }, rfl, rfl,
    by decide, by decide, by decide, by simp⟩

theorem witness_PublicKeysAndDrbg :
    let stopped := { ready with eng := { ready.eng with drbgStopped := true } }
    (domOf keyed 2 = .on ∧ keyed.eng.pkeFenced = false ∧ keyed.eng.entropyFailed = false ∧ useKey keyed use0 9 = some 6 ∧
      useKey keyed use0 10 = some 6) ∧ (z 65536).length ≤ 65536 ∧ (z 255).length ≤ 255 ∧ (z 1568).length = 1568 ∧
    (ready.eng.entropyFailed = false ∧ ready.eng.drbgStopped = false ∧ ready.eng.drbgRuns < 65536 ∧ ready.eng.lastHealth = none) ∧
    (domOf stopped 2 = .on ∧ stopped.eng.drbgStopped = true ∧ stopped.eng.entropyFailed = false ∧ stopped.eng.drbgHeld = []) ∧
    (5#3).toNat < 6 ∧ (deOf ready 5).queued = [] := by
  refine ⟨by decide +kernel, List.length_replicate.le, by decide +kernel, List.length_replicate, ?_⟩
  decide +kernel


/-- The state that opens to an opcode's body: the reply of a session, and of the PF. -/
theorem sees {sp : OpSpec} {p : Path} {target cred fr : Nat} {b : Bytes} {s : State} {h : State → Bool}
    (w : opens sp (env p sp.op target cred fr b) s h = true) :
    ∃ e t q, gate sp e s = .open_ t q ∧ e.payload = b ∧ e.target = BitVec.ofNat 8 target ∧ e.path = p ∧ h t = true := by
  obtain ⟨t, q, h1, h2⟩ := opens_spec (env_crc ..) w
  exact ⟨_, t, q, h1, rfl, rfl, rfl, h2⟩

/-! ### Parcels and circles -/

/-- Payload checks that all pass, and reserved bytes that are zero. -/
theorem payFault_none {cs : List Chk} (h : cs.all (·.2) = true) : payFault cs = none := by
  induction cs with
  | nil => rfl
  | cons c cs ih =>
    obtain ⟨o, ok⟩ := c
    simp only [List.all_cons, Bool.and_eq_true] at h
    obtain ⟨h1, h2⟩ := h
    simp [payFault, h1, ih h2]

theorem rsv_all {e : Env} {o n : Nat} (h : allZero (slice e.payload o n) = true) : (rsv e o n).all (·.2) = true := by
  simp only [rsv, List.all_map, List.all_eq_true, List.mem_range, Function.comp, byteAt, beq_iff_eq]
  intro i hi
  simp only [allZero, slice, List.all_eq_true, beq_iff_eq] at h
  by_cases hl : o + i < e.payload.length
  · apply h
    rw [List.getD_eq_getElem _ _ hl, List.mem_iff_getElem]
    refine ⟨i, by simp; omega, by simp⟩
  · rw [List.getD_eq_default _ _ (by omega)]

/-- Bytes with a field written at an offset. -/
def at_ (b : Bytes) (o : Nat) (v : Bytes) : Bytes := b.take o ++ v ++ b.drop (o + v.length)

/-- A parcel head that nothing signs. -/
def head : ParcelHead :=
  { kind := 1, shareable := false, plainLen := 64, chunks := 1, ivSalt := 0, root := 0, base := 0, kcv := 0, hd := 0, pbd := 0,
    ecPub := [], mlPub := [], ecSig := [], mlSig := [], signed := [] }

/-- A parcel of partition 0 in window 0. -/
def parcel : Parcel :=
  { part := 0, ctx := 0, head := head, window := 0, st := .resident, status := 0, detail := 0, usage := 0, touched := false,
    pinned := false, passport := none, admitted := 0, circle := none, bound := true }

/-- `ready` with a parcel. -/
def withParcel (p : Parcel) : State := { ready with desk := { Desk.reset with parcels := [p] } }

/-- `ready` with partition 0 changed. -/
def partly (s : State) (f : Partition → Partition) : State := { s with parts := { s.parts with parts := [(0, f (part .open))] } }

/-- `ready` with a pool slot held by partition 0 for context 0. -/
def pooled (s : State) : State := { s with parts := { s.parts with pools := [(0x180, { Res.free with st := .held 0 })] } }

/-- A property of partition 0. -/
def holds (t : State) (p : Partition → Bool) : Bool := match part? t 0 with | some x => decide (x.state ≠ .destroying) && p x | none => false

/-- The payload of an admission of 64 bytes. -/
def admission : Bytes :=
  leBytes 4 0x55445043 ++ leBytes 2 1 ++ [1, 0] ++ leBytes 8 64 ++ leBytes 4 1 ++ z 8173 ++ leBytes 2 0x180 ++ z 21

/-- The state that admission opens to: the publisher is in the partition's policy. -/
def admitting : State :=
  let g (x : Partition) : Partition :=
    { x with policy := { publishers := [(parseHead admission).pbd], bases := [] }, windows := [(0, { win with access := 4 })] }
  enter (.spdm 0) (pooled (partly ready g))

/-- A circle of partition 0's mode. -/
def circle (m : List Member) : Sys2Proof.Machine.Circle :=
  { mode := .open, stack := 0, base := 8, size := 2, baseHd := 5, keySlot := 0x190, members := m, first := none, resident := false }
def circled (m : List Member) (s : State) : State := { s with desk := { s.desk with circles := [(0, circle m)] } }

/-- The payload of a parcel named in context 0. -/
def named : Bytes := z 56

theorem witness_ParcelCommands :
    opens specParcelPolicySet (sp0 specParcelPolicySet 0 ([8, 4] ++ z 582)) ready (fun t => holds t fun x =>
      let e := sp0 specParcelPolicySet 0 ([8, 4] ++ z 582)
      decide (sessionTid t 0 = some x.tenant ∧ payFault ([(0, decide (p8 e 0 ≤ 8)), (1, decide (p8 e 1 ≤ 4))] ++ rsv e 2 6 ++
        rsv e (8 + 48 * p8 e 0) (48 * (8 - p8 e 0)) ++ rsv e (392 + 48 * p8 e 1) (48 * (4 - p8 e 1))) = none ∧
        t.desk.circles = [] ∧ channelBases t 0 = [] ∧ t.desk.parcels = [])) = true ∧
    (let e := sp0 specParcelAdmit 0 admission
     let t := admitting
     let h := parseHead e.payload
     (∀ s, pooled (partly ready (fun x =>
         { x with policy := { publishers := [h.pbd], bases := [] }, windows := [(0, { win with access := 4 })] })) = s →
       gate specParcelAdmit e s = .open_ t none) ∧
     payFault (admitChecks e) = none ∧ p8 e 8192 = 0 ∧ p8 e 8195 = 0 ∧ (∃ x, part? t 0 = some x ∧ x.state ≠ .destroying ∧
       x.mode ≠ .confidential ∧ ctxOf t e x 0 ≠ none ∧ x.policy.publishers.contains h.pbd = true ∧
       chooseWindow t x 0 0 h.plainLen = some 0) ∧
     (resOf t 5 (p16 e 8193)).st = .held 0 ∧ 0x180 ≤ p16 e 8193 ∧ (resOf t 5 (p16 e 8193)).params.toNat % 256 = 0 ∧ h.kind ≠ 3 ∧
     parcelOf t 0 0 h.hd = none ∧ t.desk.adms = []) ∧
    (∀ b ∈ [false, true],
      let s := withParcel { parcel with pinned := b }
      let e := sp0 specParcelEvict 0 named
      let ok := fun t => holds t fun x => decide (ctxOf t e x (p8 e 0) ≠ none ∧
        parcelOf t 0 (p8 e 0) (dig e.payload 8) = some { parcel with pinned := b } ∧ isOperator e = false ∧
        payFault ([(0, decide (p8 e 0 < 16))] ++ rsv e 1 7) = none ∧
        payFault ([(0, decide (p8 e 0 < 16)), (1, decide (p8 e 1 ≤ 1))] ++ rsv e 2 6) = none ∧
        evictable t { parcel with pinned := b } = true ∧ t.desk.adms = [])
      opens specParcelEvict e s ok = true ∧ opens specParcelUnbind (sp0 specParcelUnbind 0 named) s ok = true ∧
      opens specParcelPin (sp0 specParcelPin 0 named) s ok = true) ∧
    (let e := sp0 specParcelStatusGet 0 (z 8)
     opens specParcelStatusGet e (withParcel parcel) (fun t => holds t fun x => decide (
      payFault ([(0, decide (p8 e 0 < 16) || p8 e 0 == 255)] ++ rsv e 1 1 ++ rsv e 4 4) = none ∧ p8 e 0 = 0 ∧
      (ctxOf t e x 0).isSome = true ∧ mkeys x.ctxs = [0])) = true) ∧
    (let e := pf specCircleJoin 0 (at_ (z 8) 1 [1])
     opens specCircleJoin e (circled [] (partly ready (fun x => { x with policy := { publishers := [], bases := [5] } })))
      (fun t => holds t fun x => decide (
      payFault ([(0, decide (p8 e 0 < 32)), (1, decide (p8 e 1 < 16)), (2, decide (p8 e 2 < 16))] ++ rsv e 3 5) = none ∧
      t.desk.circles = [(0, circle [])] ∧ p8 e 0 = 0 ∧ mhas x.ctxs (p8 e 2) = true ∧ x.mode = .open ∧ x.policy.bases.contains 5 = true ∧
      mget x.windows (p8 e 1) = none)) = true) ∧
    (let e := pf specCircleLeave 0 (z 8)
     let m : Member := { part := 0, window := 1, ctx := 0, bound := false }
     opens specCircleLeave e (circled [m] ready) (fun t => holds t fun _ => decide (
      payFault ([(0, decide (p8 e 0 < 32))] ++ rsv e 1 7) = none ∧ mget t.desk.circles (p8 e 0) = some (circle [m]))) = true) := by
  refine ⟨by decide +kernel, ⟨?_, ?_⟩, by decide +kernel, by decide +kernel, by decide +kernel, by decide +kernel⟩
  · rintro s rfl
    exact plain_spec (env_crc ..) (by decide +kernel)
  · refine ⟨payFault_none ?_, by decide +kernel, by decide +kernel, ⟨_, rfl, by decide +kernel, by decide +kernel, by decide +kernel,
      ?_, by decide +kernel⟩, by decide +kernel, by decide +kernel, by decide +kernel, by decide +kernel, rfl, rfl⟩
    · simp only [admitChecks, headChecks, List.all_append, Bool.and_eq_true]
      refine ⟨⟨⟨⟨⟨⟨⟨?_, rsv_all ?_⟩, rsv_all ?_⟩, rsv_all ?_⟩, ?_⟩, rsv_all ?_⟩, ?_⟩, rsv_all ?_⟩ <;> decide +kernel
    · exact List.contains_iff_mem.2 (List.mem_singleton.2 rfl)

/-- An admission of partition 0 into window 0, and a state with one. -/
def adm (st : AdmStep) (lane : Option Nat) : Admission :=
  { aid := 1, part := 0, ctx := 0, head := { head with chunks := 2 }, slot := 0x180, addr := 0, circle := none, window := 0, step := st,
    lane := lane, start := 0, startSlots := 0, key := 0, table := [(sha384 (z 64), Config.gcmTag 0 0 (z 56) (z 64)), (0, 0)],
    chunk := 0, hit := false, readmit := false, status := 0, detail := 0, ok := true }
def admitted (a : Admission) (s : State) : State :=
  { s with desk := { s.desk with adms := [a] }, vault := { s.vault with slots := (0x180, cred) :: s.vault.slots } }

/-- What a chunk writes through window 0 is taken. -/
theorem lands (b : Bytes) (h : b.length = 64) :
    (deskWrite (adm .chunks (some 0)) 0 b (admitted (adm .chunks (some 0)) ready)).2 = 0 := by
  have r : admGate (admitted (adm .chunks (some 0)) ready) (adm .chunks (some 0)) = { wd := wd0, key := some 77, tweak := 0 } := rfl
  have c : chunks (gateAddr { wd := wd0, key := some 77, tweak := 0 } 0) 64 = [(131072, 0, 64)] := by decide +kernel
  have v : stackShut (admitted (adm .chunks (some 0)) ready) 0 = false := by decide +kernel
  have n : needStack 0 (admitted (adm .chunks (some 0)) ready) = admitted (adm .chunks (some 0)) ready := if_pos (Or.inl (by decide +kernel))
  have g : gateCheck (admitted (adm .chunks (some 0)) ready) { wd := wd0, key := some 77, tweak := 0 } true 0 64 = 0 := by
    simp [gateCheck, wd0]
    exact v
  rw [deskWrite, r, show (wd0.stack) = 0 from rfl, n, r, h, g, c]
  simp [writeChunks]

/-- An admission that awaits its table, whose root is that of zeros, and a number more. -/
def tabled (d : Digest) : Admission := { adm .table (some 0) with head := { head with chunks := 2, root := tableRoot 2 (z 128) + d } }


theorem witness_AdmissionsAndCircles :
    (let e := pf specCircleCreate 0xFF ([0, 2, 0] ++ z 5 ++ leBytes 4 16 ++ leBytes 4 2 ++ z 52)
     opens specCircleCreate e ready (fun t =>
      let w : Window := { base := p32 e 8, size := p32 e 12, stack := p8 e 2, access := 4, ctx := 255, use := .plain, save := none, exposed := false }
      decide (payFault ([(0, decide (p8 e 0 < 32)), (1, p8 e 1 == 1 || p8 e 1 == 2), (2, decide (p8 e 2 < nStacks t))] ++ rsv e 3 5 ++
        [(8, decide (p32 e 8 < 18432)), (12, decide (1 ≤ p32 e 12 ∧ p32 e 8 + p32 e 12 ≤ 18432))] ++ rsv e 16 4) = none ∧
        mget t.desk.circles (p8 e 0) = none ∧ rangeHeld t w = false ∧ stackShut t (p8 e 2) = false ∧ modeOfCode (p8 e 1) ≠ .confidential ∧
        rangeScrub t w = false ∧ t.eng.entropyFailed = false ∧ freePool t = some 0x180)) = true) ∧
    (let e := pf specCircleStatusGet 0xFF ([255] ++ z 7)
     opens specCircleStatusGet e (circled [] ready) (fun _ => decide (
      payFault ([(0, decide (p8 e 0 < 32) || p8 e 0 == 255)] ++ rsv e 1 1 ++ rsv e 4 4) = none ∧ p8 e 0 = 255)) = true) ∧
    (let a := { adm .waiting none with table := [] }
     let s := admitted a ready
     s.desk.adms.find? (fun b => b.step == .waiting && b.head.hd == a.head.hd && laneTurn s b && startAllowed s b.part) = some a ∧
     freeLane s = some 0 ∧ a.circle = none ∧ residentIn s a.part a.window = none ∧ a.readmit = false ∧ isConf s a.part = false) ∧
    (let a := { adm .headerMark (some 0) with table := [] }
     (admitted a ready).desk.adms.find? (fun b => b.step == .headerMark) = some a ∧ (admitted a ready).eng.pkeFenced = false) ∧
    (∃ a : Admission, ∃ s : State, ∃ b : Bytes,
     s.desk.adms.find? (fun b => b.lane == some (0#3).toNat && !b.hit && (b.step == .table || b.step == .chunks)) = some a ∧
     admBusy s a = false ∧ a.step = .table ∧ b.length = 64 * a.head.chunks ∧ tableRoot a.head.chunks b = a.head.root) ∧
    (∃ a : Admission, ∃ s : State, ∃ b : Bytes,
     s.desk.adms.find? (fun b => b.lane == some (0#3).toNat && !b.hit && (b.step == .table || b.step == .chunks)) = some a ∧
     admBusy s a = false ∧ a.step = .table ∧ b.length = 64 * a.head.chunks ∧ tableRoot a.head.chunks b ≠ a.head.root) ∧
    (let a := adm .chunks (some 0)
     let s := admitted a ready
     let b := z 64
     s.desk.adms.find? (fun b => b.lane == some (0#3).toNat && !b.hit && (b.step == .table || b.step == .chunks)) = some a ∧
     admBusy s a = false ∧ a.step = .chunks ∧ a.chunk + 1 < a.head.chunks ∧ b.length = min (2 ^ 20) (a.head.plainLen - a.chunk * 2 ^ 20) ∧
     poolUp s = true ∧ s.eng.seFenced = false ∧ sha384 b = (a.table.getD a.chunk (0, 0)).1 ∧ (slot s a.slot).isEmpty = false ∧
     Config.gcmTag a.key (chunkIv a.head a.chunk) (digBytes a.head.hd ++ be64 a.chunk) b = (a.table.getD a.chunk (0, 0)).2 ∧
     (deskWrite a (a.chunk * 2 ^ 20) (gcmXor a.key (chunkIv a.head a.chunk) b) s).2 = 0) ∧
    (∀ st ∈ [AdmStep.chunks, .done],
     let a := { adm st (some 0) with table := [] }
     let s := admitted a (partly ready fun x => { x with mode := .confidential })
     isConf s (0#7).toNat = true ∧ s.desk.adms.find? (fun b => b.part == (0#7).toNat && b.window == (0#4).toNat && b.lane.isSome) = some a) := by
  refine ⟨by decide +kernel, by decide +kernel, by decide +kernel, by decide +kernel,
    ⟨tabled 0, admitted (tabled 0) ready, z 128, rfl,
      by decide +kernel, rfl, List.length_replicate, by simp [tabled]⟩,
    ⟨tabled 1, admitted (tabled 1) ready, z 128, rfl,
      by decide +kernel, rfl, List.length_replicate, by simp [tabled]⟩,
    ⟨rfl, by decide +kernel, rfl, by decide +kernel, by decide +kernel, by decide +kernel, by decide +kernel, rfl, by decide +kernel, ?_,
      lands _ ((gcmXor_length ..).trans List.length_replicate)⟩, by decide +kernel⟩
  have x : chunkIv (adm .chunks (some 0)).head 0 = 0 ∧ digBytes (adm .chunks (some 0)).head.hd ++ be64 0 = z 56 := by decide +kernel
  show Config.gcmTag 0 (chunkIv (adm .chunks (some 0)).head 0) (digBytes (adm .chunks (some 0)).head.hd ++ be64 0) (z 64) = _
  rw [x.1, x.2]; rfl

/-! ### The cores -/

/-- `ready` with core 0 changed. -/
def at0 (f : Core → Core) : State := { ready with cores := mupd ready.cores 0 f }

/-- A scalar slot, a control word, a descriptor and a wide word with every field zero. -/
def slot0 : SSlot := { slot := 0, rsv := 0, pred := 0, pbit := 0, pneg := false, rd := 0, ra := 0, rb := 0, immsel := false, imm := 0 }
def cword : CWord := { pred := 0, pbit := 0, pneg := false, ra := 0, rb := 0, rd := 0, cond := 0, target := 0, rsv1 := 0, imm16 := 0, rsv2 := 0 }
def wword : WWord :=
  { pred := 0, pneg := false, acc := 0, aclr := false, dtype := 0, nospec := false, cache := 0, xtag := 0, mM1 := 0, nM1 := 0, kM1 := 0,
    da := Desc.zero, db := Desc.zero, dd := Desc.zero, mrow := 0, mcol := 0, smode := 0, shift := 0, sreg := 0, zp := 0, rsv := 0 }

/-- A wide-register descriptor, and one with a stride. -/
def wreg (n : Nat) : Desc := { Desc.zero with space := 1, imm := BitVec.ofNat 23 n }
def every (n : Nat) : Desc := { Desc.zero with stride := BitVec.ofNat 16 n }

/-- `Says.issues` at core 0, as a test. -/
def issues0 (s : State) : Bool :=
  decide ((core s 0).st = .run ∧ (core s 0).pc < (core s 0).progLen / 32 ∧ (core s 0).dbg.trace = none)

theorem witness_ScalarResults :
    let off := at0 fun x => { x with m := [(1, 0)] }
    let y := { slot0 with rd := 1, ra := 2 }
    issues0 ready = true ∧ issues0 off = true ∧
    (sUnused { rd := true, ra := true, b := true } { y with rb := 3 } = true ∧ sUnused { rd := true, ra := true, b := true } slot0 = true ∧
      sUnused {} slot0 = true ∧ sUnused { rd := true, imm := true } { slot0 with rd := 1, imm := 5 } = true ∧
      sUnused { rd := true, ra := true, imm := true } { y with imm := 5 } = true ∧ sUnused { rd := true, ra := true } y = true) ∧
    (getM (core ready 0) 0).getLsbD (y.pbit.toNat) ≠ y.pneg ∧ ¬ (getM (core off 0) 1).getLsbD 0 ≠ false ∧
    y.rd.toNat < 8 ∧ y.rd ≠ 0 ∧ y.ra.toNat < 8 := by decide +kernel

theorem witness_ScalarMemoryAndFaults :
    let x := core ready 0
    let i := { slot0 with rd := 1, ra := 2, imm := 8 }
    let o := { i with imm := 4 }
    let marked := at0 fun x => { x with lsMark := [(0, 9)] }
    let beyond := at0 fun x => { x with progLen := 0 }
    let deaf := { ready with q := { ready.q with regs := [] } }
    issues0 ready = true ∧ issues0 marked = true ∧ (getM x i.pred.toNat).getLsbD i.pbit.toNat ≠ i.pneg ∧
    (let a := (getX x i.ra.toNat + i.imm.signExtend 64).toNat
     sUnused { rd := true, ra := true, imm := true } i = true ∧ a % 8 = 0 ∧ a + 8 ≤ 8388608 ∧ mget x.lsMark (a / 64) = none ∧
       mget (core marked 0).lsMark (a / 64) = some 9 ∧ sUnused { ra := true, rb := true, imm := true } { i with rd := 0, rb := 3 } = true) ∧
    (getX x o.ra.toNat + o.imm.signExtend 64).toNat % 8 ≠ 0 ∧
    sUnused { rd := true, imm := true } { slot0 with rd := 1, imm := 5 } = true ∧ sUnused { rd := true, imm := true } { slot0 with rd := 1, imm := 4 } = true ∧
    (part .open).mode ≠ .confidential ∧ (coreHolder ready 0).bind (part? ready) = some (part .open) ∧
    ((core beyond 0).st = .run ∧ (core beyond 0).progLen / 32 ≤ (core beyond 0).pc) ∧
    (cUnused {} { cword with imm16 := 1 } = false ∧ sUnused {} { slot0 with rd := 1 } = false) ∧
    (coreHolder deaf 0 = some 0 ∧ part? deaf 0 = some (part .open) ∧ deaf.power.pcie = true ∧ (fnRegs deaf (fnOf 0)).comp.enable = false) := by
  decide +kernel

theorem witness_WideAndMatrix :
    let x := core ready 0
    let w := { wword with da := wreg 1, db := wreg 2, dd := wreg 63, dtype := 3 }
    let s := { wword with da := wreg 1, dd := wreg 63, dtype := 3, shift := 4 }
    let m := { wword with acc := 1, dtype := 1, mM1 := 63, nM1 := 63, kM1 := 1, da := every 64, db := every 64 }
    let r := { wword with acc := 1, dtype := 3, mM1 := 1, nM1 := 1, da := every 8 }
    let d := { r with da := Desc.zero, dd := every 8, shift := 2, zp := 1 }
    (4 ≤ 4 ∧ 0 < 8192 / laneBits 4 ∧ (255 : Nat) < 255 + 1 ∧ 127 < sgn 8 127 * sgn 8 2 ∧ -128 ≤ sgn 8 255 * sgn 8 2) ∧
    issues0 ready = true ∧
    (descW w.da = true ∧ descW w.db = true ∧ descW w.dd = true ∧ w.dtype.toNat ≤ 4 ∧ wUnused { pred := true, dtype := true } w = true ∧
      wUnused { dtype := true } w = true ∧ wUnused { pred := true } { w with dtype := 0 } = true ∧
      wUnused { sreg := true } { w with dtype := 0, sreg := 5 } = true) ∧
    (descW s.da = true ∧ descNone s.db = true ∧ descW s.dd = true ∧ wUnused { dtype := true, shift := true } s = true) ∧
    (wUnused {} wword = true ∧ descNone wword.da = true ∧ descNone wword.db = true ∧ descNone wword.dd = true) ∧
    (let l := { wword with dd := wreg 1 }
     wUnused {} l = true ∧ descLs l.da = true ∧ descNone l.db = true ∧ descW l.dd = true ∧ l.da.stride = 0 ∧
       descAddr x l.da 0 + 1024 ≤ 8388608 ∧ x.lsMark = []) ∧
    (let l := { wword with da := wreg 1 }
     wUnused {} l = true ∧ descW l.da = true ∧ descNone l.db = true ∧ descLs l.dd = true ∧ l.dd.stride = 0 ∧
       descAddr x l.dd 0 + 1024 ≤ 8388608) ∧
    (wUnused { acc := true, aclr := true, dtype := true, m := true, n := true, k := true, mask := true } m = true ∧ m.dtype.toNat ≤ 1 ∧
      descLs m.da = true ∧ descLs m.db = true ∧ descNone m.dd = true ∧
      ∀ q, q < 2 → descAddr x m.da q + 64 ≤ 8388608 ∧ descAddr x m.db q + 64 ≤ 8388608) ∧
    (wUnused { acc := true, dtype := true, m := true, n := true, mask := true } r = true ∧ r.dtype = 3 ∧ descLs r.da = true ∧
      descNone r.db = true ∧ descNone r.dd = true ∧ ∀ q, q < 2 → descAddr x r.da q + 8 ≤ 8388608) ∧
    (wUnused { acc := true, dtype := true, m := true, n := true, mask := true, scale := true, shift := true, sreg := true } d = true ∧
      d.dtype = 3 ∧ d.smode = 0 ∧ d.sreg = 0 ∧ descNone d.da = true ∧ descNone d.db = true ∧ descLs d.dd = true ∧
      d.dd.stride.toNat = 4 * 2 ∧ descAddr x d.dd 0 + 4 * 2 * 2 ≤ 8388608) := by
  decide +kernel

/-- A line of a transfer, a transfer, and core 0 with it outstanding. -/
def xline : XferLine := { idx := 0, off := 0, ls := 0, len := 64, data := z 64 }
def xfer (st : Bool) : Xfer := { tag := 3, isSt := st, win := 0, cache := 2, rows := [xline] }
def moving (st : Bool) : State := at0 fun x => { x with xfers := [xfer st] }

/-- Line 0 of window 0 poisoned, and the partition's memory key gone. -/
def poisoned (s : State) : State :=
  { s with mem := { s.mem with hbm := [(0, { stackOf s 0 with lines := [(131072, { mark := .poison, tag := 0, ecc := .clean })] })] } }
def keyless (s : State) : State := { s with vault := { s.vault with mce := [] } }

/-- A window descriptor over window 0. -/
def dwin : Desc := { Desc.zero with space := 2 }

theorem witness_Transfers :
    let x := core ready 0
    let ld := { wword with da := dwin, mM1 := 1, kM1 := 63, xtag := 3, cache := 2 }
    let st := { wword with dd := dwin, mM1 := 1, kM1 := 63, xtag := 3, cache := 2 }
    let bare := at0 fun x => { x with wd := [] }
    (issues0 ready = true ∧ issues0 (moving false) = true ∧ issues0 bare = true ∧ ld.cache ≠ 3) ∧
    (wUnused { m := true, k := true, nospec := true, cache := true } ld = true ∧ descWin ld.da = true ∧ descNone ld.db = true ∧
      descLs ld.dd = true ∧ xferOut (core (moving false) 0) (tagBit ld.xtag) = true ∧ xferOut x (tagBit ld.xtag) = false ∧
      (let rows := (List.range 2).map fun r => (descAddr x ld.da r, descAddr x ld.dd r)
       lsCheck x [] (rows.map fun r => (r.2, 64)) = none ∧ xferCheck x 0 false rows 64 = none) ∧
      (Wd.ofBits (mgetD (core bare 0).wd 0 0)).valid = false) ∧
    (wUnused { m := true, k := true, cache := true } st = true ∧ descLs st.da = true ∧ descNone st.db = true ∧ descWin st.dd = true ∧
      st.cache = 2 ∧ xferOut x (tagBit st.xtag) = false ∧
      (let rows := (List.range 2).map fun r => (descAddr x st.dd r, descAddr x st.da r)
       lsCheck x (rows.map fun r => (r.2, 64)) [] = none ∧ xferCheck x 0 true rows 64 = none)) ∧
    (∀ s ∈ [moving false, poisoned (moving false)], coreHolder s (0#7).toNat = some 0 ∧ tracked s 0 0 0 = false ∧
      xferFind (core s 0) 3 false (0#16).toNat = some (xfer false, xline) ∧ xferCheck (core s 0) 0 false [(0, 0)] 64 = none) ∧
    (memRead (.core 0) 0 0 64 (touch 0 0 (moving false))).2.1 = 0 ∧ (memRead (.core 0) 0 0 64 (touch 0 0 (poisoned (moving false)))).2.1 ≠ 0 ∧
    (∀ s ∈ [moving true, keyless (moving true)], coreHolder s (0#7).toNat = some 0 ∧ tracked s 0 0 0 = false ∧
      xferFind (core s 0) 3 true (0#16).toNat = some (xfer true, xline)) ∧
    (let q := fun s => memWrite (.core 0) 0 0 (z 64) (l2Drop 0 0 (resolve s (.core 0) 0).wd.stack (gateAddr (resolve s (.core 0) 0) 0 / 64) s)
     (q (moving true)).2 = 0 ∧ (q (keyless (moving true))).2 ≠ 0) := by
  decide +kernel

theorem witness_ControlFlow :
    let x := core ready 0
    let b := { cword with cond := 2, target := 3 }
    let full := at0 fun x => { x with rstack := List.replicate 64 2 }
    let in1 := at0 fun x => { x with rstack := [2] }
    let off := { cword with pneg := true }
    (issues0 ready = true ∧ issues0 full = true ∧ issues0 in1 = true) ∧
    (cUnused {} cword = true ∧ cUnused { ra := true, rb := true, cond := true, target := true } b = true ∧
      cUnused { target := true } { cword with target := 3 } = true ∧ cUnused { ra := true } { cword with ra := 5 } = true) ∧
    ((getM x b.pred.toNat).getLsbD b.pbit.toNat ≠ b.pneg ∧ ¬ (getM x off.pred.toNat).getLsbD off.pbit.toNat ≠ off.pneg) ∧
    ({ b with cond := 0 }.cond = 0 ∧ ((3 : Nat) : Int) = x.pc + b.target.toInt ∧ getX x b.ra.toNat = getX x b.rb.toNat) ∧
    (x.rstack.length < 64 ∧ 64 ≤ (core full 0).rstack.length ∧ (core in1 0).rstack = [2] ∧ x.rstack = []) := by
  decide +kernel

/-- A token that partition 0 holds, and `ready` with it. -/
def token (n : BitVec 32) : Token :=
  { count := n, initial := 0, periodReset := false, proxy := false, overflow := false, homePost := 0, homeTok := 0, channel := 0,
    waiters := [], sigSeq := 0, imp := none }
def tokened (n : BitVec 32) (s : State) : State :=
  { s with parts := { s.parts with tokens := [(5, { Res.free with st := .held 0 })] }, q := { s.q with tokens := [(5, token n)] } }

/-- A line in the second-level cache of tile 0. -/
def l2line (d : Bool) : L2Line := { tile := 0, part := 0, stack := 0, line := 131072, dirty := d, poison := false, data := z 64 }
def cached (d : Bool) : State := { ready with mem := { ready.mem with l2 := [l2line d] } }

theorem witness_QueuesAndTokens :
    let x := core ready 0
    let has := at0 fun x => { x with queue := [work] }
    let later := at0 fun x => { x with queue := [{ work with period := 9 }] }
    let held := at0 fun x => { x with entry := some work }
    let deferred := at0 fun x => { x with deferTag := [3], lastDefer := 0x14 }
    let tk := { cword with imm16 := 5, rd := 1 }
    (∀ s ∈ [ready, has, later, held, deferred, moving true, moving false, tokened 0 ready, tokened 2 ready],
      issues0 s = true ∧ coreHolder s 0 = some 0 ∧ part? s 0 = some (part .open)) ∧
    (getM x 0).getLsbD 0 ≠ false ∧ cUnused {} cword = true ∧
    ((core has 0).queue.find? (fun e => decide (e.period.toNat ≤ (part .open).periodSeq.toNat)) = some work ∧ (core has 0).entry = none) ∧
    (∀ e ∈ (core later 0).queue, (part .open).periodSeq.toNat < e.period.toNat) ∧
    ((core (moving true) 0).xfers.any (fun f => f.isSt) = true ∧ (x.xfers.any fun f => f.isSt) = false ∧ x.deferTag = [] ∧
      ((core deferred 0).xfers.any fun f => f.isSt) = false ∧ (core deferred 0).deferTag ≠ []) ∧
    ((∀ l ∈ ready.mem.l2, l.tile = (0#7).toNat / 16 → l.part = 0 → l.dirty = false) ∧ (cached true).mem.l2 = [l2line true] ∧
      (l2line true).tile = (0#7).toNat / 16 ∧ (l2line true).part = 0 ∧ (writeBack (l2line true) (cached true)).2 = true) ∧
    (cUnused { imm := true } { cword with imm16 := 8 } = true ∧ xferOut (core (moving false) 0) 8 = true ∧ xferOut x 8 = false) ∧
    (cUnused { ra := true } { cword with ra := 4 } = true ∧ (core held 0).entry = some work ∧ (core held 0).deferTag = [] ∧
      (getX (core held 0) 4).toNat % 2 ^ 32 ≤ work.outLen ∧ (getX (core held 0) 4).toNat % 2 ^ 32 = 0 ∧ x.entry = none) ∧
    (getX x tk.ra.toNat + tk.imm16.zeroExtend 64).toNat = 5 ∧
    ((resOf (tokened 0 ready) 4 5).st = .held 0 ∧ mget (tokened 0 ready).q.tokens 5 = some (token 0)) ∧
    ((resOf (tokened 2 ready) 4 5).st = .held 0 ∧ mget (tokened 2 ready).q.tokens 5 = some (token 2)) ∧
    ((token 2).proxy = false ∧ (token 2).waiters = [] ∧ (token 2).count ≠ 0) ∧
    (cUnused { ra := true, rd := true, imm := true } tk = true ∧ cUnused { ra := true, rb := true, imm := true } { tk with rd := 0 } = true ∧
      (resOf ready 4 (getX x tk.ra.toNat + tk.imm16.zeroExtend 64).toNat).st ≠ .held 0) := by
  decide +kernel

/-- A state whose tile 0 has a way for partition 0 and whose directory and snoops are given. -/
def dired (d : SMap DirEntry) (n : List Snoop) (l : List L2Line) : State :=
  { ready with
    parts := { ready.parts with ways := [(0, { Res.free with st := .held 0 })] }
    q := { ready.q with dir := d, snoops := n }
    mem := { ready.mem with l2 := l } }
def snoop (f : Bool) : Snoop := { sid := 7, line := 131072, tile := 0, fetch := f }

theorem witness_DirectoryRequests :
    let s := dired [] [] []
    let m : DirEntry := { st := .m, sharers := 2, owner := 0 }
    let o := dired [(131072, m)] [] []
    let key := (0#3).toNat * 2 ^ 30 + (131072#30).toNat
    (∀ v ∈ [s, o], v.q.dirWaits = [] ∧ domOf v 2 = .on ∧ domOf v (6 + (0#3).toNat) = .on ∧ hasWay v (0#3).toNat 0 = true ∧
      domOf v (stackPd (0#3).toNat) = .on ∧ (lineGate v 0 0 131072).key ≠ none ∧ stackShut v 0 = false ∧ l2Find v 0 0 0 131072 = none) ∧
    (mget s.q.dir key = none ∧ (s.q.dir.filter fun e => e.2.owner == 0).length < 16384 * (heldOf s 3 0).length ∧
      (readLine (lineGate s 0 0 131072) 0 131072 s).2.1 = 0) ∧
    (mget o.q.dir key = some m ∧ m.st = .m ∧ otherTiles m 0 = [1] ∧ o.q.snoops = []) ∧
    (∀ b ∈ [true, false], let w := dired [] [] [l2line b]
      w.q.dirWaits = [] ∧ w.q.snoops = [] ∧ l2Find w 0 0 0 131072 = some (l2line b) ∧ (writeBack (l2line b) w).2 = true) ∧
    (∀ b ∈ [true, false], ∀ l ∈ [[], [l2line false]], let w := dired [(131072, { m with sharers := 1 })] [snoop b] l
      w.q.dirWaits = [] ∧ w.q.snoops.find? (fun x => x.line == key && x.tile == (0#3).toNat && x.fetch == b) = some (snoop b) ∧
      w.mem.l2.all (fun l => !l.dirty) = true ∧ w.q.snoops.find? (fun x => x.sid == 7) = some (snoop b) ∧
      mget w.q.dir (snoop b).line = some { m with sharers := 1 }) := by
  decide +kernel

/-! ### The thermal governor, frames, periods and scrubs -/

/-- `ready` with the thermal state changed. -/
def warm (f : Thermal → Thermal) : State := { ready with therm := f ready.therm }

/-- `ready` with one reading of a sensor at the trip threshold. -/
def nearTrip : State :=
  let x := { Sensor.reset with tripRun := 1 }
  warm fun t => { t with coreS := [(0, x)], stackS := [(0, x), (1, x)], hubS := [(0, x)] }

theorem witness_Governor :
    let fc := warm fun t => { t with coreT := [(0, { CoreTherm.reset with preStep := 2 })] }
    let low := warm fun t => { t with lowFlow := some 0 }
    let stale := warm fun t => { t with flowStale := true }
    let off := quiet
    ((0#7).toNat < nCores ready ∧ domOf ready (6 + (0#7).toNat / 16) = .on ∧ (coreSensor ready 0).faulted = false ∧
      (coreSensor ready 0).same < 399 ∧ (coreSensor ready 0).diff < 39 ∧ openCore ready 0 = true ∧ (core ready 0).step < 4 ∧
      (coreTherm ready 0).lastDown = none ∧ (coreSensor ready 0).tripRun = 0 ∧ 0 ≤ (450#16).toInt ∧ (1050#16).toInt < 1150 ∧
      (0xFFFF#16).toInt < 0 ∧ 1500 < (1501#16).toInt) ∧
    ((coreSensor nearTrip 0).tripRun = 1 ∧ nearTrip.aon.ret.tripLatch = false ∧ domOf nearTrip 6 = .on ∧
      (coreSensor nearTrip 0).faulted = false ∧ (stackSensor nearTrip 0).tripRun = 1 ∧ (stackSensor nearTrip 1).tripRun = 1 ∧
      (stackSensor nearTrip 0).faulted = false ∧ (1150#16).toInt ≤ 1500) ∧
    ((23#5).toNat < 24 ∧ domOf ready 2 = .on ∧ (hubSensor ready 23).faulted = false ∧ (hubSensor ready 23).tripRun = 0 ∧
      (hubSensor ready 23).same < 399) ∧
    ((0#3).toNat < nStacks ready ∧ domOf ready (14 + (0#3).toNat) = .on ∧ (1#3).toNat < nStacks ready ∧ domOf ready (14 + (1#3).toNat) ≠ .on ∧
      confShare ready 0 = false ∧ (stackTherm ready 0).lastChange = none ∧ (stackTherm ready 0).level < 3) ∧
    (domOf ready 1 = .on ∧ hostReady ready = true ∧ ready.therm.lowFlow = none ∧ low.therm.lowFlow = some 0 ∧ 32768 ≤ age low 0 ∧
      low.aon.ret.tripLatch = false ∧ stepFloor ready 0 ≤ 4) ∧
    ((∃ k, k < nTiles ready ∧ domOf ready (6 + k) = .on) ∧
      (∀ k, k < nTiles ready → domOf { off with power := { off.power with dom := [(1, .on)] } } (6 + k) ≠ .on) ∧
      ∀ e ∈ off.therm.coreT, e.2.plan = none) ∧
    (openCore fc (0#7).toNat = true ∧ (core fc 0).step < (coreTherm fc 0).preStep) ∧ (coreTherm ready 0).preStep ≤ (core ready 0).step ∧
    { ready.therm with flowStale := false }.flowStale = false ∧ stale.therm.flowStale = true := by
  refine ⟨by decide +kernel, by decide +kernel, by decide +kernel, by decide +kernel, by decide +kernel,
    ⟨⟨0, by decide +kernel⟩, by decide +kernel, by decide +kernel⟩, ?_⟩
  decide +kernel

theorem witness_FrameEdges :
    let x := { Thermistor.reset with cls := .short }
    (dark.aon.vddAon = false ∧ due.aon.vddAon = true ∧ serves due = false ∧ hostReady due = false ∧ ready.aon.vddAon = true ∧
      hostReady ready = true) ∧
    (Thermistor.reset.cls = .valid ∧ x.cls ≠ .valid ∧ x.goodRun < 4 ∧ { x with goodRun := 4 }.goodRun = 4) ∧
    (mrises 0 ready.parts.parts = true ∧ part? ready 0 = some (part .open) ∧ (part .open).level ≤ 3 ∧ (part .open).mode ≠ .confidential ∧
      part? (partly ready fun y => { y with mode := .confidential }) 0 = some (part .confidential)) := by
  decide +kernel

/-- A scrub job of a core, and of window 1 of partition 0's number. -/
def scrubJob (rt : Nat) (again : Bool) : ScrubJob :=
  { rtype := rt, rid := 1, former := 0, mode := 2, stack := 0, base := 8, size := 1, started := 0, repeated := again, tripped := false,
    paused := false, next := .free, env := none, dropped := 0 }
def scrubbing (rt : Nat) (again : Bool) : State := { ready with scrub := { ready.scrub with jobs := [scrubJob rt again] } }

theorem witness_PeriodsAndScrubsEnd :
    let p (f : Partition → Partition) : State := partly ready f
    let per := p fun x => { x with periodUs := 1000 }
    let tok := { tokened 3 per with q := { per.q with tokens := [(5, { token 3 with periodReset := true })] } }
    let pend := p fun x => { x with periodUs := 1000, pendUs := 2000, state := .held }
    (∃ x, part? ready (0#7).toNat = some x ∧ x.periodUs = 0) ∧
    (∃ x, part? tok (0#7).toNat = some x ∧ x.periodUs ≠ 0 ∧ x.state = .running ∧ x.switchTo = none ∧ x.pendUs = 0) ∧
    (tok.therm.groups = [] ∧ tok.q.posting = [] ∧ (coresOf tok 0).Nodup ∧ coresOf tok 0 = [0] ∧ (core tok 0).waiting ≠ .queue ∧
      (core tok 0).st ≠ .unassigned ∧ (core tok 0).queue = [] ∧ (core tok 0).entry = none ∧ 5 ∈ heldOf tok 4 0 ∧ (heldOf tok 4 0).Nodup ∧
      mget tok.q.tokens 5 = some { token 3 with periodReset := true }) ∧
    (∃ x, part? pend (0#7).toNat = some x ∧ x.periodUs ≠ 0 ∧ x.state ≠ .running ∧ x.state ≠ .destroying ∧ x.pendUs ≠ 0) ∧
    (∀ rt ∈ [1, 2], ∀ b ∈ [true, false], (scrubbing rt b).scrub.jobs = [scrubJob rt b] ∧ (scrubJob rt b).rtype = rt ∧
      (scrubJob rt b).repeated = b ∧ (scrubbing rt b).parts.rollback = none) ∧
    (scrubJob 1 true).rid = (1#32).toNat ∧ (1#32).toNat = 16 * (scrubJob 2 true).former + (scrubJob 2 true).rid ∧
    (∀ x, part? (scrubbing 1 true) 0 = some x → x.state ≠ .destroying) := by
  refine ⟨⟨_, rfl, by decide +kernel⟩, ⟨_, rfl, by decide +kernel⟩, by decide +kernel, ⟨_, rfl, by decide +kernel⟩, by decide +kernel,
    by decide +kernel, by decide +kernel, fun x h => ?_⟩
  have : x = part .open := Option.some.inj (h.symm.trans rfl)
  rw [this]; exact fun h => by cases h

/-! ### Partitions, contexts and epochs -/

/-- `Says.target` and what a clause adds, as a test on the state a partition command opens to. -/
def aims (e : Env) (t : State) (h : Partition → Bool) : Bool :=
  match part? t e.target.toNat with
  | some x => decide (x.state ≠ .destroying ∧ t.parts.rollback = none ∧ t.parts.openSteps.length ≤ 3000 ∧ t.parts.openTids.length < 100 ∧
      (allHeld t e.target.toNat x).length ≤ 500 ∧ x.ctxs.length ≤ 16) && h x
  | none => false

/-- A partition at rest with a period, and `ready` with it. -/
def resting : State := partly ready fun x => { x with state := .held, periodUs := 1000 }
def secret : State := partly ready fun x => { x with mode := .confidential }

theorem witness_PartitionCommands :
    (∀ m ∈ [(1 : Byte), 2], let e := pf specPartitionCreate 3 (m :: z 55)
      opens specPartitionCreate e ready (fun t => decide (payFault ([(0, p8 e 0 == 1 || p8 e 0 == 2)] ++ rsv e 1 7) = none ∧
        part? t e.target.toNat = none ∧ t.eng.entropyFailed = false ∧ t.parts.rollback = none ∧ t.parts.openSteps.length < 4096 ∧
        t.parts.openTids.length < 128 ∧ t.parts.debugOpen = false)) = true) ∧
    (let e := pf specPartitionCreate 0 (1 :: z 55)
     opens specPartitionCreate e ready (fun t => aims e t fun _ => decide (
      payFault ([(0, p8 e 0 == 1 || p8 e 0 == 2)] ++ rsv e 1 7) = none)) = true) ∧
    (let e := pf specPartitionDestroy 0 []
     opens specPartitionDestroy e ready (fun t => aims e t fun _ => true) = true) ∧
    (∀ b ∈ [true, false], let e := pf specPartitionStart 0 []
     opens specPartitionStart e (if b then resting else partly ready fun x => { x with state := .held }) (fun t => aims e t fun x =>
      decide (x.state = .held ∧ startable x t 0 = b)) = true) ∧
    (let e := pf specPartitionStop 0 []
     opens specPartitionStop e resting (fun t => aims e t fun x => decide (x.state = .held)) = true ∧
     opens specPartitionStop e ready (fun t => aims e t fun x => decide (x.state = .running ∧ x.switchTo = none ∧ t.q.posting = [] ∧
      ∀ c ∈ coresOf t 0, (core t c).queue = [] ∧ (core t c).entry = none)) = true) ∧
    (∀ s ∈ [ready, secret], let e := pf specPartitionModeSet 0 (2 :: z 7)
     opens specPartitionModeSet e s (fun t => aims e t fun x => decide (x.mode = (part?  s 0).elim .open (·.mode) ∧
      payFault ([(0, p8 e 0 == 1 || p8 e 0 == 2)] ++ rsv e 1 7) = none ∧ p8 e 0 = 2)) = true) := by
  decide +kernel

/-- `ready` with tokens, cores, ways and pool slots changed; and with stack 0's units cleared since the fill. -/
def withRes (r : Res) : State :=
  { ready with
    parts := { ready.parts with cores := [(0, r)], ways := [(0, r)], tokens := [(0, r)], pools := [(0x180, r)] } }
def cleared : State :=
  { ready with mem := { ready.mem with hbm := [(0, { stackOf ready 0 with cleared := [(8, true), (9, true)] })] } }

/-- A grant's payload. -/
def grant (rt rid : Nat) (v : Bytes) : Bytes := BitVec.ofNat 8 rt :: z 3 ++ leBytes 4 rid ++ v

/-- The parameters of a window of two units at unit 8 of stack 0. -/
def wparams : Bytes := leBytes 4 8 ++ leBytes 4 2 ++ [0, 3, 255] ++ z 5

theorem witness_GrantsAndRevokes :
    let ok := fun (e : Env) (s : State) (h : State → Partition → Bool) =>
      opens specPartitionGrant e s (fun t => aims e t fun x => decide (payFault (grantChecks t e) = none) && h t x)
    let rev := fun (e : Env) (s : State) (h : State → Partition → Bool) =>
      opens specPartitionRevoke e s (fun t => aims e t fun x =>
        decide (payFault ((grantChecks t { e with payload := padTo 24 e.payload }).take 5) = none) && h t x)
    let r0 := withRes { Res.free with st := .held 0 }
    let r7 := withRes { Res.free with st := .held 7 }
    let free := withRes Res.free
    let tagged := withRes { Res.free with tag := some 5 }
    let w := windowFrom (BitVec.ofNat 128 (leNat wparams))
    (∀ i ∈ [(1, 0), (3, 0), (4, 0), (5, 0x180)], let e := pf specPartitionGrant 0 (grant i.1 i.2 (z 16))
      ok e free (fun t x => decide ((resOf t i.1 i.2).st = .free ∧ (resOf t i.1 i.2).tag = none ∧ resFenced t i.1 i.2 = false ∧
        mhas x.ctxs 0 = true)) = true ∧
      ok e r7 (fun t _ => decide ((resOf t i.1 i.2).st = .held 7)) = true) ∧
    (∀ i ∈ [(1, 0), (3, 0)], let e := pf specPartitionGrant 0 (grant i.1 i.2 (z 16))
      ok e tagged (fun t x => decide ((resOf t i.1 i.2).st = .free ∧ (resOf t i.1 i.2).tag = some 5 ∧ resFenced t i.1 i.2 = false ∧
        5 ≠ x.tenant)) = true) ∧
    (∀ b ∈ [true, false], let e := pf specPartitionGrant 0 (grant 7 3 (leBytes 2 (if b then 5 else 500) ++ z 14))
      ok e ready (fun t x => decide (partShare x 7 3 = none ∧ t.scrub.jobs = [] ∧ pathShut t 7 3 = false ∧
        slotsFit t 0 7 3 (shareOf (BitVec.ofNat 128 (fld e.payload 8 16))) = b ∧ x.mode ≠ .confidential)) = true) ∧
    (∀ b ∈ [true, false], let e := pf specPartitionGrant 0 (grant 2 1 wparams)
      ok e (if b then ready else cleared) (fun t x => decide (mget x.windows 1 = none ∧ rangeHeld t w = false ∧ w.ctx = 255 ∧
        stackShut t w.stack = false ∧ t.scrub.jobs = [] ∧ x.mode ≠ .confidential ∧ mget x.mem w.stack ≠ none ∧ rangeFresh t w = b)) = true) ∧
    (let e := pf specPartitionGrant 0 (grant 2 0 wparams)
     ok e ready (fun _ x => decide (mget x.windows 0 ≠ none)) = true) ∧
    (∀ s ∈ [r0, { r0 with parts := { r0.parts with parts := [(0, part .confidential)] } }],
      let e := pf specPartitionRevoke 0 (grant 1 0 [])
      rev e s (fun t x => decide ((resOf t 1 0).st = .held 0 ∧ x.mode = (part? s 0).elim .open (·.mode))) = true) ∧
    (∀ i ∈ [(4, 0), (5, 0x180)], let e := pf specPartitionRevoke 0 (grant i.1 i.2 [])
      rev e r0 (fun t _ => decide ((resOf t i.1 i.2).st = .held 0)) = true ∧
      rev e free (fun t _ => decide ((resOf t i.1 i.2).st ≠ .held 0)) = true) ∧
    (let e := pf specPartitionRevoke 0 (grant 2 0 [])
     rev e ready (fun _ x => decide (mget x.windows 0 = some win)) = true) ∧ win.use = .plain := by
  decide +kernel

/-- `ready` with a step recorded, and with an epoch before. -/
def openStep : State :=
  { ready with parts := { ready.parts with openSteps := [{ action := 1, rtype := 1, part := 0, ctx := 0, rid := 0, new := 0, old := 0 }] } }
def earlier : State := { ready with parts := { ready.parts with previous := some .zero, parts := [], cores := [] } }

theorem witness_ContextsAndPrograms :
    (let e := pf specContextCreate 0 ([1, 0, 0, 0, 255] ++ z 51)
     opens specContextCreate e ready (fun t => aims e t fun x => decide (mget x.ctxs (p8 e 0) = none ∧ p8 e 4 = 255 ∧ x.mode ≠ .confidential ∧
      payFault ([(0, decide (p8 e 0 < 16))] ++ rsv e 1 3 ++ [(4, decide (p8 e 4 < 16) || p8 e 4 == 255)] ++ rsv e 5 3) = none)) = true) ∧
    (let two := partly ready fun x => { x with ctxs := x.ctxs ++ [(1, { tid := 8, save := none, binds := [] })], windows := [] }
     ∀ i ∈ [(0 : Byte), 1], let b := i :: z 7
      let h := fun (e : Env) t => aims e t fun x => decide (payFault ([(0, decide (p8 e 0 < 16))] ++ rsv e 1 7) = none ∧
        mhas x.ctxs (p8 e 0) = true ∧ (p8 e 0 = 0 → p8 e 0 = x.running) ∧ (p8 e 0 ≠ 0 → p8 e 0 ≠ x.running) ∧ x.switchTo = none ∧
        x.windows = [] ∧ heldOf t 5 0 = [] ∧ t.desk.circles = [] ∧ t.desk.parcels = [] ∧ t.desk.adms = [] ∧ x.state = .running)
      opens specContextDestroy (pf specContextDestroy 0 b) two (h (pf specContextDestroy 0 b)) = true ∧
      opens specContextSwitch (pf specContextSwitch 0 b) two (h (pf specContextSwitch 0 b)) = true) ∧
    (∀ i ∈ [(5, true), (0, true), (500, false)], let b := i.2
      let e := pf specArbitrationSet 0 ([0, 3] ++ z 6 ++ leBytes 2 i.1 ++ z 14)
      let shared := partly ready fun x => { x with mem := [(0, { slotsA := 0, slotsB := 0 })] }
      opens specArbitrationSet e shared (fun t => aims e t fun x => decide (
        payFault ([(0, pathOk t (p8 e 0)), (1, decide (1 ≤ p8 e 1 ∧ p8 e 1 ≤ 3))] ++ rsv e 2 6 ++
          (if p8 e 0 = 0x10 then rsv e 12 12 else rsv e 10 14)) = none ∧ p8 e 1 = 3 ∧ e.target ≠ 0xFF ∧ p8 e 0 < 8 ∧
        (mget x.mem (p8 e 0)).any (fun h => (shareParams { slotsA := fld e.payload 8 2, slotsB := fld e.payload 10 2 } ==
          shareParams h) == (i.1 == 0)) ∧ slotsFit t 0 8 (p8 e 0) { slotsA := fld e.payload 8 2, slotsB := fld e.payload 10 2 } = b ∧
        x.mode ≠ .confidential)) = true) ∧
    (∀ i ∈ [(3 : Byte), 0x10, 0x21], let e := pf specArbitrationSet 0xFF ([i, 1] ++ z 22)
      ∀ b ∈ [true, false], let fixed := { ready with parts := { ready.parts with fixedMt := (if b then 0xFF else 0), fixedHt := b, fixedLt := (if b then 0xFFFF else 0) } }
      opens specArbitrationSet e fixed (fun t => decide (
        fixedOn t (pathOf (p8 e 0)).1 (pathOf (p8 e 0)).2 = b ∧ payFault ([(0, pathOk t (p8 e 0)), (1, decide (1 ≤ p8 e 1 ∧ p8 e 1 ≤ 3))] ++ rsv e 2 6 ++ rsv e 8 16) = none ∧
        p8 e 1 = 1 ∧ e.target = 0xFF ∧ t.parts.rollback = none ∧ t.parts.openSteps.length < 4096)) = true) ∧
    (opens specEpochCommit (pf specEpochCommit 0xFF []) ready (fun t => decide (t.parts.rollback = none ∧ t.parts.openSteps = [])) = true ∧
      opens specEpochCommit (pf specEpochCommit 0xFF []) openStep (fun t => decide (t.parts.rollback = none ∧ t.parts.openSteps ≠ [])) = true ∧
      opens specEpochRollback (pf specEpochRollback 0xFF []) ready (fun t => decide (t.parts.previous = none)) = true ∧
      opens specEpochRollback (pf specEpochRollback 0xFF []) earlier (fun t => decide (t.parts.previous ≠ none ∧ t.parts.openSteps = [] ∧
        t.parts.current.steps = [] ∧ t.scrub.jobs = [] ∧ t.parts.parts = [])) = true ∧
      opens specEpochStatusGet (pf specEpochStatusGet 0xFF []) ready (fun _ => true) = true ∧
      opens specEpochStatusGet (sp0 specEpochStatusGet 0xFF []) ready (fun _ => true) = true) ∧
    (∀ b ∈ [true, false],
      let e := sp0 specProgramBind 0 ([0, 0, 0, 0] ++ leBytes 4 32 ++ z 8 ++ [1] ++ z 15)
      opens specProgramBind e (if b then ready else resting) (fun t => aims e t fun x =>
        decide (payFault ([(0, decide (p8 e 0 < 16)), (1, decide (p8 e 1 < 16))] ++ rsv e 2 2 ++
          [(4, decide (32 ≤ p32 e 4 ∧ p32 e 4 ≤ 524288 ∧ p32 e 4 % 32 = 0))] ++ coresChecks t e 16) = none ∧
        bitsOf (BitVec.ofNat 128 (fld e.payload 16 16)) = [0] ∧ coreHolder t 0 = some 0 ∧ (x.running = p8 e 0 ∧ x.state = .running ↔ b = true) ∧
        p64 e 8 + p32 e 4 ≤ win.size * 2 ^ 21 ∧ mget x.windows (p8 e 1) = some win ∧ win.access.getLsbD 0 = true ∧
        (memRead (.host 0) (p8 e 1) (p64 e 8) (p32 e 4) t).2.1 = 0) &&
        (match ctxOf t e x (p8 e 0) with | some k => (bindOf k 0).isNone | none => false)) = true) ∧
    (∀ b ∈ [true, false],
      let bound := partly resting fun x =>
        { x with state := .held, ctxs := [(0, { tid := 9, save := none, binds := [.program 7 0 0 32 1] })] }
      let e := sp0 specProgramUnbind 0 (z 8 ++ [1] ++ z 15)
      opens specProgramUnbind e (if b then bound else resting) (fun t => aims e t fun x =>
        decide (payFault ([(0, decide (p8 e 0 < 16))] ++ rsv e 1 7 ++ coresChecks t e 8) = none ∧
          bitsOf (BitVec.ofNat 128 (fld e.payload 8 16)) = [0]) &&
        (match ctxOf t e x (p8 e 0) with | some k => (bindOf k 0).isSome == b | none => false)) = true) := by
  refine ⟨?_, ?_, ?_, ?_, ?_, ?_, ?_⟩ <;> decide +kernel

/-! ### The device, its logs and its management paths -/

/-- Records of the logs, at positions from 3. -/
def dead : DeadLetter :=
  { tick := 0, frame := 0, seq := 0, opcode := 0, path := 0, caller := 0, target := 0, sent := 0, internal := 0, check := 0, entry := 3,
    count := 1, source := 0 }
def fault : FaultRec :=
  { entry := 3, cls := 1, scope := 1, unit_ := 0, severity := 1, action := 0, frame := 30, tick := 0, part := 0, location := 0, detail := 0, count := 1 }
def pm : PmEntry := { reg := 0, etype := 1, seq := 3, tick := 0, d := 0, data := [] }
def logged : State :=
  { ready with mail := { ready.mail with dead := [dead], faults := [fault] }, boot := { ready.boot with log := [pm] } }

/-- A list read from a position. -/
def list_ (sp : OpSpec) (first : Nat) : Env := pf sp 0xFF (leBytes 8 first ++ z 8)

/-- A device with a bond, one in a caravan, and one with a link that trains. -/
def bond : Bond := { partner := 21, primary := true, rejoin := 0, acceptW := [], acceptO := [], raw := [] }
def joinSet : JoinSet := { caravan := 1, post := 2, priority := 0, mask := 0xFFFF, acceptW := [], acceptO := [], raw := [] }
def joined (f : Caravan → Caravan) : State := { ready with car := f { ready.car with join := some joinSet } }
def shadowed : State := { ready with twin := { ready.twin with bond := some bond, shadow := [{ mtype := 1, mseq := 3, body := [] }] } }

theorem witness_LogsAreRead :
    (∀ sp ∈ [specDeadletterRead, specFaultLogRead, specPostmarkLogRead],
      opens sp (list_ sp 3) logged (fun t => decide (payFault (rsv (list_ sp 3) 12 4) = none ∧ p64 (list_ sp 3) 0 = 3 ∧
        t.mail.dead.map (·.entry.toNat) = [3] ∧ t.mail.faults.map (·.entry.toNat) = [3] ∧ t.boot.log.map (·.seq.toNat) = [3])) = true ∧
      opens sp (list_ sp 2) logged (fun _ => decide (payFault (rsv (list_ sp 2) 12 4) = none ∧ p64 (list_ sp 2) 0 < 3)) = true) ∧
    opens specScrubLogRead (list_ specScrubLogRead 0) ready (fun t => decide (t.scrub.log = [])) = true ∧
    (∀ sp ∈ [specTwinShadowRead, specTwinLogRead],
      opens sp (list_ sp 3) shadowed (fun t => decide (t.twin.shadow ≠ [] ∧ t.twin.log = [] ∧ t.twin.shadow.map (·.mseq.toNat) = [3])) = true ∧
      opens sp (list_ sp 3) ready (fun t => decide (t.twin.shadow = [])) = true) ∧
    (∀ sp ∈ [specRouteTableRead, specCaravanLogRead],
      opens sp (list_ sp 0) (joined id) (fun t => decide (t.car.join ≠ none ∧ t.car.log = [])) = true) ∧
    opens specRouteTableRead (list_ specRouteTableRead 0) ready (fun t => decide (t.car.join = none)) = true ∧
    opens specPartitionStatusGet (pf specPartitionStatusGet 0 (z 16)) ready (fun t => holds t fun _ => true) = true := by
  decide +kernel

theorem witness_DeviceCommands :
    let set (b : List Byte) := pf specPowerPolicySet 0xFF ([1, 0, 1, 0] ++ b ++ z (12 - b.length))
    let ok := fun (e : Env) (s : State) (h : State → Bool) => opens specPowerPolicySet e s (fun t => decide (payFault (policyChecks t e) = none) && h t)
    let rec_ := fun (b : Bytes) (s : State) (h : State → Env → Bool) => let e := pf specRecover 0xFF b
      opens specRecover e s (fun t => decide (payFault (recoverChecks t e) = none) && h t e)
    opens specDeviceInfoGet (pf specDeviceInfoGet 0xFF []) ready (fun _ => true) = true ∧
    opens specPowerPolicyGet (pf specPowerPolicyGet 0xFF []) ready (fun t => decide (domOf t 1 = .on)) = true ∧
    ok (set []) ready (fun _ => true) = true ∧
    ok (set [0, 0, 0, 1]) secret (fun t => tileConf t 0) = true ∧
    ok (set [0, 0, 0, 0, 1]) { ready with power := { ready.power with stackFence := 1 } } (fun t => t.power.stackFence.getLsbD 0) = true ∧
    ok (set [1]) shadowed (fun t => decide (t.twin.bond ≠ none)) = true ∧
    ok (set [0, 0, 0, 1]) ready (fun t => decide (tileConf t 0 = false ∧ tileScrub t 0 = false ∧ domOf t 6 = .on)) = true ∧
    (∀ b ∈ [(0xFF : Byte), 7], rec_ (b :: z 7) ready (fun _ e => decide (p8 e 0 = b.toNat)) = true) ∧
    rec_ (5 :: z 7) ready (fun t _ => decide ((linkOf t 0).st = .disabled)) = true ∧
    rec_ (5 :: z 7) (joined fun c => { c with links := [(0, { Link.reset with st := .keyed })] })
      (fun t _ => decide ((linkOf t 0).st ≠ .disabled)) = true ∧
    rec_ (3 :: z 7) ready (fun t _ => decide (tileScrub t 0 = false ∧ t.aon.ret.tripLatch = false ∧ t.power.tileFence.getLsbD 0 = false)) = true := by
  decide +kernel

/-- The management port with addresses. -/
def ported (f : Mgmt → Mgmt) : State := { ready with mgmt := f { ready.mgmt with targetOn := true } }
def addr (ip : BitVec 128) (d : Dad) : Addr := { ip := ip, prefix_ := 64, dad := d, kind := 0 }

theorem witness_Management :
    let s := ported fun m => { m with addrs := [addr 7 .preferred] }
    let busy := ported fun m => { m with addrs := [addr 7 .preferred], echoes := 10 }
    let tent := ported fun m => { m with addrs := [addr 7 .tentative] }
    let n : NetSet := { NetSet.reset with mac := 5 }
    let pend := ported fun m => { m with pending := some n }
    let slaac := ported fun m => { m with net := { m.net with slaac := true } }
    let i3c := ported fun m => { m with i3cAddr := 9 }
    let read := ported fun m => { m with readings := [(3, 25)], sampled := true }
    let p : RaPrefix := { pre := 0x20010DB8#64, len := 64, auto := true }
    (let e := pf specMgmtNetSet 0xFF (1 :: z 63)
     opens specMgmtNetSet e ready (fun _ => decide (payFault (netChecks e) = none)) = true) ∧
    opens specMgmtNetGet (pf specMgmtNetGet 0xFF []) ready (fun t => decide (t.mgmt.net.static.length ≤ 2 ∧ t.mgmt.addrs.length ≤ 8)) = true ∧
    (let e := pf specMgmtAlertAck 0xFF (2 :: z 7)
     opens specMgmtAlertAck e ready (fun _ => decide (payFault (rsv e 1 7) = none)) = true) ∧
    (ready.mgmt.pending = none ∧ pend.mgmt.pending = some n ∧ n.mac ≠ pend.mgmt.net.mac ∧ n.static = []) ∧
    (mgmtUp s = true ∧ ownAddr s 7 .preferred = true ∧ s.mgmt.echoes < 10 ∧ ownAddr s 8 .preferred = false ∧ mgmtUp busy = true ∧
      10 ≤ busy.mgmt.echoes ∧ (3#128) ≠ 0) ∧
    (mgmtUp tent = true ∧ ownAddr tent 7 .preferred = false ∧ ownAddr tent 7 .tentative = true ∧ tent.mgmt.addrs = [addr 7 .tentative]) ∧
    (mgmtUp slaac = true ∧ slaac.mgmt.net.slaac = true ∧ isLinkLocal (BitVec.ofNat 128 (0xFE80 * 2 ^ 112 + 1)) = true ∧ p.auto = true ∧
      p.len = 64 ∧ p.pre.toNat / 2 ^ 54 ≠ 0x3FA ∧ slaac.mgmt.addrs.length < 8) ∧
    ((1#8).toNat ≤ 1 ∧ 8 ≤ (8#8).toNat ∧ (8#8) ≠ 0xFF ∧ (2 : BitVec 8) ∉ ([0, 1, 5, 6, 0x7F, 0xFF] : List (BitVec 8))) ∧
    (s.mgmt.i3cAddr = 0 ∧ mgmtUp i3c = true ∧ i3c.mgmt.i3cAddr ≠ 0) ∧ 8 < (9#32).toNat ∧ (7#32).toNat < 8 ∧
    (mgmtUp read = true ∧ mget read.mgmt.readings (3#16).toNat = some 25 ∧ read.mgmt.sampled = true ∧ 6 < (7#16).toNat) := by
  decide +kernel

/-! ### Keys, fuses and updates -/

/-- A slot with an attribute word, and `ready` with slots 0x40, 0x41, 0x42 (an operator wrap key) and pool slot 0x180. -/
def slotted (a : BitVec 64) : Slot := { Slot.empty with attr := a, active := 6 }
def vaulted (a b : BitVec 64) : State :=
  { pooled ready with
    vault := { ready.vault with slots := [(0x40, cred), (0x41, slotted a), (0x42, slotted 0x0000100800012041#64), (0x180, slotted b)] } }

/-- A volatile letter for operator slot 0x41, under the wrap key in 0x42, to the device of an identity. -/
def letter (d : Nat) : Bytes :=
  [0x4C, 0x52, 0x44, 0x55, 1, 0] ++ leBytes 2 0x41 ++ leBytes 8 0x0000000800012041 ++ beBytes 48 d ++ leBytes 8 7 ++ z 48 ++ [1, 2] ++
    leBytes 2 40 ++ z 44

/-- `Says.lettered`, as a test. -/
def lettered (e : Env) (t : State) : Bool :=
  let n := p16 e 6
  decide (letterForm t e = none ∧ p8 e 5 = 0 ∧ wrapKey t e ≠ none ∧ slotAuthority t e n = true ∧ dig e.payload 0x10 = t.vault.did ∧
    fld e.payload 0x40 8 = t.boot.bn.toNat ∧ (letterLast t e false).toNat < e.franking.toNat ∧ t.boot.fuseDegraded = false ∧
    lcBit t.fuses.shadow.code = some 35 ∧ (BitVec.ofNat 64 (p64 e 8)).getLsbD 35 = true ∧ (slot t n).version ≠ 0xFFFF)

/-- The payload of a command on a slot. -/
def slotArg (n : Nat) : Bytes := leBytes 2 n ++ z 6

theorem witness_Keys :
    (∀ sp ∈ [specKeyInstall, specKeyReplace], let e := pf sp 0xFF (letter 3)
      opens sp e (vaulted 0 0) (fun t => lettered e t && decide ((slot t 0x41).isEmpty = true)) = true ∧
      opens sp e (vaulted 0x0000100800012041#64 0) (fun t => lettered e t && decide ((slot t 0x41).isEmpty = false ∧
        (slot t 0x41).attr &&& attrRw = 0x0000000800012041#64 &&& attrRw)) = true ∧
      (let w := pf sp 0xFF (letter 4)
       opens sp w (vaulted 0 0) (fun t => decide (letterForm t w = none ∧ wrapKey t w ≠ none ∧ slotAuthority t w 0x41 = true ∧
        dig w.payload 0x10 ≠ t.vault.did)) = true)) ∧
    (∀ sp ∈ [specKeyDestroy, specKeyAbandonPending], let e := pf sp 0xFF (slotArg 0x41)
      let ok := fun (s : State) (empty pers pend : Bool) =>
        opens sp e s (fun t => decide (payFault (keySlotChecks t e) = none ∧ slotAuthority t e 0x41 = true ∧ t.fuses.op = none ∧
          staleCounter t sp e = none) && (slot t 0x41).isEmpty == empty && (slot t 0x41).persist == pers && (slot t 0x41).pendingValid == pend)
      ok (vaulted 0 0) true false false = true ∧ ok (vaulted 0x0000100800012041#64 0) false false false = true ∧
      ok (vaulted 0x0000320800012082#64 0) false true true = true) ∧
    (∀ i ∈ [(0x41, 0xFF), (0x80, 0)], let e := pf specKeyInfo i.2 (slotArg i.1)
      opens specKeyInfo e (vaulted 0x0000100800012041#64 0) (fun t => decide (payFault (keySlotChecks t e) = none ∧
        slotAuthority t e i.1 = (i.1 == 0x41) ∧ ((slot t i.1).isEmpty = false ∨ i.1 = 0x80))) = true) ∧
    (∀ b ∈ [false, true], let e := sp0 specKeySealExport 0 (slotArg 0x180)
      let s := if b then vaulted 0 0x0000180800044011#64 else vaulted 0 0x0000100800044011#64
      opens specKeySealExport e s (fun t => decide (payFault (keySlotChecks t e) = none ∧ slotAuthority t e 0x180 = true ∧
        t.boot.fuseDegraded = false ∧ (slot t 0x180).activeValid = true ∧ (slot t 0x180).exportable = b ∧
        (slotTarget t 0 0x180).isSome = true ∧ (slot t 0x180).sealed = false)) = true) ∧
    (∀ d ∈ [3, 4], let e := sp0 specKeySealImport 0 (slotArg 0x180 ++ [0x42, 0x53, 0x44, 0x55, 1, 0, 0, 0] ++ beBytes 48 d ++ z 64)
      opens specKeySealImport e (vaulted 0 0) (fun t => decide (payFault (keySlotChecks t e ++ [(8, p8 e 8 == 0x42),
          (9, p8 e 9 == 0x53), (10, p8 e 10 == 0x44), (11, p8 e 11 == 0x55), (12, p8 e 12 == 1)] ++ rsv e 13 3) = none ∧
        slotAuthority t e 0x180 = true ∧ t.boot.fuseDegraded = false ∧ (slot t 0x180).isEmpty = true ∧
        ((dig e.payload 16 = t.vault.did) ↔ d = 3) ∧ (slotTarget t 0 0x180).isSome = true)) = true) ∧
    (∀ i ∈ [(0 : Byte), 1], let e := pf specWrapEstablish 0xFF (i :: z 1672)
      opens specWrapEstablish e (vaulted 0 0) (fun t => decide (payFault ([(0, decide (p8 e 0 ≤ 0x3F))] ++ rsv e 1 7) = none ∧
        t.boot.fuseDegraded = false ∧ t.eng.entropyFailed = false ∧ t.eng.pkeFenced = false ∧
        (slot t (0x40 + p8 e 0)).isEmpty = (i == 1))) = true) := by
  refine ⟨?_, ?_, ?_, ?_, ?_, ?_⟩ <;> decide +kernel

/-- A permission token's payload with one signer, for an action that takes no argument. -/
def tokenBody : Bytes := leBytes 4 0x55444C54 ++ [1, 6, 0] ++ z 25 ++ [1] ++ z 7443

theorem witness_Fuses :
    let op := fun j => { burning true with fuses := { (burning true).fuses with op := some { job := j, env := none, ready := true } } }
    opens specFuseSummaryGet (pf specFuseSummaryGet 0xFF []) ready (fun _ => true) = true ∧ ready.fuses.transition = false ∧
    opens specFuseNonceGet (pf specFuseNonceGet 0xFF []) ready (fun t => decide (t.eng.entropyFailed = false)) = true ∧
    (∀ b ∈ [true, false], let e := pf specFuseAction 0xFF tokenBody
      opens specFuseAction e (if b then burning true else ready) (fun t => decide (tokenFormat e = none ∧ (t.fuses.op ≠ none ↔ b = true))) = true) ∧
    ((burning false).fuses.op ≠ none ∧ (op (.revokeMladyo 1)).fuses.op ≠ none) := by
  refine ⟨?_, ?_, ?_, ?_, ?_⟩ <;> decide +kernel

/-- Bank 1 in a state. -/
def banked (b : Bank) (s : State) : State := { s with flash := { s.flash with bankB := b } }
/-- Bank 0, which runs, in a state. -/
def running0 (b : Bank) (s : State) : State := { s with flash := { s.flash with bankA := b } }
/-- A layer of security version 2. -/
def layered (s : State) : State := { s with boot := { s.boot with layers := [(1, { m := 0, svn := 2, key := 0, build := 0 })] } }

theorem witness_Updates :
    let writing := banked { Bank.empty with st := .writing } ready
    let erasing := banked { Bank.empty with st := .writing, erasing := true } ready
    let staged := banked { Bank.empty with st := .staged } ready
    let good := banked { Bank.empty with st := .good } ready
    let trial := layered (running0 { Bank.empty with st := .trial, consumed := true } ready)
    let cmd := fun (sp : OpSpec) (b : Bytes) (s : State) (h : Env → State → Bool) => let e := pf sp 0xFF b
      opens sp e s (fun t => decide (t.flash.answers = true ∧ romRecovery t = false ∧ t.boot.bank = false) && h e t)
    (∀ i ∈ [(0 : Byte), 1], cmd specUpdateBegin (i :: z 7) ready (fun e t => decide (payFault (bankChecks e) = none ∧
      (runningBank t = some (bankArg e) ↔ i = 0) ∧ eraseQueued t (bankArg e) = false)) = true) ∧
    (cmd specUpdateFinish (1 :: z 7) ready (fun e t => decide (payFault (bankChecks e) = none ∧ (bankOf t (bankArg e)).st ≠ .writing)) = true ∧
      cmd specUpdateFinish (1 :: z 7) writing (fun e t => decide (payFault (bankChecks e) = none ∧ (bankOf t (bankArg e)).st = .writing ∧
        (bankOf t (bankArg e)).erasing = false)) = true) ∧
    (let w (n : Nat) : Bytes := [1, 1, 0, 0] ++ leBytes 4 n ++ [9]
     cmd specUpdateWrite (w 0) erasing (fun e t => decide (payFault (writeChecks e) = none ∧ (bankOf t (bankArg e)).erasing = true)) = true ∧
     cmd specUpdateWrite (w 5) writing (fun e t => decide (payFault (writeChecks e) = none ∧ (bankOf t (bankArg e)).st = .writing ∧
       (bankOf t (bankArg e)).erasing = false ∧ p32 e 4 ≠ mgetD (bankOf t (bankArg e)).written (p8 e 1) 0)) = true ∧
     cmd specUpdateWrite (w 0) writing (fun e t => decide (payFault (writeChecks e) = none ∧ (bankOf t (bankArg e)).st = .writing ∧
       (bankOf t (bankArg e)).erasing = false ∧ p32 e 4 = mgetD (bankOf t (bankArg e)).written (p8 e 1) 0)) = true) ∧
    (cmd specUpdateActivate ([1, 1] ++ z 6) ready (fun e t => decide (payFault (activateChecks e) = none ∧ (bankOf t (bankArg e)).st ≠ .staged)) = true ∧
      cmd specUpdateActivate ([1, 1] ++ z 6) staged (fun e t => decide (payFault (activateChecks e) = none ∧
        (bankOf t (bankArg e)).st = .staged ∧ p8 e 1 = 1)) = true ∧
      cmd specUpdateActivate ([1, 2] ++ z 6) staged (fun e t => decide (payFault (activateChecks e) = none ∧
        (bankOf t (bankArg e)).st = .staged ∧ p8 e 1 = 2 ∧ sameLayers t (bankArg e) = true ∧ t.fuses.op = none ∧ t.flash.activation = none)) = true) ∧
    (cmd specUpdateCommit (z 8) ready (fun e t => decide (payFault ([(0, decide (p8 e 0 ≤ 1))] ++ rsv e 1 7) = none ∧ p8 e 0 = 0 ∧
        (bankOf t t.boot.bank).st ≠ .trial)) = true ∧
      ∀ i ∈ [(0 : Byte), 1], cmd specUpdateCommit (i :: z 7) trial (fun e t => decide (
        payFault ([(0, decide (p8 e 0 ≤ 1))] ++ rsv e 1 7) = none ∧ (bankOf t false).st = .trial ∧ (bankOf t false).consumed = true ∧
        t.fuses.op = none ∧ (bankOf t true).st ≠ .good ∧ (bankOf t true).st ≠ .staged ∧ 1 ∈ layersOf t.fuses.shadow ∧
        t.fuses.shadow.svn.getD 0 0 < 2 ∧ mkeys t.boot.layers = [1])) = true) ∧
    (cmd specUpdateRollback [] good (fun _ t => decide ((bankOf t (!t.boot.bank)).st = .good ∧
        imageBelow t (!t.boot.bank) (fun l => t.fuses.shadow.svn.getD (l - 1) 0) = false)) = true ∧
      cmd specUpdateRollback [] ready (fun _ t => decide ((bankOf t (!t.boot.bank)).st ≠ .good)) = true) ∧
    (∀ i ∈ [(0 : Byte), 1], cmd specUpdateDiscard (i :: z 7) staged (fun e t => decide (payFault (bankChecks e) = none ∧
      (bankArg e = t.boot.bank ↔ i = 0))) = true) ∧
    cmd specUpdateStatusGet [] ready (fun _ _ => true) = true ∧
    cmd specCounterReanchor (leBytes 4 0x55445241 ++ [1] ++ z 7471) ready (fun e t => decide (payFault (reanchorChecks e) = none ∧
      t.fuses.op = none)) = true := by
  refine ⟨?_, ?_, ?_, ?_, ?_, ?_, ?_, ?_, ?_⟩ <;> decide +kernel

/-! ### Attestation and the management mailbox -/

/-- The tag of a message under a credential's key. -/
def mac (m : Bytes) : Digest :=
  let k := padTo 128 (digBytes cred.active)
  Config.sha384 (k.map (· ^^^ 0x5C#8) ++ sha384b (k.map (· ^^^ 0x36#8) ++ m))

theorem mac_spec (m : Bytes) : hmac384 (digBytes cred.active) m = digBytes (mac m) := by
  have : (digBytes cred.active).length ≤ 128 := by decide +kernel
  simp only [hmac384, hmacOver, Nat.not_lt.2 this, ite_false, mac]
  rfl

/-- An envelope of a credential holder on the management target, with its tag. -/
def mg (sp : OpSpec) (target : Nat) (b : Bytes) : Env :=
  let e := { env (.mgmt 0) sp.op target 0 1 b with flags := 6 }
  { e with trailer := .tag (mac (envHeader sp.op e ++ b)) }

/-- `opens` for such an envelope. -/
def opensMg (sp : OpSpec) (target : Nat) (b : Bytes) (s : State) (h : State → Bool) : Bool :=
  let e := mg sp target b
  let t := { wakePd1 s with mail := { (wakePd1 s).mail with mgOut := mset [] 0 1 0 } }
  serves s && e.length.toNat == b.length && credentialSlot (wakePd1 s) 0x40 && slot (wakePd1 s) 0x40 == cred &&
    decide ((wakePd1 s).mail.mgOut = []) && form t sp e && (match gateChecked sp e t with | .open_ t _ => h t | .shut _ => false)

theorem opensMg_spec {sp : OpSpec} {target : Nat} {b : Bytes} {s : State} {h : State → Bool} (w : opensMg sp target b s h = true) :
    ∃ t q, gate sp (mg sp target b) s = .open_ t q ∧ h t = true := by
  simp only [opensMg, Bool.and_eq_true, beq_iff_eq, decide_eq_true_eq] at w
  obtain ⟨⟨⟨⟨⟨⟨h1, h2⟩, h3⟩, h4⟩, h5⟩, h6⟩, h7⟩ := w
  have hb : tagBank (wakePd1 s) sp.op (mg sp target b) = some false := by
    have hm : envHeader sp.op (mg sp target b) ++ (mg sp target b).payload =
      envHeader sp.op { env (.mgmt 0) sp.op target 0 1 b with flags := 6 } ++ b := rfl
    have hc : slot (wakePd1 s) (0x40 + (mg sp target b).cred.toNat) = cred := h4
    have ha : cred.activeValid = true := by decide +kernel
    show (if _ ∧ hmac384 _ _ = digBytes (mac _) then _ else _) = _
    rw [hc, hm, mac_spec]
    exact if_pos ⟨ha, rfl⟩
  have hl : (mg sp target b).length.toNat = (mg sp target b).payload.length := h2
  have hk : credentialSlot (wakePd1 s) (0x40 + (mg sp target b).cred.toNat) = true := h3
  have hz : (mg sp target b).cred.toNat = 0 := rfl
  revert h7
  cases hg : gateChecked sp (mg sp target b) { wakePd1 s with mail := { (wakePd1 s).mail with mgOut := mset [] 0 1 0 } } with
  | shut u => simp
  | open_ u q =>
    intro h7
    refine ⟨u, q, ?_, h7⟩
    unfold gate
    rw [h1]
    show (if _ then _ else gateMgmt sp (mg sp target b) 0 (wakePd1 s)) = _
    simp only [gateMgmt, hl, hz]
    simp [h3, hb, h5, gateAdmitted, form_spec (e := mg sp target b) rfl h6, hg, mgetD, mget]

/-- A kept report of the PF, and a session without a tenant. -/
def kept (p : Path) : State := { ready with att := { ready.att with kept := [{ owner := p, bytes := z 100 }] } }
def unbound : State := { ready with att := { ready.att with sessions := [(0, { session with tid := none })] } }
def standing_ (b : Option Bytes) : State :=
  { ready with att := { ready.att with sessions := [(0, { session with standing := some { nonce := 0, part := 0, beat := 1, latest := b } })] } }
def worn (s : State) : State := { s with boot := { s.boot with fuseDegraded := true } }

theorem witness_Attestation :
    let sane := fun t : State => t.boot.fuseDegraded = false ∧ t.eng.entropyFailed = false ∧ t.eng.pkeFenced = false
    let bind := sp0 specTenantBind 0xFF (z 7328)
    (∀ d ∈ [true, false], ∀ e ∈ [pf specReportGet 0xFF (1 :: z 39), sp0 specReportGet 0xFF (2 :: z 39)],
      opens specReportGet e (if d then worn ready else ready) (fun t => decide (
        payFault ([(0, decide (p8 e 0 = 1 ∨ p8 e 0 = 2))] ++ rsv e 1 7) = none ∧ t.boot.fuseDegraded = d ∧ t.eng.entropyFailed = false ∧
        t.eng.pkeFenced = false)) = true) ∧
    (let e := pf specReportRead 0xFF (z 8)
     opens specReportRead e (kept .pf) (fun t => decide ((t.att.kept.find? (fun k => k.owner == reportOwner e)).isSome = true)) = true ∧
     opens specReportRead e ready (fun t => decide (∀ k ∈ t.att.kept, k.owner ≠ reportOwner e)) = true) ∧
    (∀ i ∈ [(0 : Byte), 1, 2], let e := pf specCertChainGet 0xFF (i :: z 7)
      opens specCertChainGet e ready (fun t => decide (payFault ([(0, decide (p8 e 0 ≤ 2))] ++ rsv e 1 3) = none ∧ sane t)) = true) ∧
    (opens specIdentityCsrGet (pf specIdentityCsrGet 0xFF []) ready (fun t => decide (sane t)) = true ∧
      opens specIdentityCsrGet (pf specIdentityCsrGet 0xFF []) (worn ready) (fun t => decide (t.boot.fuseDegraded = true)) = true) ∧
    (let e := pf specIdentityCertSet 0xFF (leBytes 4 3 ++ leBytes 4 0 ++ [1, 2, 3])
     opens specIdentityCertSet e ready (fun t => decide (p32 e 4 = 0 ∧ e.payload.length = 8 + p32 e 0 + p32 e 4 ∧
      p32 e 0 + p32 e 4 ≤ 32768 ∧ t.boot.fuseDegraded = false)) = true) ∧
    (∀ d ∈ [true, false], opens specTenantBind bind (if d then unbound else ready) (fun t =>
      decide (payFault (rsv bind 97 7 ++ rsv bind 7323 5) = none ∧ t.eng.pkeFenced = false) &&
      (match sessionOf t bind with | some (_, x) => x.tid.isNone == d | none => false)) = true) ∧
    (∀ i ∈ [(0 : Byte), 1], let e := sp0 specPostcardGet 0 (z 32 ++ [i] ++ z 7)
      opens specPostcardGet e ready (fun t => decide (payFault ([(32, decide (p8 e 32 ≤ 1))] ++ rsv e 33 7) = none ∧ e.payload.length = 40 ∧
        partHasTid t e.target.toNat 9 = true) && (match sessionOf t e with | some (_, x) => decide (x.tid = some 9) | none => false)) = true) ∧
    (∀ s ∈ [standing_ none, standing_ (some (z 208)), ready], let e := sp0 specHeartbeatGet 0 []
      opens specHeartbeatGet e s (fun t => match sessionOf t e with
        | some (_, x) => decide (x.tid = some 9 ∧ partHasTid t 0 9 = true ∧ ∀ k ∈ x.standing, k.part = e.target.toNat) | none => false) = true) ∧
    (mget ready.att.sessions (5#4).toNat = none ∧ mget ready.att.sessions (0#4).toNat ≠ none) := by
  refine ⟨?_, ?_, ?_, ?_, ?_, ?_, ?_, ?_, ?_⟩ <;> decide +kernel

/-! ### The thermal group, periods and tokens, scrub settings, debug -/

/-- A carousel group. -/
def group (ms : List Nat) : Group := { part := 0, every := 10, members := ms, bind := ms, since := 0, lastTick := 0 }
/-- Two cores held by partition 0, and its carousel payload. -/
def pair_ (s : State) : State :=
  { s with parts := { s.parts with cores := [(0, { Res.free with st := .held 0 }), (1, { Res.free with st := .held 0 })] } }
def members (n : Nat) : Bytes := [0, BitVec.ofNat 8 n] ++ leBytes 2 10 ++ z 4 ++ [0, 1].take n ++ List.replicate (16 - n) 0xFF

theorem witness_ThermalAndUpkeep :
    let plan (k : Nat) : Bytes := leBytes 8 k ++ leBytes 2 1 ++ z 6 ++ [1] ++ z 15 ++ [9]
    let th (v : Bool) : State := { ready with aon := { ready.aon with thIn := { ready.aon.thIn with valid := v, temp := 500 } } }
    let grouped := fun n => { ready with therm := { ready.therm with groups := [(n, group [0, 1])] } }
    let e0 := pf specCarouselSet 0 (members 0)
    let e2 := pf specCarouselSet 0 (members 2)
    (opens specThermalPlanSet (pf specThermalPlanSet 0xFF (plan 200000)) ready (fun t => let e := pf specThermalPlanSet 0xFF (plan 200000)
        decide (payFault (planChecks t e) = none ∧ (tick t).toNat + 32768 < p64 e 0)) = true ∧
      opens specThermalPlanSet (pf specThermalPlanSet 0xFF (plan 110000)) ready (fun t => let e := pf specThermalPlanSet 0xFF (plan 110000)
        decide (payFault (planChecks t e) = none ∧ p64 e 0 ≤ (tick t).toNat + 32768 ∧ (tick t).toNat < p64 e 0 ∧
          bitsOf (BitVec.ofNat 128 (planMask e)) = [0])) = true) ∧
    (∀ v ∈ [true, false], opensMg specCoolantReport 0xFF (leBytes 2 250 ++ leBytes 2 100 ++ z 4) (th v) (fun t =>
      let e := mg specCoolantReport 0xFF (leBytes 2 250 ++ leBytes 2 100 ++ z 4)
      decide (payFault (rsv e 4 4) = none ∧ t.aon.thIn.valid = v ∧ 60 ≤ p16 e 2 ∧
        30 < (t.aon.thIn.temp - (BitVec.ofNat 16 (p16 e 0)).toInt).natAbs)) = true) ∧
    (opens specCarouselSet e0 (grouped 0) (fun t => holds t fun _ => decide (payFault (carouselChecks t e0) = none ∧ carouselMembers e0 = [] ∧
        (mget t.therm.groups 0).map (·.part) = some e0.target.toNat)) = true ∧
      opens specCarouselSet e0 ready (fun t => holds t fun _ => decide (payFault (carouselChecks t e0) = none ∧ carouselMembers e0 = [] ∧
        mget t.therm.groups 0 = none)) = true ∧
      opens specCarouselSet e2 (grouped 5) (fun t => holds t fun _ => decide (payFault (carouselChecks t e2) = none ∧ carouselMembers e2 = [0, 1] ∧
        mget t.therm.groups 0 = none ∧ t.therm.groups = [(5, group [0, 1])])) = true ∧
      opens specCarouselSet e2 (pair_ ready) (fun t => holds t fun x => decide (payFault (carouselChecks t e2) = none ∧
        carouselMembers e2 = [0, 1] ∧ t.therm.groups = [] ∧ carouselFits t 0 x [0, 1] = true ∧ x.mode ≠ .confidential)) = true) ∧
    opens specThermalStatusGet (pf specThermalStatusGet 0xFF []) ready (fun _ => true) = true ∧
    (∀ s ∈ [ready, secret], let e := pf specThrottleSet 0 (4 :: z 7)
      opens specThrottleSet e s (fun t => holds t fun x => decide (payFault ([(0, decide (p8 e 0 ≤ 4))] ++ rsv e 1 7) = none ∧
        x.mode = (part? s 0).elim .open (·.mode) ∧ 3 < p8 e 0)) = true) ∧
    opens specScrubStatusGet (pf specScrubStatusGet 0xFF []) ready (fun t => decide (t.scrub.jobs = [])) = true ∧
    (∀ b ∈ [true, false], let e := pf specUpkeepSet 0xFF (5 :: z 7)
      opens specUpkeepSet e (if b then { ready with power := { ready.power with stackFence := 1 } } else ready) (fun t => decide (
        payFault ((List.range 8).map fun i => (i, decide (p8 e i ≤ 16) && (decide (i < nStacks t) || p8 e i == 0))) = none ∧
        p8 e 0 ≠ 0 ∧ t.power.stackFence.getLsbD 0 = b ∧ (List.range 8).all (fun i => i == 0 || p8 e i == 0) = true)) = true) := by
  refine ⟨?_, ?_, ?_, ?_, ?_, ?_, ?_⟩ <;> decide +kernel

/-- A token bound to a sender's channel. -/
def binding : Import :=
  { src := 6, channel := 16, inbox := 0xFF, offset := 0, block := 0, ring := 0, chd := none, nextSeq := none, nextSig := none, blocks := 0,
    waiting := [], broken := false, dropped := 0 }
def bound5 : State := { tokened 2 ready with q := { ready.q with tokens := [(5, { token 2 with imp := some binding })] } }

theorem witness_PeriodsAndTokens :
    let imp (n : Nat) (c : Nat) : Bytes := leBytes 2 n ++ leBytes 2 6 ++ leBytes 2 c ++ [0xFF] ++ z 17
    let ok := fun (sp : OpSpec) (b : Bytes) (s : State) (h : Env → State → Partition → Bool) => let e := pf sp 0 b
      opens sp e s (fun t => holds t fun x => h e t x)
    (∀ b ∈ [true, false], ok specPeriodSet (leBytes 4 1000 ++ z 4) (if b then partly ready (fun x => { x with periodUs := 500 }) else ready)
      (fun e _ x => decide (payFault ([(0, decide (50 ≤ p32 e 0 ∧ p32 e 0 ≤ 1000000))] ++ rsv e 4 4) = none ∧ x.state = .running ∧
        (x.periodUs ≠ 0 ↔ b = true))) = true) ∧
    ok specPeriodStatusGet [] ready (fun _ _ _ => true) = true ∧
    (let b := leBytes 2 5 ++ z 2 ++ leBytes 4 0xFFFFFFFF
     ok specTokenSignal b (tokened 2 ready) (fun e t _ => decide (
        payFault ([(0, decide (p16 e 0 < 4096))] ++ rsv e 2 2 ++ [(4, decide (1 ≤ p32 e 4))]) = none ∧
        (resOf t 4 (p16 e 0)).st = .held 0 ∧ mget t.q.tokens (p16 e 0) = some (token 2))) = true ∧
     ok specTokenSignal b ready (fun e t _ => decide (
        payFault ([(0, decide (p16 e 0 < 4096))] ++ rsv e 2 2 ++ [(4, decide (1 ≤ p32 e 4))]) = none ∧
        (resOf t 4 (p16 e 0)).st ≠ .held 0)) = true) ∧
    ok specTokenStatusGet (leBytes 2 5 ++ z 6) (tokened 2 ready) (fun e t _ => decide (
      payFault ([(0, decide (p16 e 0 < 4096))] ++ rsv e 2 6) = none ∧ (resOf t 4 (p16 e 0)).st = .held 0 ∧
      mget t.q.tokens (p16 e 0) = some (token 2))) = true ∧
    (ok specTokenImportSet (imp 5 0) bound5 (fun e t _ => decide (payFault (importChecks e) = none ∧ (resOf t 4 (p16 e 0)).st = .held 0 ∧
        mget t.q.tokens (p16 e 0) = some { token 2 with imp := some binding } ∧ p16 e 4 = 0)) = true ∧
      (∀ c ∈ [0, 16], ok specTokenImportSet (imp 5 c) (tokened 2 ready) (fun e t x => decide (payFault (importChecks e) = none ∧
        (resOf t 4 (p16 e 0)).st = .held 0 ∧ mget t.q.tokens (p16 e 0) = some (token 2) ∧ p16 e 4 = c ∧ x.mode ≠ .confidential ∧
        p8 e 6 = 0xFF ∧ t.q.tokens = [(5, token 2)])) = true) ∧
      (let two := { bound5 with
         parts := { bound5.parts with tokens := [(5, { Res.free with st := .held 0 }), (7, { Res.free with st := .held 0 })] }
         q := { bound5.q with tokens := bound5.q.tokens ++ [(7, token 2)] } }
       ok specTokenImportSet (imp 7 16) two (fun e t _ => decide (payFault (importChecks e) = none ∧ (resOf t 4 (p16 e 0)).st = .held 0 ∧
        mget t.q.tokens (p16 e 0) = some (token 2) ∧ p16 e 4 ≠ 0 ∧ p8 e 6 = 0xFF ∧
        (5, { token 2 with imp := some binding }) ∈ t.q.tokens ∧ (5 : Nat) ≠ p16 e 0 ∧ binding.src.toNat = p16 e 2 ∧
        binding.channel.toNat = p16 e 4)) = true)) ∧
    (let page : TokPage := { part := 0, page := 1, window := 0, offset := 0 }
     let paged := { ready with q := { ready.q with pages := [page] } }
     let pg (w : Nat) (on : Nat) : Bytes := [BitVec.ofNat 8 w, 1, BitVec.ofNat 8 on] ++ z 13
     let okp := fun (b : Bytes) (s : State) (h : Env → State → Partition → Bool) => ok specTokenPageSet b s fun e t x =>
       decide (payFault ([(0, decide (p8 e 0 < 16)), (1, decide (p8 e 1 < 16)), (2, decide (p8 e 2 < 2))] ++ rsv e 3 5 ++
        [(8, p64 e 8 % 65536 == 0)]) = none) && h e t x
     okp (pg 0 0) ready (fun e t _ => decide (p8 e 2 = 0 ∧ t.q.pages = [])) = true ∧
     okp (pg 0 0) paged (fun e t _ => decide (p8 e 2 = 0 ∧ t.q.pages = [page] ∧ page.page = p8 e 1)) = true ∧
     okp (pg 3 1) ready (fun e _ x => decide (p8 e 2 = 1 ∧ mget x.windows (p8 e 0) = none)) = true ∧
     okp (pg 0 1) ready (fun e t x => decide (p8 e 2 = 1 ∧ mget x.windows (p8 e 0) = some win ∧ win.access.getLsbD 2 = false ∧
       win.use = .plain ∧ p64 e 8 + 65536 ≤ win.size * 2 ^ 21 ∧ t.q.pages = [])) = true) := by
  refine ⟨?_, ?_, ?_, ?_, ?_, ?_⟩ <;> decide +kernel

/-- Core 0 halted for debug, and the debug state open. -/
def halted0 : State := at0 fun x => { x with st := .debugHalt }
def opened : State := { ready with parts := { ready.parts with debugOpen := true } }

theorem witness_DebugCommands :
    let set (n : Byte) (s : State) (h : State → Bool) : Bool := let e := pf specDebugStateSet 0xFF (n :: z 7)
      opens specDebugStateSet e s (fun t => decide (payFault ([(0, decide (p8 e 0 ≤ 1))] ++ rsv e 1 7) = none) && decide (p8 e 0 = n.toNat) && h t)
    let on := fun (sp : OpSpec) (b : Bytes) (s : State) (h : Env → State → Partition → Bool) => let e := pf sp 0 b
      opens sp e s (fun t => holds t fun x => decide (x.mode = .open) && h e t x)
    let mine := fun (e : Env) (t : State) => decide (fld e.payload 0 16 < 2 ^ nCores t ∧ coresArg e 0 = [0] ∧ coreHolder t 0 = some 0)
    let stopped := at0 fun x => { x with st := .stopped }
    (set 1 secret (fun t => anyConf t) = true ∧ set 1 ready (fun t => decide (t.fuses.shadow.code = 7 ∧ anyConf t = false ∧
        t.twin.bond = none ∧ t.car.join = none ∧ t.parts.debugOpen = false)) = true ∧
      set 0 ready (fun t => !t.parts.debugOpen) = true ∧ set 0 opened (fun t => t.parts.debugOpen) = true) ∧
    (on specDebugHalt (1 :: z 15) ready (fun e t _ => mine e t && coreLive t 0) = true ∧
      on specDebugHalt (1 :: z 15) stopped (fun e t _ => mine e t && !coreLive t 0) = true ∧
      on specDebugResume (1 :: z 23) halted0 (fun e t _ => mine e t && decide (payFault (rsv e 18 6) = none ∧ (core t 0).st = .debugHalt)) = true ∧
      on specDebugFaultPolicy (1 :: z 15 ++ [1] ++ z 7) ready (fun e t _ => mine e t &&
        decide (payFault ([(16, decide (p8 e 16 ≤ 1))] ++ rsv e 17 7) = none)) = true) ∧
    (∀ i ∈ [(0 : Byte), 1], on specDebugTraceSet (1 :: z 15 ++ [0, i] ++ z 22) ready (fun e t x => mine e t &&
      decide (payFault ([(16, decide (p8 e 16 < 16)), (17, decide (p8 e 17 ≤ 1))] ++ rsv e 18 6) = none ∧ p8 e 17 = i.toNat ∧
        mget x.windows (p8 e 16) = some win ∧ win.use = .plain ∧ win.save = none ∧ win.access.getLsbD 1 = true ∧
        p64 e 24 + p64 e 32 ≤ win.size * 2097152)) = true) ∧
    (∀ i ∈ [(1 : Byte), 5, 6, 7], ∀ s ∈ [ready, halted0], on specDebugRead ([0, i] ++ z 14) s (fun e t _ =>
      decide (payFault (spaceChecks t e false) = none ∧ coreHolder t (p8 e 0) = some 0 ∧ p8 e 1 = i.toNat ∧
        (core t 0).st = (core s 0).st)) = true) ∧
    (∀ i ∈ [((1 : Byte), 8), (6, 4), (7, 3)], ∀ s ∈ [ready, halted0], on specDebugWrite ([0, i.1] ++ z 6 ++ leBytes 4 i.2 ++ z 4 ++ z i.2) s
      (fun e t _ => decide (payFault (spaceChecks t e true) = none ∧ coreHolder t (p8 e 0) = some 0 ∧ e.payload.length = 16 + p32 e 8 ∧
        p8 e 1 = i.1.toNat ∧ (e.payload.drop 16).length = i.2 ∧ (core t 0).st = (core s 0).st)) = true) := by
  refine ⟨?_, ?_, ?_, ?_, ?_⟩ <;> decide +kernel

/-! ### Twins -/

/-- A digest's bytes read back. -/
theorem leNat_leBytes (n v : Nat) : leNat (leBytes n v) = v % 256 ^ n := by
  induction n generalizing v with
  | zero => simp [leBytes, leNat, Nat.mod_one]
  | succ n ih =>
    simp only [leBytes, leNat, ih, BitVec.toNat_ofNat]
    show v % 256 + 256 * (v / 256 % 256 ^ n) = v % 256 ^ (n + 1)
    rw [Nat.pow_succ', Nat.mod_mul]

theorem leBytes_length (n v : Nat) : (leBytes n v).length = n := by
  induction n generalizing v with
  | zero => rfl
  | succ n ih => simp [leBytes, ih]

theorem dig_digBytes (d : Digest) : dig (digBytes d) 0 = d := by
  have : slice (digBytes d) 0 48 = digBytes d := List.take_of_length_le (by simp [digBytes, beBytes, leBytes_length])
  rw [dig, this]
  apply BitVec.eq_of_toNat_eq
  have h : (256 : Nat) ^ 48 = 2 ^ 384 := by rw [show (256 : Nat) = 2 ^ 8 from rfl, ← Nat.pow_mul]
  rw [BitVec.toNat_ofNat, digBytes, beNat, beBytes, List.reverse_reverse, leNat_leBytes, h, Nat.mod_mod, Nat.mod_eq_of_lt d.isLt]

/-- A bonded device that can shake hands, with the twin state changed; and one with a pair key. -/
def bonded (f : Twin → Twin) : State :=
  { ready with
    twin := f { ready.twin with bond := some bond, trained := true }
    power := { ready.power with twinSub := .on }
    vault := { ready.vault with slots := [(0x12, slotted 0x0000100000000005#64), (0x30, slotted 0x0000100000000001#64), (0x40, cred)] } }
def paired (f : Twin → Twin) : State :=
  let s := bonded fun t => f { t with st := .paired, role := .primary }
  { s with vault := { s.vault with tce := some { active := 1, pending := none } } }
def asSecondary (t : Twin) : Twin := { t with role := .secondary }

theorem witness_TwinPairing :
    let s := bonded id
    let off := { s with power := { s.power with twinSub := .off } }
    let m (term : Nat) (r : Byte) : Bytes := z 48 ++ leBytes 8 term ++ [r] ++ z 7
    let mine := bonded fun t => { t with hs := some (hsNew (m 5 1) []) }
    let h1 := { hsOpen (hsNew (m 5 1) (m 4 1)) false with ephEc := [] }
    let h2 := { hsOpen (hsNew (m 5 1) (m 4 1)) true with ephEc := [1] }
    let h3 := { h1 with ssEc := some 1, ssKem := some 2 }
    let wait := bonded fun t => { t with st := .pairing, hs := some h1 }
    let on := fun h => bonded fun t => { t with hs := some h }
    (off.twin.bond = some bond ∧ twinEnabled off = false) ∧
    (s.twin.bond = some bond ∧ twinEnabled s = true ∧ canShake s = true ∧ s.vault.tce = none ∧ s.twin.hs = none ∧ s.twin.trained = true) ∧
    (twinEnabled mine = true ∧ canShake mine = true ∧ mine.twin.hs = some (hsNew (m 5 1) []) ∧ m 5 1 ≠ [] ∧ (m 4 1).length = 64 ∧
      fld (m 5 1) 48 8 = 5 ∧ fld (m 4 1) 48 8 = 4 ∧ fld (m 6 1) 48 8 = 6 ∧ byteAt (m 5 1) 56 = byteAt (m 5 1) 56) ∧
    ((on h1).twin.hs = some h1 ∧ h1.initiator = false ∧ h1.transcript ≠ [] ∧ h1.ssEc = none ∧ canShake (on h1) = true) ∧
    ((on h2).twin.hs = some h2 ∧ h2.initiator = true ∧ h2.ephEc ≠ [] ∧ h2.ssEc = none) ∧
    ((on h3).twin.hs = some h3 ∧ h3.initiator = false ∧ h3.ssEc ≠ none ∧ h3.ssKem = some 2) ∧
    (twinEnabled wait = true ∧ wait.twin.hs = some h1 ∧ wait.twin.st = .pairing) := by
  refine ⟨?_, ?_, ?_, ?_, ?_, ?_, ?_⟩ <;> decide +kernel

/-- Hypotheses of the twin group's commands. -/
theorem witness_TwinPairing_commands :
    let bondBody : Bytes := z 48 ++ [1, 1, 1, 0] ++ leBytes 4 60 ++ z 280
    let hs : Handshake := { hsNew [] [] with confirmed := true }
    let conf := fun st => { paired fun t => { t with st := st, hs := some hs } with boot := ready.boot }
    let rec_ := paired fun t => { t with st := .pairing, confirmIn := true }
    (∀ s ∈ [opened, ready, bonded id], let e := pf specTwinBondSet 0xFF bondBody
      opens specTwinBondSet e s (fun t => decide (payFault (bondChecks e) = none ∧ t.parts.debugOpen = s.parts.debugOpen ∧
        t.twin.bond = s.twin.bond)) = true) ∧
    (opened.parts.debugOpen = true ∧ ready.parts.debugOpen = false ∧ ready.twin.bond = none ∧ (bonded id).twin.bond ≠ none) ∧
    (∀ s ∈ [ready, bonded id], opens specTwinBondClear (pf specTwinBondClear 0xFF []) s (fun t => decide (t.twin.bond = s.twin.bond)) = true) ∧
    opens specTwinStatusGet (pf specTwinStatusGet 0xFF []) ready (fun _ => true) = true ∧
    (opens specTwinSwitchover (pf specTwinSwitchover 0xFF []) ready (fun t => decide (t.twin.st ≠ .paired)) = true ∧
      opens specTwinSwitchover (pf specTwinSwitchover 0xFF []) (paired id) (fun t => decide (t.twin.st = .paired ∧ t.twin.role = .primary ∧
        t.vault.tce ≠ none)) = true) ∧
    (∀ b ∈ [digBytes (sha384 []), digBytes (sha384 [] + 1)], ∀ st ∈ [TwinSt.paired, .pairing],
      opens specPairConfirm (tw specPairConfirm b) (conf st) (fun t => decide (t.twin.hs = some hs ∧ t.vault.tce ≠ none ∧
        hs.confirmed = true ∧ t.twin.confirmIn = false ∧ t.twin.st = st)) = true) ∧
    (dig (digBytes (sha384 [])) 0 = sha384 hs.transcript ∧ dig (digBytes (sha384 [] + 1)) 0 ≠ sha384 hs.transcript) ∧
    (∀ i ∈ [(1, 2), (0, 1), (0, 2)], let e := tw specReconcile (leBytes 2 i.1 ++ leBytes 2 i.2 ++ z 4)
      opens specReconcile e rec_ (fun t => decide (payFault (rsv e 4 4) = none ∧ t.vault.tce ≠ none ∧ t.twin.confirmIn = true ∧
        t.twin.st ≠ .paired ∧ t.twin.reconParts = 0 ∧ p16 e 0 = i.1 ∧ p16 e 2 = i.2)) = true) ∧
    (∀ s ∈ [paired id, paired asSecondary],
      opens specSwitchoverOffer (tw specSwitchoverOffer (z 8)) s (fun t => decide (t.twin.st = .paired ∧ t.vault.tce ≠ none ∧
        t.twin.role = s.twin.role)) = true ∧
      opens specLeave (tw specLeave []) s (fun t => decide (t.twin.st = .paired ∧ t.vault.tce ≠ none)) = true) ∧
    opens specLeave (tw specLeave []) (paired fun t => { t with st := .solo }) (fun t => decide (t.twin.st ≠ .paired)) = true := by
  refine ⟨by decide +kernel, by decide +kernel, by decide +kernel, by decide +kernel, by decide +kernel, ?_,
    ⟨dig_digBytes _, ?_⟩, by decide +kernel, by decide +kernel, by decide +kernel⟩
  · decide +kernel
  · rw [dig_digBytes]
    simp [hsNew]

/-- A frame on the twin port, and the wire form its peer sends. -/
def tframe (ch : Nat) (b : Bytes) : Frame := { ftype := 4, cls := 0, hops := 0, dst := 0, src := 0, channel := BitVec.ofNat 16 ch, payload := b }
def sealed_ (port : Option Nat) (f : Frame) (k : Digest) (s : State) : WireFrame :=
  sealFrame k (rxLabel s port false) (wireOf s port).cipher.rxCount f

theorem hears {port : Option Nat} {f : Frame} {s : State} {k : KeyCopy} (h1 : portKeys s port = some k)
    (h : portShut s port = false ∧ f.ftype ≠ 5 ∧ f.payload.length ≤ 1024 ∧ (wireOf s port).cipher.rxCount.toNat < counterLimit) :
    Says.heard port f (sealed_ port f k.active s) s :=
  ⟨k, h1, h.1, h.2.1, h.2.2.1, h.2.2.2, rfl⟩

/-- A lease frame's payload of term 4, and a mirror record of a slot version. -/
def lease : Bytes := leBytes 8 4 ++ leBytes 8 9 ++ z 24
def mrec : MirrorRec := { mtype := 3, mseq := 7, body := z 4 }
/-- A frame with the wrong COUNTER. -/
def badFrame : WireFrame :=
  { ftype := 4, cls := 0, hops := 0, rsv1 := 0, dst := 0, src := 0, counter := 3, length := 0, channel := 1, rsv2 := 0, cipher := [], tag := 0 }

theorem witness_TwinsMirror :
    let rep : Reply := { env := pf specDeviceInfoGet 0xFF [], op := 0x101, status := 0, detail := 0, payload := [] }
    let hold := fun w => { ready with mail := { ready.mail with held := [{ why := w, reply := rep }] } }
    let p := paired id
    let sec := paired asSecondary
    let solo := paired fun t => { t with st := .solo }
    (∀ h ∈ (hold .grid).mail.held, ∀ q, h.why ≠ .mirror q) ∧
    ((hold (.mirror 3)).mail.held = [{ why := .mirror 3, reply := rep }] ∧ rep.env.path = .pf ∧ rep.status ≠ 1 ∧
      rep.env.replyFails = false ∧ (hold (.mirror 3)).mail.lost = []) ∧
    (ready.twin.st ≠ .paired ∧ p.twin.st = .paired ∧ p.vault.tce = some { active := 1, pending := none } ∧ p.twin.role = .primary ∧
      p.port.rekeyDue = false ∧ p.port.fresh = false ∧ p.twin.term.toNat < fld lease 0 8 ∧ sec.twin.role = .secondary ∧
      solo.twin.st = .solo) ∧
    (∀ s ∈ [p, sec], Says.heard none (tframe 1 lease) (sealed_ none (tframe 1 lease) 1 s) s ∧ (tframe 1 lease).payload.length = 40 ∧
      s.mail.held = [] ∧ s.twin.outMirror = [] ∧ (byteAt lease 0x11).getLsbD 0 = false) ∧
    (∀ s ∈ [p, sec], Says.heard none (tframe 2 (mirrorBytes mrec)) (sealed_ none (tframe 2 (mirrorBytes mrec)) 1 s) s ∧ mrec.mtype = 3) ∧
    (p.mem.ttClosed = false ∧ badFrame.ftype ≠ 5 ∧ slot p 0x30 ≠ Slot.empty ∧ badFrame.counter ≠ p.port.wire.cipher.rxCount ∧
      badFrame.counter ≠ 0 ∧ ready.vault.tce = none) := by
  refine ⟨?_, by decide +kernel, by decide +kernel, fun s hs => ⟨?_, ?_⟩, fun s hs => ⟨?_, rfl⟩, by decide +kernel⟩
  · simp
  · simp only [List.mem_cons, List.not_mem_nil, or_false] at hs
    rcases hs with rfl | rfl <;> exact hears (k := { active := 1, pending := none }) rfl (by decide +kernel)
  · revert s; decide +kernel
  · simp only [List.mem_cons, List.not_mem_nil, or_false] at hs
    rcases hs with rfl | rfl <;> exact hears (k := { active := 1, pending := none }) rfl (by decide +kernel)

/-! ### Caravans -/

/-- A device in a caravan, at postcode 2, with link 0: one that trains, and one keyed. -/
def linked (f : Link → Link) : State :=
  let s := joined fun c => { c with links := [(0, f { Link.reset with st := .training })] }
  { s with vault := { s.vault with slots := [(0x12, slotted 0x0000100000000005#64), (0x20, slotted 0x0000100000000001#64), (0x40, cred)] } }
def key1 : KeyCopy := { active := 1, pending := none }
def onLink (f : Link → Link) : State :=
  let s := linked fun l => f { l with st := .keyed, peerPost := 3 }
  { s with vault := { s.vault with lce := [(0, key1)] } }

/-- A frame on a link, to postcode 2. -/
def lframe (ft cls ch : Nat) (b : Bytes) : Frame :=
  { ftype := BitVec.ofNat 8 ft, cls := BitVec.ofNat 8 cls, hops := 3, dst := 2, src := 6, channel := BitVec.ofNat 16 ch, payload := b }

/-- An L0 of a postcode. -/
def l0_ (post : Nat) (id : Byte) : Bytes := z 48 ++ [id] ++ z 15 ++ leBytes 2 post ++ z 14

theorem witness_LinksShakeHands :
    let s := linked id
    let off := { s with boot := State.reset.boot }
    let on := fun h => linked fun l => { l with hs := some h }
    let mine := on (hsNew (l0_ 5 1) [])
    let h1 := { hsOpen (hsNew (l0_ 5 1) (l0_ 4 1)) false with ephEc := [] }
    let h2 := fun i => { hsOpen (hsNew (l0_ 4 1) (l0_ 5 i)) true with ephEc := [1] }
    let h3 := fun i => { hsOpen (hsNew (l0_ 5 1) (l0_ 4 i)) false with ssEc := some 1, ssKem := some 2 }
    let due := onLink fun l => { l with hs := some (hsNew [] []), wire := { l.wire with cipher := { l.wire.cipher with txCount := 0x100000000 } } }
    let hand := { onLink id with car := { (onLink id).car with links := [(0, { Link.reset with st := .handshake, readySent := true })] } }
    (off.car.join = some joinSet ∧ linkEnabled off 0 = false) ∧
    (s.car.join = some joinSet ∧ linkEnabled s 0 = true ∧ canShake s = true ∧ mget s.vault.lce 0 = none ∧ (linkOf s 0).hs = none ∧
      (linkOf s 0).st = .training ∧ (l0_ 5 1).length = 80) ∧
    (mine.car.join = some joinSet ∧ linkEnabled mine 0 = true ∧ canShake mine = true ∧ mget mine.vault.lce 0 = none ∧
      (linkOf mine 0).hs = some (hsNew (l0_ 5 1) []) ∧ l0_ 5 1 ≠ [] ∧ fld (l0_ 5 1) 64 2 = 5 ∧ fld (l0_ 4 1) 64 2 = 4 ∧
      fld (l0_ 6 1) 64 2 = 6) ∧
    ((∀ p ∈ [4, 6], attestedElsewhere mine 0 p 7 = false) ∧
      let far := { onLink id with car := { mine.car with links := mine.car.links ++ [(1, { Link.reset with st := .keyed, peerPost := 4, peerDid := 8 })] } }
      attestedElsewhere far 0 4 7 = true ∧ (linkOf far 0).hs = (linkOf mine 0).hs) ∧
    ((linkOf (on h1) 0).hs = some h1 ∧ h1.initiator = false ∧ h1.transcript ≠ [] ∧ h1.ssEc = none ∧ canShake (on h1) = true ∧
      linkEnabled (on h1) 0 = true) ∧
    (∀ i ∈ [(1 : Byte), 9], (linkOf (on (h2 i)) 0).hs = some (h2 i) ∧ (h2 i).initiator = true ∧ (h2 i).ephEc ≠ [] ∧ (h2 i).ssEc = none ∧
      (linkOf (on (h3 i)) 0).hs = some (h3 i) ∧ (h3 i).initiator = false ∧ (h3 i).ssEc ≠ none ∧ (h3 i).ssKem = some 2 ∧
      sameCaravan (h2 i) = (i == 1) ∧ sameCaravan (h3 i) = (i == 1)) ∧
    (Says.heard (some 0) (lframe 4 0 0 [1]) (sealed_ (some 0) (lframe 4 0 0 [1]) 1 hand) hand ∧ (linkOf hand 0).st = .handshake ∧
      (linkOf hand 0).readySent = true) ∧
    ((linkOf s 0).st ≠ .handshake ∧ (linkOf (joined id) 0).st = .disabled ∧ (linkOf s 0).st ≠ .disabled ∧ rekeyDue s (some 0) = false) ∧
    (due.car.join = some joinSet ∧ rekeyDue due (some 0) = true ∧ (linkOf due 0).hs = some (hsNew [] []) ∧ (linkOf due 0).st = .keyed ∧
      portA due (some 0) = true ∧ canShake due = true ∧ (linkOf due 0).wire.cipher.rekey = false ∧ mget due.vault.lce 0 = some key1) := by
  refine ⟨?_, ?_, ?_, ?_, ?_, ?_, ⟨hears (k := key1) rfl ?_, ?_⟩, ?_, ?_⟩ <;> decide +kernel

/-- Hypotheses of link frames. -/
theorem witness_LinkAndChannelFrames_links :
    let x : TxFrame := { frame := lframe 4 5 5 [1], via := none }
    let fwd : Frame := { lframe 1 2 0x10 (z 32) with dst := 9 }
    let last : Frame := { fwd with hops := 0 }
    let s := onLink id
    let tx := onLink fun l => { l with wire := { l.wire with txWait := [x] } }
    let full := onLink fun l => { l with wire := { l.wire with cipher := { l.wire.cipher with txCount := 0x101000000 } } }
    let sent := onLink fun l => { l with wire := { l.wire with retry := [(4, x.frame)] } }
    let routed := { s with car := { s.car with routes := [(9, { link := 0, dist := 3, prio := 0, changed := false })] } }
    let acked : Frame := lframe 3 0 0 (leBytes 8 3)
    ((linkOf (linked id) 0).st ≠ .keyed ∧ (linkOf s 0).wire.txWait = [] ∧ (linkOf s 0).wire.cipher.txCount.toNat < counterLimit ∧
      (linkOf s 0).wire.retry = []) ∧
    (mget s.vault.lce 0 = some key1 ∧ (linkOf s 0).st = .keyed ∧ s.mem.ltClosed.getLsbD 0 = false) ∧
    (mget tx.vault.lce 0 = some key1 ∧ (linkOf tx 0).wire.txWait = [x] ∧ linkServes tx 0 x.frame = true ∧
      mgetD (linkOf tx 0).wire.shared x.frame.cls.toNat 0 < sharedMax x.frame.cls.toNat ∧ x.via = none ∧ isAck x.frame = false) ∧
    (counterLimit ≤ (linkOf full 0).wire.cipher.txCount.toNat ∧ (linkOf full 0).st = .keyed) ∧
    (badFrame.ftype ≠ 5 ∧ badFrame.counter ≠ (linkOf s 0).wire.cipher.rxCount ∧ badFrame.counter ≠ 0) ∧
    ((linkOf sent 0).wire.retry.find? (fun e => e.1 == 4) = some (4, x.frame)) ∧
    ((Says.heard (some 0) last (sealed_ (some 0) last 1 s) s ∧ Says.heard (some 0) fwd (sealed_ (some 0) fwd 1 s) s ∧
      Says.heard (some 0) fwd (sealed_ (some 0) fwd 1 routed) routed) ∧ fwd.ftype ≠ 3 ∧ fwd.dst.toNat ≠ myPost s ∧ fwd.cls ≠ 0 ∧
      last.hops = 0 ∧ fwd.hops ≠ 0 ∧ s.car.held = [] ∧ routeOf s 9 = none ∧
      routeOf routed 9 = some { link := 0, dist := 3, prio := 0, changed := false }) ∧
    (Says.heard (some 0) acked (sealed_ (some 0) acked 1 s) s ∧ acked.ftype = 3 ∧ acked.dst.toNat = myPost s ∧
      (linkOf s 0).wire.cipher.old = none ∧ key1.pending = none ∧ acked.payload.length = 8) := by
  refine ⟨?_, ?_, ?_, ?_, ?_, ?_, ⟨⟨hears (k := key1) rfl ?_, hears (k := key1) rfl ?_, hears (k := key1) rfl ?_⟩, ?_⟩,
    ⟨hears (k := key1) rfl ?_, ?_⟩⟩ <;> decide +kernel

/-- A message of a channel that a peer sends in fragments on link 0, and that it arrives whole. -/
def message (ch msg : Nat) (b : Bytes) (s : State) : List WireFrame :=
  sealAll 0 1 ((fragments msg b).map fun p => { lframe 4 5 ch [] with payload := p }) s

theorem told {s : State} (ch msg : Nat) (b : Bytes) (hk : portKeys s (some 0) = some key1)
    (h : portShut s (some 0) = false ∧ (wireOf s (some 0)).cipher.rxCount = 0 ∧ myPost s = 2)
    (hb : b.length ≤ 65536) (hc : ch < 65536 ∧ msg < 256) :
    ∃ u f, receiveAll (some 0) msg (isCtl ch msg) (message ch msg b s) s = (u, some (f, b)) ∧ FramesOnly 0 s u ∧ f.src = 6 := by
  have := receiveAll_message (n := 0) (k := key1) (s := s) (lframe 4 5 ch []) msg b hk h.1
    (by rw [h.2.1]; show 0 + _ ≤ 4311744512; simp only [ceilDiv]; omega) rfl (.inl (by rw [h.2.2]; rfl)) hc.2
  simpa [lframe, Nat.mod_eq_of_lt hc.1, message, key1] using this

theorem witness_CaravanMembers_routes :
    let s := onLink id
    let full := { s with car := { s.car with advert := 99 } }
    let adv (d : Nat) : Frame := lframe 4 0 3 (leBytes 8 0 ++ advertEntry 9 d 1)
    let r (n d : Nat) : RouteEntry := { link := n, dist := d, prio := 1, changed := false }
    let routed := fun x => { s with car := { s.car with routes := [(9, x)] } }
    let held := fun b => { s with car := { s.car with held := [{ post := 9, frames := [], reorder := b, since := 0 }] } }
    let known := { s with car := { s.car with dir := [(9, { did := 7, lost := some 0 })] } }
    let ctl := fun c b => lframe 4 c (if c = 0 then 0 else 4) [b]
    (ready.car.join = none ∧ s.car.join = some joinSet ∧ s.car.routes = [] ∧ s.car.advert < 99 ∧ 99 ≤ full.car.advert ∧
      full.car.links.map Prod.fst = [0] ∧ full.car.links.map (fun l => l.2.st) = [.keyed] ∧ mget full.vault.lce 0 = some key1) ∧
    ((∀ d ∈ [0, 24, 25], Says.heard (some 0) (adv d) (sealed_ (some 0) (adv d) 1 s) s) ∧
      (∀ d ∈ [0, 24, 25], ∀ x ∈ [r 0 3, r 1 24], Says.heard (some 0) (adv d) (sealed_ (some 0) (adv d) 1 (routed x)) (routed x)) ∧
      s.att.highRound = 0 ∧ 9 ≠ myPost s ∧ s.car.held = [] ∧ mget s.car.routes 9 = none ∧ mget (routed (r 0 3)).car.routes 9 = some (r 0 3) ∧
      (r 1 24).dist ≤ 24 ∧ (r 1 24).link ≠ 0 ∧ (r 1 24).dist ≤ max 1 24) ∧
    ((∀ h ∈ (held false).car.held, h.post = 9 → h.reorder = false) ∧ (∃ h ∈ (held true).car.held, h.post = 9 ∧ h.reorder = true) ∧
      mget s.car.dir 9 = none ∧ mget known.car.dir 9 = some { did := 7, lost := some 0 } ∧ routeOf known 9 = none) ∧
    (∀ x ∈ [ctl 5 2, ctl 5 3, ctl 0 2], Says.heard (some 0) x (sealed_ (some 0) x 1 s) s ∧ x.ftype = 4 ∧ x.dst.toNat = myPost s) ∧
    (let t := { s with car := { s.car with join := some { joinSet with priority := 1 } } }
     ∀ b ∈ [z 27831, z 27832], ∃ u f, receiveAll (some 0) 1 (isCtl 4 1) (message 4 1 b t) t = (u, some (f, b)) ∧
       u.car.join = some { joinSet with priority := 1 } ∧ (parseCreds b 0).isSome = decide (b.length = 27832)) := by
  refine ⟨by decide +kernel, ⟨fun d hd => ?_, fun d hd x hx => ?_, by decide +kernel⟩, by decide +kernel, fun x hx => ⟨?_, ?_⟩, fun b hb => ?_⟩
  · exact hears (k := key1) rfl (by revert d; decide +kernel)
  · exact hears (k := key1) rfl (by revert d x; decide +kernel)
  · exact hears (k := key1) rfl (by revert x; decide +kernel)
  · revert x; decide +kernel
  · have hl : b.length ≤ 65536 := by
      simp only [List.mem_cons, List.not_mem_nil, or_false] at hb
      rcases hb with rfl | rfl <;> simp only [z, List.length_replicate] <;> omega
    obtain ⟨u, f, e, h, _⟩ := told 4 1 b (s := { onLink id with car := { (onLink id).car with join := some { joinSet with priority := 1 } } })
      rfl (by decide +kernel) hl ⟨by decide, by decide⟩
    obtain ⟨_, _, rfl⟩ := h.rest
    refine ⟨_, f, e, rfl, ?_⟩
    simp only [List.mem_cons, List.not_mem_nil, or_false] at hb
    rcases hb with rfl | rfl <;> simp only [parseCreds, z, List.drop_zero, List.length_replicate] <;> rfl

/-- A device in a caravan that holds channel 16, or binds token 5 to a peer's. -/
def chan (f : Channel → Channel) : State :=
  let c : Channel := { part := 0, data := true, dst := 6, outbox := 0, offset := 0, block := 4096, ring := 2, next := 1, credits := 1, chd := none,
                       wait := [], seq := 0 }
  { onLink id with car := { (onLink id).car with channels := [(16, f c)] } }
def boundTo (i : Import) : State :=
  let s := tokened 2 (onLink id)
  { s with q := { s.q with tokens := [(5, { token 2 with imp := some i })] } }
def sig (n : Nat) (q : Nat) : Bytes := leBytes 2 5 ++ z 2 ++ leBytes 4 n ++ leBytes 8 q
def inbox (i : Import) : Import := { i with inbox := 0, block := 4096, ring := 2 }
def block (q : Nat) (line n : Nat) : Bytes := leBytes 8 q ++ leBytes 4 1 ++ leBytes 2 line ++ [BitVec.ofNat 8 n] ++ z 17 ++ z (64 * n)

/-- A line written through window 0 for a channel is taken, whatever the links carry. -/
theorem taken {u : State} {i : Import} (h : FramesOnly 0 (boundTo i) u) (b : Bytes) (hb : b.length = 64) :
    (memWrite (.engine 0) 0 4096 b u).2 = 0 := by
  obtain ⟨ls, o, rfl⟩ := h.rest
  have r : ∀ c, resolve { boundTo i with car := c, out := o } (.engine 0) 0 = { wd := wd0, key := some 77, tweak := 0 } := fun _ => rfl
  have v : stackShut (onLink id) 0 = false := by decide +kernel
  have c : chunks (gateAddr { wd := wd0, key := some 77, tweak := 0 } 4096) 64 = [(131136, 0, 64)] := by decide +kernel
  have n : ∀ s : State, domOf s 14 = .on → needStack 0 s = s := fun s h => if_pos (Or.inl h)
  have g : ∀ c, gateCheck { boundTo i with car := c, out := o } { wd := wd0, key := some 77, tweak := 0 } true 4096 64 = 0 := by
    intro c
    simp [gateCheck, wd0]
    exact v
  rw [memWrite, r]
  simp only [show wd0.stack = 0 from rfl, hb]
  rw [n _ rfl, r, g, c]
  simp [writeChunks]

theorem witness_LinkAndChannelFrames_channels :
    let b (n q : Option Nat) : Import := { binding with nextSeq := n.map (BitVec.ofNat 64), nextSig := q.map (BitVec.ofNat 64) }
    let got := fun i => onLink id |> fun _ => boundTo i
    let cr := lframe 4 1 16 (leBytes 4 3)
    let data := fun q line n => lframe 1 2 16 (block q line n)
    let sg := fun q => lframe 2 2 16 (sig 4 q)
    (mget (chan id).car.channels 16 ≠ none ∧ (∀ c ∈ (mget (chan id).car.channels 16).toList, c.wait = [] ∧ c.dst = 6 ∧ 0 < c.credits) ∧
      (∀ c ∈ (mget (chan fun c => { c with wait := [(1, 5)], credits := 0 }).car.channels 16).toList, c.credits = 0 ∧ c.wait = [(0 + 1, 5)]) ∧
      (∀ c ∈ (mget (chan fun c => { c with wait := [(1, 5)] }).car.channels 16).toList, c.wait = [(0 + 1, 5)] ∧ 0 < c.credits) ∧
      mget (onLink id).car.channels 16 = none) ∧
    (∀ d ∈ [6, 7], let s := chan fun c => { c with dst := BitVec.ofNat 16 d }
      Says.heard (some 0) cr (sealed_ (some 0) cr 1 s) s ∧ cr.dst.toNat = myPost s ∧ cr.ftype = 4 ∧ cr.cls = 1 ∧ 0x10 ≤ cr.channel.toNat ∧
        (mget s.car.channels 16).map (·.dst) = some (BitVec.ofNat 16 d) ∧ cr.src = 6) ∧
    (∀ f ∈ [data 0 0 1, sg 0], Says.heard (some 0) f (sealed_ (some 0) f 1 (onLink id)) (onLink id) ∧ boundToken (onLink id) f = none ∧
      f.dst.toNat = myPost (onLink id)) ∧
    (∀ q ∈ [none, some 7, some (8 : Nat)], let i := b none q
      Says.heard (some 0) (sg 7) (sealed_ (some 0) (sg 7) 1 (got i)) (got i) ∧
        boundToken (got i) (sg 7) = some (5, { token 2 with imp := some i }, i) ∧
        mget (got i).q.tokens 5 = some { token 2 with imp := some i } ∧ i.broken = false ∧ (sg 7).ftype = 2 ∧
        fld (sg 7).payload 0 2 = 5 ∧ fld (sg 7).payload 8 8 = 7 ∧ i.inbox = 0xFF) ∧
    (∀ n ∈ [none, some 7, some (8 : Nat)], let i := inbox (b n none)
      let f := data 7 0 1
      Says.heard (some 0) f (sealed_ (some 0) f 1 (got i)) (got i) ∧ boundToken (got i) f = some (5, { token 2 with imp := some i }, i) ∧
        f.ftype = 1 ∧ i.inbox ≠ 0xFF ∧ fld f.payload 0 8 = 7 ∧ fld f.payload 12 2 = 0 ∧ (byteAt f.payload 14).toNat = 1 ∧
        fld f.payload 8 4 < i.ring.toNat ∧ 64 * (0 + 1) ≤ i.block.toNat ∧ f.payload.length = 32 + 64 * 1 ∧ i.waiting = [] ∧
        (mgetD (got i).parts.tokens 5 Res.free).st = .held 0 ∧
        (memWrite (.engine (BitVec.ofNat 7 0)) i.inbox.toNat (i.offset.toNat + i.block.toNat * fld f.payload 8 4 + 64 * 0) (f.payload.drop 32)
          (receiveFrame (some 0) (sealed_ (some 0) f 1 (got i)) (got i)).1).2 = 0) ∧
    (∀ n ∈ [0, 15], (block 7 49 n).length = 32 + 64 * n ∧ (byteAt (block 7 49 n) 14).toNat = n ∧ 64 * (49 + n) ≤ 4096) := by
  refine ⟨by decide +kernel, fun d hd => ⟨hears (k := key1) rfl (by revert d; decide +kernel), by revert d; decide +kernel⟩,
    fun f hf => ⟨hears (k := key1) rfl (by revert f; decide +kernel), by revert f; decide +kernel⟩,
    fun q hq => ⟨hears (k := key1) rfl (by revert q; decide +kernel), by revert q; decide +kernel⟩,
    fun n hn => ⟨hears (k := key1) rfl (by revert n; decide +kernel), ?_⟩, by decide +kernel⟩
  refine ⟨by revert n; decide +kernel, by revert n; decide +kernel, by revert n; decide +kernel, by revert n; decide +kernel,
    by revert n; decide +kernel, by revert n; decide +kernel, by revert n; decide +kernel, by revert n; decide +kernel,
    by revert n; decide +kernel, by revert n; decide +kernel, by revert n; decide +kernel, ?_⟩
  have h := receive_sealAll (k := key1) (n := 0) [lframe 1 2 16 (block 7 0 1)] (boundTo (inbox { binding with nextSeq := n.map (BitVec.ofNat 64), nextSig := none })) []
    rfl (by revert n; decide +kernel) (by revert n; decide +kernel)
    (fun g hg => by rw [List.mem_singleton.mp hg]; exact ⟨by decide, by decide +kernel, .inl (by revert n; decide +kernel)⟩)
  obtain ⟨u, e, h⟩ := h
  have e' := congrArg Prod.fst e
  simp only [sealAll, List.foldl_cons, List.foldl_nil] at e'
  show (memWrite (.engine 0) 0 (0 + 4096 * fld (lframe 1 2 16 (block 7 0 1)).payload 8 4 + 64 * 0) _ _).2 = 0
  rw [show fld (lframe 1 2 16 (block 7 0 1)).payload 8 4 = 1 by decide +kernel]
  exact e' ▸ taken h _ (by decide +kernel)

/-- The lead of a caravan with member 6. -/
def led (a : Attest → Attest) : State :=
  let s := onLink id
  { s with car := { s.car with join := some { joinSet with priority := 1 }, dir := [(6, { did := 0, lost := none })] }, att := a s.att }

theorem witness_RollUps :
    let round : Round := { num := 0, nonce := 0, stmts := [] }
    let own := led fun a => { a with periodic := 5 }
    let open_ := led fun a => { a with round := some round }
    let ask := lframe 4 5 5 ([1, 0, 1, 0] ++ leBytes 8 3 ++ z 32)
    let start (n : Byte) : Env := pf specRollupStart 0xFF ([n, 0, 0, 0] ++ leBytes 4 60 ++ z 32)
    let get (n : Nat) : Env := pf specRollupGet 0xFF (leBytes 2 n ++ z 6)
    let head : Bytes := z 5 ++ [1]
    let rolled := led fun a => { a with rollup := some (head, [], []), records := [(5, [1])] }
    (ready.att.periodic = 0 ∧ own.att.periodic ≠ 0 ∧ own.att.round = none ∧ own.car.join ≠ none ∧ lead own = some (myPost own) ∧
      canShake own = true) ∧
    (Says.heard (some 0) ask (sealed_ (some 0) ask 1 own) own ∧ ask.ftype = 4 ∧ ask.channel = 5 ∧ byteAt ask.payload 0 = 1 ∧
      ask.dst.toNat = myPost own ∧ own.car.held = [] ∧ mget own.car.routes ask.src.toNat = none) ∧
    (∀ n ∈ [4983, 4984], ∃ u f, receiveAll (some 0) 2 (isCtl 5 2) (message 5 2 (z n) open_) open_ = (u, some (f, z n)) ∧
      u.att.round = some round ∧ mget u.car.dir f.src.toNat = some { did := 0, lost := none }) ∧
    ((z 4984).length = 4984 ∧ dig (z 4984) 0x30 = 0 ∧ fld (z 4984) 8 8 = round.num.toNat ∧
      slice (z 4984) 0x10 32 = beBytes 32 round.nonce.toNat ∧ ∀ x ∈ round.stmts, x.1 ≠ 6) ∧
    (own.att.round = none ∧ open_.att.round = some round ∧ canShake open_ = true ∧
      let dark := { open_ with eng := { open_.eng with pkeFenced := true } }
      dark.att.round = some round ∧ canShake dark = false) ∧
    (∀ n ∈ [10000, 10682], let b := head ++ z n
      (∃ u f, receiveAll (some 0) 3 (isCtl 5 3) (message 5 3 b own) own = (u, some (f, b))) ∧ byteAt b 5 = 1 ∧
        b.length = 6 + n) ∧
    (∀ s ∈ [own, led fun a => { a with fetching := [6] }],
      ∃ u f, receiveAll (some 0) 5 (isCtl 5 5) (message 5 5 [7] s) s = (u, some (f, [7])) ∧
        u.att.fetching.contains f.src.toNat = s.att.fetching.contains 6) ∧
    (∀ n ∈ [(0 : Byte), 1, 2], let e := start n
      (∀ s ∈ [ready, own], opens specRollupStart e s (fun t => decide (
        payFault ([(0, decide (p8 e 0 ≤ 2))] ++ rsv e 1 3 ++ (if p8 e 0 = 2 then [(4, decide (1 ≤ p32 e 4 ∧ p32 e 4 ≤ 3600))] else [])) = none ∧
        t.att.round = none ∧ p8 e 0 = n.toNat ∧ t.car.join = s.car.join ∧ (s.car.join = none ∨ lead t = some (myPost t)) ∧
        t.eng.entropyFailed = false ∧ t.eng.pkeFenced = false)) = true)) ∧
    (opens specRollupGet (get 2) ready (fun t => decide (payFault (rsv (get 2) 2 6) = none ∧ t.car.join = none)) = true ∧
      opens specRollupGet (get 2) own (fun t => decide (payFault (rsv (get 2) 2 6) = none ∧ t.car.join ≠ none ∧ t.att.rollup = none)) = true ∧
      opens specRollupGet (get 2) rolled (fun t => decide (payFault (rsv (get 2) 2 6) = none ∧ t.car.join.map (·.post.toNat) = some (p16 (get 2) 0) ∧
        t.att.rollup = some (head, [], []))) = true ∧
      opens specRollupGet (get 5) rolled (fun t => decide (payFault (rsv (get 5) 2 6) = none ∧ t.car.join.map (·.post.toNat) = some 2 ∧
        t.att.rollup = some (head, [], []) ∧ p16 (get 5) 0 = 5 ∧ 5 < 16 ^ (byteAt head 5).toNat ∧
        t.att.records.find? (fun r => r.1 == 5) = some (5, [1]))) = true) := by
  refine ⟨by decide +kernel, ⟨hears (k := key1) rfl (by decide +kernel), by decide +kernel⟩, fun n hn => ?_, by decide +kernel, by decide +kernel,
    fun n hn => ⟨?_, rfl, ?_⟩, fun s hs => ?_, by decide +kernel, by decide +kernel⟩
  · obtain ⟨u, f, e, h, hf⟩ := told 5 2 (z n) (s := led fun a => { a with round := some { num := 0, nonce := 0, stmts := [] } })
      rfl (by decide +kernel) (by simp only [z, List.length_replicate]; revert n; decide) ⟨by decide, by decide⟩
    obtain ⟨_, _, rfl⟩ := h.rest
    exact ⟨_, f, e, rfl, by rw [hf]; rfl⟩
  · obtain ⟨u, f, e, h, hf⟩ := told 5 3 ((z 5 ++ [1]) ++ z n) (s := led fun a => { a with periodic := 5 })
      rfl (by decide +kernel) (by simp only [z, List.length_append, List.length_replicate, List.length_singleton]; revert n; decide)
      ⟨by decide, by decide⟩
    exact ⟨u, f, e⟩
  · simp only [z, List.length_append, List.length_replicate, List.length_singleton]
  · obtain ⟨u, f, e, h, hf⟩ := told 5 5 [7] (s := s) (by simp only [List.mem_cons, List.not_mem_nil, or_false] at hs; rcases hs with rfl | rfl <;> rfl) (by revert s; decide +kernel)
      (by decide) ⟨by decide, by decide⟩
    obtain ⟨_, _, rfl⟩ := h.rest
    exact ⟨_, f, e, by rw [hf]; rfl⟩

theorem witness_CaravanMembers_commands :
    let join : Bytes := leBytes 16 1 ++ leBytes 2 2 ++ [0, 1, 1, 0] ++ leBytes 2 3 ++ z 232
    let e := pf specCaravanJoinSet 0xFF join
    let ch (dir w : Byte) : Env := pf specChannelSet 0 (leBytes 2 16 ++ [0, dir, 6, 0, w, 0] ++ z 8 ++ leBytes 4 4096 ++ leBytes 2 1 ++ z 10)
    (∀ s ∈ [opened, joined id, ready], opens specCaravanJoinSet e s (fun t => decide (payFault (joinChecks e) = none ∧
      t.parts.debugOpen = s.parts.debugOpen ∧ t.car.join = s.car.join)) = true) ∧
    (∀ s ∈ [ready, onLink id], opens specCaravanLeave (pf specCaravanLeave 0xFF []) s (fun t => decide (t.car.join = s.car.join)) = true) ∧
    opens specCaravanStatusGet (pf specCaravanStatusGet 0xFF []) ready (fun _ => true) = true ∧
    (let ok := fun (e : Env) (dir : Nat) (w : Option Window) => ∀ s ∈ [ready, chan id],
       opens specChannelSet e s (fun t => holds t fun x => decide (payFault (channelChecks e) = none ∧ x.state ≠ .destroying ∧ p8 e 3 = dir ∧
         mget x.windows (p8 e 6) = w ∧ t.car.channels.length = s.car.channels.length ∧ p16 e 0 = 16 ∧ x.mode ≠ .confidential)) = true
     ok (ch 2 5) 2 none ∧ ok (ch 2 0) 2 (some win) ∧ ok (ch 1 5) 1 none) ∧
    (mget ready.car.channels 16 = none ∧ ready.car.channels.length < 1024 ∧ mget (chan id).car.channels 16 ≠ none) ∧
    (∀ s ∈ [ready, chan id], let e := pf specChannelClear 0xFF (leBytes 2 16 ++ z 6)
      opens specChannelClear e s (fun t => decide (payFault (rsv e 2 6) = none ∧ p16 e 0 = 16 ∧ t.car.channels = s.car.channels)) = true) := by
  refine ⟨?_, ?_, ?_, ?_, ?_, ?_⟩ <;> decide +kernel

/-! ### SPDM -/

/-- A request outside a session, and a connection that is negotiated. -/
def req (code p1 p2 : Byte) (b : Bytes) : SpdmMsg := { version := 0x13, code := code, param1 := p1, param2 := p2, body := b, session := none }
def spdm (f : Spdm → Spdm) (s : State) : State :=
  { s with att := { s.att with spdm := f { s.att.spdm with ver := true, cap := true, alg := true } } }
def shaking : State := spdm id (bonded id)

theorem witness_Spdm_connection :
    let busy := { ready with flash := { ready.flash with activating := true } }
    let responds := fun s : State => spdmRuns s = true ∧ deviceBusy s = false ∧ domOf s 1 = .on
    let chunk (n : Nat) (d : Bytes) (big : Nat) : Bytes := leBytes 2 n ++ z 2 ++ leBytes 4 d.length ++ leBytes 4 big ++ d
    let kept := spdm (fun x => { x with chunkOut := z 4081, handle := 3 }) ready
    (spdmRuns busy = true ∧ deviceBusy busy = true ∧ domOf busy 1 = .on) ∧ responds ready ∧ responds shaking ∧
    ({ req 0xE1 0 0 [] with version := 0x12 }.version ≠ 0x13 ∧ (req 0xE1 0 0 []).code ≠ 0x84 ∧ (req 0xE1 0 0 []).version = 0x13) ∧
    (ready.att.spdm.ver = false ∧ ready.att.spdm.cap = false ∧ ready.att.spdm.alg = false ∧ shaking.att.spdm.ver = true ∧
      shaking.att.spdm.cap = true ∧ shaking.att.spdm.alg = true) ∧
    (let m := req 0x82 0 0 (leBytes 2 0 ++ leBytes 2 0xFFFF)
     m.param1.toNat % 16 = 0 ∧ 4 ≤ m.body.length ∧ fld m.body 0 2 < (spdmChain shaking).length) ∧
    ((req 0x82 1 0 (z 4)).param1.toNat % 16 ≠ 0 ∧ (spdmChain shaking).length ≤ fld (leBytes 2 52 ++ z 2) 0 2) ∧
    (let m := req 0x83 0 0 (z 40)
     shaking.boot.fuseDegraded = false ∧ (slot shaking 0x12).isEmpty = false ∧ shaking.eng.pkeFenced = false ∧
       shaking.eng.entropyFailed = false ∧ m.param1 = 0 ∧ m.param2 = 0 ∧ m.body.length = 40) ∧
    (let d := { shaking with boot := { shaking.boot with fuseDegraded := true } }
     responds d ∧ d.boot.fuseDegraded = true ∧ d.att.spdm.alg = true) ∧
    (∀ i ∈ [0, 1, 8, 9], let m := req 0xE0 0 (BitVec.ofNat 8 i) (z 8)
      m.param1 = 0 ∧ m.body.length = 8 ∧ m.param2.toNat = i ∧ m.param2 ≠ 0xFF) ∧
    (∀ i ∈ [(0 : Byte), 1], let d : Bytes := [0x13, 0x85, 0, 0]
      let m := req 0x85 i 4 (chunk 0 d (if i = 1 then 4 else 65536))
      d = slice m.body 12 (fld m.body 4 4) ∧ fld m.body 0 2 = 0 ∧ d.length = fld m.body 4 4 ∧ d.length ≤ fld m.body 8 4 ∧
        fld m.body 8 4 ≤ 65536 ∧ m.param1.getLsbD 0 = (i == 1) ∧ (i = 1 → d.length = fld m.body 8 4) ∧ byteAt d 1 = 0x85) ∧
    (let m := req 0x85 0 4 (chunk 2 [1] 8)
     fld m.body 0 2 ≠ 0 ∧ fld m.body 0 2 ≠ shaking.att.spdm.chunkNext) ∧
    (let m := req 0x86 0 3 (z 4)
     fld m.body 0 2 = 0 ∧ kept.att.spdm.chunkOut ≠ [] ∧ m.param2.toNat = kept.att.spdm.handle ∧ responds kept ∧
       shaking.att.spdm.chunkOut = []) := by
  refine ⟨?_, ?_, ?_, ?_, ?_, ?_, ?_, ?_, ?_, ?_, ?_, ?_, ?_⟩ <;> decide +kernel

theorem witness_Spdm_sessions :
    let responds := fun s : State => spdmRuns s = true ∧ deviceBusy s = false ∧ domOf s 1 = .on
    let full := { shaking with att := { shaking.att with sessions := (List.range 12).map fun n => (n, session) } }
    let m := req 0xE4 0 0 (z 132 ++ leBytes 2 1568 ++ z 1568)
    let opening : Session := { session with open_ := false }
    let half := { shaking with att := { shaking.att with sessions := [(0, opening)] } }
    (responds full ∧ full.att.spdm.alg = true ∧ freeSession full = none ∧ m.session = none ∧ m.version = 0x13) ∧
    (freeSession shaking = some 1 ∧ m.param2 = 0 ∧ m.param1 = 0 ∧ m.body.length = 1702 ∧ fld m.body 132 2 = 1568 ∧
      shaking.boot.fuseDegraded = false ∧ (slot shaking 0x12).isEmpty = false ∧ shaking.eng.pkeFenced = false ∧
      shaking.eng.entropyFailed = false) ∧
    (responds half ∧ half.att.spdm.alg = true ∧ mget half.att.sessions 0 = some opening ∧ opening.open_ = false ∧ half.eng.pkeFenced = false ∧
      (∀ i ∈ [(0 : Byte), 1], (req 0xE5 i 0 (z 144)).param1.getLsbD 0 = (i == 1) ∧ (req 0xE5 i 0 (z 144)).body.length = 144)) ∧
    (mget shaking.att.sessions 0 = some session ∧ session.open_ = true ∧ (∀ i ∈ [(0 : Byte), 1, 3, 4], (req 0xE9 i 0 []).param1 = i) ∧
      mget shaking.att.sessions 11 = none) := by
  decide +kernel

/-! ### Rules of the spec stated whole -/

theorem witness_DebugIsLockedAtBoot :
    let off := { ready with boot := { ready.boot with restartDue := some .image } }
    ready.aon.vddAon = true ∧ ready.aon.pwrOk = true ∧ ready.aon.sysRstN = true ∧ Rail.aon ≠ .fuse ∧ off.boot.restartDue ≠ none ∧
      ready.parts.debugOpen = false := by decide +kernel

theorem witness_PlansAndSteps :
    let e := pf specPartitionCreate 2 (1 :: z 55)
    State.reset.therm = Thermal.reset ∧ State.reset.cores = [] ∧ State.reset.parts.parts = [] ∧
    opens specPartitionCreate e ready (fun t => decide (payFault ([(0, p8 e 0 == 1 || p8 e 0 == 2)] ++ rsv e 1 7) = none ∧ p8 e 0 = 1 ∧
      (part? t e.target.toNat).isNone = true ∧ t.eng.entropyFailed = false ∧ t.parts.rollback = none ∧ t.parts.openSteps.length < 4096 ∧
      t.parts.openTids.length < 128 ∧ t.parts.debugOpen = false)) = true := by decide +kernel

theorem witness_FuseNonce :
    (opens specFuseNonceGet (pf specFuseNonceGet 0xFF []) ready (fun t => decide (t.eng.entropyFailed = false)) = true) ∧
    (let e := pf specFuseAction 0xFF tokenBody
     opens specFuseAction e ready (fun t => decide (tokenFormat e = none ∧ t.fuses.op = none)) = true) ∧
    (ready.aon.vddAon = true ∧ ready.aon.pwrOk = true ∧ ready.aon.sysRstN = true ∧ Rail.hub ≠ .fuse ∧
      { ready with boot := { ready.boot with restartDue := some .image } }.boot.restartDue ≠ none) := by
  refine ⟨?_, ?_, ?_⟩ <;> decide +kernel

theorem witness_EntriesAreFetched :
    let s := regs envRing .pf
    let busy := regs { envRing with env := { envRing.env with outstanding := 8 } } .pf
    ((fnRegs ready .pf).env.enable = false ∧ (fnRegs ready .pf).env.head = (fnRegs ready .pf).env.tail ∧
      8 ≤ (fnRegs busy .pf).env.outstanding.toNat ∧ (fnRegs busy .pf).env.outstanding.toNat ≤ 8) ∧
    (fnLive s .pf = true ∧ fnConf s .pf = false ∧ s.mem.htClosed = false ∧ hostReady s = true ∧ (fnRegs s .pf).env.enable = true ∧
      (fnRegs s .pf).env.head ≠ (fnRegs s .pf).env.tail ∧ (fnRegs s .pf).env.outstanding.toNat < 8) ∧
    (entry.length = 32 ∧ allZero (slice entry 24 8) = true ∧ fld entry 0 8 % 8 = 0 ∧ 72 ≤ fld entry 8 4 ∧ fld entry 8 4 ≤ 61552 ∧
      72 ≤ fld entry 12 4 ∧ fld entry 16 8 % 8 = 0) := by decide +kernel

theorem witness_ResultsAreRouted :
    let done := fun m => withDe { DigestEngine.idle with st := .done, resA := some [1, 2], args := { DigestEngine.idle.args with mode := m } }
    (∀ m ∈ [DigestMode.plain, .hmac], domOf (done m) 2 = .on ∧ (deOf (done m) 0).fenced = false ∧ (deOf (done m) 0).st = .done ∧
      (deOf (done m) 0).resA = some [1, 2] ∧ (deOf (done m) 0).args.mode = m) ∧
    (frag.rsv = 0 ∧ frag.space = 0 ∧ frag.part.toNat < nParts (done .plain) ∧ frag.addr.toNat + frag.lenM1.toNat + 1 ≤ 0x200000) := by
  decide +kernel

theorem witness_DeferredFaults :
    let s := keyless (moving true)
    let q := memWrite (.core 0) 0 0 (z 64) (l2Drop 0 0 (resolve s (.core 0) 0).wd.stack (gateAddr (resolve s (.core 0) 0) 0 / 64) s)
    let d := at0 fun x => { x with deferTag := [3], lastDefer := 0x14 }
    (coreHolder s (0#7).toNat = some 0 ∧ (xfer true).cache = 2 ∧ (xfer true).win = 0 ∧ xline.off = 0 ∧ tracked s 0 0 0 = false ∧
      xferFind (core s 0) 3 true (0#16).toNat = some (xfer true, xline) ∧ xline.data = z 64 ∧ q.2 ≠ 0) ∧
    (issues0 d = true ∧ (getM (core d 0) cword.pred.toNat).getLsbD cword.pbit.toNat ≠ cword.pneg ∧
      ((core d 0).xfers.any fun f => f.isSt) = false ∧ (core d 0).deferTag = [3]) ∧
    (cUnused {} cword = true ∧ (let w := { cword with imm16 := 8 }
      cUnused { imm := true } w = true ∧ xferOut (core d 0) w.imm16 = false ∧ w.imm16.getLsbD (3 : BitVec 4).toNat = true) ∧
      cUnused { ra := true } cword = true ∧ cUnused { ra := true, rb := true, imm := true } cword = true ∧
      cUnused { ra := true, rd := true, imm := true } cword = true) := by decide +kernel

theorem witness_FrankedOpcodes :
    let sp := specMgmtNetSet
    let e := env .pf sp.op 0xFF 0 0 (z 64)
    (sp.franked = true ∧ isFranked e = false ∧ formFault ready { sp with franked := false } e = none ∧ serves ready = true ∧
      domOf ready 1 = .on ∧ e.path = .pf) ∧
    isFranked (env .pf sp.op 0xFF 0 1 []) = true :=
  ⟨⟨rfl, by decide +kernel, form_spec (env_crc ..) (by decide +kernel), by decide +kernel, by decide +kernel, rfl⟩, by decide +kernel⟩

/-- A programmed cell, and a step from there: the first canary cell, at reset. -/
theorem witness_FuseCellsStay :
    cellAt State.reset.fuses.cells 0 0 = true ∧ ∃ t, step { State.reset with pending := [.vddAonRise true] } = .next t := by
  exact ⟨by decide +kernel, _, rfl⟩

/-! ### What the well-formedness check refuses: one ill-formed term for each of its checks -/

def bootEnv (k : Nat) : BootEnv :=
  { milestone := BitVec.ofNat 3 k, romOk := true, katOk := true, flashOk := true, ownerReady := true, copyBadMt := 0, copyBadT := 0,
    trainBad := 0, bistBad := 0, ownerEvents := [], marginBad := false }
def sense : SenseEnv := { testSel := 0, stuck0 := 0, stuck1 := 0, flips := [] }
def memReq (n : Nat) (b : Option Bytes) (k : BitVec 2) : MemReq :=
  { who := .core 0, win := 0, off := 0, lenM1 := BitVec.ofNat 16 n, write := b, slot := k, upset := [] }
def startArgs : DeStartArgs := { alg := .sha384, mode := .plain, key := .none, l := 0 }
def gcmOp (u : Option Use) : SeGcmOp := { use := u, decrypt := false, iv := 0, aad := [], text := [], tag := 0, dst := 0 }

theorem wf_milestone : Instr.wf (.internalResetRelease sense (bootEnv 6)) = false ∧ Instr.wf (.bootRestart (bootEnv 6)) = false ∧
    Instr.wf (.bootRestart (bootEnv 5)) = true := by decide
theorem wf_domain : Instr.wf (.domainReady 22 { ok := true }) = false ∧ Instr.wf (.domainReady 21 { ok := true }) = true := by decide
theorem wf_sensor : Instr.wf (.sensorSample (.hub 24) 0 0) = false ∧ Instr.wf (.sensorSample (.hub 23) 0 0) = true := by decide
theorem wf_registerWrite : Instr.wf (.registerWrite .pf 0 0 0) = false ∧ Instr.wf (.registerWrite .pf 0 0 9) = false ∧
    Instr.wf (.registerWrite .pf 0 0 8) = true := by decide
theorem wf_memoryRequest : Instr.wf (.memoryRequest (memReq 1 (some [0]) 0)) = false ∧ Instr.wf (.memoryRequest (memReq 0 none 3)) = false ∧
    Instr.wf (.memoryRequest (memReq 0 (some [0]) 2)) = true := by decide
theorem wf_engineParity : Instr.wf (.engineParity (.de 6) true) = false ∧ Instr.wf (.engineParity (.de 5) true) = true := by decide
theorem wf_digestEngine : Instr.wf (.deStart 6 startArgs) = false ∧ Instr.wf (.deData 6 []) = false ∧ Instr.wf (.deFinish 6) = false ∧
    Instr.wf (.deRoute 6 .pkeDigest) = false ∧ Instr.wf (.deRoute 0 (.compareResult 6)) = false ∧ Instr.wf (.deAbort 7) = false ∧
    Instr.wf (.deRoute 5 (.compareResult 5)) = true := by decide
theorem wf_use : ∀ u ∈ [{ use0 with caller := 7 }, { use0 with world := 3 }],
    Instr.wf (.wkrLoad u 0) = false ∧ Instr.wf (.seGcm (gcmOp (some u))) = false ∧ Instr.wf (.ecdsaSign u 0) = false ∧
    Instr.wf (.ecdh u []) = false ∧ Instr.wf (.mldsaSign u [] []) = false ∧ Instr.wf (.mlkemDecaps u []) = false := by decide
theorem wf_use_taken : Instr.wf (.wkrLoad use0 0) = true ∧ Instr.wf (.seGcm (gcmOp none)) = true ∧ Instr.wf (.mldsaSign use0 [] (z 255)) = true := by
  decide +kernel
theorem wf_context : Instr.wf (.mldsaSign use0 [] (z 256)) = false := by decide +kernel
theorem wf_scrub : Instr.wf (.scrubComplete 0 0 true 0) = false ∧ Instr.wf (.scrubComplete 4 0 true 0) = false ∧
    Instr.wf (.scrubComplete 3 0 true 0) = true := by decide
theorem wf_session : Instr.wf (.sessionTimeout 12) = false ∧ Instr.wf (.sessionTimeout 11) = true := by decide
theorem wf_prefix : Instr.wf (.routerAdvertisement 0 [{ pre := 0, len := 129, auto := true }]) = false ∧
    Instr.wf (.routerAdvertisement 0 [{ pre := 0, len := 128, auto := true }]) = true := by decide

/-! ### Results written out in the spec -/

/-- The state after a command. -/
def ran (i : Instr) (s : State) : State := match exec i s with | .next t => t | _ => s
/-- X registers 2 and 3 of core 0. -/
def withX (a b : BitVec 64) : State := at0 fun x => setX 3 b (setX 2 a x)
def op3 : SSlot := { slot0 with rd := 1, ra := 2, rb := 3 }
def x1 (s : State) : BitVec 64 := getX (core s 0) 1

/-- CRC-32C (R177): the check value of its published definition. -/
theorem test_crc32c : crc32c [0x31, 0x32, 0x33, 0x34, 0x35, 0x36, 0x37, 0x38, 0x39] = 0xE3069283 := by decide +kernel
/-- Table 11-8: ADD wraps; SHR shifts by the low six bits; SAR keeps the sign; X0 discards what is written to it. -/
theorem test_add_wraps : x1 (ran (.add 0 op3) (withX 0xFFFFFFFFFFFFFFFF 2)) = 1 := by decide +kernel
theorem test_shr_low_six_bits : x1 (ran (.shr 0 op3) (withX 0x80 67)) = 0x10 := by decide +kernel
theorem test_sar_keeps_sign : x1 (ran (.sar 0 op3) (withX 0x8000000000000000 1)) = 0xC000000000000000 := by decide +kernel
theorem test_min_is_signed : x1 (ran (.min 0 op3) (withX 0xFFFFFFFFFFFFFFFF 1)) = 0xFFFFFFFFFFFFFFFF := by decide +kernel
theorem test_x0_reads_zero : getX (core (ran (.add 0 { op3 with rd := 0 }) (withX 5 6)) 0) 0 = 0 := by decide +kernel
/-- R264: int8 and uint8 lanes saturate and int32 lanes wrap. -/
theorem test_lanes_saturate : laneOp .add 0 0 127 1 = 127 ∧ laneOp .sub 1 0 0 1 = 0 ∧ laneOp .add 3 0 0xFFFFFFFF 1 = 0 := by decide +kernel
/-- R179: an envelope whose MAGIC is wrong changes nothing but its reply: no franking counter, no partition. -/
theorem test_bad_magic_is_answered :
    let t := ran (.deviceInfoGet { pf specDeviceInfoGet 0xFF [] with magic := 0 }) ready
    t.vault = ready.vault ∧ t.parts = ready.parts ∧ t.out.length = 1 := by decide +kernel
/-- R224: right after reset the debug state is LOCKED. -/
theorem test_reset_locked : State.reset.parts.debugOpen = false := rfl
/-- Table 02-8: VDD_AON comes first. -/
theorem test_power_comes : (ran (.vddAonRise true) State.reset).aon.vddAon = true := by decide +kernel
end Tests
end

section
/-! SUPPORT. The digest engines (chapter 07): what reading an engine returns after an update, that a plain result's route
leaves every engine's record alone, and what ROUTE, START and DATA leave of an engine that is DONE (R149–R151, R157). -/

namespace Sys2Proof.Machine

/-! ### Reading a digest engine -/

@[simp] theorem setDe_deOf (n : Nat) (d : DigestEngine) (s : State) : deOf (setDe n d s) n = d := by simp [deOf, setDe]

@[simp] theorem status_eng (c : String) (s : State) : (status c s).eng = s.eng := rfl

/-- An engine's record is read from the engines' map alone. -/
theorem deOf_congr {s t : State} (h : t.eng.de = s.eng.de) (n : Nat) : deOf t n = deOf s n := by simp only [deOf, h]

@[simp] theorem after_deOf (s t : State) (n : Nat) : deOf (after s t) n = deOf t n := deOf_congr (by rw [after_eng]) n

/-! ### The commands of a digest engine while PD2 is on (R146) -/

theorem exec_deRoute (n : BitVec 3) (r : ResultRoute) (s : State) : exec (.deRoute n r) s = execDeRoute n r s := rfl
theorem exec_deStart (n : BitVec 3) (a : DeStartArgs) (s : State) : exec (.deStart n a) s = execDeStart n a s := rfl
theorem exec_deData (n : BitVec 3) (fs : List DeFrag) (s : State) : exec (.deData n fs) s = execDeData n fs s := rfl

section
variable {n : BitVec 3} {s : State} {P : State → Prop} (hn : n.toNat < 6) (hon : domOf s 2 = .on)
include hn hon

theorem runs_deRoute {r : ResultRoute} (h : P (after s (deRoute n.toNat r s))) : Runs (.deRoute n r) s P :=
  ⟨_, (exec_deRoute n r s).trans (by simp only [execDeRoute, engineOn, if_pos hn, if_pos hon, done_eq]), h⟩

theorem runs_deStart {a : DeStartArgs} (h : P (after s (deStart n.toNat a s))) : Runs (.deStart n a) s P :=
  ⟨_, (exec_deStart n a s).trans (by simp only [execDeStart, engineOn, if_pos hn, if_pos hon, done_eq]), h⟩

theorem runs_deData {fs : List DeFrag} (h : P (after s (deData n.toNat fs s))) : Runs (.deData n fs) s P :=
  ⟨_, (exec_deData n fs s).trans (by simp only [execDeData, engineOn, if_pos hn, if_pos hon, done_eq]), h⟩

end

/-! ### ROUTE -/

/-- A plain comparison has one result to compare, and so never finds a pending bank's (R156). -/
theorem compare_plain_ne_pending {d : DigestEngine} (ref : Bytes) (hm : d.args.mode = .plain) :
    compare d ref ≠ "EQUAL_PENDING" := by
  unfold compare
  rw [if_pos hm]
  split <;> decide

/-- The routes permitted to a plain result (Table 07-5) leave every digest engine as it is: the result stays where it is. -/
theorem deliver_plain_de {d : DigestEngine} {r : ResultRoute} (b : Bytes) (s : State) (hm : d.args.mode = .plain)
    (ho : routeOk d r = true) : (deliver d b r s).eng.de = s.eng.de := by
  cases r with
  | compareSram _ | compareResult _ | compareBank _ _ =>
    simp only [deliver, if_neg (compare_plain_ne_pending _ hm)]
    split <;> rfl
  | slot _ _ | wkr | keybus _ _ => simp [routeOk, hm] at ho
  | postmark _ | pkeDigest => rfl
  | read a =>
    simp only [deliver]
    split <;> rfl

section
variable {n : Nat} {s : State} {b : Bytes} (hf : (deOf s n).fenced = false) (hd : (deOf s n).st = .done)
  (hr : (deOf s n).resA = some b)
include hf hd hr

/-- ROUTE of a plain result changes no digest engine, whether the route is permitted or refused (R157). -/
theorem deRoute_plain_de (r : ResultRoute) (hm : (deOf s n).args.mode = .plain) : (deRoute n r s).eng.de = s.eng.de := by
  simp only [deRoute, hf, hd, hr, hm, if_true, Bool.false_eq_true, if_false]
  split
  · next ho => exact deliver_plain_de b s hm ho
  · rw [status_eng]

/-- ROUTE of a keyed result, permitted or refused, leaves the engine idle: no result, no message and no lane stays (R157). -/
theorem deRoute_keyed_deOf (r : ResultRoute) (hm : (deOf s n).args.mode ≠ .plain) : deOf (deRoute n r s) n =
    { DigestEngine.idle with
      queued := (deOf s n).queued, fenced := (deOf s n).fenced, lastFault := (deOf s n).lastFault } := by
  simp only [deRoute, hf, hd, hr, hm, Bool.false_eq_true, if_false, setDe_deOf]

end

/-! ### START and DATA on an engine that is DONE -/

/-- A plain START on an engine that is DONE loads a new message, and the result before it is gone (R149). -/
theorem deStart_plain_deOf {n : Nat} {s : State} (alg : DigestAlg) (hf : (deOf s n).fenced = false)
    (hd : (deOf s n).st = .done) : deOf (deStart n { alg := alg, mode := .plain, key := .none, l := 0 } s) n =
      { deOf s n with st := .loaded, args := { alg := alg, mode := .plain, key := .none, l := 0 }, laneA := none,
                      laneB := none, world := 0, msg := [], frags := 0, resA := none, resB := none } := by
  simp [deStart, loadMsg, lanes, hf, hd]

/-- A fragment of Wenist SRAM with every field in range streams its bytes and changes nothing (Table 07-4, R151). -/
theorem fragBytes_sram {f : DeFrag} {s : State} (hv : f.rsv = 0) (hs : f.space = 0) (hp : f.part.toNat < nParts s)
    (ha : f.addr.toNat + f.lenM1.toNat + 1 ≤ 0x200000) :
    fragBytes f s = (s, .inl (mread s.eng.sram f.addr.toNat (f.lenM1.toNat + 1))) := by
  have hlen : ¬ 0x200000 < f.addr.toNat + (f.lenM1.toNat + 1) := by omega
  simp [fragBytes, hv, hs, hp, hlen]

/-- A list of one fragment streams that fragment, LAST or not. -/
theorem stream_singleton {f : DeFrag} {s t : State} {b : Bytes} (h : fragBytes f s = (t, .inl b)) :
    stream [f] s = (t, .inl b) := by
  cases hl : f.last <;> simp [stream, h, hl]

@[simp] theorem fragCount_singleton (f : DeFrag) : fragCount [f] = 1 := by
  cases hl : f.last <;> simp [fragCount, hl]

/-- DATA of one good fragment on an engine that is DONE begins the message anew, and the result before it is gone (R150). -/
theorem deData_done_deOf {n : Nat} {f : DeFrag} {s t : State} {b : Bytes} (hf : (deOf s n).fenced = false)
    (hd : (deOf s n).st = .done) (h : fragBytes f s = (t, .inl b)) :
    deOf (deData n [f] s) n = { deOf s n with st := .running, msg := b, frags := 1, resA := none, resB := none } := by
  simp [deData, stream_singleton h, hf, hd]

/-- Settles O55. A keyed ROUTE ends in the idle engine whatever the route; a plain ROUTE leaves the engine's record as it is,
so that the result is there for the next one, until START or DATA clears it. -/
theorem resultsAreRouted : Obligations.ResultsAreRouted := by
  unfold Obligations.ResultsAreRouted
  intro n s b hn hon hf hd hr
  refine ⟨fun hm r => runs_deRoute hn hon ?_, fun hm => ⟨fun r => runs_deRoute hn hon ?_,
    fun alg => runs_deStart hn hon ?_, fun f hv hs hp ha => runs_deData hn hon ?_⟩⟩
  · rw [after_deOf, deRoute_keyed_deOf hf hd hr r hm]
    exact ⟨rfl, rfl, rfl⟩
  · rw [after_deOf]
    exact deOf_congr (deRoute_plain_de hf hd hr r hm) _
  · rw [after_deOf, deStart_plain_deOf alg hf hd]
    exact ⟨rfl, rfl⟩
  · rw [after_deOf, deData_done_deOf hf hd (fragBytes_sram hv hs hp ha)]
    exact ⟨rfl, rfl⟩

end Sys2Proof.Machine
end

section
/-! SUPPORT. The fetch of an envelope ring's next entry (R191): what it does to the ring's registers, that a ring with
nothing to fetch makes it do nothing, and when a command that does nothing leaves the view generations of R338 as they are. -/

namespace Sys2Proof.Machine

/-! ### A command without an effect (R338) -/

/-- A command without an effect begins the view generation of every tenant that none counts for yet. -/
theorem settle_self {s : State} (hg : s.att.gen ≠ 0) :
    settle s s = { s with att := { s.att with views := s.att.views ++ (newTenants s).map (fun d => (d, 1)) } } := by
  by_cases hn : newTenants s = []
  · simp [settle, hn]
  · simp only [settle, hg, hn, and_false, or_self, if_false, if_true]
    simp

/-- A command without an effect keeps everything exactly where no tenant is without a view generation. -/
theorem keeps_nil_after_self_iff {s : State} : Keeps [] s (after s s) ↔ s.att.gen = 0 ∨ newTenants s = [] := by
  constructor
  · rintro ⟨-, hk⟩
    by_contra! hc
    obtain ⟨-, hv⟩ : Same s (after s s) .gens := hk .gens (by simp)
    rw [after, settle_self hc.1] at hv
    exact hc.2 (by simpa using hv)
  · intro h
    have hs : settle s s = s := by
      rcases h with h | h <;> simp [settle, h]
    rw [after, hs]
    exact keeps_refl [] s

/-! ### What updates leave of an envelope ring -/

/-- A function's registers are read from the queues alone. -/
theorem fnRegs_congr {s t : State} (h : t.q = s.q) (f : Fn) : fnRegs t f = fnRegs s f := by simp only [fnRegs, h]

@[simp] theorem after_fnRegs (s t : State) (f : Fn) : fnRegs (after s t) f = fnRegs t f := fnRegs_congr (after_q s t) f

@[simp] theorem modEnv_env (f : Fn) (g : EnvRing → EnvRing) (s : State) :
    (fnRegs (modEnv f g s) f).env = g (fnRegs s f).env := by
  simp [modEnv]

@[simp] theorem logDead_q (path caller target op sent internal check : Nat) (seq : BitVec 64) (source : BitVec 128)
    (s : State) : (logDead path caller target op sent internal check seq source s).q = s.q := by
  unfold logDead
  dsimp only
  split
  · split <;> rfl
  · rfl

/-- An update of one function's registers that keeps its envelope ring keeps every function's. -/
theorem modRegs_env {g : FnRegs → FnRegs} (hg : ∀ r, (g r).env = r.env) (e f : Fn) (s : State) :
    (fnRegs (modRegs e g s) f).env = (fnRegs s f).env := by
  by_cases h : fnKey e = fnKey f
  · have same : ∀ t, fnRegs t f = fnRegs t e := fun t => by simp only [fnRegs, h]
    rw [same, same, modRegs_fnRegs, hg]
  · rw [modRegs, setRegs_fnRegs_other _ _ h]

@[simp] theorem msix_env (e f : Fn) (v : Nat) (s : State) : (fnRegs (msix e v s) f).env = (fnRegs s f).env := by
  unfold msix
  split
  · refine modRegs_env (fun _ => ?_) e f s
    rfl
  · rfl

@[simp] theorem raiseEvent_env (bit : Nat) (f : Fn) (s : State) :
    (fnRegs (raiseEvent bit s) f).env = (fnRegs s f).env := by
  simp only [raiseEvent]
  split
  · rw [msix_env]; rfl
  · rfl

/-- A ring that stops keeps every register but STOPPED, ENABLE and the two fault bits (R192, R244). -/
theorem stopEnvRing_env (f : Fn) (bounce : Bool) (s : State) : (fnRegs (stopEnvRing f bounce s) f).env =
    { (fnRegs s f).env with
      stopped := true, enable := false, entryFault := (fnRegs s f).env.entryFault || !bounce,
      bounceFault := (fnRegs s f).env.bounceFault || bounce } := by
  simp only [stopEnvRing, raiseEvent_env]
  rw [fnRegs_congr (logDead_q ..), modEnv_env]

@[simp] theorem mirror_q (m : BitVec 8) (b : Bytes) (s : State) : (mirror m b s).q = s.q := by
  simp only [mirror, twinSend]
  split_ifs <;> rfl

@[simp] theorem promoteSlot_q (n : Nat) (s : State) : (promoteSlot n s).q = s.q := by
  simp only [promoteSlot, mirrorSlot]
  split
  · rw [mirror_q]
    split_ifs <;> rfl
  · rfl

/-- Accepting a bounce record changes no ring. -/
theorem openBounce_q {p kind stream maxLen : Nat} {exact : Option Nat} {r : BounceRec} {s t : State} {b : Bytes}
    (h : openBounce p kind stream maxLen exact r s = some (b, t)) : t.q = s.q := by
  dsimp only [openBounce] at h
  split_ifs at h
  cases hb : bounceBank s p r with
  | none => simp [hb] at h
  | some x =>
    obtain ⟨pend, c⟩ := x
    simp only [hb, Option.some.injEq, Prod.mk.injEq] at h
    obtain ⟨-, rfl⟩ := h
    cases pend
    · rfl
    · exact promoteSlot_q ..

/-- Reading what the host wrote changes no ring. -/
@[simp] theorem readHost_q (f : Fn) (kind maxLen : Nat) (r : HostRead) (s : State) :
    (readHost f kind maxLen r s).2.2.q = s.q := by
  cases r with
  | unreadable | timeout => rfl
  | plain b =>
    simp only [readHost]
    split <;> rfl
  | bounce x =>
    simp only [readHost]
    split
    · split
      · next h => exact openBounce_q h
      · rfl
    · rfl

/-! ### The fetch -/

theorem runs_envEntryFetch {f : Fn} {b env : HostRead} {fails : Bool} {s : State} {P : State → Prop} :
    Runs (.envEntryFetch f b env fails) s P ↔ P (after s (envEntryFetch f b env fails s)) := by
  have h : exec (.envEntryFetch f b env fails) s = .next (after s (envEntryFetch f b env fails s)) := rfl
  simp [Runs, h]

/-- A ring that is off, empty or has 8 envelopes outstanding is not fetched from (R191). -/
theorem envEntryFetch_idle {f : Fn} {s : State} (b env : HostRead) (fails : Bool)
    (h : (fnRegs s f).env.enable = false ∨ (fnRegs s f).env.head = (fnRegs s f).env.tail ∨
      8 ≤ (fnRegs s f).env.outstanding.toNat) : envEntryFetch f b env fails s = s := by
  unfold envEntryFetch
  dsimp only
  rw [if_pos]
  rcases h with h | h | h <;> simp [h]

/-- What a fetch can do to its ring: an envelope that has been read advances HEAD and OUTSTANDING, from fewer than 8
outstanding; every other fetch leaves OUTSTANDING as it is (R191, R192). -/
theorem envEntryFetch_env_cases (f : Fn) (b env : HostRead) (fails : Bool) (s : State) :
    let r := (fnRegs s f).env
    let t := envEntryFetch f b env fails s
    (fnRegs t f).env.outstanding = r.outstanding ∨
      r.outstanding.toNat < 8 ∧ (fnRegs t f).env = { r with head := r.head + 1, outstanding := r.outstanding + 1 } := by
  have read : ∀ kind maxLen x u, fnRegs (readHost f kind maxLen x u).2.2 f = fnRegs u f :=
    fun kind maxLen x u => fnRegs_congr (readHost_q ..) f
  dsimp only [envEntryFetch]
  split
  · exact .inl rfl
  · next hgo =>
    have hroom : (fnRegs s f).env.outstanding.toNat < 8 := by
      simp only [not_or] at hgo
      omega
    generalize (if fnConf s f = true then 120 else 72) = lo
    generalize (if fnConf s f = true then 61600 else 61552) = hi
    split
    · exact .inl (by rw [stopEnvRing_env])
    · split_ifs
      · exact .inl (by rw [stopEnvRing_env])
      · exact .inl (by rw [fnRegs_congr (logDead_q ..), modEnv_env, read])
      · exact .inl (by rw [msix_env, fnRegs_congr (logDead_q ..), modEnv_env, read])
      · split
        · exact .inl (by rw [stopEnvRing_env, read])
        · exact .inr ⟨hroom, by rw [modEnv_env, read, read]⟩

/-- The ring of an Open function has an entry to fetch, and the device may fetch it (R191). -/
structure FetchDue (f : Fn) (s : State) : Prop where
  live   : fnLive s f = true
  plain  : fnConf s f = false
  open_  : s.mem.htClosed = false
  ready  : hostReady s = true
  enable : (fnRegs s f).env.enable = true
  entry  : (fnRegs s f).env.head ≠ (fnRegs s f).env.tail
  room   : (fnRegs s f).env.outstanding.toNat < 8

/-- An entry of an Open function in good form (Table 08-7, R192). -/
structure EntryOk (d : Bytes) : Prop where
  length   : d.length = 32
  reserved : allZero (slice d 24 8) = true
  addr     : fld d 0 8 % 8 = 0
  lenLo    : 72 ≤ fld d 8 4
  lenHi    : fld d 8 4 ≤ 61552
  maxLo    : 72 ≤ fld d 12 4
  reply    : fld d 16 8 % 8 = 0

section
variable {f : Fn} {s : State} {d : Bytes} (hs : FetchDue f s) (hd : EntryOk d) (fails : Bool)
include hs hd

/-- A due fetch of a good entry is decided by what reading the envelope gives. -/
theorem envEntryFetch_due (env : HostRead) : envEntryFetch f (.plain d) env fails s =
    (readHost f 2 61552 env s).2.1.elim (stopEnvRing f (readHost f 2 61552 env s).1 s)
      fun _ => modEnv f (fun x => { x with head := x.head + 1, outstanding := x.outstanding + 1 })
        (readHost f 2 61552 env s).2.2 := by
  obtain ⟨hlive, hconf, hopen, hready, hen, hne, hroom⟩ := hs
  obtain ⟨hlen, hrsv, haddr, hlo, hhi, hmax, hreply⟩ := hd
  have hread : readHost f 1 32 (.plain d) s = (false, some d, s) := by simp [readHost, hconf]
  have hfew : ¬ 8 ≤ (fnRegs s f).env.outstanding.toNat := by omega
  cases hv : (readHost f 2 61552 env s).2.1 <;>
    simp [envEntryFetch, hread, hv, hlive, hconf, hopen, hready, hen, hne, hfew, hlen, hrsv, haddr, hlo, hhi, hmax, hreply]

theorem envEntryFetch_readable (v : Bytes) : envEntryFetch f (.plain d) (.plain v) fails s =
    modEnv f (fun x => { x with head := x.head + 1, outstanding := x.outstanding + 1 }) s := by
  have hread : readHost f 2 61552 (.plain v) s = (false, some v, s) := by simp [readHost, hs.plain]
  rw [envEntryFetch_due hs hd, hread]
  rfl

theorem envEntryFetch_unreadable : envEntryFetch f (.plain d) .unreadable fails s = stopEnvRing f false s :=
  envEntryFetch_due hs hd fails .unreadable

end

/-! ### R191 of every state that counts each tenant -/

/-- A fetch without an entry to fetch keeps everything, given a view generation for each tenant. -/
theorem runs_envEntryFetch_idle {f : Fn} {s : State} (b env : HostRead) (fails : Bool)
    (hc : s.att.gen = 0 ∨ newTenants s = [])
    (h : (fnRegs s f).env.enable = false ∨ (fnRegs s f).env.head = (fnRegs s f).env.tail ∨
      8 ≤ (fnRegs s f).env.outstanding.toNat) :
    Runs (.envEntryFetch f b env fails) s fun t => Keeps [] s t := by
  rw [runs_envEntryFetch, envEntryFetch_idle b env fails h]
  exact keeps_nil_after_self_iff.2 hc

/-- No fetch puts more than 8 envelopes ahead of their replies. -/
theorem runs_envEntryFetch_bound {f : Fn} {s : State} (b env : HostRead) (fails : Bool)
    (h : (fnRegs s f).env.outstanding.toNat ≤ 8) :
    Runs (.envEntryFetch f b env fails) s fun t => (fnRegs t f).env.outstanding.toNat ≤ 8 := by
  rw [runs_envEntryFetch, after_fnRegs]
  rcases envEntryFetch_env_cases f b env fails s with e | ⟨hroom, e⟩
  · rwa [e]
  · rw [e]
    bv_omega

/-- A due fetch whose envelope is readable advances HEAD and OUTSTANDING and nothing else. -/
theorem runs_envEntryFetch_readable {f : Fn} {s : State} {d : Bytes} (hs : FetchDue f s) (hd : EntryOk d) (v : Bytes)
    (fails : Bool) : Runs (.envEntryFetch f (.plain d) (.plain v) fails) s fun t => Touches [.q] s t ∧
      (fnRegs t f).env = { (fnRegs s f).env with
        head := (fnRegs s f).env.head + 1, outstanding := (fnRegs s f).env.outstanding + 1 } := by
  rw [runs_envEntryFetch, envEntryFetch_readable hs hd, after_fnRegs, modEnv_env]
  refine ⟨keeps_after _ _ fun p hp => ?_, rfl⟩
  cases p
  case q => simp at hp
  case gens => exact ⟨rfl, rfl⟩
  all_goals rfl

/-- A due fetch whose envelope is unreadable leaves HEAD and OUTSTANDING where they are. -/
theorem runs_envEntryFetch_unreadable {f : Fn} {s : State} {d : Bytes} (hs : FetchDue f s) (hd : EntryOk d)
    (fails : Bool) : Runs (.envEntryFetch f (.plain d) .unreadable fails) s fun t =>
      (fnRegs t f).env.head = (fnRegs s f).env.head ∧ (fnRegs t f).env.outstanding = (fnRegs s f).env.outstanding := by
  rw [runs_envEntryFetch, envEntryFetch_unreadable hs hd, after_fnRegs, stopEnvRing_env]
  exact ⟨rfl, rfl⟩

/-! ### The statement fails where a tenant is uncounted -/

/-- A session bound to tenant 9. -/
def boundSession : Session :=
  { open_ := true, tid := some 9, secret := 0, export_ := 0, sessId := 1, leaf := [], th2 := 0, slot := 0, standing := none,
    lastTick := 0, order := 0, outstanding := false, keyGen := 0, transcript := [] }

/-- The device generation runs and a session is bound to a tenant, for which no view generation counts yet. -/
def uncountedTenant : State :=
  { State.reset with att := { Attest.reset with gen := 1, sessions := [(0, boundSession)] } }

/-- Refutes O54: it asks that a fetch without an entry to fetch keep every piece of every state, the view generations of
R338 among them, and the end of the command begins the view generation of a tenant that none counts for yet. The PF's ring
of `uncountedTenant` is off, so its fetch does nothing, and after it tenant 9 has a view generation. (The statement asks of
every state; whether a run reaches such a one is not claimed.) What R191 itself says holds: `runs_envEntryFetch_idle` (of a
state that counts each tenant), `runs_envEntryFetch_bound`, `runs_envEntryFetch_readable` and
`runs_envEntryFetch_unreadable`. -/
theorem not_entriesAreFetched : ¬ Obligations.EntriesAreFetched := by
  unfold Obligations.EntriesAreFetched
  intro h
  have off : (fnRegs uncountedTenant .pf).env.enable = false := rfl
  obtain ⟨idle, -, -⟩ := h .pf uncountedTenant .unreadable .unreadable false
  have kept := runs_envEntryFetch.1 (idle (.inl off))
  rw [envEntryFetch_idle _ _ _ (.inl off), keeps_nil_after_self_iff] at kept
  exact absurd kept (by decide)

end Sys2Proof.Machine
end

section
/-! SUPPORT. The deferred fault of a refused store (R272): that an access through a turnstile leaves the cores as they are,
what a write response does to its core, and that FENCE, XWAIT, QDONE, TSIG and TTRY raise what LAST_DEFER holds. -/

namespace Sys2Proof.Machine

/-! ### An access through a turnstile leaves the cores as they are -/

/-- A core is read from the cores' map alone. -/
theorem core_congr {s t : State} (h : t.cores = s.cores) (c : Nat) : core t c = core s c := by simp only [core, h]

@[simp] theorem after_core (s t : State) (c : Nat) : core (after s t) c = core t c := core_congr (after_cores s t) c

@[simp] theorem msix_cores (f : Fn) (v : Nat) (s : State) : (msix f v s).cores = s.cores := by
  unfold msix
  split <;> rfl

@[simp] theorem raiseEvent_cores (bit : Nat) (s : State) : (raiseEvent bit s).cores = s.cores := by
  simp only [raiseEvent]
  split
  · rw [msix_cores]
  · rfl

@[simp] theorem alert_cores (bit : Nat) (s : State) : (alert bit s).cores = s.cores := by
  simp only [alert]
  split
  · rfl
  · rw [raiseEvent_cores]

@[simp] theorem logFault_cores (cls sev scope unit_ loc prt action detail : Nat) (s : State) :
    (logFault cls sev scope unit_ loc prt action detail s).cores = s.cores := by
  simp only [logFault]
  split_ifs <;> simp

@[simp] theorem countUncorrectable_cores (n : Nat) (s : State) : (countUncorrectable n s).cores = s.cores := by
  unfold countUncorrectable
  dsimp only
  rw [apply_ite State.cores, alert_cores, logFault_cores]
  exact ite_self _

@[simp] theorem loadMce_cores (n : Nat) (s : State) : (loadMce n s).cores = s.cores :=
  List.foldlRecOn (motive := fun t : State => t.cores = s.cores) s.parts.parts _ rfl fun t h e _ => by
    dsimp only
    split <;> exact h

/-- A controller that comes out of SR-HOLD loads its memory keys and changes no core. -/
@[simp] theorem domainUp_stack_cores (n : Nat) (s : State) : (domainUp (stackPd n) true s).cores = s.cores := by
  have h1 : ¬ stackPd n = 1 := by simp only [stackPd]; omega
  have h2 : ¬ stackPd n = 2 := by simp only [stackPd]; omega
  have h3 : ¬ (6 ≤ stackPd n ∧ stackPd n ≤ 13) := by simp only [stackPd]; omega
  have h4 : 14 ≤ stackPd n := by simp only [stackPd]; omega
  simp only [domainUp, if_neg h1, if_neg h2, if_neg h3, if_pos h4, if_true, loadMce_cores]
  rfl

@[simp] theorem needStack_cores (n : Nat) (s : State) : (needStack n s).cores = s.cores := by
  unfold needStack
  split
  · rfl
  · rw [domainUp_stack_cores]

@[simp] theorem readLine_cores (g : Gate) (part line : Nat) (s : State) : (readLine g part line s).1.cores = s.cores := by
  have corrected (P : Prop) [Decidable P] (cls sev scope unit_ loc prt action detail : Nat) :
      (if P then logFault cls sev scope unit_ loc prt action detail s else s).cores = s.cores := by
    rw [apply_ite State.cores, logFault_cores, ite_self]
  unfold readLine
  dsimp only
  split
  · simp
  · split
    · rw [logFault_cores, corrected]
    · rw [corrected]
    · rw [apply_ite Prod.fst, apply_ite State.cores, emit_cores, logFault_cores, corrected, ite_self]

@[simp] theorem writeLine_cores (g : Gate) (line : Nat) (b : Bytes) (s : State) : (writeLine g line b s).cores = s.cores := rfl

@[simp] theorem writeChunks_cores (g : Gate) (part : Nat) (cs : List (Nat × Nat × Nat)) (b : Bytes) (s : State) :
    (writeChunks g part cs b s).1.cores = s.cores := by
  induction cs generalizing b s with
  | nil => rfl
  | cons k cs ih =>
    simp only [writeChunks, ih]
    split
    · rfl
    · split <;> simp

@[simp] theorem memWrite_cores (who : Requester) (k off : Nat) (b : Bytes) (s : State) :
    (memWrite who k off b s).1.cores = s.cores := by
  simp only [memWrite]
  split <;> simp

@[simp] theorem l2Drop_cores (t p n line : Nat) (s : State) : (l2Drop t p n line s).cores = s.cores := rfl

/-! ### The write response of a line -/

@[simp] theorem wakeCore_core (c : Nat) (s : State) : core (wakeCore c s) c =
    { core s c with waiting := .none, st := if (core s c).st = .wait then .run else (core s c).st } := by
  simp [wakeCore]

/-- The end of a transfer's line wakes its core or leaves the state as it is. -/
theorem xferWake_cases (c : Nat) (s : State) : xferWake c s = s ∨ xferWake c s = wakeCore c s := by
  unfold xferWake
  dsimp only
  cases (core s c).waiting with
  | transfers _ | fence => exact ite_eq_or_eq ..
  | none | queue | token _ _ => exact .inl rfl

/-- A line's answer leaves its core's deferred faults and PC as they are, and ends at most a wait. -/
theorem xferEnd_core (c : Nat) (tag : BitVec 4) (isSt : Bool) (idx : Nat) (s : State) :
    let y := core (xferEnd c tag isSt idx s) c
    y.deferTag = (core s c).deferTag ∧ y.lastDefer = (core s c).lastDefer ∧ y.pc = (core s c).pc ∧
      ((core s c).st ≠ .wait → y.st = (core s c).st) := by
  simp only [xferEnd]
  rcases xferWake_cases c _ with h | h
  · rw [h, modCore_core]
    exact ⟨rfl, rfl, rfl, fun _ => rfl⟩
  · rw [h, wakeCore_core, modCore_core]
    exact ⟨rfl, rfl, rfl, fun hw => if_neg hw⟩

/-- What a core's store of a line through its turnstile, past L2, answers: the state and the code. -/
def storeAnswer (c p : Nat) (f : Xfer) (r : XferLine) (s : State) : State × Nat :=
  let who : Requester := .core (BitVec.ofNat 7 c)
  let g := resolve s who f.win
  memWrite who f.win r.off r.data (l2Drop (c / 16) p g.wd.stack (gateAddr g r.off / 64) s)

@[simp] theorem storeAnswer_cores (c p : Nat) (f : Xfer) (r : XferLine) (s : State) :
    (storeAnswer c p f r s).1.cores = s.cores := by
  simp only [storeAnswer, memWrite_cores, l2Drop_cores]

section
variable {c p : Nat} {tag : BitVec 4} {idx : Nat} {f : Xfer} {r : XferLine} {s : State}
  (hp : coreHolder s c = some p) (ht : tracked s p f.win r.off = false) (hf : xferFind (core s c) tag true idx = some (f, r))
  (hq : (storeAnswer c p f r s).2 ≠ 0)
include hp ht hf hq

/-- The refusal of an untracked line is deferred, and the line has its answer (R272). -/
theorem xstResponds_refused : xstResponds c tag idx [] s =
    xferEnd c tag true idx (defer c (storeAnswer c p f r s).2 tag (storeAnswer c p f r s).1) := by
  have hl : lineStore c p f r s = ((storeAnswer c p f r s).1, some (storeAnswer c p f r s).2) := by
    simp [lineStore, ht, storeAnswer]
  simp only [xstResponds, hf, hp, upsetLines, List.foldl_nil, hl, if_neg hq]

/-- After a refused store LAST_DEFER holds its code and a deferred fault is pending for its tag; PC stays, and so does the
state of a core that does not wait (R272). -/
theorem xstResponds_refused_core :
    let y := core (xstResponds c tag idx [] s) c
    y.deferTag = (core s c).deferTag ++ [tag] ∧ y.lastDefer = BitVec.ofNat 64 (0x10 + (storeAnswer c p f r s).2) ∧
      y.pc = (core s c).pc ∧ ((core s c).st ≠ .wait → y.st = (core s c).st) := by
  have hd : core (defer c (storeAnswer c p f r s).2 tag (storeAnswer c p f r s).1) c = { core s c with
      lastDefer := BitVec.ofNat 64 (0x10 + (storeAnswer c p f r s).2), deferTag := (core s c).deferTag ++ [tag] } := by
    rw [defer, modCore_core, core_congr (storeAnswer_cores ..)]
  have he := xferEnd_core c tag true idx (defer c (storeAnswer c p f r s).2 tag (storeAnswer c p f r s).1)
  rw [hd] at he
  rw [xstResponds_refused hp ht hf hq]
  exact he

end

theorem runs_xstResponse {c : BitVec 7} {tag : BitVec 4} {idx : BitVec 16} {us : List (BitVec 30 × Bool)} {s : State}
    {P : State → Prop} : Runs (.xstResponse c tag idx us) s P ↔ P (after s (xstResponds c.toNat tag idx.toNat us s)) := by
  have h : exec (.xstResponse c tag idx us) s = .next (after s (xstResponds c.toNat tag idx.toNat us s)) := rfl
  simp [Runs, h]

/-- An XST line without tracking that the turnstile refuses after retirement: what R272 has the core record. -/
theorem runs_xstResponse_refused {c : BitVec 7} {tag : BitVec 4} {idx : BitVec 16} {f : Xfer} {r : XferLine} {p : Nat}
    {s : State} (hp : coreHolder s c.toNat = some p) (ht : tracked s p f.win r.off = false)
    (hf : xferFind (core s c.toNat) tag true idx.toNat = some (f, r)) (hq : (storeAnswer c.toNat p f r s).2 ≠ 0) :
    Runs (.xstResponse c tag idx []) s fun t => (core t c.toNat).deferTag = (core s c.toNat).deferTag ++ [tag] ∧
      (core t c.toNat).lastDefer = BitVec.ofNat 64 (0x10 + (storeAnswer c.toNat p f r s).2) ∧
      (core t c.toNat).pc = (core s c.toNat).pc ∧
      ((core s c.toNat).st ≠ .wait → (core t c.toNat).st = (core s c.toNat).st) := by
  rw [runs_xstResponse, after_core]
  exact xstResponds_refused_core hp ht hf hq

/-! ### The five operations that raise a deferred fault -/

/-- A control word that is issued in good form and whose predicate holds has its effect. -/
theorem controlOp_on {c : BitVec 7} {w : CWord} {ok : Bool} {f : Core → State → State} {s : State} (hi : Says.issues c s)
    (ho : Says.on (core s c.toNat) w.pred w.pbit w.pneg) (hok : ok = true) :
    controlOp c.toNat w ok f s = f (core s c.toNat) s := by
  obtain ⟨hrun, hpc, -⟩ := hi
  have hp : predOn (core s c.toNat) w.pred w.pbit w.pneg = true := bne_iff_ne.2 ho
  simp [controlOp, issue, hrun, Nat.not_le.2 hpc, hok, hp]

/-- With every write response in, a pending deferred fault is raised. -/
theorem afterStores_raises {c : Nat} {f : State → State} {s : State} (hx : xstOut (core s c) = false)
    (hd : (core s c).deferTag ≠ []) : afterStores c f s = raiseDeferred c s := by
  simp [afterStores, hx, hd]

section
variable {c : BitVec 7} {w : CWord} {s : State} (hi : Says.issues c s) (ho : Says.on (core s c.toNat) w.pred w.pbit w.pneg)
  (hx : xstOut (core s c.toNat) = false) (hd : (core s c.toNat).deferTag ≠ [])
include hi ho

/-- XWAIT raises the deferred fault of a tag it names (R272). -/
theorem exec_xwait_raises (hw : cUnused { imm := true } w = true) (ht : xferOut (core s c.toNat) w.imm16 = false)
    (hg : ∃ g ∈ (core s c.toNat).deferTag, w.imm16.getLsbD g.toNat = true) :
    exec (.xwait c w) s = .next (after s (raiseDeferred c.toNat s)) := by
  show done s (xwait c.toNat w s) = _
  rw [done_eq, xwait, controlOp_on hi ho hw, ht, if_neg Bool.false_ne_true, if_pos (List.any_eq_true.2 hg)]

include hx hd

theorem exec_fence_raises (hw : cUnused {} w = true) :
    exec (.fence c w) s = .next (after s (raiseDeferred c.toNat s)) := by
  show done s (fenceOp c.toNat w s) = _
  rw [done_eq, fenceOp, controlOp_on hi ho hw, afterStores_raises hx hd]

theorem exec_qdone_raises (hw : cUnused { ra := true } w = true) :
    exec (.qdone c w) s = .next (after s (raiseDeferred c.toNat s)) := by
  show done s (qdone c.toNat w s) = _
  rw [done_eq, qdone, controlOp_on hi ho hw, afterStores_raises hx hd]

theorem exec_tsig_raises (hw : cUnused { ra := true, rb := true, imm := true } w = true) :
    exec (.tsig c w) s = .next (after s (raiseDeferred c.toNat s)) := by
  show done s (tsig c.toNat w s) = _
  rw [done_eq, tsig, controlOp_on hi ho hw, afterStores_raises hx hd]

theorem exec_ttry_raises (hw : cUnused { ra := true, rd := true, imm := true } w = true) :
    exec (.ttry c w) s = .next (after s (raiseDeferred c.toNat s)) := by
  show done s (ttry c.toNat w s) = _
  rw [done_eq, ttry, controlOp_on hi ho hw, afterStores_raises hx hd]

end

/-! ### The statement fails where the core waits for the response -/

/-- A line of an XST under tag 3. -/
def lastLine : XferLine := { idx := 0, off := 0, ls := 0, len := 64, data := List.replicate 64 0 }

/-- An XST with that line alone outstanding. -/
def lastStore : Xfer := { tag := 3, isSt := true, win := 0, cache := 2, rows := [lastLine] }

/-- A core that runs a program of one word, has one XST outstanding and whose windows are gone. -/
def storingCore : Core := { Core.reset with st := .run, progLen := 32, xfers := [lastStore] }

/-- The same core when it waits in a FENCE. -/
def fencedCore : Core := { storingCore with st := .wait, waiting := .fence }

/-- Partition 0 holds core 0, whose state is `x`. -/
def heldCore (x : Core) : State :=
  { State.reset with
    parts := { Parts.reset with cores := [(0, { Res.free with st := .held 0 })] }
    cores := [(0, x)] }

/-- A FENCE word under M0. -/
def fenceWord : CWord :=
  { pred := 0, pbit := 0, pneg := false, ra := 0, rb := 0, rd := 0, cond := 0, target := 0, rsv1 := 0, imm16 := 0, rsv2 := 0 }

/-- A FENCE after the store brings the core there (R266). -/
theorem exec_fence_storingCore : exec (.fence 0 fenceWord) (heldCore storingCore) = .next (heldCore fencedCore) :=
  rfl

/-- The response, a refusal, ends the FENCE's wait. -/
theorem xstResponds_fencedCore_st : (core (xstResponds 0 3 0 [] (heldCore fencedCore)) 0).st = .run := rfl

/-- Refutes O56: it asks that the response to a refused store leave the core's state as it is, whatever the core does, and
a core that waits in a FENCE (R266) for that very response runs once it has come. Core 0 of `heldCore fencedCore` waits so
(`exec_fence_storingCore`), its window is gone, and after the response it runs. What R272 itself says holds:
`runs_xstResponse_refused` (the state of a core that does not wait stays), and `exec_fence_raises`, `exec_xwait_raises`,
`exec_qdone_raises`, `exec_tsig_raises` and `exec_ttry_raises`. -/
theorem not_deferredFaults : ¬ Obligations.DeferredFaults := by
  unfold Obligations.DeferredFaults
  intro h
  have refused : (storeAnswer 0 0 lastStore lastLine (heldCore fencedCore)).2 ≠ 0 := by decide
  obtain ⟨-, -, -, hst⟩ := runs_xstResponse.1
    ((h 0 (heldCore fencedCore)).1 3 0 lastStore lastLine 0 rfl rfl rfl rfl refused)
  rw [after_core] at hst
  exact absurd (hst.symm.trans xstResponds_fencedCore_st) (by decide)

end Sys2Proof.Machine
end

section
/-! SUPPORT. What R384 speaks of (the thermal governor's state, the cores and the partitions) through resets and boots:
that no part of a boot (chapter 04) changes it, that a reset clears it, and that PARTITION_CREATE makes a partition at
LEVEL 0. -/

namespace Sys2Proof.Machine

/-- What R384 speaks of: the governor's state (plans, groups, offsets, counts, the stacks' levels), the cores with their
steps, and the partitions with their levels. -/
def governed (s : State) : Thermal × SMap Core × SMap Partition := (s.therm, s.cores, s.parts.parts)

theorem governed_eq_iff {s t : State} :
    governed t = governed s ↔ t.therm = s.therm ∧ t.cores = s.cores ∧ t.parts.parts = s.parts.parts := by
  simp [governed]

/-! ### Updates that leave it alone -/

@[simp] theorem governed_update (s : State) (a pw b f v e m q d sc at' tw po ca fl mg ma te o fr pe) :
    governed { s with aon := a, power := pw, boot := b, fuses := f, vault := v, eng := e, mem := m, q := q, desk := d,
                      scrub := sc, att := at', twin := tw, port := po, car := ca, flash := fl, mgmt := mg, mail := ma,
                      tele := te, out := o, free := fr, pending := pe } = governed s := rfl

@[simp] theorem governed_after (s t : State) : governed (after s t) = governed t := by
  simp only [governed, after_therm, after_cores, after_parts]

@[simp] theorem governed_emit (o : Out) (s : State) : governed (emit o s) = governed s := rfl
@[simp] theorem governed_setDom (pd : Nat) (d : Dom) (s : State) : governed (setDom pd d s) = governed s := rfl
@[simp] theorem governed_setSlot (n : Nat) (x : Slot) (s : State) : governed (setSlot n x s) = governed s := rfl
@[simp] theorem governed_modMgmt (f : Mgmt → Mgmt) (s : State) : governed (modMgmt f s) = governed s := rfl
@[simp] theorem governed_modRegs (f : Fn) (g : FnRegs → FnRegs) (s : State) : governed (modRegs f g s) = governed s := rfl
@[simp] theorem governed_useFree (s : State) : governed (useFree s).2 = governed s := rfl
@[simp] theorem governed_modAon (f : Aon → Aon) (s : State) : governed (modAon f s) = governed s := rfl

theorem governed_ite {c : Prop} [Decidable c] {a b s : State} (ha : governed a = governed s) (hb : governed b = governed s) :
    governed (if c then a else b) = governed s := by
  split
  · exact ha
  · exact hb

theorem governed_foldl {α : Type} {f : State → α → State} (h : ∀ t a, governed (f t a) = governed t) (l : List α)
    (s : State) : governed (l.foldl f s) = governed s :=
  List.foldlRecOn (motive := fun t => governed t = governed s) l f rfl fun t ht a _ => (h t a).trans ht

/-! ### Interrupts, logs, the mirror and the flash -/

@[simp] theorem governed_msix (f : Fn) (v : Nat) (s : State) : governed (msix f v s) = governed s :=
  governed_ite (governed_modRegs ..) (governed_emit ..)

@[simp] theorem governed_raiseEvent (bit : Nat) (s : State) : governed (raiseEvent bit s) = governed s :=
  governed_ite (governed_msix ..) (governed_update ..)

@[simp] theorem governed_alert (bit : Nat) (s : State) : governed (alert bit s) = governed s :=
  governed_ite (governed_update ..) (governed_raiseEvent ..)

@[simp] theorem governed_logFault (cls sev scope unit_ loc prt action detail : Nat) (s : State) :
    governed (logFault cls sev scope unit_ loc prt action detail s) = governed s := by
  simp only [logFault]
  split_ifs <;> simp only [governed_raiseEvent, governed_emit, governed_setDom, governed_update]

@[simp] theorem governed_mirror (mt : BitVec 8) (b : Bytes) (s : State) : governed (mirror mt b s) = governed s := by
  simp only [mirror, twinSend]
  split_ifs <;> rfl

@[simp] theorem governed_installSlot (n : Nat) (a : BitVec 64) (k t : Digest) (s : State) :
    governed (installSlot n a k t s) = governed s := by
  simp only [installSlot, mirrorSlot, governed_mirror, governed_setSlot]

@[simp] theorem governed_journal (jt bk v c : BitVec 8) (a : BitVec 64) (n : BitVec 32) (s : State) :
    governed (journal jt bk v c a n s) = governed s := by
  simp only [journal]
  split <;> rfl

@[simp] theorem governed_consumeTrial (b : Bool) (s : State) : governed (consumeTrial b s) = governed s := by
  cases b <;> exact governed_journal ..

@[simp] theorem governed_addAddr (ip : BitVec 128) (p : BitVec 8) (k : BitVec 2) (s : State) :
    governed (addAddr ip p k s) = governed s :=
  governed_ite rfl (governed_emit ..)

@[simp] theorem governed_netUp (s : State) : governed (netUp s) = governed s := by
  simp only [netUp, addFixed]
  rw [governed_foldl (fun _ _ => governed_addAddr ..), governed_addAddr, governed_modMgmt]

/-! ### The parts of a boot (chapter 04) -/

@[simp] theorem governed_bankFails (l c : Nat) (r : RestartReason) (o : BootOutcome) (s : State) :
    governed (bankFails l c r o s) = governed s :=
  governed_ite (governed_journal ..) (governed_ite (governed_netUp _) rfl)

@[simp] theorem governed_bootSlot (n : Nat) (a : BitVec 64) (k : Digest) (s : State) :
    governed (bootSlot n a k s) = governed s := rfl

@[simp] theorem governed_extend (r t : Nat) (b : Bytes) (d : Digest) (s : State) :
    governed (extend r t b d s) = governed s := rfl

@[simp] theorem governed_loadLayer (l : Nat) (s : State) : governed (loadLayer l s) = governed s := rfl

@[simp] theorem governed_loadLayers (ls : List Nat) (s : State) :
    governed (ls.foldl (fun t l => loadLayer l t) s) = governed s :=
  governed_foldl (fun t l => governed_loadLayer l t) ls s

@[simp] theorem governed_domainsOn (pd : Nat → Nat) (l : List Nat) (s : State) :
    governed (l.foldl (fun t k => setDom (pd k) .on t) s) = governed s :=
  governed_foldl (fun t k => governed_setDom (pd k) .on t) l s

@[simp] theorem governed_romPostmarks (s : State) : governed (romPostmarks s) = governed s := by
  simp only [romPostmarks, governed_extend]

@[simp] theorem governed_deriveRom (u : Digest) (s : State) : governed (deriveRom u s) = governed s := by
  unfold deriveRom
  extract_lets
  split
  · rfl
  · extract_lets cdi idkEc idkMl lakEc lakMl idkPub lakPub did s1 s2 s3 s4 s5
    rw [governed_update]
    simp only [s5, s4, s3, s2, s1, governed_bootSlot]

@[simp] theorem governed_deriveWfw (s : State) : governed (deriveWfw s) = governed s := by
  unfold deriveWfw
  split
  · rfl
  · rw [governed_update]
    rfl

/-- The ROM phase ends early in an outcome or a restart, or derives the boot's keys. -/
@[simp] theorem governed_bootRom (e : BootEnv) (m : SMap (BitVec 256)) (pick : Option Bool) (s : State) :
    governed (bootRom e m pick s) = governed s := by
  unfold bootRom
  extract_lets
  refine governed_ite rfl (governed_ite rfl (governed_ite rfl (governed_ite rfl (governed_ite rfl ?_))))
  split
  · rfl
  · extract_lets s2 s3
    have h3 : governed s3 = governed s := governed_ite (governed_consumeTrial ..) rfl
    have h4 : governed (loadLayer 1 (romPostmarks s3)) = governed s := by
      rw [governed_loadLayer, governed_romPostmarks, h3]
    split
    · rw [governed_bankFails, h3]
    · rw [governed_update]
      exact governed_ite h4 ((governed_deriveRom ..).trans h4)

@[simp] theorem governed_anchorBlock (s : State) : governed (anchorBlock s) = governed s := by
  simp only [anchorBlock]
  split
  · rfl
  split
  · rfl
  · split
    · split
      · refine governed_foldl (fun t e => ?_) ..
        split
        · exact governed_installSlot ..
        · exact governed_logFault ..
      · exact governed_logFault ..
    · rfl
  · rfl

@[simp] theorem governed_loadConfig (s : State) : governed (loadConfig s) = governed s := by
  unfold loadConfig
  split
  · rfl
  · extract_lets
    split <;> rfl

@[simp] theorem governed_ownerExtend (evs : List (BitVec 8 × Digest × Bytes)) (s : State) :
    governed (ownerExtend evs s) = governed s := by
  refine governed_foldl (fun t e => ?_) evs s
  dsimp only
  split_ifs
  · exact governed_extend ..
  · exact governed_extend ..
  · rfl

/-- WFW's phase loads what the flash keeps, then fails over to the other bank or derives the keys and brings stacks and
management paths up. -/
@[simp] theorem governed_bootWfw (e : BootEnv) (s : State) : governed (bootWfw e s) = governed s := by
  unfold bootWfw
  extract_lets u u2 b g s1 s2 s3 bad s4 s5 s6 copyBad
  have h2 : governed s2 = governed s := by
    rw [governed_loadConfig, governed_anchorBlock, governed_update, governed_useFree]
  have h3 : governed s3 = governed s := governed_ite h2 h2
  have h4 : governed s4 = governed s := by
    rw [governed_deriveWfw, governed_loadLayers, h3]
  have h5 : governed s5 = governed s := governed_ite ((governed_ownerExtend ..).trans h4) h4
  have h6 : governed s6 = governed s := (governed_domainsOn stackPd ..).trans h5
  clear_value bad
  split
  · rw [governed_bankFails, h3]
  · refine governed_ite h4 (governed_ite ((governed_bankFails ..).trans h4) ?_)
    rw [governed_netUp, governed_update, h6]

@[simp] theorem governed_bootMemory (e : BootEnv) (s : State) : governed (bootMemory e s) = governed s := rfl

@[simp] theorem governed_bootTiles (e : BootEnv) (s : State) : governed (bootTiles e s) = governed s := by
  unfold bootTiles
  extract_lets
  rw [governed_update]
  exact governed_ite rfl (governed_domainsOn ..)

/-- Host-ready enables paths and links and ends the boot; what is left are its alerts. -/
@[simp] theorem governed_bootReady (s : State) : governed (bootReady s) = governed s :=
  have alerted {t : State} (bit : Nat) {c : Prop} [Decidable c] : governed (if c then alert bit t else t) = governed t :=
    governed_ite (governed_alert ..) rfl
  (alerted 3).trans (alerted 4)

theorem governed_bootPhase {f : State → State} (hf : ∀ t, governed (f t) = governed t) (k g : Nat) (s : State) :
    governed (bootPhase k g f s) = governed s :=
  governed_ite (hf s) rfl

/-- No boot changes a thermal plan, a core or a partition: they are after it what the reset before it left. -/
@[simp] theorem governed_runBoot (e : BootEnv) (m : SMap (BitVec 256)) (pick : Option Bool) (s : State) :
    governed (runBoot e m pick s) = governed s := by
  simp only [runBoot]
  rw [governed_bootPhase governed_bootReady, governed_bootPhase (governed_bootTiles e),
    governed_bootPhase (governed_bootMemory e)]
  exact governed_ite ((governed_bootWfw ..).trans (governed_bootRom ..)) (governed_bootRom ..)

/-! ### Resets clear it, the release and PD1 sleep keep it -/

@[simp] theorem governed_resetHeld (c : ResetCause) (s : State) : governed (resetHeld c s) = governed State.reset := rfl

@[simp] theorem governed_restartReset (s : State) : governed (restartReset s) = governed State.reset := rfl

theorem governed_pwrOkFall {s : State} (ha : s.aon.vddAon = true) (hp : s.aon.pwrOk = true) :
    governed (pwrOkFall s) = governed State.reset := by
  simp [pwrOkFall, ha, hp, modAon]

theorem governed_sysRstNLow {s : State} (ha : s.aon.vddAon = true) (hp : s.aon.pwrOk = true) (hs : s.aon.sysRstN = true) :
    governed (sysRstNLow s) = governed State.reset := by
  simp [sysRstNLow, ha, hp, hs]

theorem governed_brownout {r : Rail} {s : State} (hr : r ≠ .fuse) (ha : s.aon.vddAon = true) :
    governed (brownout r s) = governed State.reset := by
  have hno : ¬ (r = .fuse ∨ (!s.aon.vddAon) = true) := by simp [hr, ha]
  rw [brownout, if_neg hno]
  split
  · rw [governed_modAon, governed_resetHeld]
  · rw [governed_resetHeld]

theorem governed_bootRestart (b : BootEnv) {s : State} (h : s.boot.restartDue ≠ none) :
    governed (bootRestart b s) = governed State.reset := by
  obtain ⟨r, hr⟩ := Option.ne_none_iff_exists'.1 h
  simp only [bootRestart, hr, governed_runBoot, governed_update, governed_restartReset]

/-- The release of internal reset boots the device, enters a test mode or stops at the fault of TEST_SEL (R35, R36, R47). -/
theorem governed_internalResetRelease (e : SenseEnv) (b : BootEnv) (s : State) :
    governed (internalResetRelease e b s) = governed s := by
  simp only [internalResetRelease]
  split_ifs
  · rfl
  · rw [governed_runBoot, governed_update]
  · rfl
  · rfl

theorem pd1Sleep_keeps (s : State) :
    (pd1Sleep s).therm = s.therm ∧ (pd1Sleep s).cores = s.cores ∧ (pd1Sleep s).parts = s.parts := by
  unfold pd1Sleep
  split <;> exact ⟨rfl, rfl, rfl⟩

/-! ### What a reset leaves for the boot -/

/-- The state R384 has after a boot: the governor as at reset, no partition, every core at step 0 without a plan, every
stack at level 0. -/
def ThermalFresh (t : State) : Prop :=
  t.therm = Thermal.reset ∧ t.parts.parts = [] ∧ (∀ c, (core t c).step = 0) ∧ (∀ c, (coreTherm t c).plan = none) ∧
    ∀ n, (stackTherm t n).level = 0

theorem thermalFresh_of_governed {t : State} (h : governed t = governed State.reset) : ThermalFresh t := by
  obtain ⟨ht, hc, hp⟩ := governed_eq_iff.1 h
  refine ⟨ht, hp, fun c => ?_, fun c => ?_, fun n => ?_⟩
  · rw [core, hc]
    rfl
  · rw [coreTherm, ht]
    rfl
  · rw [stackTherm, ht]
    rfl

theorem thermalFresh_after {s t : State} (h : governed t = governed State.reset) : ThermalFresh (after s t) :=
  thermalFresh_of_governed ((governed_after s t).trans h)

/-! ### PARTITION_CREATE (R205) -/

@[simp] theorem recordStep_partitions (r : StepRec) (s : State) : (recordStep r s).parts.parts = s.parts.parts :=
  (governed_eq_iff.1 (governed_mirror ..)).2.2

/-- The open steps' table of TIDs takes one more while it has fewer than 128 (R219). -/
theorem tidIndex_room (d : Digest) {s : State} (h : s.parts.openTids.length < 128) : ∃ i t, tidIndex d s = some (i, t) := by
  simp only [tidIndex, if_pos h]
  split <;> exact ⟨_, _, rfl⟩

/-- With room for its TID, and no debug open, a creation puts the new partition at its number. -/
theorem createPart_room {p : Nat} (m : Mode) (d : Digest) {s : State} (hn : part? s p = none)
    (hd : s.parts.debugOpen = false) (ht : s.parts.openTids.length < 128) :
    ∃ u, createPart p m d s = (u, Ans.ok) ∧ part? u p = some (Partition.new m d) := by
  obtain ⟨i, t, hi⟩ := tidIndex_room d ht
  have hc : createPart p m d s =
      (recordStep (mkStep 4 0x10 p 0xFF 0 (BitVec.ofNat 128 (modeCode m + 256 * i)) 0)
        (setPart p (Partition.new m d) (drawKey (0x80 + p) (mkAttr p) (destroySlot (0x80 + p) t))), Ans.ok) := by
    simp [createPart, hn, hd, hi]
  exact ⟨_, hc, by simp [part?]⟩

/-- PARTITION_CREATE of a free number with a good payload, a healthy DRBG and room for its step is answered by its effect. -/
theorem served_partitionCreate {e : Env} {s t : State} {r : State × Ans}
    (hf : payFault ([(0, p8 e 0 == 1 || p8 e 0 == 2)] ++ rsv e 1 7) = none) (hn : part? t e.target.toNat = none)
    (he : t.eng.entropyFailed = false) (hr : t.parts.rollback = none) (ho : t.parts.openSteps.length < 4096)
    (hc : createPart e.target.toNat (modeOfCode (p8 e 0)) (dig e.payload 8) t = r) :
    Says.served (.partitionCreate e) specPartitionCreate e s t r := by
  intro q hq
  have hroom : stepRoom t 1 = true := decide_eq_true ho
  show done s (serve specPartitionCreate e _ s) = _
  rw [serve_open hq, checked_pass hf]
  simp [hn, he, withSteps, hr, hroom, hc, done_eq]

/-- Settles O52. Each reset leaves `governed` as `State.reset` has it and no part of a boot changes it, so that it is still
that when the boot has ended; a partition is made by `Partition.new`, at LEVEL 0. -/
theorem plansAndSteps : Obligations.PlansAndSteps := by
  unfold Obligations.PlansAndSteps
  intro fresh s
  refine ⟨⟨_, rfl, ?_⟩, fun ha hp => ⟨_, rfl, thermalFresh_after (governed_pwrOkFall ha hp)⟩,
    fun ha hp hs => ⟨_, rfl, thermalFresh_after (governed_sysRstNLow ha hp hs)⟩,
    fun r hr ha => ⟨_, rfl, thermalFresh_after (governed_brownout hr ha)⟩,
    fun b h => ⟨_, rfl, thermalFresh_after (governed_bootRestart b h)⟩,
    fun e b ht hc hp => ⟨_, rfl, thermalFresh_after ?_⟩, fun e t hf hm hn he hr ho ht hd => ?_⟩
  · simpa only [after_therm, after_cores, after_parts] using pd1Sleep_keeps s
  · rw [governed_internalResetRelease]
    exact governed_eq_iff.2 ⟨ht, hc, hp⟩
  · obtain ⟨u, hu, hx⟩ := createPart_room (modeOfCode (p8 e 0)) (dig e.payload 8) hn hd ht
    have hconf : modeOfCode (p8 e 0) = .confidential := by rw [hm, modeOfCode, if_pos rfl]
    exact ⟨u, _, served_partitionCreate hf hn he hr ho hu, hx, hconf, rfl⟩

end Sys2Proof.Machine
end

section
/-! SUPPORT. The mark F of an opcode (R468, order 11 of Table 08-10): the form checks before it and after it do not see the
mark, and neither does any check of the gate once FRANKED is set. -/

namespace Sys2Proof.Machine

/-! ### The form checks around FRANKED (Table 08-10) -/

/-- Orders 1 to 10; order 8 has no clause here, for `sp` is the row of a defined opcode. -/
def formFaultBeforeMark (s : State) (sp : OpSpec) (e : Env) : Option (Nat × BitVec 32) :=
  if e.magic ≠ 0x5544 then some (1, 0)
  else if e.version ≠ 1 then some (1, 2)
  else if e.length.toNat ≠ e.payload.length ∨ 61440 < e.payload.length then some (1, 0xFFFFFFFF)
  else if !trailerOk e then some (1, 0xFFFFFFFF)
  else if !crcOk sp.op e then some (1, 0xFFFFFFFF)
  else if e.flags.getLsbD 0 then some (2, 3)
  else ((reservedFault sp.op e).map fun o => (2, BitVec.ofNat 32 o)).or
    (if !targetOk sp e (nParts s) then some (2, 6) else if !credOk e then some (2, 7) else none)

/-- Orders 12 and 13. -/
def formFaultAfterMark (s : State) (sp : OpSpec) (e : Env) : Option (Nat × BitVec 32) :=
  if !sp.len e.payload.length then some (2, 0xFFFFFFFF)
  else if replySpace s e < sp.reply then some (2, 0xFFFFFFFF)
  else none

theorem ite_some_or {α : Type} {c : Prop} [Decidable c] (a : α) (o p : Option α) :
    (if c then some a else o).or p = if c then some a else o.or p := by
  split <;> rfl

/-- `formFault` is those two with order 11, the mark F, between them. -/
theorem formFault_eq (s : State) (sp : OpSpec) (e : Env) : formFault s sp e =
    (formFaultBeforeMark s sp e).or (if !frankedOk sp e then some (2, 3) else formFaultAfterMark s sp e) := by
  simp only [formFault, formFaultBeforeMark, formFaultAfterMark, ite_some_or, Option.or_assoc]
  cases reservedFault sp.op e with
  | some o => rfl
  | none => rfl

variable {sp : OpSpec} {e : Env} {s : State}

theorem frankedOk_of_isFranked (h : isFranked e = true) : frankedOk sp e = true := by
  rw [frankedOk, h, Bool.true_or]

theorem frankedOk_of_mark (hm : sp.franked = true) (h : isFranked e = false) : frankedOk sp e = false := by
  rw [frankedOk, hm, h, Bool.true_or]
  rfl

/-- Without a fault before order 11, an unfranked envelope of a marked opcode has that one. -/
theorem formFault_of_mark (hm : sp.franked = true) (h : isFranked e = false) :
    formFault s sp e = (formFaultBeforeMark s sp e).or (some (2, 3)) := by
  rw [formFault_eq, frankedOk_of_mark hm h]
  rfl

theorem formFault_of_isFranked (h : isFranked e = true) :
    formFault s sp e = (formFaultBeforeMark s sp e).or (formFaultAfterMark s sp e) := by
  rw [formFault_eq, frankedOk_of_isFranked h]
  rfl

/-- An envelope in good form has no fault before order 11, whatever the mark of its opcode. -/
theorem formFaultBeforeMark_eq_none {b : Bool} (h : formFault s { sp with franked := b } e = none) :
    formFaultBeforeMark s sp e = none := by
  rw [formFault_eq] at h
  exact (Option.or_eq_none_iff.1 h).1

/-! ### The gate -/

/-- With PD1 on there is nothing to wake. -/
theorem wakePd1_of_on (h : domOf s 1 = .on) : wakePd1 s = s := by simp [wakePd1, h]

/-- On a host ring a form fault is answered MALFORMED with its step and detail. -/
theorem gate_formFault {k : Nat} {d : BitVec 32} (hs : serves s = true) (hd : domOf s 1 = .on)
    (hp : e.path = .pf ∨ ∃ n, e.path = .vf n) (hf : formFault s sp e = some (k, d)) :
    gate sp e s = .shut (reply e sp.op { status := 3, detail := d, check := k } none s) := by
  have hg : gate sp e s = gateAdmitted sp e s := by
    obtain hp | ⟨n, hp⟩ := hp <;> simp [gate, hs, wakePd1_of_on hd, hp]
  rw [hg, gateAdmitted, hf]
  rfl

/-- The checks after the form, FRANKED's own among them (R183), do not see the mark. -/
theorem gateChecked_mark (b : Bool) : gateChecked { sp with franked := b } e s = gateChecked sp e s := rfl

/-- Once FRANKED is set, an admitted envelope fares as it would with any mark on its opcode. -/
theorem gateAdmitted_mark (h : isFranked e = true) (b : Bool) :
    gateAdmitted { sp with franked := b } e = gateAdmitted sp e := by
  funext t
  have hf : formFault t { sp with franked := b } e = formFault t sp e := by
    rw [formFault_of_isFranked h, formFault_of_isFranked h]
    rfl
  simp only [gateAdmitted, hf, gateChecked_mark]

/-- So does it on every path. -/
theorem gate_mark (h : isFranked e = true) (b : Bool) : gate { sp with franked := b } e s = gate sp e s := by
  simp only [gate, gateMgmt, gateAdmitted_mark h b]

/-- Settles O57. The mark F is order 11 of Table 08-10: without FRANKED it faults a form that the orders before it pass, and
with FRANKED no check of the gate depends on it. -/
theorem frankedOpcodes : Obligations.FrankedOpcodes := by
  unfold Obligations.FrankedOpcodes
  intro sp e s
  refine ⟨fun hm hu => ⟨?_, fun hf => ?_⟩, fun h => (gate_mark h true).trans (gate_mark h false).symm⟩
  · rw [formFault_of_mark hm hu]
    simp
  · have hmark : formFault s sp e = some (2, 3) := by
      rw [formFault_of_mark hm hu, formFaultBeforeMark_eq_none hf]
      rfl
    exact ⟨hmark, fun hs hd hp => gate_formFault hs hd hp hmark⟩

end Sys2Proof.Machine
end

section
/-! SUPPORT. The whole machine: every command answers and hands its queue on, an empty queue ticks, and what the state after
reset is. -/

namespace Sys2Proof.Machine

set_option Elab.async false

/-- An answer that is a next state with the queue of `s`. -/
def HandsOn (s : State) : Answer → Prop
  | .next t => t.pending = s.pending
  | _ => False

theorem handsOn_iff {s : State} {a : Answer} : HandsOn s a ↔ ∃ t, a = .next t ∧ t.pending = s.pending := by
  refine ⟨fun h => ?_, ?_⟩
  · cases a with
    | next t => exact ⟨t, rfl, h⟩
    | fault => exact h.elim
    | refused => exact h.elim
  · rintro ⟨t, rfl, h⟩
    exact h

/-- Every command ends in `done`, whose queue is the one the command was handed. -/
theorem exec_handsOn (i : Instr) (s : State) : HandsOn s (exec i s) := by
  cases i <;> exact (rfl : s.pending = s.pending)

theorem exec_answers (i : Instr) (s : State) : ∃ t, exec i s = .next t ∧ t.pending = s.pending := handsOn_iff.1 (exec_handsOn i s)

theorem step_of_pending {c : Instr} {rest : List Instr} {s : State} (h : s.pending = c :: rest) :
    step s = exec c { s with pending := rest } := by
  simp only [step, h]

theorem step_of_empty {s : State} (h : s.pending = []) : step s = .next s.idle := by simp only [step, h]

/-- Settles O1. -/
theorem stepTakesTheFront : Obligations.StepTakesTheFront := by
  unfold Obligations.StepTakesTheFront
  intro c rest s h
  rw [step_of_pending h]
  exact ⟨rfl, exec_answers c _⟩

/-- Settles O2. -/
theorem everyStepAnswers : Obligations.EveryStepAnswers := by
  unfold Obligations.EveryStepAnswers Says.everyCommandAnswers Says.emptyQueueTicks
  refine ⟨exec_answers, fun s h => ⟨fun hv => ?_, fun hv => ?_⟩⟩
  · rw [step_of_empty h, State.idle, if_pos hv]
  · rw [step_of_empty h, State.idle, if_neg (by simp [hv])]

/-- A row of the fuse array as delivered: the canary rows 0 to 3 are set, every other row is blank (R101). -/
theorem cellRow_reset (r : Nat) : cellRow State.reset.fuses.cells r = if r < 4 then BitVec.allOnes 256 else 0 := by
  by_cases h : r < 4
  · interval_cases r <;> rfl
  · have rows : State.reset.fuses.cells =
      [(0, BitVec.allOnes 256), (1, BitVec.allOnes 256), (2, BitVec.allOnes 256), (3, BitVec.allOnes 256)] := rfl
    have h0 : ¬ 0 = r := by omega
    have h1 : ¬ 1 = r := by omega
    have h2 : ¬ 2 = r := by omega
    have h3 : ¬ 3 = r := by omega
    simp [cellRow, mgetD, rows, mget, h, h0, h1, h2, h3]

/-- Settles O58. -/
theorem resetState : Obligations.ResetState := by
  unfold Obligations.ResetState
  refine ⟨rfl, rfl, rfl, fun _ => rfl, rfl, rfl, fun _ => rfl, rfl, fun _ => rfl, rfl, fun _ => ⟨rfl, rfl⟩, fun _ _ => rfl,
    fun r c hr hc => ?_, fun r c hr => ?_, fun _ => ⟨rfl, rfl⟩⟩
  · rw [cellAt, cellRow_reset, if_pos hr]
    exact (BitVec.getLsbD_allOnes ..).trans (decide_eq_true hc)
  · rw [cellAt, cellRow_reset, if_neg (by omega)]
    simp

end Sys2Proof.Machine
end

section
/-! SUPPORT. Commands that do nothing, in a state with a tenant that no view generation counts for yet (R338): the end of
such a command still begins that tenant's view generation. -/

namespace Sys2Proof.Machine

set_option Elab.async false

/-- A command without an effect does not keep everything where some tenant is uncounted. -/
theorem not_runs_keeps_nil {i : Instr} {s : State} (h : exec i s = .next (after s s)) (hg : s.att.gen ≠ 0)
    (ht : newTenants s ≠ []) : ¬ Runs i s fun t => Keeps [] s t := by
  rintro ⟨t, ht', hk⟩
  obtain rfl : after s s = t := Host.Outcome.next.inj (h.symm.trans ht')
  exact (keeps_nil_after_self_iff.1 hk).elim hg ht

/-- Refutes O4: the brownout of VDD_FUSE, which has no threshold, is to keep every piece of every state. -/
theorem not_landsAndResets : ¬ Obligations.LandsAndResets := by
  unfold Obligations.LandsAndResets Says.landsResetTheDevice
  intro h
  obtain ⟨-, -, -, -, hfuse⟩ := h.1 { uncountedTenant with aon := { Aon.reset with vddAon := true } } rfl
  exact not_runs_keeps_nil rfl (by decide) (by decide) hfuse

/-- Refutes O27: an acknowledgement of no snoop is to keep every piece of every state. -/
theorem not_directoryRequests : ¬ Obligations.DirectoryRequests := by
  unfold Obligations.DirectoryRequests
  intro h
  obtain ⟨-, -, -, -, -, hack⟩ := h 0 0 0 0 uncountedTenant rfl
  exact not_runs_keeps_nil rfl (by decide) (by decide) (hack 0 (by decide)).1

/-- Refutes O28: a flow report that is stale already is to keep every piece of every state. -/
theorem not_governor : ¬ Obligations.Governor := by
  unfold Obligations.Governor Says.governorTicks
  intro h
  obtain ⟨-, -, -, -, -, -, hstale⟩ := h.2 uncountedTenant
  exact not_runs_keeps_nil rfl (by decide) (by decide) (hstale rfl)

/-- An envelope of the host PF with nothing in it. -/
def blankEnv : Env :=
  { path := .pf, magic := 0x5544, version := 1, flags := 0, target := 0, cred := 0, seq := 0, franking := 0, length := 0,
    rsv1 := 0, bootNonce := 0, status := 0, rsv2 := 0, detail := 0, rsv3 := 0, payload := [], trailer := .crc 0 0,
    replyMax := 0, replyFails := false }

/-- Refutes O36: applying the management port's settings while none wait is to keep every piece of every state. -/
theorem not_management : ¬ Obligations.Management := by
  unfold Obligations.Management Says.managementPort
  intro h
  obtain ⟨-, -, -, hnone, -⟩ := h.1 blankEnv uncountedTenant uncountedTenant
  exact not_runs_keeps_nil rfl (by decide) (by decide) (hnone rfl)

/-- Refutes O40: the time-out of a session that is not there is to keep every piece of every state. -/
theorem not_attestation : ¬ Obligations.Attestation := by
  unfold Obligations.Attestation Says.tenantSessions
  intro h
  obtain ⟨-, hsession⟩ := h.2 blankEnv uncountedTenant uncountedTenant
  exact not_runs_keeps_nil rfl (by decide) (by decide) ((hsession 1).1 rfl)

/-- Refutes O44: the expiry of a lease that is not held is to keep every piece of every state. -/
theorem not_twinsMirror : ¬ Obligations.TwinsMirror := by
  unfold Obligations.TwinsMirror
  intro h
  obtain ⟨-, -, -, -, -, -, -, -, hexpiry, -⟩ := h uncountedTenant
  exact not_runs_keeps_nil rfl (by decide) (by decide) (hexpiry (by decide))

/-- A bond that names no key. -/
def blankBond : Bond := { partner := 0, primary := true, rejoin := 0, acceptW := [], acceptO := [], raw := [] }

/-- Refutes O45: a trained twin port that the device does not serve is to keep every piece of every state. -/
theorem not_twinPairing : ¬ Obligations.TwinPairing := by
  unfold Obligations.TwinPairing Says.twinsPair
  intro h
  obtain ⟨hoff, -⟩ := h.1 { uncountedTenant with twin := { Twin.reset with bond := some blankBond } } blankBond rfl
  exact not_runs_keeps_nil rfl (by decide) (by decide) (hoff rfl)

/-- A join set that enables no link. -/
def blankJoin : JoinSet :=
  { caravan := 0, post := 0, priority := 0, mask := 0, acceptW := [], acceptO := [], raw := [] }

/-- Refutes O46: a trained link that the join set does not enable is to keep every piece of every state. -/
theorem not_linksShakeHands : ¬ Obligations.LinksShakeHands := by
  unfold Obligations.LinksShakeHands
  intro h
  obtain ⟨hoff, -⟩ := h 0 { uncountedTenant with car := { Caravan.reset with join := some blankJoin } } blankJoin rfl
  exact not_runs_keeps_nil rfl (by decide) (by decide) (hoff rfl)

/-- Refutes O47: sending on a link that is not keyed is to keep every piece of every state. -/
theorem not_linkAndChannelFrames : ¬ Obligations.LinkAndChannelFrames := by
  unfold Obligations.LinkAndChannelFrames Says.linkFrames
  intro h
  obtain ⟨hunkeyed, -⟩ := h.1 0 uncountedTenant
  exact not_runs_keeps_nil rfl (by decide) (by decide) (hunkeyed (by decide))

/-- Refutes O48: the roll-up tick of a device without a period is to keep every piece of every state. -/
theorem not_rollUps : ¬ Obligations.RollUps := by
  unfold Obligations.RollUps
  intro h
  obtain ⟨htick, -⟩ := h 0 blankEnv uncountedTenant uncountedTenant
  exact not_runs_keeps_nil rfl (by decide) (by decide) (htick (.inl rfl))

/-- Refutes O49: the advert tick of a device without a join set is to keep every piece of every state. -/
theorem not_caravanMembers : ¬ Obligations.CaravanMembers := by
  unfold Obligations.CaravanMembers Says.routesAndMembers
  intro h
  obtain ⟨halone, -⟩ := h.1 0 uncountedTenant
  exact not_runs_keeps_nil rfl (by decide) (by decide) (halone rfl)

/-- A responder with its algorithms negotiated. -/
def spdmResponder : State :=
  { uncountedTenant with
    boot := { Boot.reset with phase := .done, outcome := .hostReady }
    power := { Power.reset with dom := [(1, .on)] }
    att := { uncountedTenant.att with spdm := { Spdm.reset with alg := true } } }

/-- A heartbeat in session 1, which is not there. -/
def strayHeartbeat : SpdmMsg := { version := 0x13, code := 0xE8, param1 := 0, param2 := 0, body := [], session := some 1 }

/-- Refutes O50: a heartbeat in a session that is not there is to keep every piece of every state. -/
theorem not_spdm : ¬ Obligations.Spdm := by
  unfold Obligations.Spdm Says.spdmSessions
  intro h
  obtain ⟨-, -, hstray⟩ := h.2 strayHeartbeat spdmResponder ⟨rfl, rfl, rfl⟩ rfl rfl
  exact not_runs_keeps_nil rfl (by decide) (by decide) (hstray 1 rfl rfl (.heartbeat strayHeartbeat) (by simp))

end Sys2Proof.Machine
end

section
/-! SUPPORT. The checks of a host-ring envelope in their order (Tables 08-4 and 08-10), and its franking (R183). -/

namespace Sys2Proof.Machine

set_option Elab.async false

variable {sp : OpSpec} {e : Env} {s : State}

/-- With PD1 on, an envelope of a host ring goes through the checks of an admitted one. -/
theorem gate_of_ring (hs : serves s = true) (hd : domOf s 1 = .on) (hp : e.path = .pf ∨ ∃ n, e.path = .vf n) :
    gate sp e s = gateAdmitted sp e s := by
  obtain hp | ⟨n, hp⟩ := hp <;> simp [gate, hs, wakePd1_of_on hd, hp]

theorem gateAdmitted_of_form (h : formFault s sp e = none) : gateAdmitted sp e s = gateChecked sp e s := by
  simp only [gateAdmitted, h]

/-- The remaining time of a device that is not ready is at least a millisecond, and it uses one free value. -/
theorem remainMs_spec (s : State) : 1 ≤ (remainMs s).1.toNat ∧ (remainMs s).2 = { s with free := s.free + 1 } := by
  refine ⟨?_, rfl⟩
  simp only [remainMs, BitVec.toNat_ofNat]
  omega

theorem gateChecked_busy (h : deviceBusy s = true) :
    gateChecked sp e s = .shut (reply e sp.op { status := 2, detail := (remainMs s).1, check := 3 } none
      { s with free := s.free + 1 }) := by
  rw [gateChecked, if_pos h, (remainMs_spec s).2]
  rfl

theorem gateChecked_unauthorised (hb : deviceBusy s = false) (h : authorised s sp e = false) :
    gateChecked sp e s = .shut (reply e sp.op { status := 1, detail := 0, check := 4 } none s) := by
  simp [gateChecked, hb, h, Ans.refused]

theorem gateChecked_outcome (hb : deviceBusy s = false) (ha : authorised s sp e = true)
    (h : outcomeAccepts s (callerOf e.path) sp.op = false) :
    gateChecked sp e s = .shut (reply e sp.op { status := 10, detail := 0, check := 5 } none s) := by
  simp [gateChecked, hb, ha, h, Ans.state]

/-- A caller without a budget comes to the franking check with nothing spent. -/
theorem gateChecked_passed (hb : deviceBusy s = false) (ha : authorised s sp e = true)
    (ho : outcomeAccepts s (callerOf e.path) sp.op = true) (hp : budgetParts s e = []) :
    gateChecked sp e s = gateFranked sp e s := by
  simp [gateChecked, hb, ha, ho, hp, spendBudget]

theorem gateFranked_unfranked (ho : sp.own = false) (hf : isFranked e = false) : gateFranked sp e s = gateOwned sp e none s := by
  simp [gateFranked, ho, hf]

theorem gateOwned_open {q : Option (BitVec 64)} (h : sp.owned = false ∨ s.fuses.shadow.code = 7) :
    gateOwned sp e q s = .open_ s q := by
  rw [gateOwned, if_neg]
  rintro ⟨ho, hc⟩
  obtain h | h := h
  · simp [h] at ho
  · exact hc h

theorem gateOwned_shut {q : Option (BitVec 64)} (ho : sp.owned = true) (hc : s.fuses.shadow.code ≠ 7) :
    gateOwned sp e q s =
      .shut (reply e sp.op { status := 10, detail := s.fuses.shadow.code.zeroExtend 32 } q s) := by
  rw [gateOwned, if_pos ⟨ho, hc⟩]
  rfl

/-- The host-ring checks in their order. -/
theorem checksInOrder : Says.checksInOrder := by
  intro sp e s hs hd hp
  rw [gate_of_ring hs hd hp]
  refine ⟨fun k d hf => ?_, fun hf hb => ?_, fun hf hb ha => ?_, fun hf hb ha ho => ?_, fun hf hb ha ho hg hk hown => ?_⟩
  · rw [← gate_of_ring hs hd hp, gate_formFault hs hd hp hf]
  all_goals rw [gateAdmitted_of_form hf]
  · exact ⟨_, (remainMs_spec s).1, gateChecked_busy hb⟩
  · exact gateChecked_unauthorised hb ha
  · exact gateChecked_outcome hb ha ho
  · rw [gateChecked_passed hb ha ho hg, gateFranked_unfranked hown hk]
    exact ⟨gateOwned_open, gateOwned_shut⟩

@[simp] theorem mirror_vault (m : BitVec 8) (b : Bytes) (s : State) : (mirror m b s).vault = s.vault := by
  simp only [mirror, twinSend]
  split_ifs <;> rfl

/-- A recorded counter is its issuer's own from then on. -/
theorem ownCounter_recordCounter (i : Issuer) (c : BitVec 64) (s : State) : ownCounter (recordCounter i c s) i = c := by
  have found (l : List (Issuer × BitVec 64)) : ((if l.any (fun e => e.1 == i) then
      l.map (fun e => if e.1 == i then (i, c) else e) else l ++ [(i, c)]).find? (fun e => e.1 == i)).map Prod.snd = some c := by
    split
    case isTrue h =>
      induction l with
      | nil => simp at h
      | cons x l ih =>
        by_cases hx : x.1 = i
        · simp [hx]
        · simpa [hx] using ih (by simpa [hx] using h)
    case isFalse h =>
      have none_ : l.find? (fun e => e.1 == i) = none :=
        List.find?_eq_none.2 fun x hx hi => h (List.any_eq_true.2 ⟨x, hx, hi⟩)
      simp [none_]
  have h := found s.vault.franking
  rw [ownCounter, recordCounter, mirror_vault]
  dsimp only
  split
  case h_1 k =>
    rw [k] at h
    exact Option.some.inj h
  case h_2 k =>
    rw [k] at h
    cases h

theorem frankingIsChecked : Says.frankingIsChecked := by
  intro sp e s hs hd hp hf hb ha ho hk hown howned hop last
  have hstale : staleCounter s sp e =
      if e.bootNonce = s.boot.bn ∧ last.toNat < e.franking.toNat then none else some last := by
    simp [staleCounter, hp, issuerOf, hop, last]
  have hgate : gate sp e s = gateFranked sp e s := by
    rw [gate_of_ring hs hd (.inl hp), gateAdmitted_of_form hf, gateChecked_passed hb ha (by rwa [hp]) (by simp [budgetParts, hp])]
  rw [hgate, gateFranked]
  refine ⟨fun hn hl => ?_, fun hn => ?_⟩
  · have hrec : recordFranking e s = recordCounter (.slot e.cred.toNat) e.franking s := by simp [recordFranking, hp, issuerOf]
    have hs : staleCounter s sp e = none := by rw [hstale, if_pos ⟨hn, hl⟩]
    exact ⟨by simp [hown, hk, hs, hrec, gateOwned_open (.inl howned)], ownCounter_recordCounter ..⟩
  · rw [hstale, if_neg hn]
    simp [hown, hk, Ans.stale]

/-- Settles O3. -/
theorem envelopeChecks : Obligations.EnvelopeChecks := ⟨checksInOrder, frankingIsChecked⟩

end Sys2Proof.Machine
end

section
/-! SUPPORT. How a command's end is said: the state its effect leaves, and the pieces that effect keeps. -/

namespace Sys2Proof.Machine

set_option Elab.async false

variable {s u : State} {i : Instr} {P : State → Prop} {ps : List Piece}

/-- A command whose effect leaves u ends in the state after u. -/
theorem runs_done (h : exec i s = done s u) (hp : P (after s u)) : Runs i s P := ⟨_, h, hp⟩

/-- A command touches the pieces its effect touches. -/
theorem touches_after (h : ∀ p, p ∉ ps → Same s u p) : Touches ps s (after s u) := keeps_after s u h

/-- The state that takes the named pieces from `u` and all else from `s`. -/
def pieced (ps : List Piece) (s u : State) : State :=
  let att := if .att ∈ ps then u.att else s.att
  { s with
    aon := if .aon ∈ ps then u.aon else s.aon
    power := if .power ∈ ps then u.power else s.power
    boot := if .boot ∈ ps then u.boot else s.boot
    fuses := if .fuses ∈ ps then u.fuses else s.fuses
    vault := if .vault ∈ ps then u.vault else s.vault
    eng := if .eng ∈ ps then u.eng else s.eng
    parts := if .parts ∈ ps then u.parts else s.parts
    mem := if .mem ∈ ps then u.mem else s.mem
    cores := if .cores ∈ ps then u.cores else s.cores
    q := if .q ∈ ps then u.q else s.q
    desk := if .desk ∈ ps then u.desk else s.desk
    scrub := if .scrub ∈ ps then u.scrub else s.scrub
    att := if .gens ∈ ps then { att with gen := u.att.gen, views := u.att.views }
      else { att with gen := s.att.gen, views := s.att.views }
    therm := if .therm ∈ ps then u.therm else s.therm
    twin := if .twin ∈ ps then u.twin else s.twin
    port := if .port ∈ ps then u.port else s.port
    car := if .car ∈ ps then u.car else s.car
    flash := if .flash ∈ ps then u.flash else s.flash
    mgmt := if .mgmt ∈ ps then u.mgmt else s.mgmt
    mail := if .mail ∈ ps then u.mail else s.mail
    tele := if .tele ∈ ps then u.tele else s.tele
    out := if .out ∈ ps then u.out else s.out
    free := if .free ∈ ps then u.free else s.free }

/-- A state that differs in the named pieces alone keeps every other piece. -/
theorem same_of_pieced (h : pieced ps s u = u) : ∀ p, p ∉ ps → Same s u p := by
  intro p hp
  rw [← h]
  cases p with
  | att =>
    show { (if Piece.gens ∈ ps then _ else _ : Attest) with gen := 0, views := [] } = _
    rw [if_neg hp]
    split <;> rfl
  | gens =>
    show (if Piece.gens ∈ ps then _ else _ : Attest).gen = _ ∧ (if Piece.gens ∈ ps then _ else _ : Attest).views = _
    rw [if_neg hp]
    exact ⟨rfl, rfl⟩
  | _ => exact if_neg hp

theorem keeps_of_pieced (h : pieced ps s u = u) : Keeps ps s u := ⟨by rw [← h]; rfl, same_of_pieced h⟩

end Sys2Proof.Machine
end

section
/-! SUPPORT. Tamper, the fuse supply and the always-on clocks (R43, R44, R68, R70, R75, R76). -/

namespace Sys2Proof.Machine

set_option Elab.async false

/-- An interrupt leaves a pending bit or an output, nothing else. -/
theorem msix_shape (f : Fn) (v : Nat) (s : State) : ∃ q o, msix f v s = { s with q := q, out := o } := by
  unfold msix
  split <;> exact ⟨_, _, rfl⟩

theorem raiseEvent_shape (bit : Nat) (s : State) : ∃ q o, raiseEvent bit s = { s with q := q, out := o } := by
  simp only [raiseEvent]
  split
  · obtain ⟨q, o, h⟩ := msix_shape .pf s.q.events.vector.toNat
      { s with q := { s.q with events := { s.q.events with cause := setBit s.q.events.cause bit true } } }
    exact ⟨q, o, h⟩
  · exact ⟨_, _, rfl⟩

/-- An alert sets its bit, pulls ALERT_N low and may raise an event. -/
theorem alert_shape (bit : Nat) (s : State) : ∃ q o, alert bit s =
    { s with mgmt := { s.mgmt with alert := setBit s.mgmt.alert bit true }, aon := { s.aon with alertLow := true },
             q := q, out := o } := by
  simp only [alert]
  split
  · exact ⟨_, _, rfl⟩
  · exact raiseEvent_shape ..

theorem programSome_aon (s : State) : (programSome s).aon = s.aon := by
  unfold programSome
  split
  · split <;> rfl
  · rfl

theorem tamperIsRecorded : Says.tamperIsRecorded := by
  intro s hv
  refine ⟨fun hr => runs_done rfl ?_, fun hr hb => runs_done rfl ?_, fun hr h1 h2 => runs_done rfl ?_, fun hh hc => runs_done rfl ?_⟩
  · have h : tamper s = modAon (fun a => { a with tamperHold := true, tamperLow1s := false, tamperCycled := false })
        (resetHeld .tamper (zeroKeys (modRet (fun r =>
          { r with tamperTicks := tick s :: r.tamperTicks, tamperCount := satInc r.tamperCount }) s))) := by
      simp [tamper, hv, hr]
    rw [h]
    simp only [after_vault, after_boot, after_cores, after_mem, after_aon]
    exact ⟨rfl, rfl, rfl, rfl, rfl, rfl, rfl, congrArg (·.ret.tamperTicks) (programSome_aon _)⟩
  · have h : tamper s = modRet (fun r =>
        { r with tamperTicks := tick s :: r.tamperTicks, tamperCount := satInc r.tamperCount }) s := by
      simp [tamper, hv, hr, hb]
    rw [h]
    exact ⟨touches_after (same_of_pieced rfl), after_aon ..⟩
  · obtain ⟨q, o, h⟩ := alert_shape 6 (modRet (fun r =>
        { r with tamperTicks := tick s :: r.tamperTicks, tamperCount := satInc r.tamperCount }) s)
    have h : tamper s = _ := (by simp [tamper, hv, hr, h1, h2] : tamper s = _).trans h
    rw [h]
    refine ⟨touches_after (same_of_pieced rfl), ?_, ?_, ?_⟩
    · simp [modRet, modAon]
    · simp [modRet, modAon, setBit]
    · simp
  · have h : tamperNLow s = { s with aon := { s.aon with tamperLow1s := true, tamperHold := false } } := by
      simp [tamperNLow, hh, tamperEnd, modAon, hc]
    rw [h]
    exact ⟨touches_after (same_of_pieced rfl), after_aon ..⟩

theorem suppliesAndClocks : Says.suppliesAndClocks := by
  intro s
  refine ⟨fun hv hp => runs_done rfl ?_, fun o ho hp hr => runs_done rfl ?_, fun hc => runs_done rfl ?_,
    fun hv hc hf => runs_done rfl ?_, fun ppm hv hd => runs_done rfl ?_, fun hv => runs_done rfl ?_, fun hv => runs_done rfl ?_⟩
  · have h : vddFuseUnexpected s = modRet (fun r => { r with fuseUnexp := min 255 (r.fuseUnexp + 1) }) s := by
      simp [vddFuseUnexpected, hv, hp]
    rw [h]
    exact ⟨touches_after (same_of_pieced rfl), after_aon ..⟩
  · have h : vddFuseReady s =
        { s with fuses := { s.fuses with op := some { o with ready := true } }, aon := { s.aon with vddFuse := true } } := by
      simp [vddFuseReady, ho, hp, hr]
    rw [h]
    exact ⟨touches_after (same_of_pieced rfl), after_fuses .., after_aon ..⟩
  · have h : xt32Lost s = modAon (fun a => { a with crystal := false, ret := { a.ret with xt32Lost := true } }) s := by
      simp [xt32Lost, hc]
    rw [h]
    exact ⟨touches_after (same_of_pieced rfl), after_aon ..⟩
  · have h : xt32CrystalStart s = modAon (fun a => { a with crystal := true, crystalTried := true }) s := by
      simp [xt32CrystalStart, hv, hc, hf]
    rw [h]
    exact ⟨touches_after (same_of_pieced rfl), after_aon ..⟩
  · have h : hoscDiscipline ppm s = modAon (fun a => { a with hoscPpm := max (-20) (min 20 ppm.toInt) }) s := by
      simp [hoscDiscipline, hv, hd]
    rw [h]
    refine ⟨touches_after (same_of_pieced rfl), ?_⟩
    rw [after_aon]
    exact ⟨rfl, le_max_left .., max_le (by decide) (min_le_left ..), fun hl hu => by
      simp [modAon, max_eq_right hl, min_eq_right hu]⟩
  · have h : (vddAonRise true s).aon = { Aon.reset with vddAon := true, tick := s.aon.tick, ret := s.aon.ret } := by
      simp [vddAonRise, hv]
    exact (after_aon ..).trans h
  · have h : (vddAonRise false s).aon =
        { Aon.reset with vddAon := true, ret := { Retention.reset with cold := true, tamperCount := 0xFFFF } } := by
      simp [vddAonRise, hv]
      rfl
    exact (after_aon ..).trans h

/-- Settles O6. -/
theorem tamperAndSupplies : Obligations.TamperAndSupplies := ⟨tamperIsRecorded, suppliesAndClocks⟩

end Sys2Proof.Machine
end

section
/-! SUPPORT. What one core's command can do: the state it leaves differs in that core alone. -/

namespace Sys2Proof.Machine

set_option Elab.async false

/-- `t` is `s` but for core `c`, which is `y`. -/
structure CoreBecomes (c : Nat) (y : Core) (s t : State) : Prop where
  rest : t = { s with cores := t.cores }
  at_core : core t c = y
  others : ∀ k, k ≠ c → core t k = core s k

variable {c : Nat} {x y : Core} {s t : State}

theorem CoreBecomes.refl (c : Nat) (s : State) : CoreBecomes c (core s c) s s := ⟨rfl, rfl, fun _ _ => rfl⟩

theorem CoreBecomes.mod (h : CoreBecomes c y s t) (f : Core → Core) : CoreBecomes c (f y) s (modCore c f t) where
  rest := by
    have hr := h.rest
    simp only [modCore, setCore]
    rw [hr]
  at_core := by rw [modCore_core, h.at_core]
  others k hk := (modCore_core_other _ _ hk.symm).trans (h.others k hk)

theorem CoreBecomes.set (h : CoreBecomes c y s t) (x : Core) : CoreBecomes c x s (setCore c x t) :=
  ⟨(h.mod fun _ => x).rest, (h.mod fun _ => x).at_core, (h.mod fun _ => x).others⟩

/-- A word of an untraced core retires without a trace record. -/
theorem traceWord_untraced (h : (core s c).dbg.trace = none) : traceWord c s = s := by
  simp only [traceWord, h]

theorem CoreBecomes.goTo (h : CoreBecomes c y s t) (ht : y.dbg.trace = none) (pc : Nat) :
    CoreBecomes c (Says.retired pc y) s (goTo c pc t) := by
  have hm := (h.mod fun x => { x with pc := pc }).mod fun x =>
    { x with counts := { x.counts with issued := satInc x.counts.issued },
             dbg := { x.dbg with stepsLeft := x.dbg.stepsLeft - 1 },
             st := if x.dbg.stepsLeft = 1 ∧ x.st = .run then .debugHalt else x.st }
  have hg : Machine.goTo c pc t = _ := traceWord_untraced (by rw [hm.at_core]; exact ht)
  exact hg ▸ hm

theorem CoreBecomes.nextWord (h : CoreBecomes c y s t) (ht : y.dbg.trace = none) :
    CoreBecomes c (Says.retired (y.pc + 1) y) s (nextWord c t) := by
  have hg := h.goTo ht ((core t c).pc + 1)
  rw [h.at_core] at hg
  exact h.at_core ▸ hg

theorem CoreBecomes.slotDone (h : CoreBecomes c y s t) (ht : y.dbg.trace = none) (l : SSlot) :
    CoreBecomes c (Says.slotted l y) s (slotDone c l t) := by
  unfold Machine.slotDone Says.slotted
  split
  · exact h.nextWord ht
  · exact h

theorem same_of_cores (h : t = { s with cores := t.cores }) : ∀ p, p ∉ [Piece.cores] → Same s t p := by
  rw [h]
  intro p hp
  cases p
  case cores => exact absurd (List.mem_singleton_self _) hp
  case gens => exact ⟨rfl, rfl⟩
  all_goals rfl

/-- A command whose effect changes one core alone changes that core alone. -/
theorem CoreBecomes.coreTo {i : Instr} {c : BitVec 7} (h : CoreBecomes c.toNat y s t) (he : exec i s = done s t) :
    Says.coreTo i c s y :=
  runs_done he ⟨touches_after (same_of_cores h.rest), by rw [after_core, h.at_core], fun k hk => by rw [after_core, h.others k hk]⟩

/-- A word in good form that is issued has its effect. -/
theorem issue_on {c : BitVec 7} {slot : Nat} {ok : Bool} {f : Core → State → State} (hi : Says.issues c s) (hok : ok = true) :
    issue c.toNat slot ok f s = f (core s c.toNat) s := by
  obtain ⟨hrun, hpc, -⟩ := hi
  simp [issue, hrun, Nat.not_le.2 hpc, hok]

/-- A control word whose predicate is off retires. -/
theorem controlOp_off {c : BitVec 7} {w : CWord} {ok : Bool} {f : Core → State → State} (hi : Says.issues c s)
    (ho : ¬ Says.on (core s c.toNat) w.pred w.pbit w.pneg) (hok : ok = true) :
    controlOp c.toNat w ok f s = nextWord c.toNat s := by
  rw [controlOp, issue_on hi hok]
  exact if_neg fun h => ho (bne_iff_ne.1 h)

end Sys2Proof.Machine
end

section
/-! SUPPORT. Branches, calls and returns (R260). -/

namespace Sys2Proof.Machine

set_option Elab.async false

/-- The branch is taken on the conditions of Table 11-9; the eighth is no condition. -/
theorem condHolds_iff {cond : BitVec 3} (h : cond ≠ 7) (a b : BitVec 64) : condHolds cond a b = true ↔
    (cond = 0 ∨ (cond = 1 ∧ a = b) ∨ (cond = 2 ∧ a ≠ b) ∨ (cond = 3 ∧ a.toInt < b.toInt) ∨ (cond = 4 ∧ b.toInt ≤ a.toInt) ∨
      (cond = 5 ∧ a.toNat < b.toNat) ∨ (cond = 6 ∧ b.toNat ≤ a.toNat)) := by
  have hc : cond = 0 ∨ cond = 1 ∨ cond = 2 ∨ cond = 3 ∨ cond = 4 ∨ cond = 5 ∨ cond = 6 := by
    revert h
    revert cond
    decide
  rcases hc with rfl | rfl | rfl | rfl | rfl | rfl | rfl <;> simp [condHolds]

theorem CoreBecomes.predicted {c : Nat} {y : Core} {s t : State} (h : CoreBecomes c y s t) :
    CoreBecomes c { y with warm := true } s (predicted c t) :=
  h.mod fun x => { x with warm := true }

theorem targetPc_of_eq {pc n : Nat} {d : BitVec 24} (h : (n : Int) = pc + d.toInt) : targetPc pc d = n := by
  simp only [targetPc]
  rw [← h, if_neg (by omega), Int.toNat_natCast]

section
variable {c : BitVec 7} {w : CWord} {s : State} (hi : Says.issues c s)
include hi

theorem cnop_coreTo (hw : cUnused {} w = true) :
    Says.coreTo (.cnop c w) c s (Says.retired ((core s c.toNat).pc + 1) (core s c.toNat)) := by
  have he : exec (.cnop c w) s = done s (nextWord c.toNat s) := by
    show done s (controlOp c.toNat w _ _ s) = _
    rw [controlOp, issue_on hi hw]
    exact congrArg _ (ite_self _)
  exact ((CoreBecomes.refl _ s).nextWord hi.2.2).coreTo he

/-- A predicate that is off retires the word of a branch. -/
theorem br_off (hw : cUnused { ra := true, rb := true, cond := true, target := true } w = true)
    (ho : ¬ Says.on (core s c.toNat) w.pred w.pbit w.pneg) :
    Says.coreTo (.br c w) c s (Says.retired ((core s c.toNat).pc + 1) (core s c.toNat)) :=
  ((CoreBecomes.refl _ s).nextWord hi.2.2).coreTo (congrArg (done s) (controlOp_off hi ho hw))

theorem br_taken {n : Nat} (hw : cUnused { ra := true, rb := true, cond := true, target := true } w = true)
    (ho : Says.on (core s c.toNat) w.pred w.pbit w.pneg)
    (ht : condHolds w.cond (getX (core s c.toNat) w.ra.toNat) (getX (core s c.toNat) w.rb.toNat) = true)
    (hn : (n : Int) = (core s c.toNat).pc + w.target.toInt) :
    Says.coreTo (.br c w) c s (Says.retired n { core s c.toNat with warm := true }) := by
  have he : exec (.br c w) s = done s (goTo c.toNat n (predicted c.toNat s)) := by
    show done s (branch c.toNat w s) = _
    rw [branch, controlOp_on hi ho hw, if_pos ht, targetPc_of_eq hn]
  exact ((CoreBecomes.refl _ s).predicted.goTo hi.2.2 n).coreTo he

theorem br_not_taken (hw : cUnused { ra := true, rb := true, cond := true, target := true } w = true)
    (ho : Says.on (core s c.toNat) w.pred w.pbit w.pneg)
    (ht : ¬ condHolds w.cond (getX (core s c.toNat) w.ra.toNat) (getX (core s c.toNat) w.rb.toNat) = true) :
    Says.coreTo (.br c w) c s (Says.retired ((core s c.toNat).pc + 1) { core s c.toNat with warm := true }) := by
  have he : exec (.br c w) s = done s (nextWord c.toNat (predicted c.toNat s)) := by
    show done s (branch c.toNat w s) = _
    rw [branch, controlOp_on hi ho hw, if_neg ht]
  exact ((CoreBecomes.refl _ s).predicted.nextWord hi.2.2).coreTo he

theorem call_coreTo {n : Nat} (hw : cUnused { target := true } w = true) (ho : Says.on (core s c.toNat) w.pred w.pbit w.pneg)
    (hr : (core s c.toNat).rstack.length < 64) (hn : (n : Int) = (core s c.toNat).pc + w.target.toInt) :
    Says.coreTo (.call c w) c s (Says.retired n
      { core s c.toNat with warm := true, rstack := ((core s c.toNat).pc + 1) :: (core s c.toNat).rstack }) := by
  have he : exec (.call c w) s = done s (goTo c.toNat n (predicted c.toNat
      (modCore c.toNat (fun k => { k with rstack := (k.pc + 1) :: k.rstack }) s))) := by
    show done s (callOp c.toNat w s) = _
    rw [callOp, controlOp_on hi ho hw, if_neg (Nat.not_le.2 hr), targetPc_of_eq hn]
  exact (((CoreBecomes.refl _ s).mod _).predicted.goTo hi.2.2 n).coreTo he

theorem call_full (hw : cUnused { target := true } w = true) (ho : Says.on (core s c.toNat) w.pred w.pbit w.pneg)
    (hr : 64 ≤ (core s c.toNat).rstack.length) :
    exec (.call c w) s = .next (after s (coreFault c.toNat 4 0 0 s)) := by
  show done s (callOp c.toNat w s) = _
  rw [callOp, controlOp_on hi ho hw, if_pos hr, done_eq]

theorem ret_coreTo {n : Nat} {as : List Nat} (hw : cUnused {} w = true) (ho : Says.on (core s c.toNat) w.pred w.pbit w.pneg)
    (hr : (core s c.toNat).rstack = n :: as) :
    Says.coreTo (.ret c w) c s (Says.retired n { core s c.toNat with warm := true, rstack := as }) := by
  have he : exec (.ret c w) s = done s (goTo c.toNat n (predicted c.toNat
      (modCore c.toNat (fun k => { k with rstack := as }) s))) := by
    show done s (retOp c.toNat w s) = _
    rw [retOp, controlOp_on hi ho hw, hr]
  exact (((CoreBecomes.refl _ s).mod _).predicted.goTo hi.2.2 n).coreTo he

theorem ret_empty (hw : cUnused {} w = true) (ho : Says.on (core s c.toNat) w.pred w.pbit w.pneg)
    (hr : (core s c.toNat).rstack = []) : exec (.ret c w) s = .next (after s (coreFault c.toNat 4 0 0 s)) := by
  show done s (retOp c.toNat w s) = _
  rw [retOp, controlOp_on hi ho hw, hr, done_eq]

theorem jr_coreTo (hw : cUnused { ra := true } w = true) (ho : Says.on (core s c.toNat) w.pred w.pbit w.pneg) :
    Says.coreTo (.jr c w) c s
      (Says.retired (getX (core s c.toNat) w.ra.toNat).toNat { core s c.toNat with warm := true }) := by
  have he : exec (.jr c w) s = done s (goTo c.toNat (getX (core s c.toNat) w.ra.toNat).toNat (predicted c.toNat s)) := by
    show done s (jrOp c.toNat w s) = _
    rw [jrOp, controlOp_on hi ho hw]
  exact ((CoreBecomes.refl _ s).predicted.goTo hi.2.2 _).coreTo he

end

/-- A branch's condition field is one of Table 11-9's. -/
theorem cond_ne_of_cUnused {w : CWord} (h : cUnused { ra := true, rb := true, cond := true, target := true } w = true) :
    w.cond ≠ 7 := by
  intro hc
  simp [cUnused, hc] at h

/-- Settles O25. -/
theorem controlFlow : Obligations.ControlFlow := by
  unfold Obligations.ControlFlow
  intro c w s hi
  refine ⟨cnop_coreTo hi, fun hw => ⟨fun ho ht n hn => ?_, fun ho ht => ?_, br_off hi hw⟩, fun hw ho => ?_, fun hw ho => ?_, jr_coreTo hi⟩
  · exact br_taken hi hw ho ((condHolds_iff (cond_ne_of_cUnused hw) _ _).2 ht) hn
  · exact br_not_taken hi hw ho fun h => ht ((condHolds_iff (cond_ne_of_cUnused hw) _ _).1 h)
  · exact ⟨fun hr n => call_coreTo hi hw ho hr, call_full hi hw ho⟩
  · exact ⟨fun n as => ret_coreTo hi hw ho, ret_empty hi hw ho⟩

end Sys2Proof.Machine
end

section
/-! SUPPORT. The scalar slots of a broad word (R256, R258): what a slot in good form leaves, and its results. -/

namespace Sys2Proof.Machine

set_option Elab.async false

@[simp] theorem setX_dbg (r : Nat) (v : BitVec 64) (x : Core) : (setX r v x).dbg = x.dbg := by
  unfold setX
  split <;> rfl

theorem setX_zero (v : BitVec 64) (x : Core) : setX 0 v x = x := rfl

section
variable {c : BitVec 7} {l : SSlot} {ok : Bool} {f : Core → Except (Nat × Nat) Core} {s : State} {i : Instr}
  (hi : Says.issues c s) (he : exec i s = done s (slotOp c.toNat l ok f s)) (hok : ok = true)
include hi he hok

/-- A slot whose predicate holds leaves its operation's core. -/
theorem slotOp_ok {y : Core} (ho : Says.on (core s c.toNat) l.pred l.pbit l.pneg) (hf : f (core s c.toNat) = .ok y)
    (ht : y.dbg.trace = none) : Says.coreTo i c s (Says.slotted l y) := by
  have hp : predOn (core s c.toNat) l.pred l.pbit l.pneg = true := bne_iff_ne.2 ho
  have hs : slotOp c.toNat l ok f s = slotDone c.toNat l (setCore c.toNat y s) := by
    rw [slotOp, issue_on hi hok, if_pos hp, hf]
  exact (((CoreBecomes.refl _ s).set y).slotDone ht l).coreTo (by rw [he, hs])

/-- A slot whose predicate is off leaves the core. -/
theorem slotOp_off (ho : ¬ Says.on (core s c.toNat) l.pred l.pbit l.pneg) :
    Says.coreTo i c s (Says.slotted l (core s c.toNat)) := by
  have hs : slotOp c.toNat l ok f s = slotDone c.toNat l s := by
    rw [slotOp, issue_on hi hok]
    exact if_neg fun h => ho (bne_iff_ne.1 h)
  exact ((CoreBecomes.refl _ s).slotDone hi.2.2 l).coreTo (by rw [he, hs])

/-- A slot whose operation faults raises that fault. -/
theorem slotOp_error {e : Nat × Nat} (ho : Says.on (core s c.toNat) l.pred l.pbit l.pneg)
    (hf : f (core s c.toNat) = .error e) :
    exec i s = .next (after s (coreFault c.toNat e.1 l.slot.toNat (BitVec.ofNat 64 e.2) s)) := by
  have hp : predOn (core s c.toNat) l.pred l.pbit l.pneg = true := bne_iff_ne.2 ho
  rw [he, slotOp, issue_on hi hok, if_pos hp, hf, done_eq]

end

theorem mul_eq_ofInt (a b : BitVec 64) : a * b = BitVec.ofInt 64 (a.toInt * b.toInt) := by
  rw [BitVec.ofInt_mul, BitVec.ofInt_toInt, BitVec.ofInt_toInt]

theorem low6_toNat (b : BitVec 64) : b.toNat % 64 = (b.extractLsb' 0 6).toNat := by simp [BitVec.extractLsb'_toNat]

theorem min_eq (a b : BitVec 64) : (if b.slt a then b else a) = if a.toInt < b.toInt then a else b := by
  simp only [BitVec.slt_eq_decide, decide_eq_true_eq]
  rcases lt_trichotomy a.toInt b.toInt with h | h | h
  · rw [if_neg h.not_gt, if_pos h]
  · rw [BitVec.eq_of_toInt_eq h, ite_self]
  · rw [if_pos h, if_neg h.not_gt]

theorem flag_decide (P : Prop) [Decidable P] : flag (decide P) = if P then 1 else 0 := by simp [flag]

/-- The operations of Table 11-8 are the model's. -/
theorem exec_alu {p : (BitVec 7 → SSlot → Instr) × (BitVec 64 → BitVec 64 → BitVec 64)} (hp : p ∈ Says.alu) (c : BitVec 7)
    (l : SSlot) (s : State) : exec (p.1 c l) s = done s (aluOp c.toNat l p.2 s) := by
  have op {f g : BitVec 64 → BitVec 64 → BitVec 64} (h : ∀ a b, f a b = g a b) :
      done s (aluOp c.toNat l f s) = done s (aluOp c.toNat l g s) := by rw [funext fun a => funext (h a)]
  simp only [Says.alu, List.mem_cons, List.not_mem_nil, or_false] at hp
  rcases hp with rfl | rfl | rfl | rfl | rfl | rfl | rfl | rfl | rfl | rfl | rfl | rfl | rfl | rfl | rfl
  · exact op fun _ _ => rfl
  · exact op fun _ _ => rfl
  · exact op mul_eq_ofInt
  · exact op fun _ _ => rfl
  · exact op fun _ _ => rfl
  · exact op fun _ _ => rfl
  · exact op fun _ _ => rfl
  · exact op fun a b => congrArg (a <<< ·) (low6_toNat b)
  · exact op fun a b => congrArg (a >>> ·) (low6_toNat b)
  · exact op fun a b => congrArg a.sshiftRight (low6_toNat b)
  · exact op min_eq
  · exact op fun a b => by simp only [BitVec.slt_eq_decide, decide_eq_true_eq]
  · exact op fun a b => by rw [BitVec.slt_eq_decide, flag_decide]
  · exact op fun a b => by rw [BitVec.ult_eq_decide, flag_decide]
  · exact op fun a b => by rw [beq_eq_decide, flag_decide]

theorem ldhi_value (i : BitVec 30) (a : BitVec 64) :
    (a &&& 0x3FFFFFFFF#64) ||| (i.zeroExtend 64 <<< 34) = i ++ a.extractLsb' 0 34 := by
  apply BitVec.eq_of_getLsbD_eq
  intro n hn
  have hm : (0x3FFFFFFFF#64).getLsbD n = decide (n < 34) := by
    have : 0x3FFFFFFFF#64 = (BitVec.allOnes 34).zeroExtend 64 := by decide
    rw [this, BitVec.zeroExtend, BitVec.getLsbD_setWidth, BitVec.getLsbD_allOnes, decide_eq_true hn, Bool.true_and]
  simp only [BitVec.getLsbD_or, BitVec.getLsbD_and, hm, BitVec.getLsbD_shiftLeft, BitVec.getLsbD_append, BitVec.getLsbD_setWidth,
    BitVec.getLsbD_extractLsb']
  by_cases h : n < 34
  · simp [h]
  · have : n - 34 < 64 := by omega
    simp [h, hn, this]

section
variable {c : BitVec 7} {l : SSlot} {s : State} (hi : Says.issues c s)
include hi

theorem alu_coreTo (hw : sUnused { rd := true, ra := true, b := true } l = true)
    {p : (BitVec 7 → SSlot → Instr) × (BitVec 64 → BitVec 64 → BitVec 64)} (hp : p ∈ Says.alu) :
    let x := core s c.toNat
    (Says.on x l.pred l.pbit l.pneg → l.rd ≠ 0 → Says.coreTo (p.1 c l) c s
      (Says.slotted l { x with x := mset x.x l.rd.toNat (p.2 (getX x l.ra.toNat) (bVal x l)) 0 })) ∧
    (¬ Says.on x l.pred l.pbit l.pneg ∨ l.rd = 0 → Says.coreTo (p.1 c l) c s (Says.slotted l x)) := by
  intro x
  have ok (ho : Says.on x l.pred l.pbit l.pneg) := slotOp_ok hi (exec_alu hp c l s) hw ho rfl (by rw [setX_dbg, hi.2.2])
  refine ⟨fun ho hr => ?_, fun h => ?_⟩
  · have hr : l.rd.toNat ≠ 0 := fun h => hr (BitVec.eq_of_toNat_eq h)
    have := ok ho
    rwa [setX, if_neg hr] at this
  · by_cases ho : Says.on x l.pred l.pbit l.pneg
    · have hr : l.rd = 0 := h.resolve_left (not_not_intro ho)
      have := ok ho
      rwa [hr] at this
    · exact slotOp_off hi (exec_alu hp c l s) hw ho

end

theorem and_lt_eight {n : Nat} {b : Bool} (hb : b = true) (h : n < 8) : (b && decide (n < 8)) = true := by simp [hb, h]

/-- Settles O21. -/
theorem scalarResults : Obligations.ScalarResults := by
  unfold Obligations.ScalarResults
  intro c i s hi x b on
  refine ⟨fun hw p hp => alu_coreTo hi hw hp, fun hw => ?_, fun hw ho => ?_, fun hw ho => ?_, fun hw ho hr h0 => ?_,
    fun hw ho hr => ?_, rfl, rfl, rfl⟩
  · by_cases ho : on
    · exact slotOp_ok (f := fun x => .ok x) hi rfl hw ho rfl hi.2.2
    · exact slotOp_off (f := fun x => .ok x) hi rfl hw ho
  · exact slotOp_ok (f := fun x => .ok (setX i.rd.toNat (i.imm.signExtend 64) x)) hi rfl hw ho rfl (by rw [setX_dbg, hi.2.2])
  · rw [← ldhi_value]
    exact slotOp_ok (f := fun x => .ok (setX i.rd.toNat ((getX x i.ra.toNat &&& 0x3FFFFFFFF#64) ||| (i.imm.zeroExtend 64 <<< 34)) x))
      hi rfl hw ho rfl (by rw [setX_dbg, hi.2.2])
  · have hr0 : i.rd.toNat ≠ 0 := fun h => h0 (BitVec.eq_of_toNat_eq h)
    exact slotOp_ok (f := fun x => .ok (setM i.rd.toNat (getX x i.ra.toNat) x)) hi rfl (and_lt_eight hw hr) ho
      (by rw [setM, if_neg hr0]) hi.2.2
  · have hm : getM x i.ra.toNat = if i.ra = 0 then BitVec.allOnes 64 else mgetD x.m i.ra.toNat 0 :=
      if_congr ⟨fun h => BitVec.eq_of_toNat_eq h, fun h => h ▸ rfl⟩ rfl rfl
    rw [← hm]
    exact slotOp_ok (f := fun x => .ok (setX i.rd.toNat (getM x i.ra.toNat) x)) hi rfl (and_lt_eight hw hr) ho rfl
      (by rw [setX_dbg, hi.2.2])

end Sys2Proof.Machine
end

section
/-! SUPPORT. Scalar loads, stores and CSRs (R256, Tables 11-2 and 11-8), and what a faulting word leaves (R273, R450). -/

namespace Sys2Proof.Machine

set_option Elab.async false

/-! ### The extents a scalar load or store names -/

theorem lsPoison_word (x : Core) {a : Nat} (h : a % 8 = 0) :
    lsPoison x [(a, 8)] = (mget x.lsMark (a / 64)).map fun k => (k.toNat, 64 * (a / 64)) := by
  have h1 : (a + 8 + 63) / 64 - a / 64 = 1 := by omega
  simp only [lsPoison, h1, List.range_one, List.map_cons, List.map_nil, List.findSome?_cons, List.findSome?_nil, Nat.zero_add]
  cases mget x.lsMark (a / 64) <;> rfl

theorem lsCheck_long (x : Core) {a : Nat} {rs ws : List Extent} (hm : rs ++ ws = [(a, 8)]) (h : 8388608 < a + 8) :
    lsCheck x rs ws = some (2, a) := by
  have hd : decide (lsSize < a + 8) = true := decide_eq_true h
  simp only [lsCheck, hm, List.find?_cons, hd]

theorem lsCheck_fits (x : Core) {a : Nat} {rs ws : List Extent} (hm : rs ++ ws = [(a, 8)]) (h : a + 8 ≤ 8388608) :
    lsCheck x rs ws = lsPoison x rs := by
  have hd : decide (lsSize < a + 8) = false := decide_eq_false (Nat.not_lt.2 h)
  simp only [lsCheck, hm, List.find?_cons, hd, List.find?_nil]

/-- A scalar store covers no whole line, so it clears no mark. -/
theorem lsWrite_word (x : Core) (a : Nat) (v : Nat) : lsWrite a (leBytes 8 v) x = { x with ls := mwrite x.ls a (leBytes 8 v) } := by
  have hl : (leBytes 8 v).length = 8 := by simp [leBytes]
  have hk : x.lsMark.filter (fun e => !(decide (a ≤ 64 * e.1) && decide (64 * e.1 + 64 ≤ a + (leBytes 8 v).length))) = x.lsMark := by
    refine List.filter_eq_self.2 fun e _ => ?_
    rw [hl, Bool.not_eq_true', Bool.and_eq_false_iff, decide_eq_false_iff_not, decide_eq_false_iff_not]
    omega
  rw [lsWrite, hk]

section
variable {c : BitVec 7} {l : SSlot} {s : State} (hi : Says.issues c s)
  (ho : Says.on (core s c.toNat) l.pred l.pbit l.pneg)
include hi ho

theorem lds_cases (hw : sUnused { rd := true, ra := true, imm := true } l = true) : let x := core s c.toNat
    let a := scalarAddr x l
    (a % 8 = 0 → a + 8 ≤ 8388608 → mget x.lsMark (a / 64) = none → Says.coreTo (.lds c l) c s
      (Says.slotted l (setX l.rd.toNat (BitVec.ofNat 64 (leNat (mread x.ls a 8))) x))) ∧
    (∀ k, a % 8 = 0 → a + 8 ≤ 8388608 → mget x.lsMark (a / 64) = some k →
      exec (.lds c l) s = .next (after s (coreFault c.toNat k.toNat l.slot.toNat (BitVec.ofNat 64 (64 * (a / 64))) s))) ∧
    (a % 8 ≠ 0 ∨ 8388608 < a + 8 →
      exec (.lds c l) s = .next (after s (coreFault c.toNat 2 l.slot.toNat (BitVec.ofNat 64 a) s))) := by
  intro x a
  refine ⟨fun hal hfit hm => ?_, fun k hal hfit hm => ?_, fun h => ?_⟩
  · refine slotOp_ok hi rfl hw ho ?_ (by rw [setX_dbg, hi.2.2])
    rw [if_neg (not_not_intro hal), lsCheck_fits _ rfl hfit, lsPoison_word _ hal, hm]
    rfl
  · refine slotOp_error (e := (k.toNat, 64 * (a / 64))) hi rfl hw ho ?_
    rw [if_neg (not_not_intro hal), lsCheck_fits _ rfl hfit, lsPoison_word _ hal, hm]
    rfl
  · refine slotOp_error (e := (2, a)) hi rfl hw ho ?_
    by_cases hal : a % 8 = 0
    · rw [if_neg (not_not_intro hal), lsCheck_long _ rfl (h.resolve_left (not_not_intro hal))]
    · exact if_pos hal

theorem sts_cases (hw : sUnused { ra := true, rb := true, imm := true } l = true) : let x := core s c.toNat
    let a := scalarAddr x l
    (a % 8 = 0 → a + 8 ≤ 8388608 → Says.coreTo (.sts c l) c s
      (Says.slotted l { x with ls := mwrite x.ls a (leBytes 8 (getX x l.rb.toNat).toNat) })) ∧
    (a % 8 ≠ 0 ∨ 8388608 < a + 8 →
      exec (.sts c l) s = .next (after s (coreFault c.toNat 2 l.slot.toNat (BitVec.ofNat 64 a) s))) := by
  intro x a
  refine ⟨fun hal hfit => ?_, fun h => ?_⟩
  · refine slotOp_ok hi rfl hw ho ?_ hi.2.2
    rw [if_neg (not_not_intro hal), lsCheck_fits _ rfl hfit]
    exact congrArg _ (lsWrite_word ..)
  · refine slotOp_error (e := (2, a)) hi rfl hw ho ?_
    by_cases hal : a % 8 = 0
    · rw [if_neg (not_not_intro hal), lsCheck_long _ rfl (h.resolve_left (not_not_intro hal))]
    · exact if_pos hal

end

/-! ### CSRR -/

/-- A CSR that the read leaves alone ends in its register. -/
theorem csrr_coreTo {c : BitVec 7} {l : SSlot} {s : State} {v : BitVec 64} (hi : Says.issues c s)
    (ho : Says.on (core s c.toNat) l.pred l.pbit l.pneg)
    (hw : (sUnused { rd := true, imm := true } l && decide (l.imm.toNat ≤ 0xFFF)) = true)
    (hr : readCsr s c.toNat l.imm.toNat = (v, s)) :
    Says.coreTo (.csrr c l) c s (Says.slotted l (setX l.rd.toNat v (core s c.toNat))) := by
  have hp : predOn (core s c.toNat) l.pred l.pbit l.pneg = true := bne_iff_ne.2 ho
  have he : exec (.csrr c l) s = done s (slotDone c.toNat l (modCore c.toNat (setX l.rd.toNat v) s)) := by
    show done s (issue c.toNat _ _ _ s) = _
    rw [issue_on hi hw, if_pos hp, hr]
  exact (((CoreBecomes.refl _ s).mod _).slotDone (by rw [setX_dbg, hi.2.2]) l).coreTo he

theorem slotted_field {α : Type} (g : Core → α) (h : ∀ pc x, g (Says.retired pc x) = g x) (l : SSlot) (x : Core) :
    g (Says.slotted l x) = g x := by
  unfold Says.slotted
  split
  · exact h _ _
  · rfl

/-- The cycle count that CSR 4 reads: the core's, and at least one more. -/
def newCycles (s : State) (c : Nat) : BitVec 64 :=
  (core s c).cycles + 1 + BitVec.ofNat 64 ((Config.open64 s.free).toNat % 2 ^ 31)

theorem newCycles_later (s : State) (c : Nat) : ∃ d : BitVec 64, 1 ≤ d.toNat ∧ newCycles s c = (core s c).cycles + d := by
  refine ⟨1 + BitVec.ofNat 64 ((Config.open64 s.free).toNat % 2 ^ 31), ?_, BitVec.add_assoc _ _ _⟩
  have hlt : (Config.open64 s.free).toNat % 2 ^ 31 < 2 ^ 31 := Nat.mod_lt _ (by decide)
  rw [BitVec.toNat_add, BitVec.toNat_ofNat, Nat.mod_eq_of_lt (hlt.trans (by decide)), Nat.mod_eq_of_lt]
  · exact Nat.le_add_right 1 _
  · exact lt_of_lt_of_le (Nat.add_lt_add_left hlt _) (by decide)

theorem csrr_cycles {c : BitVec 7} {l : SSlot} {s : State} (hi : Says.issues c s)
    (ho : Says.on (core s c.toNat) l.pred l.pbit l.pneg)
    (hw : (sUnused { rd := true, imm := true } l && decide (l.imm.toNat ≤ 0xFFF)) = true) (h4 : l.imm = 4) :
    Runs (.csrr c l) s fun t => Touches [.cores, .free] s t ∧ (∀ k, k ≠ c.toNat → core t k = core s k) ∧
      (core t c.toNat).cycles = newCycles s c.toNat ∧
      (l.rd ≠ 0 → ∀ q, (coreHolder s c.toNat).bind (part? s) = some q →
        mgetD (core t c.toNat).x l.rd.toNat 0 =
          if q.mode = .confidential then newCycles s c.toNat &&& ~~~0x3FF#64 else newCycles s c.toNat) := by
  have hp : predOn (core s c.toNat) l.pred l.pbit l.pneg = true := bne_iff_ne.2 ho
  let s1 : State := { s with free := s.free + 1 }
  obtain ⟨v, hv, hq⟩ : ∃ v, readCsr s c.toNat l.imm.toNat = (v, modCore c.toNat (fun k => { k with cycles := newCycles s c.toNat }) s1) ∧
      ∀ q, (coreHolder s c.toNat).bind (part? s) = some q →
        v = if q.mode = .confidential then newCycles s c.toNat &&& ~~~0x3FF#64 else newCycles s c.toNat := by
    refine ⟨_, by rw [h4]; rfl, fun q hq => ?_⟩
    simp only [hq, beq_iff_eq]
    rfl
  have he : exec (.csrr c l) s = done s (slotDone c.toNat l (modCore c.toNat (setX l.rd.toNat v)
      (modCore c.toNat (fun k => { k with cycles := newCycles s c.toNat }) s1))) := by
    show done s (issue c.toNat _ _ _ s) = _
    rw [issue_on hi hw, if_pos hp, hv]
  obtain ⟨hrest, hcore, hother⟩ := (((CoreBecomes.refl c.toNat s1).mod fun k => { k with cycles := newCycles s c.toNat }).mod
    (setX l.rd.toNat v)).slotDone (by rw [setX_dbg]; exact hi.2.2) l
  refine runs_done he ⟨touches_after fun p hp => ?_, fun k hk => by rw [after_core, hother k hk]; rfl, ?_, fun hrd q hq' => ?_⟩
  · rw [hrest]
    cases p
    case cores => exact absurd (by simp) hp
    case free => exact absurd (by simp) hp
    case gens => exact ⟨rfl, rfl⟩
    all_goals rfl
  · rw [after_core, hcore, slotted_field (·.cycles) (fun _ _ => rfl)]
    unfold setX
    split <;> rfl
  · have hrd : l.rd.toNat ≠ 0 := fun h => hrd (BitVec.eq_of_toNat_eq h)
    rw [after_core, hcore, slotted_field (·.x) (fun _ _ => rfl), setX, if_neg hrd, ← hq q hq']
    exact mgetD_mset_same ..

/-- Each CSR but the cycle count reads as Table 11-2 says. -/
theorem readCsr_value {s : State} {c n : Nat} {v : BitVec 64} (h0 : n = 0 → v = BitVec.ofNat 64 c)
    (h1 : n = 1 → v = BitVec.ofNat 64 ((coreHolder s c).getD 0))
    (h2 : ∀ q, n = 2 → (coreHolder s c).bind (part? s) = some q → v = BitVec.ofNat 64 q.running)
    (h3 : ∀ q, n = 3 → (coreHolder s c).bind (part? s) = some q → v = q.periodSeq)
    (h5 : ∀ q, n = 5 → (coreHolder s c).bind (part? s) = some q →
      v = BitVec.ofNat 64 (if q.mode = .confidential then q.level else (core s c).step))
    (h6 : n = 6 → v = (core s c).lastDefer) (hz : 6 < n → v = 0) (h4 : n ≠ 4)
    (hq : n ≤ 1 ∨ 6 ≤ n ∨ ((coreHolder s c).bind (part? s)).isSome = true) : readCsr s c n = (v, s) := by
  have held (h : 1 < n) (h' : n < 6) : ∃ q, (coreHolder s c).bind (part? s) = some q :=
    Option.isSome_iff_exists.1 ((hq.resolve_left (by omega)).resolve_left (by omega))
  rcases Nat.lt_or_ge 6 n with h | h
  · simp only [readCsr, hz h]
    rw [if_neg (by omega), if_neg (by omega), if_neg (by omega), if_neg (by omega), if_neg (by omega), if_neg (by omega),
      if_neg (by omega)]
  · interval_cases n
    · exact congrArg (·, s) (h0 rfl).symm
    · exact congrArg (·, s) (h1 rfl).symm
    · obtain ⟨q, hq⟩ := held (by decide) (by decide)
      simp [readCsr, hq, h2 q rfl hq]
    · obtain ⟨q, hq⟩ := held (by decide) (by decide)
      simp [readCsr, hq, h3 q rfl hq]
    · exact absurd rfl h4
    · obtain ⟨q, hq⟩ := held (by decide) (by decide)
      simp [readCsr, hq, h5 q rfl hq]
    · exact congrArg (·, s) (h6 rfl).symm

/-! ### Where a word faults -/

/-- A word beyond the program is ISTORE_RANGE. -/
theorem issue_beyond {c slot : Nat} {ok : Bool} {f : Core → State → State} {s : State} (hr : (core s c).st = .run)
    (h : (core s c).progLen / 32 ≤ (core s c).pc) : issue c slot ok f s = coreFault c 3 slot 0 s := by
  simp [issue, hr, h]

/-- A word with a field it must leave zero is ILLEGAL. -/
theorem issue_illegal {c slot : Nat} {ok : Bool} {f : Core → State → State} {s : State} (hr : (core s c).st = .run)
    (h : (core s c).pc < (core s c).progLen / 32) (hok : ok = false) : issue c slot ok f s = coreFault c 1 slot 0 s := by
  simp [issue, hr, Nat.not_le.2 h, hok]

/-! ### What a fault leaves -/

/-- The record of a fault (R273). -/
def faultRec (c p code slot : Nat) (addr : BitVec 64) (s : State) : CompRec :=
  { recordOf (logicalOf s c) ((core s c).entry.getD
      { part := p, ring := 0, tag := 0, period := match part? s p with | some q => q.periodSeq | none => 0, x := [], outAddr := 0,
        outWin := 0, outOff := 0, outLen := 0, irq := true }) 0x10 1 with
    fcode := BitVec.ofNat 8 code, fslot := BitVec.ofNat 8 slot, fpc := BitVec.ofNat 32 (core s c).pc, faddr := addr }

theorem faultRec_tag (c p code slot : Nat) (addr : BitVec 64) (s : State) :
    (faultRec c p code slot addr s).tag = ((core s c).entry.map fun e => e.tag).getD 0 := by
  unfold faultRec
  cases (core s c).entry <;> rfl

/-- A record is held where the completion ring is off. -/
theorem writeRecord_held {f : Fn} {r : CompRec} {s : State} (hp : s.power.pcie = true) (he : (fnRegs s f).comp.enable = false) :
    writeRecord f r s = modRegs f (fun x => { x with comp := { x.comp with held := x.comp.held ++ [r] } }) s := by
  simp [writeRecord, hp, he]

/-- Counting a fault of a core changes its count and its partition's. -/
theorem countRecord_fault {p c : Nat} {s : State} (h : (core s c).st = .run) : countRecord p c 0x10 s =
    modCore c (fun x => { x with counts := { x.counts with faulted := satInc x.counts.faulted } })
      (modPart p (fun x => { x with counts := { x.counts with faulted := satInc x.counts.faulted } }) s) := by
  have hc : core (modPart p (fun x => { x with counts := { x.counts with faulted := satInc x.counts.faulted } }) s) c = core s c := rfl
  have hn : (core s c).st ≠ .unassigned := by rw [h]; decide
  simp only [countRecord]
  exact if_neg hn

section
variable {c p : Nat} {s : State} (hr : (core s c).st = .run) (hp : coreHolder s c = some p) (hl : s.power.pcie = true)
  (he : (fnRegs s (fnOf p)).comp.enable = false) (code slot : Nat) (addr : BitVec 64)
include hr hp hl he

/-- The record of a fault: it is held with the function's, and it is counted. -/
theorem faultRecord_held : ∃ u : State, (u.cores = s.cores ∧ u.mem = s.mem ∧ u.vault = s.vault ∧
      (fnRegs u (fnOf p)).comp.held = (fnRegs s (fnOf p)).comp.held ++ [faultRec c p code slot addr s]) ∧
    faultRecord c code slot addr s =
      modCore c (fun x => { x with counts := { x.counts with faulted := satInc x.counts.faulted } }) u := by
  obtain ⟨v, ⟨hcores, hmem, hvault, hpower, henable, hheld⟩, hv⟩ : ∃ v : State, (v.cores = s.cores ∧ v.mem = s.mem ∧
      v.vault = s.vault ∧ v.power = s.power ∧ (fnRegs v (fnOf p)).comp.enable = (fnRegs s (fnOf p)).comp.enable ∧
      (fnRegs v (fnOf p)).comp.held = (fnRegs s (fnOf p)).comp.held) ∧
      faultRecord c code slot addr s = countRecord p c 0x10 (writeRecord (fnOf p) (faultRec c p code slot addr s) v) := by
    refine ⟨if (core s c).entry.isSome then s
      else modRegs (fnOf p) (fun g => { g with comp := { g.comp with reserved := g.comp.reserved + 1 } }) s, ?_, ?_⟩
    · split
      · exact ⟨rfl, rfl, rfl, rfl, rfl, rfl⟩
      · exact ⟨rfl, rfl, rfl, rfl, by rw [modRegs_fnRegs], by rw [modRegs_fnRegs]⟩
    · simp only [faultRecord, hp]
      rfl
  obtain ⟨w, hw⟩ : ∃ w, w = writeRecord (fnOf p) (faultRec c p code slot addr s) v := ⟨_, rfl⟩
  have hw' := hw.trans (writeRecord_held (by rw [hpower, hl]) (by rw [henable, he]))
  have hwc : w.cores = s.cores := (congrArg State.cores hw').trans hcores
  have hwh : (fnRegs w (fnOf p)).comp.held = (fnRegs s (fnOf p)).comp.held ++ [faultRec c p code slot addr s] := by
    rw [hw', modRegs_fnRegs, hheld]
  refine ⟨modPart p (fun x => { x with counts := { x.counts with faulted := satInc x.counts.faulted } }) w,
    ⟨hwc, (congrArg State.mem hw').trans hmem, (congrArg State.vault hw').trans hvault, hwh⟩, ?_⟩
  rw [hv, ← hw, countRecord_fault (by rw [core, hwc]; exact hr)]

end

/-- What a fault does to its core once it is recorded (R273, R450). -/
def faultStep (open_ : Bool) (x : Core) : Core :=
  let y : Core := { x with faultRun := x.faultRun + 1, entry := none, deferTag := [], dbg := { x.dbg with stepsLeft := 0 } }
  if x.dbg.haltOnFault ∧ open_ then { y with st := .debugHalt, waiting := .none }
  else if faultLimit ≤ x.faultRun + 1 then { atEntry y with st := .haltedFault }
  else atEntry y

theorem coreFault_eq {c p : Nat} {s : State} {q : Partition} (hp : coreHolder s c = some p) (hq : part? s p = some q)
    (code slot : Nat) (addr : BitVec 64) :
    coreFault c code slot addr s = modCore c (faultStep (q.mode == .open)) (faultRecord c code slot addr s) := by
  have ho : isOpenPart s p = (q.mode == .open) := by simp only [isOpenPart, hq]
  simp only [coreFault, hp, ho]
  rfl

/-- The core after a fault: its fault is counted. -/
def faulted (open_ : Bool) (x : Core) : Core :=
  faultStep open_ { x with counts := { x.counts with faulted := satInc x.counts.faulted } }

theorem coreFault_held {c p : Nat} {s : State} {q : Partition} (hr : (core s c).st = .run) (hp : coreHolder s c = some p)
    (hl : s.power.pcie = true) (he : (fnRegs s (fnOf p)).comp.enable = false) (hq : part? s p = some q) (code slot : Nat)
    (addr : BitVec 64) : let t := coreFault c code slot addr s
    core t c = faulted (q.mode == .open) (core s c) ∧ (∀ k, k ≠ c → core t k = core s k) ∧ t.mem = s.mem ∧ t.vault = s.vault ∧
    (fnRegs t (fnOf p)).comp.held = (fnRegs s (fnOf p)).comp.held ++ [faultRec c p code slot addr s] := by
  intro t
  obtain ⟨u, ⟨hcores, hmem, hvault, hheld⟩, hu⟩ := faultRecord_held hr hp hl he code slot addr
  have hcu (k : Nat) : core u k = core s k := by rw [core, hcores, core]
  have ht : t = _ := coreFault_eq hp hq code slot addr
  rw [hu] at ht
  rw [ht]
  refine ⟨?_, fun k hk => ?_, hmem, hvault, hheld⟩
  · rw [modCore_core, modCore_core, hcu, faulted]
  · rw [modCore_core_other _ _ hk.symm, modCore_core_other _ _ hk.symm, hcu]

theorem faulted_entry (o : Bool) (x : Core) : (faulted o x).entry = none ∧ (faulted o x).faultRun = x.faultRun + 1 ∧
    (faulted o x).counts.faulted = satInc x.counts.faulted := by
  unfold faulted faultStep
  split
  · exact ⟨rfl, rfl, rfl⟩
  · split <;> exact ⟨rfl, rfl, rfl⟩

theorem faulted_halts {o : Bool} {x : Core} (h : x.dbg.haltOnFault = true ∧ o = true) :
    (faulted o x).st = .debugHalt ∧ (faulted o x).pc = x.pc := by
  unfold faulted faultStep
  rw [if_pos h]
  exact ⟨rfl, rfl⟩

theorem faulted_restarts {o : Bool} {x : Core} (hr : x.st = .run) (h : ¬ (x.dbg.haltOnFault = true ∧ o = true)) :
    let y := faulted o x
    y.pc = 0 ∧ y.rstack = [] ∧ y.w = [] ∧ y.acc = [] ∧ y.x = x.x ∧ y.ls = x.ls ∧
      y.st = if 64 ≤ x.faultRun + 1 then .haltedFault else .run := by
  intro y
  have hy : y = faulted o x := rfl
  unfold faulted faultStep at hy
  rw [if_neg h] at hy
  by_cases hf : 64 ≤ x.faultRun + 1
  · rw [if_pos (show faultLimit ≤ _ from hf)] at hy
    rw [hy, if_pos hf]
    exact ⟨rfl, rfl, rfl, rfl, rfl, rfl, rfl⟩
  · rw [if_neg (show ¬ faultLimit ≤ _ from hf)] at hy
    rw [hy, if_neg hf]
    refine ⟨rfl, rfl, rfl, rfl, rfl, rfl, ?_⟩
    simp only [atEntry, hr]

theorem mode_open_iff (m : Mode) : (m == .open) = true ↔ m ≠ .confidential := by cases m <;> decide

theorem scalarMemory : Says.scalarMemory := by
  intro c l s hi x a ho
  refine ⟨lds_cases hi ho, sts_cases hi ho, fun hw => ⟨?_, fun h4 => ?_⟩⟩
  · have of_imm {n : BitVec 30} (h : l.imm.toNat = n.toNat) : l.imm = n := BitVec.eq_of_toNat_eq h
    intro v h0 h1 h2 h3 h5 h6 hz h4 hle hq
    refine csrr_coreTo hi ho (by rw [hw, decide_eq_true hle, Bool.and_self]) (readCsr_value (fun h => h0 (of_imm h)) (fun h => h1 (of_imm h))
      (fun q h => h2 q (of_imm h)) (fun q h => h3 q (of_imm h)) (fun q h => h5 q (of_imm h)) (fun h => h6 (of_imm h)) hz
      (fun h => h4 (of_imm h)) hq)
  · obtain ⟨t, ht, htouch, hother, hcyc, hrd⟩ := csrr_cycles hi ho (by rw [hw, h4]; rfl) h4
    obtain ⟨d, hd, hnew⟩ := newCycles_later s c.toNat
    refine ⟨t, ht, htouch, hother, d, hd, hcyc.trans hnew, fun h q hq => ?_⟩
    rw [hcyc]
    exact hrd h q hq

theorem wordsFault : Says.wordsFault := by
  intro c w l s hr
  refine ⟨fun h => ⟨congrArg (done s) (issue_beyond hr h), congrArg (done s) (issue_beyond hr h)⟩,
    fun h => ⟨fun hw => congrArg (done s) (issue_illegal hr h hw), fun hw => congrArg (done s) (issue_illegal hr h hw)⟩, ?_⟩
  intro code slot addr p q hp hq hl he x t
  obtain ⟨hcore, hother, hmem, hvault, hheld⟩ := coreFault_held hr hp hl he hq code slot addr
  obtain ⟨hentry, hrun, hcount⟩ := faulted_entry (q.mode == .open) x
  have hc : core t c.toNat = faulted (q.mode == .open) x := hcore
  rw [hc]
  refine ⟨hentry, hrun, hcount, fun h => ?_, fun h => ?_, ⟨_, hheld, rfl, rfl, rfl, rfl, rfl, faultRec_tag ..⟩, hmem, hvault, hother⟩
  · exact faulted_halts ⟨h.1, (mode_open_iff _).2 h.2⟩
  · exact faulted_restarts hr fun k => h ⟨k.1, (mode_open_iff _).1 k.2⟩

/-- Settles O22. -/
theorem scalarMemoryAndFaults : Obligations.ScalarMemoryAndFaults := ⟨scalarMemory, wordsFault⟩

end Sys2Proof.Machine
end

section
/-! SUPPORT. Work entries, tokens and fences on a core (R266, R269, R283, R284, R290). -/

namespace Sys2Proof.Machine

set_option Elab.async false

/-! ### A command that changes one core and the queues -/

theorem CoreBecomes.runs_q {c : BitVec 7} {y : Core} {q' : Queues} {s u t : State} {i : Instr} (h : CoreBecomes c.toNat y u t)
    (hu : u = { s with q := q' }) (he : exec i s = done s t) :
    Runs i s fun t => Touches [.cores, .q] s t ∧ core t c.toNat = y ∧ (∀ k, k ≠ c.toNat → core t k = core s k) ∧ t.q = q' := by
  obtain ⟨hrest, hcore, hother⟩ := h
  rw [hu] at hrest
  refine runs_done he ⟨touches_after fun p hp => ?_, by rw [after_core, hcore], fun k hk => ?_, ?_⟩
  · rw [hrest]
    cases p
    case cores => exact absurd (by simp) hp
    case q => exact absurd (by simp) hp
    case gens => exact ⟨rfl, rfl⟩
    all_goals rfl
  · rw [after_core, hother k hk, hu]
    rfl
  · rw [after_q, hrest]

theorem runs_mono {i : Instr} {s : State} {P Q : State → Prop} (h : Runs i s P) (hpq : ∀ t, P t → Q t) : Runs i s Q :=
  h.imp fun t ⟨he, hp⟩ => ⟨he, hpq t hp⟩

theorem CoreBecomes.wait {c : Nat} {y : Core} {s t : State} (h : CoreBecomes c y s t) (w : WaitFor) :
    CoreBecomes c { y with st := .wait, waiting := w } s (coreWait c w t) :=
  h.mod fun x => { x with st := .wait, waiting := w }

/-- A control word whose predicate holds and whose effect leaves `t`. -/
theorem exec_of_on {c : BitVec 7} {w : CWord} {s t : State} {ok : Bool} {f : Core → State → State} {i : Instr} (hi : Says.issues c s)
    (ho : Says.on (core s c.toNat) w.pred w.pbit w.pneg) (hw : ok = true) (he : exec i s = done s (controlOp c.toNat w ok f s))
    (hf : f (core s c.toNat) s = t) : exec i s = done s t := by
  rw [he, controlOp_on hi ho hw, hf]

theorem afterStores_waits {c : Nat} {f : State → State} {s : State} (h : xstOut (core s c) = true) :
    afterStores c f s = coreWait c .fence s := by
  simp [afterStores, h]

theorem afterStores_done {c : Nat} {f : State → State} {s : State} (h : xstOut (core s c) = false) (hd : (core s c).deferTag = []) :
    afterStores c f s = f s := by
  simp [afterStores, h, hd]

/-! ### QTAKE -/

theorem getX_setX_same {r : Nat} (hr : r ≠ 0) (v : BitVec 64) (x : Core) : getX (setX r v x) r = v := by
  rw [setX, if_neg hr, getX, if_neg hr]
  exact mgetD_mset_same ..

theorem getX_setX_other {r k : Nat} (h : r ≠ k) (v : BitVec 64) (x : Core) : getX (setX r v x) k = getX x k := by
  unfold setX
  split
  · rfl
  · unfold getX
    split
    · rfl
    · exact mgetD_mset_other _ _ _ h

/-- An entry's words are loaded into X24 and the seven registers after it. -/
theorem getX_loadWords (v : Nat → BitVec 64) (n : Nat) (x : Core) (k : Nat) :
    getX ((List.range n).foldl (fun y i => setX (24 + i) (v i) y) x) k =
      if 24 ≤ k ∧ k < 24 + n then v (k - 24) else getX x k := by
  induction n with
  | zero => rw [if_neg (by omega)]; rfl
  | succ n ih =>
    rw [List.range_succ, List.foldl_append, List.foldl_cons, List.foldl_nil]
    by_cases hk : k = 24 + n
    · subst hk
      rw [getX_setX_same (by omega), if_pos (by omega), Nat.add_sub_cancel_left]
    · rw [getX_setX_other (Ne.symm hk), ih]
      exact if_congr (by omega) rfl rfl

theorem loadWords_keeps {α : Type} (g : Core → α) (hg : ∀ r v x, g (setX r v x) = g x) (v : Nat → BitVec 64) (is : List Nat) (x : Core) :
    g (is.foldl (fun y i => setX (24 + i) (v i) y) x) = g x := by
  induction is generalizing x with
  | nil => rfl
  | cons i is ih => rw [List.foldl_cons, ih, hg]

theorem setX_keeps {α : Type} (g : Core → α) (hg : ∀ (m : SMap (BitVec 64)) x, g { x with x := m } = g x) (r : Nat) (v : BitVec 64)
    (x : Core) : g (setX r v x) = g x := by
  unfold setX
  split
  · rfl
  · exact hg _ _

/-- A core that has taken an entry from its queue. -/
def tookEntry (e : WorkEntry) (x : Core) : Core := loadEntry e { x with queue := removeFirst (fun z => z == e) x.queue }

theorem tookEntry_keeps {α : Type} (e : WorkEntry) (x : Core) (g : Core → α) (hg : ∀ (m : SMap (BitVec 64)) x, g { x with x := m } = g x)
    (he : ∀ o x, g { x with entry := o } = g x) :
    g (tookEntry e x) = g { x with queue := removeFirst (fun z => z == e) x.queue } :=
  (he _ _).trans (loadWords_keeps g (setX_keeps g hg) _ _ _)

section
variable {c : BitVec 7} {w : CWord} {s : State} {p : Nat} {q : Partition} (hi : Says.issues c s)
  (hp : coreHolder s c.toNat = some p) (hq : part? s p = some q) (ho : Says.on (core s c.toNat) w.pred w.pbit w.pneg)
  (hw : cUnused {} w = true)
include hi hp hq ho hw

theorem qtake_takes {e : WorkEntry}
    (hf : (core s c.toNat).queue.find? (fun e => decide (e.period.toNat ≤ q.periodSeq.toNat)) = some e)
    (hn : (core s c.toNat).entry = none) :
    Says.coreTo (.qtake c w) c s (Says.retired ((core s c.toNat).pc + 1) (tookEntry e (core s c.toNat))) := by
  have hb : (coreHolder s c.toNat).bind (part? s) = some q := by rw [hp]; exact hq
  have hpc : (tookEntry e (core s c.toNat)).pc = (core s c.toNat).pc := tookEntry_keeps e _ (·.pc) (fun _ _ => rfl) (fun _ _ => rfl)
  have hdbg : (tookEntry e (core s c.toNat)).dbg = (core s c.toNat).dbg := tookEntry_keeps e _ (·.dbg) (fun _ _ => rfl) (fun _ _ => rfl)
  have he : exec (.qtake c w) s = done s (nextWord c.toNat (modCore c.toNat (tookEntry e) s)) := by
    refine exec_of_on hi ho hw rfl ?_
    dsimp only
    rw [hb]
    dsimp only
    rw [hf]
    dsimp only
    rw [hn, if_neg (by decide)]
    rfl
  have := (((CoreBecomes.refl c.toNat s).mod (tookEntry e)).nextWord (by rw [hdbg, hi.2.2])).coreTo he
  rwa [hpc] at this

theorem qtake_waits (hf : ∀ e ∈ (core s c.toNat).queue, q.periodSeq.toNat < e.period.toNat) :
    Says.coreTo (.qtake c w) c s { core s c.toNat with st := .wait, waiting := .queue } := by
  have hb : (coreHolder s c.toNat).bind (part? s) = some q := by rw [hp]; exact hq
  have hf : (core s c.toNat).queue.find? (fun e => decide (e.period.toNat ≤ q.periodSeq.toNat)) = none :=
    List.find?_eq_none.2 fun e h => by simpa using hf e h
  have he : exec (.qtake c w) s = done s (coreWait c.toNat .queue s) := by
    refine exec_of_on hi ho hw rfl ?_
    dsimp only
    rw [hb]
    dsimp only
    rw [hf]
  exact ((CoreBecomes.refl c.toNat s).wait .queue).coreTo he

end

/-! ### FENCE, XWAIT and L2WB -/

theorem retires_of_exec {c : BitVec 7} {s : State} {i : Instr} (hi : Says.issues c s) (he : exec i s = done s (nextWord c.toNat s)) :
    Says.coreTo i c s (Says.retired ((core s c.toNat).pc + 1) (core s c.toNat)) :=
  ((CoreBecomes.refl c.toNat s).nextWord hi.2.2).coreTo he

section
variable {c : BitVec 7} {w : CWord} {s : State} (hi : Says.issues c s) (ho : Says.on (core s c.toNat) w.pred w.pbit w.pneg)
include hi ho

theorem fence_waits (hw : cUnused {} w = true) (hx : xstOut (core s c.toNat) = true) :
    Says.coreTo (.fence c w) c s { core s c.toNat with st := .wait, waiting := .fence } :=
  ((CoreBecomes.refl c.toNat s).wait .fence).coreTo (exec_of_on hi ho hw rfl (afterStores_waits hx))

theorem fence_retires (hw : cUnused {} w = true) (hx : xstOut (core s c.toNat) = false) (hd : (core s c.toNat).deferTag = []) :
    Says.coreTo (.fence c w) c s (Says.retired ((core s c.toNat).pc + 1) (core s c.toNat)) :=
  retires_of_exec hi (exec_of_on hi ho hw rfl (afterStores_done hx hd))

theorem xwait_waits (hw : cUnused { imm := true } w = true) (hx : xferOut (core s c.toNat) w.imm16 = true) :
    Says.coreTo (.xwait c w) c s { core s c.toNat with st := .wait, waiting := .transfers w.imm16 } :=
  ((CoreBecomes.refl c.toNat s).wait (.transfers w.imm16)).coreTo (exec_of_on hi ho hw rfl (if_pos hx))

theorem xwait_retires (hw : cUnused { imm := true } w = true) (hx : xferOut (core s c.toNat) w.imm16 = false)
    (hd : ∀ g ∈ (core s c.toNat).deferTag, w.imm16.getLsbD g.toNat = false) :
    Says.coreTo (.xwait c w) c s (Says.retired ((core s c.toNat).pc + 1) (core s c.toNat)) := by
  have hn : ¬ (core s c.toNat).deferTag.any (fun g => w.imm16.getLsbD g.toNat) = true := by
    rw [List.any_eq_true]
    rintro ⟨g, hg, h⟩
    rw [hd g hg] at h
    exact absurd h (by decide)
  exact retires_of_exec hi (exec_of_on hi ho hw rfl (by rw [hx, if_neg Bool.false_ne_true, if_neg hn]))

/-- What L2WB leaves: the dirty lines of the core's tile that its partition holds are written back one by one. -/
theorem exec_l2wb {p : Nat} (hp : coreHolder s c.toNat = some p) (hw : cUnused {} w = true) : exec (.l2wb c w) s =
    done s (nextWord c.toNat ((s.mem.l2.filter fun l => l.tile == c.toNat / 16 && l.part == p && l.dirty).foldl
      (fun u l => cleanLine l u) s)) := by
  refine exec_of_on hi ho hw rfl ?_
  dsimp only
  rw [hp]
  rfl

theorem l2wb_clean {p : Nat} (hp : coreHolder s c.toNat = some p) (hw : cUnused {} w = true)
    (hl : ∀ l ∈ s.mem.l2, l.tile = c.toNat / 16 → l.part = p → l.dirty = false) :
    Says.coreTo (.l2wb c w) c s (Says.retired ((core s c.toNat).pc + 1) (core s c.toNat)) := by
  have hn : s.mem.l2.filter (fun l => l.tile == c.toNat / 16 && l.part == p && l.dirty) = [] := by
    refine List.filter_eq_nil_iff.2 fun l hm h => ?_
    simp only [Bool.and_eq_true, beq_iff_eq] at h
    obtain ⟨⟨ht, hpart⟩, hdirty⟩ := h
    rw [hl l hm ht hpart] at hdirty
    exact absurd hdirty (by decide)
  have he := exec_l2wb hi ho hp hw
  rw [hn] at he
  exact retires_of_exec hi he

end

/-- A stack's controller that loads its memory keys changes the vault's copies alone. -/
theorem loadMce_shape (n : Nat) (s : State) : ∃ v, loadMce n s = { s with vault := v } :=
  List.foldlRecOn (motive := fun t : State => ∃ v, t = { s with vault := v }) s.parts.parts _ ⟨s.vault, rfl⟩ fun t h e _ => by
    obtain ⟨v, rfl⟩ := h
    dsimp only
    split
    · exact ⟨_, rfl⟩
    · exact ⟨v, rfl⟩

/-- A stack that an access needs comes out of SR-HOLD: its domain is on and its keys are loaded, nothing else changes. -/
theorem needStack_shape (n : Nat) (s : State) : ∃ p v, needStack n s = { s with power := p, vault := v } := by
  have h1 : ¬ stackPd n = 1 := by simp only [stackPd]; omega
  have h2 : ¬ stackPd n = 2 := by simp only [stackPd]; omega
  have h3 : ¬ (6 ≤ stackPd n ∧ stackPd n ≤ 13) := by simp only [stackPd]; omega
  have h4 : 14 ≤ stackPd n := by simp only [stackPd]; omega
  unfold needStack
  split
  · exact ⟨s.power, s.vault, rfl⟩
  · simp only [domainUp, if_neg h1, if_neg h2, if_neg h3, if_pos h4, if_true]
    obtain ⟨v, h⟩ := loadMce_shape (stackPd n - 14) (setDom (stackPd n) .on s)
    exact ⟨_, v, h⟩

/-- A line written back changes its stack, and what its controller's start changes. -/
theorem writeBack_shape (l : L2Line) (s : State) :
    ∃ p v st, (writeBack l s).1 = { s with power := p, vault := v, mem := { s.mem with hbm := st } } := by
  obtain ⟨p, v, h⟩ := needStack_shape l.stack s
  simp only [writeBack, h]
  split
  · exact ⟨p, v, s.mem.hbm, rfl⟩
  · split
    · exact ⟨p, v, _, rfl⟩
    · exact ⟨p, v, _, rfl⟩

theorem l2wb_one {c : BitVec 7} {w : CWord} {s r : State} {p : Nat} {l : L2Line} (hi : Says.issues c s)
    (ho : Says.on (core s c.toNat) w.pred w.pbit w.pneg) (hp : coreHolder s c.toNat = some p) (hw : cUnused {} w = true)
    (hl : s.mem.l2 = [l]) (ht : l.tile = c.toNat / 16) (hpart : l.part = p) (hd : l.dirty = true) (hr : writeBack l s = (r, true)) :
    Runs (.l2wb c w) s fun t => t.mem.l2 = [{ l with dirty := false }] ∧ t.mem.hbm = r.mem.hbm ∧
      core t c.toNat = Says.retired ((core s c.toNat).pc + 1) (core s c.toNat) := by
  obtain ⟨pw, v, st, hs⟩ := writeBack_shape l s
  rw [hr] at hs
  dsimp only at hs
  have hone : s.mem.l2.filter (fun l => l.tile == c.toNat / 16 && l.part == p && l.dirty) = [l] := by
    rw [hl, List.filter_cons, if_pos (by simp [ht, hpart, hd]), List.filter_nil]
  have hclean : cleanLine l s = l2Put { l with dirty := false } r := by simp [cleanLine, hr]
  have he := exec_l2wb hi ho hp hw
  rw [hone, List.foldl_cons, List.foldl_nil, hclean] at he
  have hrl : r.mem.l2 = [l] := by rw [hs]; exact hl
  have hrc : (l2Put { l with dirty := false } r).cores = s.cores := by rw [hs]; rfl
  have hb := (CoreBecomes.refl c.toNat (l2Put { l with dirty := false } r)).nextWord (by rw [core_congr hrc]; exact hi.2.2)
  rw [core_congr hrc] at hb
  have hm : (nextWord c.toNat (l2Put { l with dirty := false } r)).mem = (l2Put { l with dirty := false } r).mem := by rw [hb.rest]
  refine runs_done he ⟨?_, ?_, by rw [after_core, hb.at_core]⟩
  · rw [after_mem, hm]
    simp [l2Put, hrl, L2Line.is]
  · rw [after_mem, hm]
    rfl

/-! ### QDONE -/

/-- An entry that ends with an output its room holds leaves the copy of that output. -/
theorem commit_output {c : Nat} {e : WorkEntry} {res : BitVec 64} {s : State} (hl : res.toNat % 2 ^ 32 ≤ e.outLen)
    (hw : res.toNat % 2 ^ 32 = 0 ∨ windowOf s e.part e.outWin ≠ none) : ∃ o,
    commit c e res s = { s with q := { s.q with outs := s.q.outs ++ [o] } } ∧ o.fn = fnOf e.part ∧
      o.win = e.outWin ∧ o.off = e.outOff ∧ o.len = res.toNat % 2 ^ 32 ∧ o.addr = e.outAddr ∧ o.lost = false ∧
      o.record.tag = e.tag ∧ o.record.status = 0 ∧ o.record.outLen = res.extractLsb' 0 32 ∧
      o.record.result = res.extractLsb' 32 32 ∧ o.record.entryId = e.x.getD 5 0 := by
  have hn : (res.extractLsb' 0 32).toNat = res.toNat % 2 ^ 32 := by simp [BitVec.extractLsb'_toNat]
  have hlost : decide (res.extractLsb' 0 32 ≠ 0 ∧ windowOf s e.part e.outWin = none) = false := by
    refine decide_eq_false fun ⟨h0, hnone⟩ => ?_
    have hz : res.toNat % 2 ^ 32 = 0 := hw.resolve_right (not_not_intro hnone)
    exact h0 (BitVec.eq_of_toNat_eq (hn.trans hz))
  rw [commit, if_neg (by rw [hn]; exact Nat.not_lt.2 hl)]
  exact ⟨_, rfl, rfl, rfl, rfl, hn, rfl, hlost, rfl, rfl, rfl, rfl, rfl⟩

section
variable {c : BitVec 7} {w : CWord} {s : State} (hi : Says.issues c s) (ho : Says.on (core s c.toNat) w.pred w.pbit w.pneg)
  (hx : xstOut (core s c.toNat) = false) (hd : (core s c.toNat).deferTag = [])
include hi ho hx hd

theorem qdone_faults (hw : cUnused { ra := true } w = true) (hn : (core s c.toNat).entry = none) :
    exec (.qdone c w) s = .next (after s (coreFault c.toNat 5 0 0 s)) := by
  refine exec_of_on hi ho hw rfl ?_
  rw [afterStores_done hx hd, hn]

theorem qdone_commits {e : WorkEntry} (hw : cUnused { ra := true } w = true) (he : (core s c.toNat).entry = some e)
    (hl : (getX (core s c.toNat) w.ra.toNat).toNat % 2 ^ 32 ≤ e.outLen)
    (hwin : (getX (core s c.toNat) w.ra.toNat).toNat % 2 ^ 32 = 0 ∨ windowOf s e.part e.outWin ≠ none) :
    let x := core s c.toNat
    let res := getX x w.ra.toNat
    Runs (.qdone c w) s fun t => Touches [.cores, .q] s t ∧
      core t c.toNat = Says.retired (x.pc + 1) { x with entry := none, faultRun := 0 } ∧
      (∀ k, k ≠ c.toNat → core t k = core s k) ∧ ∃ o, t.q = { s.q with outs := s.q.outs ++ [o] } ∧ o.fn = fnOf e.part ∧
      o.win = e.outWin ∧ o.off = e.outOff ∧ o.len = res.toNat % 2 ^ 32 ∧ o.addr = e.outAddr ∧ o.lost = false ∧
      o.record.tag = e.tag ∧ o.record.status = 0 ∧ o.record.outLen = res.extractLsb' 0 32 ∧
      o.record.result = res.extractLsb' 32 32 ∧ o.record.entryId = e.x.getD 5 0 := by
  intro x res
  obtain ⟨o, hc, hout⟩ := commit_output (c := c.toNat) (s := modCore c.toNat (fun k => { k with entry := none, faultRun := 0 }) s) hl hwin
  obtain ⟨u, hu⟩ : ∃ u : State, u = { s with q := { s.q with outs := s.q.outs ++ [o] } } := ⟨_, rfl⟩
  have hux : core u c.toNat = x := by rw [hu]; rfl
  have hex : exec (.qdone c w) s = done s (nextWord c.toNat (modCore c.toNat (fun k => { k with entry := none, faultRun := 0 }) u)) := by
    refine exec_of_on hi ho hw rfl ?_
    rw [afterStores_done hx hd, he]
    dsimp only
    rw [hc, hu]
    rfl
  have hb := CoreBecomes.refl c.toNat u
  rw [hux] at hb
  refine runs_mono (((hb.mod fun k => { k with entry := none, faultRun := 0 }).nextWord hi.2.2).runs_q hu hex) fun t ht => ?_
  obtain ⟨htouch, hcore, hother, hq⟩ := ht
  exact ⟨htouch, hcore, hother, o, hq, hout⟩

end

/-! ### Tokens -/

section
variable {c : BitVec 7} {w : CWord} {s : State} {p : Nat} (hi : Says.issues c s) (ho : Says.on (core s c.toNat) w.pred w.pbit w.pneg)
  (hp : coreHolder s c.toNat = some p)

/-- The token a word names: X[RA] and its immediate. -/
def tokenNo (x : Core) (w : CWord) : Nat := (getX x w.ra.toNat + w.imm16.zeroExtend 64).toNat

include hp in
theorem tokenAt_unheld (h : (resOf s 4 (tokenNo (core s c.toNat) w)).st ≠ .held p) :
    tokenAt s c.toNat (core s c.toNat) w = none := by
  simp only [tokenAt, hp]
  exact if_neg fun hn => h hn.2

include hi ho hp in
theorem twait_unheld (h : (resOf s 4 (tokenNo (core s c.toNat) w)).st ≠ .held p)
    (hw : cUnused { ra := true, rd := true, imm := true } w = true) :
    exec (.twait c w) s = .next (after s (coreFault c.toNat 0x20 0 0 s)) := by
  refine exec_of_on hi ho hw rfl ?_
  rw [takeToken, tokenAt_unheld hp h]

variable {k : Token} (hn : tokenNo (core s c.toNat) w < 4096) (hr : (resOf s 4 (tokenNo (core s c.toNat) w)).st = .held p)
  (hk : mget s.q.tokens (tokenNo (core s c.toNat) w) = some k) (hh : k.proxy = false)

include hp hn hr hk in
theorem tokenAt_held : tokenAt s c.toNat (core s c.toNat) w = some (tokenNo (core s c.toNat) w, k) := by
  have hd : (getX (core s c.toNat) w.ra.toNat + w.imm16.zeroExtend 64).toNat < 4096 ∧
      (resOf s 4 (getX (core s c.toNat) w.ra.toNat + w.imm16.zeroExtend 64).toNat).st = .held p := ⟨hn, hr⟩
  simp only [tokenAt, hp, if_pos hd]
  rw [show mget s.q.tokens (getX (core s c.toNat) w.ra.toNat + w.imm16.zeroExtend 64).toNat = some k from hk]
  rfl

include hp hn hr hk hh

/-- A token with a count gives one of it. -/
theorem takeToken_counted {empty : Nat → Token → State → State} (hc : k.count ≠ 0) : takeToken c.toNat w empty s =
    nextWord c.toNat (modCore c.toNat (setX w.rd.toNat 0) (setToken (tokenNo (core s c.toNat) w) { k with count := k.count - 1 } s)) := by
  rw [takeToken, tokenAt_held hp hn hr hk]
  dsimp only
  rw [hh, if_neg Bool.false_ne_true, if_neg hc]

theorem takeToken_empty {empty : Nat → Token → State → State} (hc : k.count = 0) : takeToken c.toNat w empty s =
    empty (tokenNo (core s c.toNat) w) k s := by
  rw [takeToken, tokenAt_held hp hn hr hk]
  dsimp only
  rw [hh, if_neg Bool.false_ne_true, if_pos hc]

include hi

omit hp hn hr hk hh in
/-- A word that takes one of a token's count. -/
theorem runs_takes {i : Instr} (he : exec i s = done s (nextWord c.toNat (modCore c.toNat (setX w.rd.toNat 0)
      (setToken (tokenNo (core s c.toNat) w) { k with count := k.count - 1 } s)))) :
    Runs i s fun t => Touches [.cores, .q] s t ∧
      core t c.toNat = Says.retired ((core s c.toNat).pc + 1) (setX w.rd.toNat 0 (core s c.toNat)) ∧
      t.q = { s.q with tokens := mput s.q.tokens (tokenNo (core s c.toNat) w) { k with count := k.count - 1 } } := by
  obtain ⟨u, hu⟩ : ∃ u : State, u = setToken (tokenNo (core s c.toNat) w) { k with count := k.count - 1 } s := ⟨_, rfl⟩
  have hux : core u c.toNat = core s c.toNat := by rw [hu]; rfl
  rw [← hu] at he
  have hb := CoreBecomes.refl c.toNat u
  rw [hux] at hb
  have hs := (hb.mod (setX w.rd.toNat 0)).nextWord (by rw [setX_dbg, hi.2.2])
  rw [setX_keeps (·.pc) (fun _ _ => rfl)] at hs
  refine runs_mono (hs.runs_q hu he) fun t ht => ?_
  obtain ⟨htouch, hcore, -, hq⟩ := ht
  exact ⟨htouch, hcore, hq⟩

include ho

theorem twait_takes (hw : cUnused { ra := true, rd := true, imm := true } w = true) (hc : k.count ≠ 0) :
    Runs (.twait c w) s fun t => Touches [.cores, .q] s t ∧
      core t c.toNat = Says.retired ((core s c.toNat).pc + 1) (setX w.rd.toNat 0 (core s c.toNat)) ∧
      t.q = { s.q with tokens := mput s.q.tokens (tokenNo (core s c.toNat) w) { k with count := k.count - 1 } } :=
  runs_takes hi (exec_of_on hi ho hw rfl (takeToken_counted hp hn hr hk hh hc))

theorem twait_waits (hw : cUnused { ra := true, rd := true, imm := true } w = true) (hc : k.count = 0) :
    Runs (.twait c w) s fun t => Touches [.cores, .q] s t ∧
      core t c.toNat = { core s c.toNat with st := .wait, waiting := .token (tokenNo (core s c.toNat) w) w.rd } ∧
      t.q = { s.q with tokens := mput s.q.tokens (tokenNo (core s c.toNat) w) { k with waiters := k.waiters ++ [c.toNat] } } := by
  have he := exec_of_on (i := .twait c w) hi ho hw rfl (takeToken_empty hp hn hr hk hh hc)
  obtain ⟨u, hu⟩ : ∃ u : State, u = setToken (tokenNo (core s c.toNat) w) { k with waiters := k.waiters ++ [c.toNat] } s := ⟨_, rfl⟩
  have hux : core u c.toNat = core s c.toNat := by rw [hu]; rfl
  rw [← hu] at he
  have hb := (CoreBecomes.refl c.toNat u).wait (.token (tokenNo (core s c.toNat) w) w.rd)
  rw [hux] at hb
  refine runs_mono (hb.runs_q hu he) fun t ht => ?_
  obtain ⟨htouch, hcore, -, hq⟩ := ht
  exact ⟨htouch, hcore, hq⟩

section
variable (hx : xstOut (core s c.toNat) = false) (hd : (core s c.toNat).deferTag = [])
include hx hd

theorem ttry_takes (hw : cUnused { ra := true, rd := true, imm := true } w = true) (hc : k.count ≠ 0) :
    Runs (.ttry c w) s fun t => Touches [.cores, .q] s t ∧
      core t c.toNat = Says.retired ((core s c.toNat).pc + 1) (setX w.rd.toNat 0 (core s c.toNat)) ∧
      t.q = { s.q with tokens := mput s.q.tokens (tokenNo (core s c.toNat) w) { k with count := k.count - 1 } } :=
  runs_takes hi (exec_of_on hi ho hw rfl
    ((afterStores_done hx hd).trans (takeToken_counted hp hn hr hk hh hc)))

theorem ttry_empty (hw : cUnused { ra := true, rd := true, imm := true } w = true) (hc : k.count = 0) :
    Says.coreTo (.ttry c w) c s (Says.retired ((core s c.toNat).pc + 1) (setX w.rd.toNat 2 (core s c.toNat))) := by
  have hs := ((CoreBecomes.refl c.toNat s).mod (setX w.rd.toNat 2)).nextWord (by rw [setX_dbg, hi.2.2])
  rw [setX_keeps (·.pc) (fun _ _ => rfl)] at hs
  exact hs.coreTo (exec_of_on hi ho hw rfl ((afterStores_done hx hd).trans (takeToken_empty hp hn hr hk hh hc)))

theorem tsig_adds (hw : cUnused { ra := true, rb := true, imm := true } w = true) (hwait : k.waiters = []) :
    let sum := k.count.toNat + (getX (core s c.toNat) w.rb.toNat).toNat % 2 ^ 32
    Runs (.tsig c w) s fun t => Touches [.cores, .q] s t ∧
      core t c.toNat = Says.retired ((core s c.toNat).pc + 1) (core s c.toNat) ∧
      ∃ k', t.q = { s.q with tokens := mput s.q.tokens (tokenNo (core s c.toNat) w) k' } ∧ k'.count.toNat = min sum (2 ^ 32 - 1) ∧
        k'.overflow = (k.overflow || decide (2 ^ 32 ≤ sum)) ∧ k'.waiters = [] ∧ k'.imp = k.imp := by
  intro sum
  have hsum : k.count.toNat + ((getX (core s c.toNat) w.rb.toNat).truncate 32).toNat = sum := by
    simp [sum, BitVec.truncate, BitVec.toNat_setWidth]
  let k' : Token := { k with
    count := BitVec.ofNat 32 (min sum (2 ^ 32 - 1)), overflow := k.overflow || decide (2 ^ 32 ≤ sum), waiters := [] }
  obtain ⟨u, hu⟩ : ∃ u : State, u = setToken (tokenNo (core s c.toNat) w) k' s := ⟨_, rfl⟩
  have hux : core u c.toNat = core s c.toNat := by rw [hu]; rfl
  have he : exec (.tsig c w) s = done s (nextWord c.toNat u) := by
    refine exec_of_on hi ho hw rfl ((afterStores_done hx hd).trans ?_)
    rw [tokenAt_held hp hn hr hk]
    dsimp only
    rw [signalToken, hk]
    dsimp only
    rw [hh, if_neg Bool.false_ne_true, homeSignal, hk]
    dsimp only
    rw [hwait, serveWaiters, hsum, hu]
  have hb := (CoreBecomes.refl c.toNat u).nextWord (by rw [hux]; exact hi.2.2)
  rw [hux] at hb
  refine runs_mono (hb.runs_q hu he) fun t ht => ?_
  obtain ⟨htouch, hcore, -, hq⟩ := ht
  refine ⟨htouch, hcore, k', hq, ?_, rfl, rfl, rfl⟩
  exact (BitVec.toNat_ofNat ..).trans (Nat.mod_eq_of_lt (lt_of_le_of_lt (Nat.min_le_right ..) (by decide)))

end
end

/-- Settles O26. -/
theorem queuesAndTokens : Obligations.QueuesAndTokens := by
  unfold Obligations.QueuesAndTokens
  intro c w s p q hi hp hq x ho
  refine ⟨fun hw => ⟨fun e hf hn => ?_, qtake_waits hi hp hq ho hw, fence_waits hi ho hw, fence_retires hi ho hw, fun hx hd => ?_,
    l2wb_clean hi ho hp hw, fun l r hl ht hpart hd hr => l2wb_one hi ho hp hw hl ht hpart hd hr⟩,
    fun hw => ⟨xwait_waits hi ho hw, xwait_retires hi ho hw⟩,
    fun hw hx hd => ⟨fun e he hl hwin => qdone_commits hi ho hx hd hw he hl hwin, qdone_faults hi ho hx hd hw⟩,
    fun k hn hr hk hh => ⟨fun hw => ⟨twait_takes hi ho hp hn hr hk hh hw, twait_waits hi ho hp hn hr hk hh hw,
      fun hx hd => ⟨ttry_takes hi ho hp hn hr hk hh hx hd hw, ttry_empty hi ho hp hn hr hk hh hx hd hw⟩⟩,
      fun hw hx hd hwait => tsig_adds hi ho hp hn hr hk hh hx hd hw hwait⟩,
    fun h hw => twait_unheld hi ho hp h hw⟩
  · refine runs_mono (qtake_takes hi hp hq ho hw hf hn) fun t ht => ?_
    obtain ⟨htouch, hcore, hother⟩ := ht
    rw [hcore]
    have words (i : Nat) : getX (Says.retired (x.pc + 1) (tookEntry e x)) i =
        if 24 ≤ i ∧ i < 24 + 8 then e.x.getD (i - 24) 0 else getX x i :=
      getX_loadWords (fun i => e.x.getD i 0) 8 { x with queue := removeFirst (fun z => z == e) x.queue } i
    refine ⟨htouch, rfl, rfl, ?_, fun i hi8 => ?_, fun i hi24 => ?_, hother⟩
    · exact tookEntry_keeps e x (·.queue) (fun _ _ => rfl) (fun _ _ => rfl)
    · rw [words, if_pos (by omega), Nat.add_sub_cancel_left]
    · rw [words, if_neg (by omega)]
  · exact exec_fence_raises hi ho hx hd hw

end Sys2Proof.Machine
end

section
/-! SUPPORT. Transfers between local store and memory (R251, R265, R271, R272). -/

namespace Sys2Proof.Machine

set_option Elab.async false

/-! ### XLD and XST -/

theorem rowPieces_ne_nil (a b : Nat) {n : Nat} (h : n ≠ 0) : rowPieces a b n ≠ [] := by
  simp only [rowPieces, chunks, if_neg h, ne_eq, List.map_eq_nil_iff, List.range_eq_nil]
  omega

theorem xferLines_ne_nil {rows : List (Nat × Nat)} {n : Nat} (hr : rows ≠ []) (hn : n ≠ 0) (f : Nat → Nat → Bytes) :
    xferLines rows n f ≠ [] := by
  obtain ⟨r, rs, rfl⟩ := List.exists_cons_of_ne_nil hr
  have hp : ((r :: rs).flatMap fun r => rowPieces r.1 r.2 n) ≠ [] := by
    rw [List.flatMap_cons]
    exact fun h => rowPieces_ne_nil _ _ hn (List.append_eq_nil_iff.1 h).1
  intro h
  have hl := congrArg List.length h
  simp only [xferLines, List.length_map, List.length_zip, List.length_range, Nat.min_self, List.length_nil] at hl
  exact hp (List.length_eq_zero_iff.1 hl)

theorem xferRows_ne_nil (x : Core) (w : WWord) (d e : Desc) : xferRows x w d e ≠ [] := by
  simp [xferRows, wRows]

/-- A store with CACHE 2 leaves every line outstanding. -/
theorem xstRetire_uncached {c p : Nat} {f : Xfer} (h : f.cache = 2) (rs : List XferLine) (s : State) :
    xstRetire c p f rs s = (s, rs) := by
  have hc (u : State) : cached u c p f.cache = false := by rw [cached, h]; rfl
  induction rs with
  | nil => rfl
  | cons r rs ih => rw [xstRetire, hc, Bool.false_and, if_neg Bool.false_ne_true, ih]

section
variable {c : BitVec 7} {w : WWord} {s : State}

section
variable (hw : wUnused { m := true, k := true, nospec := true, cache := true } w = true) (hc : w.cache ≠ 3)
  (ha : descWin w.da = true) (hb : descNone w.db = true) (hd : descLs w.dd = true)
include hw hc ha hb hd

theorem xld_form : (wUnused { m := true, k := true, nospec := true, cache := true } w && descWin w.da && descNone w.db &&
    descLs w.dd && w.cache != 3) = true := by
  rw [hw, ha, hb, hd, bne_iff_ne.2 hc]
  rfl

variable (hi : Says.issues c s)
include hi

theorem xld_waits (ho : xferOut (core s c.toNat) (tagBit w.xtag) = true) :
    Says.coreTo (.xld c w) c s { core s c.toNat with st := .wait, waiting := .transfers (tagBit w.xtag) } := by
  have he : exec (.xld c w) s = done s (coreWait c.toNat (.transfers (tagBit w.xtag)) s) := by
    show done s (xld c.toNat w s) = _
    rw [xld, issue_on hi (xld_form hw hc ha hb hd)]
    dsimp only
    rw [if_pos ho]
  exact ((CoreBecomes.refl c.toNat s).wait _).coreTo he

variable (ho : xferOut (core s c.toNat) (tagBit w.xtag) = false)
  (hl : lsCheck (core s c.toNat) [] (xferExtents (xferRows (core s c.toNat) w w.da w.dd) (wLen w)) = none)
include ho hl

theorem xld_starts (hx : xferCheck (core s c.toNat) w.da.win.toNat false (xferRows (core s c.toNat) w w.da w.dd) (wLen w) = none) :
    Says.coreTo (.xld c w) c s (Says.retired ((core s c.toNat).pc + 1) { core s c.toNat with
      xfers := (core s c.toNat).xfers ++
        [{ tag := w.xtag, isSt := false, win := w.da.win.toNat, cache := w.cache,
           rows := xferLines (xferRows (core s c.toNat) w w.da w.dd) (wLen w) fun _ _ => [] }] }) := by
  have he : exec (.xld c w) s = done s (nextWord c.toNat (modCore c.toNat (fun k => { k with xfers := k.xfers ++
      [{ tag := w.xtag, isSt := false, win := w.da.win.toNat, cache := w.cache,
         rows := xferLines (xferRows (core s c.toNat) w w.da w.dd) (wLen w) fun _ _ => [] }] }) s)) := by
    show done s (xld c.toNat w s) = _
    rw [xld, issue_on hi (xld_form hw hc ha hb hd)]
    dsimp only
    rw [ho, if_neg Bool.false_ne_true, hl]
    dsimp only
    rw [hx]
  exact (((CoreBecomes.refl c.toNat s).mod _).nextWord hi.2.2).coreTo he

theorem xld_faults {e : Nat × Nat}
    (hx : xferCheck (core s c.toNat) w.da.win.toNat false (xferRows (core s c.toNat) w w.da w.dd) (wLen w) = some e) :
    exec (.xld c w) s = .next (after s (coreFault c.toNat e.1 0 (BitVec.ofNat 64 e.2) s)) := by
  show done s (xld c.toNat w s) = _
  rw [xld, issue_on hi (xld_form hw hc ha hb hd)]
  dsimp only
  rw [ho, if_neg Bool.false_ne_true, hl]
  dsimp only
  rw [hx, done_eq]

end

/-- A window that is not valid faults the first row (R251). -/
theorem xferCheck_invalid {x : Core} {k : Nat} {write : Bool} {r : Nat × Nat} {rs : List (Nat × Nat)} {n : Nat}
    (h : (Wd.ofBits (mgetD x.wd k 0)).valid = false) : xferCheck x k write (r :: rs) n = some (0x11, r.1) := by
  simp only [xferCheck, List.findSome?_cons, h, Bool.not_false, if_true]

theorem xst_starts (hi : Says.issues c s) (hw : wUnused { m := true, k := true, cache := true } w = true) (ha : descLs w.da = true)
    (hb : descNone w.db = true) (hd : descWin w.dd = true) (hc : w.cache = 2)
    (ho : xferOut (core s c.toNat) (tagBit w.xtag) = false)
    (hl : lsCheck (core s c.toNat) (xferExtents (xferRows (core s c.toNat) w w.dd w.da) (wLen w)) [] = none)
    (hx : xferCheck (core s c.toNat) w.dd.win.toNat true (xferRows (core s c.toNat) w w.dd w.da) (wLen w) = none) :
    Says.coreTo (.xst c w) c s (Says.retired ((core s c.toNat).pc + 1) { core s c.toNat with
      xfers := (core s c.toNat).xfers ++
        [{ tag := w.xtag, isSt := true, win := w.dd.win.toNat, cache := w.cache,
           rows := xferLines (xferRows (core s c.toNat) w w.dd w.da) (wLen w) (lsRead (core s c.toNat)) }] }) := by
  have hform : (wUnused { m := true, k := true, cache := true } w && descLs w.da && descNone w.db && descWin w.dd && w.cache != 3)
      = true := by simp [hw, hc, ha, hb, hd]
  have hne : xferLines (xferRows (core s c.toNat) w w.dd w.da) (wLen w) (lsRead (core s c.toNat)) ≠ [] :=
    xferLines_ne_nil (xferRows_ne_nil _ _ _ _) (Nat.succ_ne_zero _) _
  have he : exec (.xst c w) s = done s (nextWord c.toNat (modCore c.toNat (fun k => { k with xfers := k.xfers ++
      [{ tag := w.xtag, isSt := true, win := w.dd.win.toNat, cache := w.cache,
         rows := xferLines (xferRows (core s c.toNat) w w.dd w.da) (wLen w) (lsRead (core s c.toNat)) }] }) s)) := by
    show done s (xst c.toNat w s) = _
    rw [xst, issue_on hi hform]
    dsimp only
    rw [ho, if_neg Bool.false_ne_true, hl]
    dsimp only
    rw [hx]
    dsimp only
    rw [xstRetire_uncached hc, if_neg hne]
  exact (((CoreBecomes.refl c.toNat s).mod _).nextWord hi.2.2).coreTo he

end

/-! ### Lines that arrive and responses that come -/

/-- What a line's end does to its transfer: its line is answered, and a transfer without lines is over. -/
def cutLine (tag : BitVec 4) (st : Bool) (idx : Nat) (f : Xfer) : Option Xfer :=
  if f.tag = tag ∧ f.isSt = st then
    let rs := f.rows.filter (fun r => r.idx != idx)
    if rs = [] then none else some { f with rows := rs }
  else some f

theorem cutLine_some {tag : BitVec 4} {st : Bool} {idx : Nat} {f g : Xfer} (h : cutLine tag st idx f = some g) (ht : g.tag = tag)
    (hs : g.isSt = st) : ∀ r ∈ g.rows, r.idx ≠ idx := by
  unfold cutLine at h
  split at h
  · dsimp only at h
    split at h
    · cases h
    · cases h
      intro r hr
      simpa using (List.mem_filter.1 hr).2
  · rename_i hn
    cases h
    exact absurd ⟨ht, hs⟩ hn

theorem xferFind_cut (tag : BitVec 4) (st : Bool) (idx : Nat) (x : Core) :
    xferFind { x with xfers := x.xfers.filterMap (cutLine tag st idx) } tag st idx = none := by
  rw [xferFind, Option.bind_eq_none_iff]
  intro g hg
  obtain ⟨f, -, hf⟩ := List.mem_filterMap.1 (List.mem_of_find?_eq_some hg)
  have hm := List.find?_some hg
  simp only [Bool.and_eq_true, beq_iff_eq] at hm
  rw [Option.map_eq_none_iff, List.find?_eq_none]
  intro r hr
  simpa using cutLine_some hf hm.1 hm.2 r hr

/-- A line's end changes its core alone: the line has its answer, and the core's wait may be over. -/
theorem xferEnd_cases (c : Nat) (tag : BitVec 4) (st : Bool) (idx : Nat) (s : State) : ∃ wt st',
    CoreBecomes c { core s c with xfers := (core s c).xfers.filterMap (cutLine tag st idx), waiting := wt, st := st' } s
      (xferEnd c tag st idx s) := by
  have h := (CoreBecomes.refl c s).mod fun x => { x with xfers := x.xfers.filterMap (cutLine tag st idx) }
  have he : xferEnd c tag st idx s = xferWake c (modCore c (fun x => { x with xfers := x.xfers.filterMap (cutLine tag st idx) }) s) := rfl
  rcases xferWake_cases c (modCore c (fun x => { x with xfers := x.xfers.filterMap (cutLine tag st idx) }) s) with hw | hw
  · rw [he, hw]
    exact ⟨_, _, h⟩
  · rw [he, hw]
    exact ⟨_, _, h.mod fun x => { x with waiting := .none, st := if x.st = .wait then .run else x.st }⟩

/-- A refused load marks every line of its destination. -/
theorem lsPoisonAt_mark {a n code : Nat} (h : 0 < n) (x : Core) :
    mget (lsPoisonAt a n code x).lsMark (a / 64) = some (BitVec.ofNat 8 code) := by
  have marked (ls : List Nat) (m : SMap (BitVec 8)) (k : Nat) (hk : mget m k = some (BitVec.ofNat 8 code) ∨ k ∈ ls) :
      mget (ls.foldl (fun m l => mput m l (BitVec.ofNat 8 code)) m) k = some (BitVec.ofNat 8 code) := by
    induction ls generalizing m with
    | nil => exact hk.resolve_right (List.not_mem_nil)
    | cons l ls ih =>
      refine ih _ ?_
      by_cases hl : l = k
      · exact .inl (hl ▸ mget_mput_same ..)
      · rw [mget_mput_other _ _ hl]
        exact hk.imp_right fun hm => (List.mem_cons.1 hm).resolve_left (Ne.symm hl)
  refine marked _ _ _ (.inr (List.mem_map.2 ⟨0, List.mem_range.2 (by omega), Nat.zero_add _⟩))

theorem readChunks_cores (g : Gate) (part : Nat) (cs : List (Nat × Nat × Nat)) (s : State) :
    (readChunks g part cs s).1.cores = s.cores := by
  induction cs generalizing s with
  | nil => rfl
  | cons k cs ih => simp only [readChunks, ih, readLine_cores]

theorem memRead_cores (who : Requester) (k off n : Nat) (s : State) : (memRead who k off n s).1.cores = s.cores := by
  simp only [memRead]
  split
  · exact needStack_cores _ _
  · rw [apply_ite Prod.fst, ite_self, readChunks_cores, needStack_cores]

/-- After a line's end: the line is not to be found, and of the core beside it only its wait changes. -/
theorem xferEnd_after (c : Nat) (tag : BitVec 4) (st : Bool) (idx : Nat) (u : State) : let t := xferEnd c tag st idx u
    xferFind (core t c) tag st idx = none ∧ (core t c).ls = (core u c).ls ∧ (core t c).lsMark = (core u c).lsMark ∧
      (core t c).deferTag = (core u c).deferTag ∧ (core t c).lastDefer = (core u c).lastDefer ∧
      (∀ k, k ≠ c → core t k = core u k) ∧ t = { u with cores := t.cores } := by
  intro t
  obtain ⟨wt, st', h⟩ := xferEnd_cases c tag st idx u
  have hcore : core t c = _ := h.at_core
  refine ⟨?_, ?_, ?_, ?_, ?_, h.others, h.rest⟩
  · rw [hcore]
    exact xferFind_cut tag st idx { core u c with waiting := wt, st := st' }
  · rw [hcore]
  · rw [hcore]
  · rw [hcore]
  · rw [hcore]

theorem modCore_core_of_cores {s u : State} (h : u.cores = s.cores) (g : Core → Core) (c : Nat) :
    core (modCore c g u) c = g (core s c) ∧ ∀ k, k ≠ c → core (modCore c g u) k = core s k :=
  ⟨by rw [modCore_core, core_congr h], fun k hk => by rw [modCore_core_other _ _ hk.symm, core_congr h]⟩

section
variable {c : BitVec 7} {tag : BitVec 4} {idx : BitVec 16} {f : Xfer} {r : XferLine} {p : Nat} {s : State}
  (hp : coreHolder s c.toNat = some p) (hc : f.cache = 2) (ht : tracked s p f.win r.off = false)

section
variable (hf : xferFind (core s c.toNat) tag false idx.toNat = some (f, r))
  (hx : xferCheck (core s c.toNat) f.win false [(r.off, r.ls)] r.len = none)
include hp hc ht hf hx

/-- A line that arrives past the caches is what its window's memory answers. -/
theorem exec_xldLineArrival : let q := memRead (.core c) f.win r.off r.len (touch p f.win s)
    exec (.xldLineArrival c tag idx []) s = done s (xferEnd c.toNat tag false idx.toNat (modCore c.toNat
      (if q.2.1 = 0 then lsWrite r.ls q.2.2 else lsPoisonAt r.ls r.len (0x10 + q.2.1)) q.1)) := by
  intro q
  have hcc : cached (touch p f.win s) c.toNat p f.cache = false := by rw [cached, hc]; rfl
  have htt : tracked (touch p f.win s) p f.win r.off = false := ht
  have hxx : xferCheck (core (touch p f.win s) c.toNat) f.win false [(r.off, r.ls)] r.len = none := hx
  have hl : lineData c.toNat p f r (touch p f.win s) = (q.1, some (q.2.1, q.2.2)) := by
    rw [lineData]
    dsimp only
    rw [hxx, hcc, htt]
    simp only [ne_eq, not_true_eq_false, if_false, Bool.false_eq_true, Bool.not_true, BitVec.ofNat_toNat, BitVec.setWidth_eq]
    rfl
  show done s (xldArrives c.toNat tag idx.toNat [] s) = _
  rw [xldArrives, hf, hp]
  dsimp only
  rw [upsetLines, List.foldl_nil, hl]

theorem runs_xldLineArrival_data : let q := memRead (.core c) f.win r.off r.len (touch p f.win s)
    q.2.1 = 0 → Runs (.xldLineArrival c tag idx []) s fun t => (core t c.toNat).ls = mwrite (core s c.toNat).ls r.ls q.2.2 ∧
      xferFind (core t c.toNat) tag false idx.toNat = none ∧ (∀ k, k ≠ c.toNat → core t k = core s k) ∧ t.q = q.1.q := by
  intro q h0
  have he := exec_xldLineArrival hp hc ht hf hx
  dsimp only at he
  rw [if_pos h0] at he
  obtain ⟨hat, hot⟩ := modCore_core_of_cores (s := s) (memRead_cores (.core c) f.win r.off r.len (touch p f.win s))
    (lsWrite r.ls q.2.2) c.toNat
  obtain ⟨hfind, hls, -, -, -, hother, hrest⟩ := xferEnd_after c.toNat tag false idx.toNat (modCore c.toNat (lsWrite r.ls q.2.2) q.1)
  refine runs_done he ⟨?_, by rw [after_core, hfind], fun k hk => by rw [after_core, hother k hk, hot k hk], ?_⟩
  · rw [after_core, hls, hat]
    rfl
  · rw [after_q, hrest]
    rfl

theorem runs_xldLineArrival_refused (hn : 0 < r.len) : let q := memRead (.core c) f.win r.off r.len (touch p f.win s)
    q.2.1 ≠ 0 → Runs (.xldLineArrival c tag idx []) s fun t => (core t c.toNat).ls = (core s c.toNat).ls ∧
      mget (core t c.toNat).lsMark (r.ls / 64) = some (BitVec.ofNat 8 (0x10 + q.2.1)) ∧
      xferFind (core t c.toNat) tag false idx.toNat = none ∧ (∀ k, k ≠ c.toNat → core t k = core s k) := by
  intro q h0
  have he := exec_xldLineArrival hp hc ht hf hx
  dsimp only at he
  rw [if_neg h0] at he
  obtain ⟨hat, hot⟩ := modCore_core_of_cores (s := s) (memRead_cores (.core c) f.win r.off r.len (touch p f.win s))
    (lsPoisonAt r.ls r.len (0x10 + q.2.1)) c.toNat
  obtain ⟨hfind, hls, hmark, -, -, hother, -⟩ := xferEnd_after c.toNat tag false idx.toNat
    (modCore c.toNat (lsPoisonAt r.ls r.len (0x10 + q.2.1)) q.1)
  refine runs_done he ⟨?_, ?_, by rw [after_core, hfind], fun k hk => by rw [after_core, hother k hk, hot k hk]⟩
  · rw [after_core, hls, hat]
    rfl
  · rw [after_core, hmark, hat, lsPoisonAt_mark hn]

end

section
variable (hf : xferFind (core s c.toNat) tag true idx.toNat = some (f, r))
include hp ht hf

/-- The response to a line past the caches that memory takes. -/
theorem xstResponds_taken (hq : (storeAnswer c.toNat p f r s).2 = 0) : xstResponds c.toNat tag idx.toNat [] s =
    xferEnd c.toNat tag true idx.toNat (storeAnswer c.toNat p f r s).1 := by
  have hl : lineStore c.toNat p f r s = ((storeAnswer c.toNat p f r s).1, some (storeAnswer c.toNat p f r s).2) := by
    simp [lineStore, ht, storeAnswer]
  rw [xstResponds, hf, hp]
  dsimp only
  rw [upsetLines, List.foldl_nil, hl]
  dsimp only
  rw [if_pos hq]

theorem runs_xstResponse_taken (hq : (storeAnswer c.toNat p f r s).2 = 0) : Runs (.xstResponse c tag idx []) s fun t =>
    xferFind (core t c.toNat) tag true idx.toNat = none ∧ (core t c.toNat).deferTag = (core s c.toNat).deferTag ∧
      t.mem = (storeAnswer c.toNat p f r s).1.mem ∧ (∀ k, k ≠ c.toNat → core t k = core s k) := by
  have hc := storeAnswer_cores c.toNat p f r s
  obtain ⟨hfind, -, -, hdefer, -, hother, hrest⟩ := xferEnd_after c.toNat tag true idx.toNat (storeAnswer c.toNat p f r s).1
  rw [runs_xstResponse, xstResponds_taken hp ht hf hq]
  refine ⟨by rw [after_core, hfind], by rw [after_core, hdefer, core_congr hc], ?_, fun k hk => by rw [after_core, hother k hk, core_congr hc]⟩
  rw [after_mem, hrest]

theorem runs_xstResponse_deferred (hq : (storeAnswer c.toNat p f r s).2 ≠ 0) : Runs (.xstResponse c tag idx []) s fun t =>
    xferFind (core t c.toNat) tag true idx.toNat = none ∧ (core t c.toNat).deferTag = (core s c.toNat).deferTag ++ [tag] ∧
      (core t c.toNat).lastDefer = BitVec.ofNat 64 (0x10 + (storeAnswer c.toNat p f r s).2) := by
  obtain ⟨hdefer, hlast, -, -⟩ := xstResponds_refused_core hp ht hf hq
  obtain ⟨hfind, -⟩ := xferEnd_after c.toNat tag true idx.toNat
    (defer c.toNat (storeAnswer c.toNat p f r s).2 tag (storeAnswer c.toNat p f r s).1)
  rw [runs_xstResponse]
  refine ⟨?_, by rw [after_core, hdefer], by rw [after_core, hlast]⟩
  rw [after_core, xstResponds_refused hp ht hf hq, hfind]

end
end

theorem slice_whole (b : Bytes) : slice b 0 b.length = b := by simp [slice]

theorem storeAnswer_eq (c : BitVec 7) (p : Nat) (f : Xfer) (r : XferLine) (s : State) : storeAnswer c.toNat p f r s =
    memWrite (.core c) f.win r.off r.data
      (l2Drop (c.toNat / 16) p (resolve s (.core c) f.win).wd.stack (gateAddr (resolve s (.core c) f.win) r.off / 64) s) := by
  have hc : BitVec.ofNat 7 c.toNat = c := BitVec.ofNat_toNat 7 c ▸ BitVec.setWidth_eq c
  simp only [storeAnswer, hc]

/-- Settles O24. -/
theorem transfers : Obligations.Transfers := by
  unfold Obligations.Transfers
  intro c s x
  refine ⟨fun w hi hc => ⟨?_, ?_⟩, fun tag idx f r p hp hc ht => ⟨?_, ?_⟩⟩
  · intro hw ha hb hd rows es
    refine ⟨fun ho => xld_waits hw hc ha hb hd hi ho, fun ho hl => ⟨fun hx => xld_starts hw hc ha hb hd hi ho hl hx, fun hv => ?_⟩⟩
    refine xld_faults (e := (0x11, descAddr x w.da 0)) hw hc ha hb hd hi ho hl ?_
    rw [xferRows, wRows, List.range_succ_eq_map, List.map_cons]
    exact xferCheck_invalid hv
  · intro hw ha hb hd hc ho rows hl hx
    exact xst_starts hi hw ha hb hd hc ho hl hx
  · intro hf hx q
    rw [slice_whole]
    exact ⟨runs_xldLineArrival_data hp hc ht hf hx, fun h hn => runs_xldLineArrival_refused hp hc ht hf hx hn h⟩
  · intro hf g q
    have hq : q = storeAnswer c.toNat p f r s := (storeAnswer_eq c p f r s).symm
    rw [hq]
    exact ⟨runs_xstResponse_taken hp ht hf, runs_xstResponse_deferred hp ht hf⟩

end Sys2Proof.Machine
end

section
/-! SUPPORT. Memory: lines read back as written, stacks stay canonical, requests are answered (R227–R231, R237). -/

namespace Sys2Proof.Machine

set_option Elab.async false

/-! ### What the fault log leaves alone -/

/-- What a logged fault changes: the mail's log, the domains, the event registers and what is sent. -/
def FaultFrame (s t : State) : Prop := ∃ m p q o, t = { s with mail := m, power := p, q := q, out := o }

theorem FaultFrame.refl (s : State) : FaultFrame s s := ⟨_, _, _, _, rfl⟩

theorem FaultFrame.trans {s t u : State} (h : FaultFrame s t) (k : FaultFrame t u) : FaultFrame s u := by
  obtain ⟨m, p, q, o, rfl⟩ := h
  obtain ⟨m', p', q', o', rfl⟩ := k
  exact ⟨m', p', q', o', rfl⟩

theorem FaultFrame.ite {s t u : State} {c : Prop} [Decidable c] (h : FaultFrame s t) (k : FaultFrame s u) :
    FaultFrame s (if c then t else u) := by
  split
  · exact h
  · exact k

theorem raiseEvent_frame (n : Nat) (s : State) : FaultFrame s (raiseEvent n s) := by
  obtain ⟨q, o, h⟩ := raiseEvent_shape n s
  exact ⟨_, _, q, o, h⟩

theorem logFault_frame (a b c d e f g h : Nat) (s : State) : FaultFrame s (logFault a b c d e f g h s) := by
  have hr (t : State) (k : FaultFrame s t) : FaultFrame s (if 3 ≤ b then raiseEvent 0 t else t) :=
    .ite (k.trans (raiseEvent_frame 0 t)) k
  have he (o : Out) (t : State) (k : FaultFrame s t) : FaultFrame s (emit o t) := k.trans ⟨_, _, _, _, rfl⟩
  refine hr _ (he _ _ (.ite (.ite ?_ ?_) ?_))
  · exact FaultFrame.trans (.ite ⟨_, _, _, _, rfl⟩ ⟨_, _, _, _, rfl⟩) ⟨_, _, _, _, rfl⟩
  · exact FaultFrame.trans (.ite ⟨_, _, _, _, rfl⟩ ⟨_, _, _, _, rfl⟩) ⟨_, _, _, _, rfl⟩
  · exact .ite ⟨_, _, _, _, rfl⟩ ⟨_, _, _, _, rfl⟩

theorem logFault_mem (a b c d e f g h : Nat) (s : State) : (logFault a b c d e f g h s).mem = s.mem := by
  obtain ⟨m, p, q, o, k⟩ := logFault_frame a b c d e f g h s
  rw [k]

theorem alert_mem (n : Nat) (s : State) : (alert n s).mem = s.mem := by
  obtain ⟨q, o, h⟩ := alert_shape n s
  rw [h]

theorem countUncorrectable_mem (n : Nat) (s : State) : (countUncorrectable n s).mem = s.mem := by
  unfold countUncorrectable
  dsimp only
  rw [apply_ite State.mem, alert_mem, logFault_mem]
  exact ite_self _

theorem needStack_mem (n : Nat) (s : State) : (needStack n s).mem = s.mem := by
  obtain ⟨p, v, h⟩ := needStack_shape n s
  rw [h]

theorem readLine_mem (g : Gate) (p l : Nat) (s : State) : (readLine g p l s).1.mem = s.mem := by
  unfold readLine
  dsimp only
  split
  · exact (countUncorrectable_mem _ _).trans (logFault_mem _ _ _ _ _ _ _ _ _)
  · generalize hu : (if (lineInfo s g.wd.stack l).ecc = .corrected then logFault 1 1 1 g.wd.stack l p 0 0 s else s) = u
    have hm : u.mem = s.mem := by
      rw [← hu, apply_ite State.mem, logFault_mem]
      exact ite_self _
    split
    · exact (logFault_mem _ _ _ _ _ _ _ _ _).trans hm
    · exact hm
    · split
      · exact (logFault_mem _ _ _ _ _ _ _ _ _).trans hm
      · exact hm

/-! ### The canonical form of the stacks -/

/-- Every stack is in its canonical form. -/
def StacksWf (s : State) : Prop :=
  ∀ n, mwf 0 (stackOf s n).bytes = true ∧ mwf LineInfo.cleared (stackOf s n).lines = true

theorem StacksWf.congr {s t : State} (h : t.mem = s.mem) (hs : StacksWf s) : StacksWf t := fun n => by
  rw [stackOf, h]
  exact hs n

theorem StacksWf.setStack {s : State} (n : Nat) {x : Stack} (hb : mwf 0 x.bytes = true)
    (hl : mwf LineInfo.cleared x.lines = true) (hs : StacksWf s) : StacksWf (setStack n x s) := fun k => by
  by_cases h : n = k
  · subst h
    rw [setStack_stackOf]
    exact ⟨hb, hl⟩
  · rw [setStack_stackOf_other s x h]
    exact hs k

theorem StacksWf.putLine {s : State} (n l : Nat) (b : Bytes) (i : LineInfo) (hs : StacksWf s) :
    StacksWf (putLine n l b i s) :=
  hs.setStack n (mwf_mwrite _ _ (hs n).1) (mwf_mset _ _ (hs n).2)

theorem StacksWf.readLine {s : State} (g : Gate) (p l : Nat) (hs : StacksWf s) : StacksWf (readLine g p l s).1 :=
  hs.congr (readLine_mem g p l s)

theorem StacksWf.needStack {s : State} (n : Nat) (hs : StacksWf s) : StacksWf (needStack n s) :=
  hs.congr (needStack_mem n s)

theorem StacksWf.writeChunks {s : State} (g : Gate) (p : Nat) (cs : List (Nat × Nat × Nat)) (b : Bytes) (hs : StacksWf s) :
    StacksWf (writeChunks g p cs b s).1 := by
  induction cs generalizing b s with
  | nil => exact hs
  | cons c cs ih =>
    obtain ⟨l, o, n⟩ := c
    rw [Machine.writeChunks]
    refine ih _ ?_
    split
    · exact hs.putLine _ _ _ _
    · dsimp only
      split
      · exact hs.readLine _ _ _
      · exact (hs.readLine _ _ _).putLine _ _ _ _

theorem StacksWf.readChunks {s : State} (g : Gate) (p : Nat) (cs : List (Nat × Nat × Nat)) (hs : StacksWf s) :
    StacksWf (readChunks g p cs s).1 := by
  induction cs generalizing s with
  | nil => exact hs
  | cons c cs ih =>
    obtain ⟨l, o, n⟩ := c
    rw [Machine.readChunks]
    exact ih (hs.readLine _ _ _)

theorem StacksWf.memWrite {s : State} (who : Requester) (k off : Nat) (b : Bytes) (hs : StacksWf s) :
    StacksWf (memWrite who k off b s).1 := by
  unfold Machine.memWrite
  dsimp only
  split
  · exact hs.needStack _
  · exact (hs.needStack _).writeChunks _ _ _ _

theorem StacksWf.memRead {s : State} (who : Requester) (k off len : Nat) (hs : StacksWf s) :
    StacksWf (memRead who k off len s).1 := by
  unfold Machine.memRead
  dsimp only
  split
  · exact hs.needStack _
  · split <;> exact (hs.needStack _).readChunks _ _ _

theorem StacksWf.clearLines {s : State} (n lo k : Nat) (hs : StacksWf s) : StacksWf (clearLines n lo k s) :=
  hs.setStack n (mwf_mclear _ _ (hs n).1) (mwf_mclear _ _ (hs n).2)

theorem StacksWf.upsetLines {s : State} (n : Nat) (us : List (BitVec 30 × Bool)) (hs : StacksWf s) :
    StacksWf (upsetLines n us s) :=
  List.foldlRecOn us _ hs fun _ h u _ => h.putLine n u.1.toNat _ _

/-- Settles O14: what each operation writes goes through the maps' own operations, which keep their form. -/
theorem memoryStaysCanonical : Obligations.MemoryStaysCanonical := by
  unfold Obligations.MemoryStaysCanonical
  intro wf who k off b s hs
  have hs : StacksWf s := hs
  exact ⟨hs.memWrite who k off b, hs.memRead who k off _, fun n l c => hs.clearLines n l c, fun n l => hs.putLine n l _ _,
    fun n us => hs.upsetLines n us⟩

/-! ### Lines -/

theorem lineInfo_putLine (n l : Nat) (b : Bytes) (i : LineInfo) (s : State) : lineInfo (putLine n l b i s) n l = i := by
  rw [lineInfo, putLine, setStack_stackOf, mgetD_mset_same]

theorem lineCipher_putLine (n l : Nat) {b : Bytes} (hb : b.length = 64) (i : LineInfo) (s : State) :
    lineCipher (putLine n l b i s) n l = b := by
  have hp : padTo 64 b = b := by simp [padTo, hb]
  rw [lineCipher, putLine, setStack_stackOf, hp, ← hb]
  exact mread_mwrite _ _ _

theorem mread_congr {m m' : SMap Byte} {a k : Nat} (h : ∀ j, a ≤ j → j < a + k → mgetD m j 0 = mgetD m' j 0) :
    mread m a k = mread m' a k := by
  induction k generalizing a with
  | zero => rfl
  | succ k ih => rw [mread, mread, h a (by omega) (by omega), ih fun j h1 h2 => h j (by omega) (by omega)]

/-- Every other line stays as it was. -/
theorem putLine_other {n l n' l' : Nat} (h : (n', l') ≠ (n, l)) {b : Bytes} (hb : b.length = 64) (i : LineInfo) (s : State) :
    lineInfo (putLine n l b i s) n' l' = lineInfo s n' l' ∧ lineCipher (putLine n l b i s) n' l' = lineCipher s n' l' := by
  unfold lineInfo lineCipher putLine
  by_cases hn : n = n'
  · subst hn
    have hl : l' ≠ l := fun hl => h (by rw [hl])
    have hp : padTo 64 b = b := by simp [padTo, hb]
    rw [setStack_stackOf]
    refine ⟨mgetD_mset_other _ _ _ hl.symm, mread_congr fun j h1 h2 => ?_⟩
    rw [hp]
    exact mgetD_mwrite_other b (by omega)
  · rw [setStack_stackOf_other s _ hn]
    exact ⟨rfl, rfl⟩

theorem length_leBytes (n v : Nat) : (leBytes n v).length = n := by
  induction n generalizing v with
  | zero => rfl
  | succ n ih => simp [leBytes, ih]

theorem leNat_of_leBytes (n v : Nat) : leNat (leBytes n v) = v % 256 ^ n := by
  induction n generalizing v with
  | zero => simp [leBytes, leNat, Nat.mod_one]
  | succ n ih =>
    have h : (BitVec.ofNat 8 v).toNat = v % 256 := BitVec.toNat_ofNat ..
    rw [leBytes, leNat, ih, h, Nat.pow_succ', Nat.mod_mul]

theorem leNat_lt (b : Bytes) : leNat b < 256 ^ b.length := by
  induction b with
  | nil => simp [leNat]
  | cons x b ih =>
    have := x.isLt
    simp only [leNat, List.length_cons, Nat.pow_succ]
    omega

theorem leBytes_leNat (b : Bytes) : leBytes b.length (leNat b) = b := by
  induction b with
  | nil => rfl
  | cons x b ih =>
    have := x.isLt
    have h1 : (x.toNat + 256 * leNat b) / 256 = leNat b := by omega
    have h2 : BitVec.ofNat 8 (x.toNat + 256 * leNat b) = x := BitVec.eq_of_toNat_eq (by simp; omega)
    simp only [leNat, List.length_cons, leBytes, h1, h2, ih]

theorem lineEncrypt_length (mk : Digest) (tw : BitVec 128) (p : Bytes) : (lineEncrypt mk tw p).length = 64 :=
  length_leBytes _ _

theorem lineDecrypt_lineEncrypt (mk : Digest) (tw : BitVec 128) {p : Bytes} (h : p.length = 64) :
    lineDecrypt mk tw (lineEncrypt mk tw p) = p := by
  have hw : (256 : Nat) ^ 64 = 2 ^ 512 := by rw [show (256 : Nat) = 2 ^ 8 from rfl, ← Nat.pow_mul]
  have hp : leNat p < 2 ^ 512 := by
    rw [← hw, ← h]
    exact leNat_lt p
  have hl (x : BitVec 512) : leNat (leBytes 64 x.toNat) = x.toNat := by
    rw [leNat_of_leBytes, hw, Nat.mod_eq_of_lt x.isLt]
  rw [lineDecrypt, lineEncrypt, hl, BitVec.ofNat_toNat, BitVec.setWidth_eq, Equiv.symm_apply_apply, BitVec.toNat_ofNat,
    Nat.mod_eq_of_lt hp, ← h]
  exact leBytes_leNat p

/-- A line written through a gate reads back through it. -/
theorem readLine_writeLine (g : Gate) (part line : Nat) {plain : Bytes} (h : plain.length = 64) (s : State) :
    readLine g part line (writeLine g line plain s) = (writeLine g line plain s, 0, plain) := by
  let mk := g.key.getD 0
  let tw := lineTweak line g.wd.stack g.tweak g.wd.tagged
  let i : LineInfo := { mark := .normal, tag := if g.wd.tagged then lineTag mk tw (lineEncrypt mk tw plain) else 0, ecc := .clean }
  have hi : lineInfo (writeLine g line plain s) g.wd.stack line = i := lineInfo_putLine ..
  have hc : lineCipher (writeLine g line plain s) g.wd.stack line = lineEncrypt mk tw plain :=
    lineCipher_putLine _ _ (lineEncrypt_length ..) _ _
  generalize writeLine g line plain s = t at hi hc
  have hm : i.mark = .normal := rfl
  have he : ¬ i.ecc = .uncorrectable := nofun
  have he' : ¬ i.ecc = .corrected := nofun
  rw [readLine, hi]
  dsimp only
  rw [if_neg he, if_neg he', hm]
  dsimp only
  rw [hc, lineDecrypt_lineEncrypt _ _ h, if_neg]
  rintro ⟨ht, hne⟩
  exact hne (if_pos ht).symm

theorem memoryReadsBack : Says.memoryReadsBack := by
  intro g part line plain s h
  exact ⟨readLine_writeLine g part line h s, fun n l hn => putLine_other hn (lineEncrypt_length _ _ _) _ s,
    keeps_of_pieced rfl⟩

/-! ### Requests -/

section
variable {r : MemReq} {s : State} (hc : ∀ c, r.who ≠ .core c) (hn : ∀ n, r.who ≠ .scrub n) (h0 : r.slot = 0)
  (hu : r.upset = []) (hs : slotServes s (resolve s r.who r.win.toNat).wd.stack r.who 0 = true)
include hc hn h0 hu hs

/-- A request whose slot serves it and that upsets no line is the access it asks for, with its answer. -/
theorem memoryRequest_served : memoryRequest r s = match r.write with
    | none =>
      let q := memRead r.who r.win.toNat r.off.toNat (r.lenM1.toNat + 1) s
      emit (if q.2.1 = 0 then .memData r.who q.2.2 else .memRefused r.who (refusalName q.2.1)) q.1
    | some b =>
      let q := memWrite r.who r.win.toNat r.off.toNat (padTo (r.lenM1.toNat + 1) b) s
      emit (if q.2 = 0 then .memDone r.who else .memRefused r.who (refusalName q.2)) q.1 := by
  obtain ⟨who, win, off, len, write, slot, upset⟩ := r
  subst h0 hu
  have hs' : ¬ (!slotServes s (resolve s who win.toNat).wd.stack who 0) = true := by simpa using hs
  cases who with
  | core c => exact absurd rfl (hc c)
  | scrub n => exact absurd rfl (hn n)
  | host p => exact if_neg hs'
  | engine p => exact if_neg hs'
  | desk p => exact if_neg hs'

end

theorem memoryRequests : Says.memoryRequests := by
  intro r s hc hn h0 hu hs
  have he : exec (.memoryRequest r) s = done s (memoryRequest r s) := rfl
  rw [memoryRequest_served hc hn h0 hu hs] at he
  refine ⟨fun hw => ?_, fun b hw => ?_⟩
  · rw [hw] at he
    dsimp only at he
    rw [he]
    exact ⟨fun h => by rw [if_pos h]; rfl, fun h => by rw [if_neg h]; rfl⟩
  · rw [hw] at he
    dsimp only at he
    rw [he]
    exact ⟨fun h => by rw [if_pos h]; rfl, fun h => by rw [if_neg h]; rfl⟩

/-- Settles O15. -/
theorem memory : Obligations.Memory := ⟨memoryReadsBack, memoryRequests⟩

end Sys2Proof.Machine
end

section
/-! SUPPORT. What a boot keeps of the boot-restart register, the root lock and the release (chapter 04). -/

namespace Sys2Proof.Machine

set_option Elab.async false

/-! ### What every part of a boot keeps -/

/-- What no part of a boot after its first step changes: the boot-restart register's counts and reason, the root lock, the
fuse cells, the release and PD3; and a boot does not return to the held state. -/
structure BootKeeps (s t : State) : Prop where
  attempts : t.boot.attempts = s.boot.attempts
  reason : t.boot.restartReason = s.boot.restartReason
  rootLock : t.fuses.rootLock = s.fuses.rootLock
  cells : t.fuses.cells = s.fuses.cells
  releaseDue : t.aon.releaseDue = s.aon.releaseDue
  pd3 : domOf t 3 = domOf s 3
  begun : s.boot.phase ≠ .held → t.boot.phase ≠ .held

namespace BootKeeps

theorem refl (s : State) : BootKeeps s s := ⟨rfl, rfl, rfl, rfl, rfl, rfl, id⟩

theorem trans {s t u : State} (h : BootKeeps s t) (k : BootKeeps t u) : BootKeeps s u :=
  ⟨k.attempts.trans h.attempts, k.reason.trans h.reason, k.rootLock.trans h.rootLock, k.cells.trans h.cells, k.releaseDue.trans h.releaseDue,
    k.pd3.trans h.pd3, fun hs => k.begun (h.begun hs)⟩

/-- Composition with the later step named first. -/
theorem comp {s t u : State} (k : BootKeeps t u) (h : BootKeeps s t) : BootKeeps s u := h.trans k

theorem ite {s t u : State} {c : Prop} [Decidable c] (h : BootKeeps s t) (k : BootKeeps s u) :
    BootKeeps s (if c then t else u) := by
  split
  · exact h
  · exact k

theorem foldl {α : Type} {f : State → α → State} (h : ∀ t a, BootKeeps t (f t a)) (l : List α) (s : State) :
    BootKeeps s (l.foldl f s) :=
  List.foldlRecOn (motive := BootKeeps s) l f (refl s) fun t ht a _ => ht.trans (h t a)

/-- A step that leaves the always-on block, the domains, the boot and the root lock alone. -/
theorem of_same {s t : State} (ha : t.aon = s.aon) (hp : t.power.dom = s.power.dom) (hb : t.boot = s.boot)
    (hf : t.fuses = s.fuses) : BootKeeps s t :=
  ⟨by rw [hb], by rw [hb], by rw [hf], by rw [hf], by rw [ha], by rw [domOf, domOf, hp], by rw [hb]; exact id⟩

theorem setDom {n : Nat} (d : Dom) (h : n ≠ 3) (s : State) : BootKeeps s (setDom n d s) :=
  ⟨rfl, rfl, rfl, rfl, rfl, setDom_domOf_other s d h, id⟩

/-- A boot that ends keeps them, and one that begins a milestone does. -/
theorem endBoot (o : BootOutcome) (s : State) : BootKeeps s (endBoot o s) :=
  ⟨rfl, rfl, rfl, rfl, rfl, rfl, fun _ => nofun⟩

theorem milestone (n : Nat) (s : State) : BootKeeps s { s with boot := { s.boot with phase := .boot n } } :=
  ⟨rfl, rfl, rfl, rfl, rfl, rfl, fun _ => nofun⟩

theorem raiseEvent (n : Nat) (s : State) : BootKeeps s (raiseEvent n s) := by
  obtain ⟨q, o, h⟩ := raiseEvent_shape n s
  rw [h]
  exact of_same rfl rfl rfl rfl

theorem alert (n : Nat) (s : State) : BootKeeps s (alert n s) := by
  obtain ⟨q, o, h⟩ := alert_shape n s
  rw [h]
  exact ⟨rfl, rfl, rfl, rfl, rfl, rfl, id⟩

theorem logFault (a b c d e f g h : Nat) (s : State) : BootKeeps s (logFault a b c d e f g h s) := by
  have he (o : Out) (t : State) (k : BootKeeps s t) : BootKeeps s (emit o t) := k.trans (of_same rfl rfl rfl rfl)
  have hr (t : State) (k : BootKeeps s t) : BootKeeps s (if 3 ≤ b then Machine.raiseEvent 0 t else t) :=
    ite (k.trans (raiseEvent 0 t)) k
  have hl {c : Prop} [Decidable c] {m m' : Mail} :
      BootKeeps s (if c then { s with mail := m } else { s with mail := m' }) :=
    ite (of_same rfl rfl rfl rfl) (of_same rfl rfl rfl rfl)
  have hb {t : State} (m : Mail) : BootKeeps t { t with mail := m } := of_same rfl rfl rfl rfl
  exact hr _ (he _ _ (ite (ite ((hl.trans (hb _)).trans (setDom _ (by decide) _)) (hl.trans (hb _))) hl))

/-! ### The parts of a boot -/

theorem mirror (m : BitVec 8) (b : Bytes) (s : State) : BootKeeps s (mirror m b s) := by
  simp only [Machine.mirror, twinSend]
  split_ifs <;> exact of_same rfl rfl rfl rfl

theorem installSlot (n : Nat) (a : BitVec 64) (k t : Digest) (s : State) : BootKeeps s (installSlot n a k t s) :=
  comp (mirror _ _ _) (of_same rfl rfl rfl rfl)

theorem journal (jt bk v c : BitVec 8) (a : BitVec 64) (n : BitVec 32) (s : State) :
    BootKeeps s (journal jt bk v c a n s) := by
  unfold Machine.journal
  dsimp only
  split <;> exact of_same rfl rfl rfl rfl

theorem consumeTrial (b : Bool) (s : State) : BootKeeps s (consumeTrial b s) := by
  cases b <;> exact comp (journal _ _ _ _ _ _ _) (of_same rfl rfl rfl rfl)

theorem addAddr (ip : BitVec 128) (p : BitVec 8) (k : BitVec 2) (s : State) : BootKeeps s (addAddr ip p k s) :=
  ite (refl s) (of_same rfl rfl rfl rfl)

theorem netUp (s : State) : BootKeeps s (netUp s) :=
  comp (foldl (fun t _ => addAddr _ _ _ t) _ _) (comp (addAddr _ _ _ _) (of_same rfl rfl rfl rfl))

theorem bankFails (l c : Nat) (r : RestartReason) (o : BootOutcome) (s : State) : BootKeeps s (bankFails l c r o s) := by
  have hl (b : Boot) (k : b.attempts = s.boot.attempts ∧ b.restartReason = s.boot.restartReason ∧ b.phase = s.boot.phase) :
      BootKeeps s { s with boot := b } := ⟨k.1, k.2.1, rfl, rfl, rfl, rfl, fun h => by rw [k.2.2]; exact h⟩
  exact ite (comp (journal _ _ _ _ _ _ _) (hl _ ⟨rfl, rfl, rfl⟩))
    (comp (endBoot _ _) (ite (comp (netUp _) (hl _ ⟨rfl, rfl, rfl⟩)) (hl _ ⟨rfl, rfl, rfl⟩)))

theorem trimLog_keeps (n : Nat) (b : Boot) : (trimLog n b).attempts = b.attempts ∧
    (trimLog n b).restartReason = b.restartReason ∧ (trimLog n b).phase = b.phase := by
  induction n generalizing b with
  | zero => exact ⟨rfl, rfl, rfl⟩
  | succ n ih =>
    rw [trimLog]
    split
    · split
      · exact ih _
      · exact ⟨rfl, rfl, rfl⟩
    · exact ⟨rfl, rfl, rfl⟩

theorem extend (r t : Nat) (b : Bytes) (d : Digest) (s : State) : BootKeeps s (extend r t b d s) := by
  obtain ⟨ha, hr, hp⟩ := trimLog_keeps 8 { s.boot with
    pm := mset s.boot.pm r (sha384 (digBytes (mgetD s.boot.pm r 0) ++ digBytes d)) 0
    log := s.boot.log ++ [{ reg := BitVec.ofNat 8 r, etype := BitVec.ofNat 8 t, seq := s.boot.logSeq + 1, tick := tick s,
                            d := d, data := b }]
    logSeq := s.boot.logSeq + 1 }
  exact ⟨ha, hr, rfl, rfl, rfl, rfl, fun h hh => h (hp.symm.trans hh)⟩

theorem loadLayer (l : Nat) (s : State) : BootKeeps s (loadLayer l s) := 
  comp (extend _ _ _ _ _) ⟨rfl, rfl, rfl, rfl, rfl, rfl, id⟩

theorem romPostmarks (s : State) : BootKeeps s (romPostmarks s) := 
  comp (extend _ _ _ _ _) (comp (extend _ _ _ _ _) (extend _ _ _ _ _))

theorem bootSlot (n : Nat) (a : BitVec 64) (k : Digest) (s : State) : BootKeeps s (bootSlot n a k s) :=
  of_same rfl rfl rfl rfl

theorem deriveRom (u : Digest) (s : State) : BootKeeps s (deriveRom u s) := by
  show BootKeeps s (Machine.deriveRom u s)
  unfold Machine.deriveRom
  extract_lets
  split
  · exact refl s
  · extract_lets cdi idkEc idkMl lakEc lakMl idkPub lakPub did s1 s2 s3 s4 s5
    have h2 : BootKeeps s s2 := ((bootSlot _ _ _ s).trans (bootSlot _ _ _ _)).trans (bootSlot _ _ _ _)
    have h4 : BootKeeps s s4 := ((h2.trans (bootSlot _ _ _ _)).trans (bootSlot _ _ _ _)).trans (bootSlot _ _ _ _)
    have h5 : BootKeeps s s5 := (h4.trans (bootSlot _ _ _ _)).trans (bootSlot _ _ _ _)
    clear_value s5
    exact h5.trans (of_same rfl rfl rfl rfl)

theorem deriveWfw (s : State) : BootKeeps s (deriveWfw s) := by
  show BootKeeps s (Machine.deriveWfw s)
  unfold Machine.deriveWfw
  split
  · exact refl s
  · extract_lets cdi cdio akEc akMl akPub s1 s2 s3
    have h2 : BootKeeps s s2 := ((bootSlot _ _ _ s).trans (bootSlot _ _ _ _)).trans (bootSlot _ _ _ _)
    have h3 : BootKeeps s s3 := h2.trans (of_same rfl rfl rfl rfl)
    clear_value s3
    exact h3.trans (of_same rfl rfl rfl rfl)

theorem anchorBlock (s : State) : BootKeeps s (anchorBlock s) := by
  unfold Machine.anchorBlock
  dsimp only
  split
  · exact ⟨rfl, rfl, rfl, rfl, rfl, rfl, id⟩
  split
  · exact of_same rfl rfl rfl rfl
  · split
    · split
      · refine comp (foldl (fun t _ => ?_) _ _) (of_same rfl rfl rfl rfl)
        split
        · exact installSlot _ _ _ _ _
        · exact logFault _ _ _ _ _ _ _ _ _
      · exact comp (logFault _ _ _ _ _ _ _ _ _) (of_same rfl rfl rfl rfl)
    · exact ⟨rfl, rfl, rfl, rfl, rfl, rfl, id⟩
  · exact ⟨rfl, rfl, rfl, rfl, rfl, rfl, id⟩

theorem loadConfig (s : State) : BootKeeps s (loadConfig s) := by
  unfold Machine.loadConfig
  split
  · exact refl s
  · dsimp only
    split
    · exact of_same rfl rfl rfl rfl
    · exact refl s

theorem ownerExtend (evs : List (BitVec 8 × Digest × Bytes)) (s : State) : BootKeeps s (ownerExtend evs s) :=
  foldl (fun t _ => ite (extend _ _ _ _ t) (ite (extend _ _ _ _ t) (refl t))) evs s

/-- What the ROM's phase starts from: its first step counts the boot and locks the root. -/
def romStart (s : State) : State :=
  Machine.setDom 1 .on (Machine.setDom 2 .on { s with
    boot := { s.boot with phase := .boot 0, outcome := .booting, attempts := satInc s.boot.attempts,
                          restartDue := none, retryUntilReady := true }
    fuses := { s.fuses with rootLock := true } })

theorem bootRom (e : BootEnv) (m : SMap (BitVec 256)) (pick : Option Bool) (s : State) :
    BootKeeps (romStart s) (bootRom e m pick s) := by
  show BootKeeps _ (Machine.bootRom e m pick s)
  unfold Machine.bootRom
  extract_lets b0 f0 u f root degraded corr b1 f1 fl s1
  have hu : romStart s = u := rfl
  rw [hu]
  clear_value u
  have h1 : BootKeeps u s1 := ⟨rfl, rfl, rfl, rfl, rfl, rfl, id⟩
  clear_value s1
  refine ite (endBoot _ _) (ite (endBoot _ _) (ite (endBoot _ _) (ite (h1.trans (endBoot _ _))
    (ite (h1.trans (endBoot _ _)) ?_))))
  split
  · exact h1.trans (endBoot _ _)
  · next b _ =>
    extract_lets s2 s3 s4 s5 b5
    have h2 : BootKeeps u s2 := h1.trans ⟨rfl, rfl, rfl, rfl, rfl, rfl, id⟩
    have h3 : BootKeeps u s3 := ite (h2.trans (consumeTrial _ _)) h2
    have h4 : BootKeeps u s4 := (h3.trans (romPostmarks s3)).trans (loadLayer 1 _)
    have h5 : BootKeeps u s5 := ite h4 (h4.trans (deriveRom _ _))
    clear_value s5 s4 s3
    split
    · exact h3.trans (bankFails _ _ _ _ _)
    · exact h5.trans (milestone 1 _)

/-- The boot nonce is drawn. -/
theorem drawn (n : BitVec 64) (f : Nat) (x : Engines) (s : State) :
    BootKeeps s { s with free := f, boot := { s.boot with bn := n }, eng := x } := ⟨rfl, rfl, rfl, rfl, rfl, rfl, id⟩

theorem bootWfw (e : BootEnv) (s : State) : BootKeeps s (bootWfw e s) := by
  show BootKeeps _ (Machine.bootWfw e s)
  unfold Machine.bootWfw
  extract_lets u u2 b g s1 s2 s3 bad s4 s5 s6 copyBad
  have h1 : BootKeeps s s1 := drawn _ _ _ s
  have h2 : BootKeeps s s2 := (h1.trans (anchorBlock s1)).trans (loadConfig _)
  have h3 : BootKeeps s s3 := ite (h2.trans (of_same rfl rfl rfl rfl)) h2
  have h4 : BootKeeps s s4 := (h3.trans (foldl (fun t l => loadLayer l t) _ _)).trans (deriveWfw _)
  have h5 : BootKeeps s s5 := ite (h4.trans (ownerExtend _ _)) h4
  have h6 : BootKeeps s s6 := h5.trans (foldl (fun t n => setDom _ (by unfold stackPd; omega) t) _ _)
  clear_value bad s6 s5 s4 s3
  split
  · exact h3.trans (bankFails _ _ _ _ _)
  · exact ite h4 (ite (h4.trans (bankFails _ _ _ _ _))
      (comp (netUp _) (h6.trans ⟨rfl, rfl, rfl, rfl, rfl, rfl, fun _ => nofun⟩)))

theorem bootMemory (e : BootEnv) (s : State) : BootKeeps s (bootMemory e s) :=
  ⟨rfl, rfl, rfl, rfl, rfl, rfl, fun _ => nofun⟩

theorem bootTiles (e : BootEnv) (s : State) : BootKeeps s (bootTiles e s) :=
  comp (milestone 4 _) (ite (of_same rfl rfl rfl rfl)
    (comp (foldl (fun t k => setDom _ (by unfold tilePd; omega) t) _ _) (of_same rfl rfl rfl rfl)))

theorem bootReady (s : State) : BootKeeps s (bootReady s) := by
  have alerted {t : State} (bit : Nat) {c : Prop} [Decidable c] : BootKeeps t (if c then Machine.alert bit t else t) :=
    ite (alert _ _) (refl _)
  have hd := (setDom .on (n := 4) (by decide) s).trans (setDom .on (n := 5) (by decide) _)
  exact comp (alerted 3) (comp (alerted 4) (comp (endBoot _ _) (hd.trans ⟨rfl, rfl, rfl, rfl, rfl, rfl, id⟩)))

theorem bootPhase {f : State → State} (hf : ∀ t, BootKeeps t (f t)) (k g : Nat) (s : State) :
    BootKeeps s (bootPhase k g f s) := ite (hf s) (refl s)

/-- A boot counts itself and locks the root, and keeps them from there on. -/
theorem runBoot (e : BootEnv) (m : SMap (BitVec 256)) (pick : Option Bool) (s : State) :
    BootKeeps (romStart s) (runBoot e m pick s) :=
  comp (bootPhase bootReady _ _ _) (comp (bootPhase (bootTiles e) _ _ _) (comp (bootPhase (bootMemory e) _ _ _)
    (ite ((bootRom e m pick s).trans (bootWfw e _)) (bootRom e m pick s))))

end BootKeeps
end Sys2Proof.Machine
end

section
/-! SUPPORT. Boots begin, fail and restart, and the device resets itself (R35, R36, R84–R86, R98, R111, R461, R475). -/

namespace Sys2Proof.Machine

set_option Elab.async false

/-! ### A boot from its start -/

theorem satInc_attempts (a : BitVec 4) : satInc a = if a = 15 then 15 else a + 1 := by
  have h : BitVec.allOnes 4 = 15 := rfl
  unfold satInc
  rw [h]
  split
  · assumption
  · rfl

theorem runBoot_attempts (e : BootEnv) (m : SMap (BitVec 256)) (pick : Option Bool) (s : State) :
    (runBoot e m pick s).boot.attempts = if s.boot.attempts = 15 then 15 else s.boot.attempts + 1 :=
  (BootKeeps.runBoot e m pick s).attempts.trans (satInc_attempts _)

theorem runBoot_rootLock (e : BootEnv) (m : SMap (BitVec 256)) (pick : Option Bool) (s : State) :
    (runBoot e m pick s).fuses.rootLock = true :=
  (BootKeeps.runBoot e m pick s).rootLock

theorem romStart_pd3 (s : State) : domOf (BootKeeps.romStart s) 3 = domOf s 3 :=
  (setDom_domOf_other _ _ (by decide)).trans (setDom_domOf_other _ _ (by decide))

/-- A failing ROM halts the boot where it stands. -/
theorem runBoot_haltedRom {e : BootEnv} (h : e.romOk = false) (m : SMap (BitVec 256)) (pick : Option Bool) (s : State) :
    runBoot e m pick s = endBoot .haltedRom (BootKeeps.romStart s) := by
  have hb : bootRom e m pick s = endBoot .haltedRom (BootKeeps.romStart s) := by
    unfold bootRom
    exact if_pos (by rw [h]; rfl)
  have hp (k g : Nat) (f : State → State) (t : State) : bootPhase k g f (endBoot .haltedRom t) = endBoot .haltedRom t :=
    if_neg fun hk => nomatch hk.1
  have h1 (t : State) {c : Prop} [Decidable c] (f : State) :
      (if (endBoot .haltedRom t).boot.phase = .boot 1 ∧ c then f else endBoot .haltedRom t) = endBoot .haltedRom t :=
    if_neg fun hk => nomatch hk.1
  unfold runBoot
  rw [hb]
  dsimp only
  rw [h1, hp, hp, hp]

/-- Settles O5. -/
theorem releaseBeginsTheBoot : Obligations.ReleaseBeginsTheBoot := by
  unfold Obligations.ReleaseBeginsTheBoot
  intro sense b s hv hr ht hp
  have hno : ¬ ((!s.aon.vddAon) = true ∨ (!s.aon.releaseDue) = true ∨ s.aon.tamperHold = true ∨ s.boot.phase ≠ .held) := by
    simp [hv, hr, ht, hp]
  refine ⟨fun h0 => ?_, fun h0 => ?_⟩
  · have he : internalResetRelease sense b s = runBoot b (senseAll sense s.fuses.cells) none { s with
        fuses := { s.fuses with shadow := decodeShadow (senseAll sense s.fuses.cells) }
        aon := { s.aon with releaseDue := false, testSel := sense.testSel } } := by
      unfold internalResetRelease
      rw [if_neg hno]
      exact if_pos h0
    refine runs_done (u := internalResetRelease sense b s) rfl ?_
    rw [after_boot, after_fuses, after_aon, he]
    have hk := BootKeeps.runBoot b (senseAll sense s.fuses.cells) none { s with
        fuses := { s.fuses with shadow := decodeShadow (senseAll sense s.fuses.cells) }
        aon := { s.aon with releaseDue := false, testSel := sense.testSel } }
    refine ⟨hk.begun nofun, runBoot_attempts _ _ _ _, runBoot_rootLock _ _ _ _, hk.cells, hk.releaseDue, fun hb => ?_⟩
    rw [runBoot_haltedRom hb]
    exact ⟨rfl, rfl⟩
  · refine runs_done (u := internalResetRelease sense b s) rfl ?_
    intro f open_
    have hb : open_ ↔ ((!f.undecodable) = true ∧ (f.code = 0 ∨ f.code = 1)) := by simp [open_]
    by_cases ho : open_
    · have he : internalResetRelease sense b s = { s with
          aon := { s.aon with releaseDue := false, testSel := sense.testSel,
                              ret := { s.aon.ret with testMode := sense.testSel } }
          boot := { s.boot with phase := .testMode sense.testSel }
          fuses := { s.fuses with shadow := f, rootLock := true } } := by
        unfold internalResetRelease
        rw [if_neg hno]
        exact (if_neg h0).trans (if_pos (hb.1 ho))
      rw [he]
      refine ⟨touches_after (same_of_pieced rfl), ?_, ?_, fun _ => ?_, fun hn => absurd ho hn⟩
      · rw [after_fuses]
      · rw [after_aon]
      · rw [after_boot, after_fuses, after_aon]
        exact ⟨rfl, rfl, rfl⟩
    · have he : internalResetRelease sense b s = { s with
          aon := { s.aon with releaseDue := false, testSel := sense.testSel, thermTripLow := true,
                              ret := { s.aon.ret with testSelFault := true } }
          boot := { s.boot with phase := .selFault }
          fuses := { s.fuses with shadow := f } } := by
        unfold internalResetRelease
        rw [if_neg hno]
        exact (if_neg h0).trans (if_neg fun h => ho (hb.2 h))
      rw [he]
      refine ⟨touches_after (same_of_pieced rfl), ?_, ?_, fun hn => absurd hn ho, fun _ => ?_⟩
      · rw [after_fuses]
      · rw [after_aon]
      · rw [after_boot, after_aon]
        exact ⟨rfl, rfl, rfl⟩

/-! ### Boots that fail -/

theorem journal_boot (jt bk v c : BitVec 8) (a : BitVec 64) (n : BitVec 32) (s : State) :
    ∃ f, journal jt bk v c a n s = { s with flash := f } := by
  unfold journal
  dsimp only
  split <;> exact ⟨_, rfl⟩

theorem addAddr_boot (ip : BitVec 128) (p : BitVec 8) (k : BitVec 2) (s : State) : (addAddr ip p k s).boot = s.boot := by
  unfold addAddr
  split <;> rfl

theorem netUp_boot (s : State) : (netUp s).boot = s.boot := by
  unfold netUp addFixed
  exact List.foldlRecOn (motive := fun t : State => t.boot = s.boot) _ _ (addAddr_boot _ _ _ _)
    fun t h a _ => (addAddr_boot _ _ _ t).trans h

theorem bankFails_moves (l c : Nat) (r : RestartReason) (o : BootOutcome) {s : State}
    (h : (bankOf s (!s.boot.bank)).st = .good ∧ s.boot.moved = false) : ∃ f, bankFails l c r o s = { s with
      flash := f
      boot := { s.boot with failedLayer := if 0 < l then BitVec.ofNat 4 l else s.boot.failedLayer, moved := true,
                            fallback := true, bank := !s.boot.bank, restartDue := some r } } := by
  obtain ⟨f, hf⟩ := journal_boot 4 (bankCode s.boot.bank) (BitVec.ofNat 8 l) (BitVec.ofNat 8 c) 0 0 { s with
    boot := { s.boot with failedLayer := if 0 < l then BitVec.ofNat 4 l else s.boot.failedLayer, moved := true,
                          fallback := true, bank := !s.boot.bank, restartDue := some r } }
  exact ⟨f, (if_pos ⟨h.1, by rw [h.2]; rfl⟩).trans hf⟩

theorem bankFails_ends (l c : Nat) (r : RestartReason) (o : BootOutcome) {s : State}
    (h : ¬ ((bankOf s (!s.boot.bank)).st = .good ∧ s.boot.moved = false)) : (bankFails l c r o s).boot = { s.boot with
      failedLayer := if 0 < l then BitVec.ofNat 4 l else s.boot.failedLayer, phase := .done, outcome := o,
      retryUntilReady := false } := by
  have hn : ¬ ((bankOf s (!s.boot.bank)).st = .good ∧ (!s.boot.moved) = true) := by simpa using h
  unfold bankFails
  dsimp only
  rw [if_neg hn]
  split
  · simp only [endBoot, netUp_boot]
  · rfl

theorem bootFailures : Says.bootFailures := by
  intro s hb
  have hnb : ¬ (!booting s) = true := by rw [hb]; nofun
  refine ⟨fun h2 => ⟨?_, ?_⟩, fun h2 => ⟨?_, fun hg => ?_, fun hg => ?_⟩, fun hp hc hl => ?_⟩
  · have he : watchdogExpiry s = _ := (if_neg hnb).trans (if_pos h2)
    refine runs_done (u := watchdogExpiry s) rfl ?_
    rw [he]
    exact ⟨touches_after (same_of_pieced rfl), by rw [after_boot]; rfl, by rw [after_boot]; rfl⟩
  · have he : lockstepMismatch s = _ := (if_pos hb).trans (if_pos h2)
    refine runs_done (u := lockstepMismatch s) rfl ?_
    rw [he]
    exact ⟨touches_after (same_of_pieced rfl), by rw [after_boot]; rfl, by rw [after_boot]; rfl⟩
  · have hn : ¬ 2 ≤ s.boot.restarts86 := Nat.not_le.2 h2
    have he : lockstepMismatch s = restartSame .lockstep s := (if_pos hb).trans (if_neg hn)
    refine runs_done (u := lockstepMismatch s) rfl ?_
    rw [he]
    exact ⟨touches_after (same_of_pieced rfl), by rw [after_boot]; rfl⟩
  · have hn : ¬ 2 ≤ s.boot.restarts86 := Nat.not_le.2 h2
    obtain ⟨f, hf⟩ := bankFails_moves 0 0x11 .watchdog .haltedWatchdog (s := { s with
      boot := { s.boot with restarts86 := s.boot.restarts86 + 1, restartReason := .watchdog } }) hg
    have he : watchdogExpiry s = _ :=
      ((if_neg hnb).trans ((if_neg hn).trans (if_pos ⟨hg.1, by rw [hg.2]; rfl⟩))).trans hf
    refine runs_done (u := watchdogExpiry s) rfl ?_
    rw [he]
    exact ⟨touches_after (same_of_pieced rfl), by rw [after_boot], by rw [after_boot], by rw [after_boot]⟩
  · have hn : ¬ 2 ≤ s.boot.restarts86 := Nat.not_le.2 h2
    have he : watchdogExpiry s = restartSame .watchdog s :=
      (if_neg hnb).trans ((if_neg hn).trans (if_neg (by simpa using hg)))
    refine runs_done (u := watchdogExpiry s) rfl ?_
    rw [he]
    exact ⟨touches_after (same_of_pieced rfl), by rw [after_boot]; rfl⟩
  · have he : ownerLayerTimeout s = bankFails 4 0x13 .image .layerFailed s := if_pos ⟨hb, hp, hc, hl⟩
    refine runs_done (u := ownerLayerTimeout s) rfl ?_
    rw [after_boot, he]
    by_cases hg : (bankOf s (!s.boot.bank)).st = .good ∧ s.boot.moved = false
    · obtain ⟨f, hf⟩ := bankFails_moves 4 0x13 .image .layerFailed hg
      rw [hf, if_pos hg]
      exact ⟨rfl, rfl, rfl⟩
    · rw [bankFails_ends _ _ _ _ hg, if_neg hg]
      exact ⟨rfl, rfl, rfl⟩

/-! ### Restarts and resets -/

theorem programSome_idle {s : State} (h : s.fuses.op = none) : programSome s = s := by
  rw [programSome, h]

theorem bootRestarts : Says.bootRestarts := by
  intro b s r hr
  obtain ⟨s1, hs1⟩ : ∃ t, t = restartReset s := ⟨_, rfl⟩
  have ha : s1.boot.attempts = s.boot.attempts := by rw [hs1]; rfl
  have hc : s1.fuses.cells = (programSome s).fuses.cells := by rw [hs1]; rfl
  have hd : domOf s1 3 = domOf s 3 := by rw [hs1]; exact setDom_domOf ..
  have hg : governed s1 = governed State.reset := by rw [hs1]; rfl
  have he : bootRestart b s = runBoot b s.fuses.cells (some s.boot.bank) { s1 with boot := { s1.boot with restartReason := r } } := by
    rw [bootRestart, hr, hs1]
  clear hs1
  have hk := BootKeeps.runBoot b s.fuses.cells (some s.boot.bank) { s1 with boot := { s1.boot with restartReason := r } }
  have hw : governed (bootRestart b s) = governed State.reset := by rw [he, governed_runBoot]; exact hg
  obtain ⟨-, hcores, hparts⟩ := governed_eq_iff.1 hw
  refine runs_done (u := bootRestart b s) rfl ?_
  have hpow : domOf (after s (bootRestart b s)) 3 = domOf (bootRestart b s) 3 := by rw [domOf, after_power]; rfl
  rw [after_boot, after_fuses, after_cores, after_parts, hpow]
  refine ⟨?_, ?_, ?_, fun ho => ?_, hcores, hparts, ?_, fun hb => ?_⟩
  · rw [he, runBoot_attempts]
    exact ha ▸ rfl
  · rw [he]
    exact hk.reason
  · rw [he, runBoot_rootLock]
  · rw [he]
    exact (hk.cells.trans hc).trans (by rw [programSome_idle ho])
  · rw [he]
    exact hk.pd3.trans ((romStart_pd3 _).trans hd)
  · rw [he, runBoot_haltedRom hb]
    exact ⟨rfl, rfl⟩

theorem programSome_keeps (s : State) : (programSome s).fuses.shadow = s.fuses.shadow ∧ (programSome s).flash = s.flash := by
  unfold programSome
  split
  · split <;> exact ⟨rfl, rfl⟩
  · exact ⟨rfl, rfl⟩

theorem flashAfterReset_keeps (s : State) : (flashAfterReset s).bankA = s.flash.bankA ∧
    (flashAfterReset s).bankB = s.flash.bankB ∧ (flashAfterReset s).sectors = s.flash.sectors ∧
    (flashAfterReset s).blocks = s.flash.blocks ∧ (flashAfterReset s).jobs = [] := by
  unfold flashAfterReset
  dsimp only
  split <;> exact ⟨rfl, rfl, rfl, rfl, rfl⟩

/-- A step into a state whose generations are at their reset value counts none. -/
theorem after_of_gen {s t : State} (h : t.att.gen = 0) : after s t = { t with pending := s.pending } := by
  rw [after, settle, if_pos (.inr (.inl h))]

/-- A reset the device applies to itself: every domain but PD0 at its reset state, the release due where both lands are
high. -/
theorem resetBy_resetSelf (c : ResetCause) (s : State) :
    Says.resetBy c (s.aon.pwrOk && s.aon.sysRstN) s (after s (resetSelf c s)) := by
  have ha := programSome_aon s
  obtain ⟨hsh, hfl⟩ := programSome_keeps s
  have hcs (h : s.fuses.op = none) : (programSome s).fuses.cells = s.fuses.cells := by rw [programSome_idle h]
  obtain ⟨hA, hB, hs, hb, hj⟩ := flashAfterReset_keeps (programSome s)
  rw [hfl] at hA hB hs hb
  have ht : (programSome s).aon.tick = s.aon.tick := by rw [ha]
  have hfr : (programSome s).aon.frames = s.aon.frames := by rw [ha]
  have hret : { (programSome s).aon.ret with cause := c } = { s.aon.ret with cause := c } := by rw [ha]
  have hdue : ((programSome s).aon.pwrOk && (programSome s).aon.sysRstN) = (s.aon.pwrOk && s.aon.sysRstN) := by rw [ha]
  rw [after_of_gen (by rfl)]
  unfold resetSelf resetHeld deviceReset clearDomains
  exact ⟨rfl, rfl, rfl, rfl, rfl, rfl, rfl, rfl, rfl, rfl, rfl, rfl, rfl, rfl, rfl, rfl, rfl, rfl,
    hret, ht, hfr, hdue, rfl, hsh, rfl, hcs, hA, hB, hs, hb, hj⟩

theorem recoveryAndSelfResets : Says.recoveryAndSelfResets := by
  intro s
  refine ⟨fun hb hh hl => ?_, fun hl => ?_, fun hl => ?_, fun hl => ?_⟩
  · refine runs_done (u := lockstepMismatch s) rfl fun hi => ?_
    obtain ⟨m, p, q, o, hlog⟩ := logFault_frame 0x0A 4 7 0 0 0xFF 2 0 s
    have he : lockstepMismatch s = wakePd1 { logFault 0x0A 4 7 0 0 0xFF 2 0 s with
        flash := { s.flash with lockRecover := true, lastLockstep := some (tick s) } } := by
      unfold lockstepMismatch
      rw [if_neg (by rw [hb]; nofun), if_neg (by rw [hh]; nofun), hl]
      dsimp only
      rw [if_neg (by rw [hi]; nofun), if_neg (by nofun), hlog]
    obtain ⟨m', p', hw⟩ : ∃ m' p', wakePd1 { logFault 0x0A 4 7 0 0 0xFF 2 0 s with
        flash := { s.flash with lockRecover := true, lastLockstep := some (tick s) } } = { s with
          mail := m', power := p', q := q, out := o,
          flash := { s.flash with lockRecover := true, lastLockstep := some (tick s) } } := by
      rw [hlog, wakePd1]
      split <;> exact ⟨_, _, rfl⟩
    rw [after_flash, after_cores, after_mem, after_vault, after_parts, after_aon, he, hw]
    exact ⟨rfl, rfl, rfl, rfl, rfl, rfl⟩
  · have hn : ¬ (!s.flash.lockRecover) = true := by rw [hl]; nofun
    refine runs_done (u := lockstepResume s) rfl ?_
    by_cases hi : imageFault s.fuses.shadow 1 (imageOf s s.boot.bank 1) = none
    · have he : lockstepResume s = { s with flash := { s.flash with lockRecover := false } } :=
        (if_neg hn).trans (if_neg (by rw [hi]; nofun))
      rw [if_pos hi, he]
      exact ⟨touches_after (same_of_pieced rfl), by rw [after_flash]⟩
    · have he : lockstepResume s = resetSelf .lockstep s :=
        (if_neg hn).trans (if_pos (Option.isSome_iff_ne_none.2 hi))
      rw [if_neg hi, he]
      exact resetBy_resetSelf _ s
  · have he : lifecycleReset s = resetSelf .lifecycle s := if_pos hl
    refine runs_done (u := lifecycleReset s) rfl ?_
    rw [he]
    exact resetBy_resetSelf _ s
  · have he : recoverDeviceReset s = resetSelf .recover s := if_pos hl
    refine runs_done (u := recoverDeviceReset s) rfl ?_
    rw [he]
    exact resetBy_resetSelf _ s

/-- Settles O9. -/
theorem bootsEnd : Obligations.BootsEnd := ⟨bootFailures, bootRestarts, recoveryAndSelfResets⟩

end Sys2Proof.Machine
end

section
/-! SUPPORT. The host link and the functions behind it (R51, R52, R96, Table 24-1). -/

namespace Sys2Proof.Machine

set_option Elab.async false

/-! ### The host link -/

theorem foldl_shape {α : Type} {f : State → α → State} {P : State → State → Prop} (hr : ∀ s, P s s)
    (ht : ∀ s t a, P s t → P s (f t a)) (l : List α) (s : State) : P s (l.foldl f s) :=
  List.foldlRecOn (motive := P s) l f (hr s) fun t h a _ => ht s t a h

theorem loseReplies_all (fs : List Fn) (s : State) :
    ∃ m, fs.foldl (fun t f => loseReplies f t) s = { s with mail := m } :=
  foldl_shape (P := fun s t => ∃ m, t = { s with mail := m }) (fun s => ⟨_, rfl⟩)
    (fun s t f h => by obtain ⟨m, rfl⟩ := h; exact ⟨_, rfl⟩) fs s

theorem modParts_all {α : Type} (p : α → Nat) (g : α → Partition → Partition) (l : List α) (s : State) :
    ∃ ps, l.foldl (fun t n => modPart (p n) (g n) t) s = { s with parts := { s.parts with parts := ps } } :=
  foldl_shape (P := fun s t => ∃ ps, t = { s with parts := { s.parts with parts := ps } }) (fun s => ⟨_, rfl⟩)
    (fun s t n h => by obtain ⟨m, rfl⟩ := h; exact ⟨_, rfl⟩) l s

/-- A lost link drops every function's registers and the copies, and counts in the partitions. -/
theorem linkLost_shape (s : State) : ∃ m ps, linkLost s = { s with
    mail := m, parts := { s.parts with parts := ps, vfEnable := 0 }, power := { s.power with pcie := false },
    q := { s.q with regs := [], events := Events.reset, outs := [] } } := by
  obtain ⟨m, hm⟩ := loseReplies_all (.pf :: (mkeys s.parts.parts).map fnOf) s
  unfold linkLost
  dsimp only
  rw [hm]
  obtain ⟨ps, hp⟩ := modParts_all id _ (mkeys s.parts.parts) { s with mail := m }
  exact ⟨m, ps, (congrArg (fun t : State => { t with
    power := { t.power with pcie := false }, parts := { t.parts with vfEnable := 0 },
    q := { t.q with regs := [], events := Events.reset, outs := [] } }) hp :)⟩

theorem two_pow_sub_one_bits {k i : Nat} (hi : i < 128) :
    (BitVec.ofNat 128 (2 ^ k - 1)).getLsbD i = decide (i < k) := by
  rw [BitVec.getLsbD_ofNat, Nat.testBit_two_pow_sub_one]
  simp [hi]

theorem not_ended_badly {s : State} (h : hostReady s = true) : ¬ (recoveryOutcome s = true ∨ halted s = true) := by
  unfold hostReady at h
  unfold recoveryOutcome halted
  cases ho : s.boot.outcome <;> rw [ho] at h <;> revert h <;> decide

/-- Settles O7. -/
theorem theHostLink : Obligations.TheHostLink := by
  unfold Obligations.TheHostLink
  intro s
  refine ⟨fun hp hk hr hd => ?_, fun hd => ?_, fun hd hh hf => ?_, fun fn n hp hr => ?_, fun fn n hp hr => ?_⟩
  · obtain ⟨m, ps, hl⟩ := linkLost_shape (modAon (fun a => { a with perstN := false }) s)
    have he : perstNLow s = _ := (if_pos ⟨hp, hk, hr, hd⟩).trans hl
    refine runs_done (u := perstNLow s) rfl ?_
    rw [after_aon, after_power, after_q, after_parts, after_cores, after_mem, after_vault, after_fuses, he]
    exact ⟨rfl, rfl, rfl, rfl, rfl, rfl, rfl, rfl, rfl, rfl, rfl⟩
  · have he : perstNRise s = { s with aon := { s.aon with perstN := true }, power := { s.power with pcie := true } } :=
      if_pos hd
    refine runs_done (u := perstNRise s) rfl ?_
    rw [he]
    exact ⟨touches_after (same_of_pieced rfl), by rw [after_aon], by rw [after_power]⟩
  · have he : pd3Ready s = _ := if_neg (by simp [hd, hh, hf])
    refine runs_done (u := pd3Ready s) rfl ?_
    have hdom : domOf (after s (pd3Ready s)) 3 = domOf (pd3Ready s) 3 := by rw [domOf, after_power]; rfl
    rw [hdom, after_power, he]
    exact ⟨touches_after (same_of_pieced rfl), setDom_domOf s 3 .on, rfl⟩
  · have he : configRequest fn n s = emit (.retryStatus fn) s := (if_neg (by rw [hp]; nofun)).trans (if_pos hr)
    refine runs_done (u := configRequest fn n s) rfl ?_
    rw [he]
    exact ⟨touches_after (same_of_pieced rfl), by rw [after_out]; rfl⟩
  · have hno : ¬ (!s.power.pcie) = true := by rw [hp]; nofun
    have hnr : ¬ s.boot.retryUntilReady = true := by rw [hr]; nofun
    refine runs_done (u := configRequest fn n s) rfl ?_
    rw [after_out, after_parts]
    cases fn with
    | vf k =>
      have he : configRequest (.vf k) n s = emit (.configDone (.vf k)) s := (if_neg hno).trans (if_neg hnr)
      rw [he]
      exact ⟨touches_after (same_of_pieced rfl), rfl, rfl, fun _ => rfl, fun _ h => nomatch h⟩
    | pf =>
      cases n with
      | none =>
        have he : configRequest .pf none s = emit (.configDone .pf) s := (if_neg hno).trans (if_neg hnr)
        rw [he]
        exact ⟨touches_after (same_of_pieced rfl), rfl, rfl, fun _ => rfl, fun _ _ h => nomatch h⟩
      | some n =>
        obtain ⟨v, hv⟩ : ∃ v, v =
            BitVec.ofNat 128 (2 ^ min n.toNat (if recoveryOutcome s ∨ halted s then 0 else nParts s) - 1) := ⟨_, rfl⟩
        have he : configRequest .pf (some n) s = emit (.configDone .pf) { s with parts := { s.parts with vfEnable := v } } := by
          rw [hv]
          exact (if_neg hno).trans (if_neg hnr)
        rw [he]
        refine ⟨touches_after (same_of_pieced rfl), rfl, rfl, fun h => h.elim nofun fun h => absurd rfl h,
          fun k _ hk hh hle i hi => ?_⟩
        obtain rfl : n = k := Option.some.inj hk
        show v.getLsbD i = _
        rw [hv, if_neg (not_ended_badly hh), Nat.min_eq_left hle]
        exact two_pow_sub_one_bits hi
end Sys2Proof.Machine
end

section
/-! SUPPORT. Ring, event and function registers as the host reads and writes them (R191, R196, R279, R285, R464, R482,
R485, R486). -/

namespace Sys2Proof.Machine

set_option Elab.async false

/-! ### Frames -/

theorem touches_q {ps : List Piece} (h : .q ∈ ps) (q : Queues) (s : State) : Touches ps s (after s { s with q := q }) :=
  touches_after fun p hp => by
    cases p with
    | q => exact absurd h hp
    | _ => simp [Same]

/-- What a domain's start leaves: the domains alone change. -/
theorem startDomain_shape (pd : Nat) (s : State) : ∃ p, startDomain pd s = { s with power := p } ∧ p.held = s.power.held := by
  have hup (k : Nat) (c : Prop) [Decidable c] (t : State) (h : ∃ p, t = { s with power := p } ∧ p.held = s.power.held) :
      ∃ p, (if c then setDom k .starting t else t) = { s with power := p } ∧ p.held = s.power.held := by
    obtain ⟨p, rfl, hp⟩ := h
    split
    · exact ⟨_, rfl, hp⟩
    · exact ⟨_, rfl, hp⟩
  have h0 : ∃ p, s = { s with power := p } ∧ p.held = s.power.held := ⟨_, rfl, rfl⟩
  unfold startDomain
  dsimp only
  split
  · exact hup _ _ s h0
  · split
    · exact hup _ _ _ (hup _ _ _ (hup _ _ s h0))
    · split
      · exact hup _ _ _ (hup _ _ s h0)
      · exact hup _ _ s h0

/-- PD1 that is off starts. -/
theorem startDomain_pd1 {s : State} (h : domOf s 1 = .off) : domOf (startDomain 1 s) 1 = .starting := by
  have hp : pdPresent s 1 = true := by simp [pdPresent]
  have he : startDomain 1 s = setDom 1 .starting s := if_pos ⟨h, hp, rfl⟩
  rw [he, setDom_domOf]

theorem wakeTiles_shape (f : Fn) (q : BitVec 6) (s : State) : ∃ p, wakeTiles f q s = { s with power := p } := by
  cases f with
  | pf => exact ⟨_, rfl⟩
  | vf n =>
    refine foldl_shape (P := fun s t => ∃ p, t = { s with power := p }) (fun s => ⟨_, rfl⟩) (fun s t k h => ?_) _ s
    obtain ⟨p, rfl⟩ := h
    obtain ⟨p', hp', -⟩ := startDomain_shape (tilePd k) { s with power := p }
    exact ⟨_, by rw [hp']⟩

/-! ### Registers of a function -/

theorem fnRegs_after (s t : State) (f : Fn) : fnRegs (after s t) f = fnRegs t f :=
  fnRegs_congr (after_q s t) f

theorem workRing_after (s t : State) (f : Fn) (q : Nat) : workRing (after s t) f q = workRing t f q := by
  rw [workRing, fnRegs_after]
  rfl

theorem modEnv_fnRegs (f : Fn) (g : EnvRing → EnvRing) (s : State) :
    fnRegs (modEnv f g s) f = { fnRegs s f with env := g (fnRegs s f).env } := modRegs_fnRegs ..

theorem modComp_fnRegs (f : Fn) (g : CompRing → CompRing) (s : State) :
    fnRegs (modComp f g s) f = { fnRegs s f with comp := g (fnRegs s f).comp } := modRegs_fnRegs ..

theorem modWork_workRing (f : Fn) (q : Nat) (g : WorkRing → WorkRing) (s : State) :
    workRing (modWork f q g s) f q = g (workRing s f q) := by
  have h : fnRegs (modWork f q g s) f =
      { fnRegs s f with work := mset (fnRegs s f).work q (g (workRing s f q)) WorkRing.reset } := modRegs_fnRegs ..
  rw [workRing, h]
  exact mgetD_mset_same ..

theorem workRing_congr {s t : State} (h : t.q = s.q) (f : Fn) (q : Nat) : workRing t f q = workRing s f q := by
  rw [workRing, fnRegs_congr h]
  rfl

/-- An interrupt leaves the rings. -/
theorem msix_workRing (f g : Fn) (v q : Nat) (s : State) : workRing (msix f v s) g q = workRing s g q := by
  unfold msix
  split
  · by_cases h : fnKey f = fnKey g
    · have he : ∀ g', fnKey f = fnKey g' → fnRegs (modRegs f (fun r => { r with pba := setBit r.pba v true }) s) g' =
          { fnRegs s f with pba := setBit (fnRegs s f).pba v true } := fun g' hg => by
        rw [← modRegs_fnRegs s f (fun r => { r with pba := setBit r.pba v true }), fnRegs, fnRegs, hg]
      have hs : fnRegs s g = fnRegs s f := by rw [fnRegs, fnRegs, h]
      rw [workRing, he g h, workRing, hs]
    · rw [workRing, modRegs, setRegs_fnRegs_other s _ h]
      rfl
  · rfl

theorem msix_events (f : Fn) (v : Nat) (s : State) : (msix f v s).q.events = s.q.events := by
  unfold msix
  split <;> rfl

theorem raiseEvent_workRing (n : Nat) (g : Fn) (q : Nat) (s : State) : workRing (raiseEvent n s) g q = workRing s g q := by
  unfold raiseEvent
  dsimp only
  split
  · exact msix_workRing ..
  · rfl

theorem raiseEvent_cause (n : Nat) (s : State) : (raiseEvent n s).q.events.cause = setBit s.q.events.cause n true := by
  unfold raiseEvent
  dsimp only
  split
  · rw [msix_events]
  · rfl

/-! ### Host registers -/

section
variable {f : Fn} {s : State} (hf : fnLive s f = true)
include hf

theorem fnLive_not : ¬ (!fnLive s f) = true := by rw [hf]; nofun

theorem doorbell_not (hd : doorbells s = true) : ¬ ((!fnLive s f) = true ∨ (!doorbells s) = true) := by
  rw [hf, hd]; nofun

theorem envDoorbell_awake {tail : BitVec 32} (hd : doorbells s = true) (h1 : domOf s 1 ≠ .off) :
    Runs (.envDoorbell f tail) s fun t => Touches [.q] s t ∧
      (fnRegs t f).env = { (fnRegs s f).env with tail := tail.truncate 16 } ∧ (fnRegs t f).work = (fnRegs s f).work ∧
      (fnRegs t f).comp = (fnRegs s f).comp := by
  have he : envDoorbell f tail s = modEnv f (fun r => { r with tail := tail.truncate 16 }) s :=
    (if_neg (doorbell_not hf hd)).trans (if_neg fun h => h1 h.1)
  refine runs_done (u := envDoorbell f tail s) rfl ?_
  rw [fnRegs_after, he, modEnv_fnRegs]
  exact ⟨touches_q (by decide) _ s, rfl, rfl, rfl⟩

theorem envDoorbell_asleep {tail : BitVec 32} (hd : doorbells s = true) (h1 : domOf s 1 = .off) (hh : hostReady s = true) :
    Runs (.envDoorbell f tail) s fun t => Touches [.q, .power] s t ∧ (fnRegs t f).env.tail = tail.truncate 16 ∧
      domOf t 1 = .starting ∧ t.power.held = s.power.held ++ [(1, .env f)] := by
  obtain ⟨p, hp, hheld⟩ := startDomain_shape 1 (modEnv f (fun r => { r with tail := tail.truncate 16 }) s)
  have hdom : domOf (startDomain 1 (modEnv f (fun r => { r with tail := tail.truncate 16 }) s)) 1 = .starting :=
    startDomain_pd1 h1
  have he : envDoorbell f tail s = { modEnv f (fun r => { r with tail := tail.truncate 16 }) s with
      power := { p with held := p.held ++ [(1, .env f)] } } := by
    refine ((if_neg (doorbell_not hf hd)).trans (if_pos ⟨h1, hh⟩)).trans ?_
    dsimp only
    rw [hp]
  rw [hp] at hdom
  refine runs_done (u := envDoorbell f tail s) rfl ?_
  have hd1 : domOf (after s (envDoorbell f tail s)) 1 = domOf (envDoorbell f tail s) 1 := by rw [domOf, after_power]; rfl
  rw [fnRegs_after, after_power, hd1, he]
  refine ⟨touches_after (same_of_pieced rfl), ?_, hdom, ?_⟩
  · have hr := modEnv_fnRegs f (fun r => { r with tail := tail.truncate 16 }) s
    exact congrArg (fun r : FnRegs => r.env.tail) hr
  · show p.held ++ _ = _
    rw [hheld]
    rfl

theorem workDoorbell_within {q : BitVec 6} {tail : BitVec 32} (hd : doorbells s = true)
    (h : (tail.truncate 16 - (workRing s f q.toNat).head : BitVec 16).toNat ≤ 2 ^ (workRing s f q.toNat).log2.toNat) :
    Runs (.workDoorbell f q tail) s fun t => Touches [.q, .power] s t ∧
      workRing t f q.toNat = { workRing s f q.toNat with tail := tail.truncate 16 } := by
  obtain ⟨p, hp⟩ := wakeTiles_shape f q (modWork f q.toNat (fun x => { x with tail := tail.truncate 16 }) s)
  have hw := modWork_workRing f q.toNat (fun x => { x with tail := tail.truncate 16 }) s
  refine runs_done (u := workDoorbell f q tail s) rfl ?_
  rw [workRing_after]
  have he : workDoorbell f q tail s = _ := (if_neg (doorbell_not hf hd)).trans (if_neg (Nat.not_lt.2 h))
  rw [he]
  dsimp only
  split
  · rw [hp]
    exact ⟨touches_after (same_of_pieced rfl), hw⟩
  · exact ⟨touches_q (by decide) _ s, hw⟩

theorem workDoorbell_beyond {q : BitVec 6} {tail : BitVec 32} (hd : doorbells s = true)
    (h : 2 ^ (workRing s f q.toNat).log2.toNat < (tail.truncate 16 - (workRing s f q.toNat).head : BitVec 16).toNat) :
    Runs (.workDoorbell f q tail) s fun t => Touches [.q, .out] s t ∧ t.q.events.cause = s.q.events.cause ||| 8#4 ∧
      workRing t f q.toNat = { workRing s f q.toNat with
        tail := tail.truncate 16, fault := true, stopped := true, enable := false } := by
  obtain ⟨u, hu⟩ : ∃ u, u = modWork f q.toNat (fun w => { w with fault := true, stopped := true, enable := false })
    (modWork f q.toNat (fun x => { x with tail := tail.truncate 16 }) s) := ⟨_, rfl⟩
  have hw : workRing u f q.toNat = { workRing s f q.toNat with
      tail := tail.truncate 16, fault := true, stopped := true, enable := false } := by
    rw [hu, modWork_workRing, modWork_workRing]
  have hev : u.q.events.cause = s.q.events.cause := by rw [hu]; rfl
  obtain ⟨q', hq⟩ : ∃ q', u = { s with q := q' } := by rw [hu]; exact ⟨_, rfl⟩
  have he : workDoorbell f q tail s = raiseEvent 3 u := by
    rw [hu]
    exact (if_neg (doorbell_not hf hd)).trans (if_pos h)
  refine runs_done (u := workDoorbell f q tail s) rfl ?_
  rw [workRing_after, after_q, he, raiseEvent_workRing, raiseEvent_cause, hw, hev]
  obtain ⟨q'', o, hs⟩ := raiseEvent_shape 3 u
  rw [hs, hq]
  exact ⟨touches_after (same_of_pieced rfl), rfl, rfl⟩

theorem envRingEnable_runs (on : Bool) : Runs (.envRingEnable f on) s fun t => Touches [.q] s t ∧ (fnRegs t f).env =
    if on then { (fnRegs s f).env with enable := true, stopped := false } else { (fnRegs s f).env with enable := false } := by
  have he : envEnable f on s = _ := if_neg (fnLive_not hf)
  refine runs_done (u := envEnable f on s) rfl ?_
  rw [fnRegs_after, he, modEnv_fnRegs]
  exact ⟨touches_q (by decide) _ s, rfl⟩

theorem workRingEnable_runs (q : BitVec 6) (on : Bool) : Runs (.workRingEnable f q on) s fun t => Touches [.q] s t ∧
    workRing t f q.toNat = (fun w : WorkRing =>
      if on then { w with enable := true, stopped := false, accepted := if w.enable then w.accepted else 0,
                          accepted56 := if w.enable then w.accepted56 else 0 }
      else { w with enable := false }) (workRing s f q.toNat) := by
  have he : workEnable f q.toNat on s = _ := if_neg (fnLive_not hf)
  refine runs_done (u := workEnable f q.toNat on s) rfl ?_
  rw [workRing_after, he, modWork_workRing]
  exact ⟨touches_q (by decide) _ s, rfl⟩

theorem completionRingEnable_empty (hh : (fnRegs s f).comp.held = [])
    (hx : ∀ x, part? s (fnKey f) = some x → x.counts.hostDropped = 0) :
    Runs (.completionRingEnable f true) s fun t => Touches [.q] s t ∧
      (fnRegs t f).comp = { (fnRegs s f).comp with enable := true } := by
  have he : compEnable f true s = modComp f (fun c => { c with enable := true, held := [] }) s := by
    unfold compEnable
    rw [if_neg (fnLive_not hf), if_neg (by decide)]
    dsimp only
    rw [hh]
    cases hp : part? s (fnKey f) with
    | none => rfl
    | some x =>
      dsimp only
      rw [if_pos (hx x hp)]
      rfl
  refine runs_done (u := compEnable f true s) rfl ?_
  rw [fnRegs_after, he, modComp_fnRegs]
  exact ⟨touches_q (by decide) _ s, by rw [← hh]⟩

theorem completionRingEnable_off : Runs (.completionRingEnable f false) s fun t => Touches [.q] s t ∧
    (fnRegs t f).comp = { (fnRegs s f).comp with enable := false } := by
  have he : compEnable f false s = modComp f (fun c => { c with enable := false }) s :=
    (if_neg (fnLive_not hf)).trans (if_pos rfl)
  refine runs_done (u := compEnable f false s) rfl ?_
  rw [fnRegs_after, he, modComp_fnRegs]
  exact ⟨touches_q (by decide) _ s, rfl⟩

theorem completionHeadWrite_within {head : BitVec 32}
    (h1 : ((fnRegs s f).comp.tail - head).toNat ≤ 2 ^ (fnRegs s f).comp.log2.toNat)
    (h2 : (head - (fnRegs s f).comp.head).toNat ≤ ((fnRegs s f).comp.tail - (fnRegs s f).comp.head).toNat) :
    Runs (.completionHeadWrite f head) s fun t => Touches [.q] s t ∧
      (fnRegs t f).comp = { (fnRegs s f).comp with head := head } := by
  have he : compHead f head s = modComp f (fun x => { x with head := head }) s :=
    (if_neg (fnLive_not hf)).trans (if_pos ⟨h1, h2⟩)
  refine runs_done (u := compHead f head s) rfl ?_
  rw [fnRegs_after, he, modComp_fnRegs]
  exact ⟨touches_q (by decide) _ s, rfl⟩

theorem registerWrite_base (v : BitVec 64) : Runs (.registerWrite f 0x10000 v 4) s fun t => Touches [.q] s t ∧
    (fnRegs t f).env = if (fnRegs s f).env.enable then (fnRegs s f).env
      else { (fnRegs s f).env with base := baseLo (fnRegs s f).env.base (v.truncate 32) } := by
  have he : registerWrite f 0x10000 v 4 s =
      modEnv f (fun r => if r.enable then r else { r with base := baseLo r.base (v.truncate 32) }) s := by
    have h1 : registerWrite f 0x10000 v 4 s = write32 f 0x10000 (v.truncate 32) s := if_pos (by decide)
    rw [h1, write32, if_neg (fnLive_not hf)]
    rfl
  refine runs_done (u := registerWrite f 0x10000 v 4 s) rfl ?_
  rw [fnRegs_after, he, modEnv_fnRegs]
  exact ⟨touches_q (by decide) _ s, rfl⟩

end

theorem baseLo_bits (b : BitVec 64) (v : BitVec 64) : (baseLo b (v.truncate 32)).extractLsb' 0 12 = 0 ∧
    (baseLo b (v.truncate 32)).extractLsb' 12 20 = v.extractLsb' 12 20 ∧
    (baseLo b (v.truncate 32)).extractLsb' 32 32 = b.extractLsb' 32 32 := by
  have hlow : ∀ i < 32, (0xFFFFFFFF00000000#64).getLsbD i = false := by decide
  have hhigh : ∀ i < 32, (0xFFFFFFFF00000000#64).getLsbD (32 + i) = true := by decide
  have hv0 : ∀ i < 12, (0xFFFFF000#32).getLsbD i = false := by decide
  have hv1 : ∀ i < 20, (0xFFFFF000#32).getLsbD (12 + i) = true := by decide
  have hbit (i : Nat) (hi : i < 64) : (baseLo b (v.truncate 32)).getLsbD i =
      (b.getLsbD i && (0xFFFFFFFF00000000#64).getLsbD i || decide (i < 32) && v.getLsbD i && (0xFFFFF000#32).getLsbD i) := by
    unfold baseLo
    rw [BitVec.getLsbD_or, BitVec.getLsbD_and]
    simp only [BitVec.truncate_eq_setWidth, BitVec.getLsbD_setWidth, BitVec.getLsbD_and, hi, decide_true, Bool.true_and]
  refine ⟨BitVec.eq_of_getLsbD_eq fun i hi => ?_, BitVec.eq_of_getLsbD_eq fun i hi => ?_, BitVec.eq_of_getLsbD_eq fun i hi => ?_⟩
  · rw [BitVec.getLsbD_extractLsb', hbit _ (by omega), Nat.zero_add, hlow i (by omega), hv0 i hi]
    simp
  · rw [BitVec.getLsbD_extractLsb', BitVec.getLsbD_extractLsb', hbit _ (by omega), hlow _ (by omega), hv1 i hi]
    have h32 : decide (12 + (i : Nat) < 32) = true := decide_eq_true (by omega)
    rw [h32]
    simp [hi]
  · rw [BitVec.getLsbD_extractLsb', BitVec.getLsbD_extractLsb', hbit _ (by omega), hhigh i hi]
    simp

theorem hostRegisters : Says.hostRegisters := by
  intro f s hf
  refine ⟨fun _ => envDoorbell_awake hf, fun _ => envDoorbell_asleep hf, fun _ _ => workDoorbell_within hf,
    fun _ _ => workDoorbell_beyond hf, envRingEnable_runs hf true, envRingEnable_runs hf false, fun q hq => ?_,
    fun q => workRingEnable_runs hf q false, completionRingEnable_off hf, completionRingEnable_empty hf, ?_,
    fun v hv => ?_, fun v hv => ?_, fun off v n h4 h8 => ?_⟩
  · have h := workRingEnable_runs hf q true
    simp only [hq] at h
    exact h
  · intro head c h1 h2
    exact completionHeadWrite_within hf h1 h2
  · refine runs_mono (registerWrite_base hf v) fun t ht => ?_
    rw [hv] at ht
    rw [ht.2]
    exact ⟨ht.1, baseLo_bits _ v⟩
  · refine runs_mono (registerWrite_base hf v) fun t ht => ?_
    rw [hv] at ht
    exact ht
  · have h4' : ¬ (n.toNat = 4 ∧ off.toNat % 4 = 0) := fun h => h4 ⟨BitVec.eq_of_toNat_eq h.1, h.2⟩
    have h8' : ¬ (n.toNat = 8 ∧ off.toNat % 8 = 0) := fun h => h8 ⟨BitVec.eq_of_toNat_eq h.1, h.2⟩
    have he : registerWrite f off.toNat v n.toNat s = s := (if_neg h4').trans (if_neg h8')
    refine runs_done (u := registerWrite f off.toNat v n.toNat s) rfl ?_
    rw [he]
    exact touches_after (same_of_pieced rfl)

/-! ### Event registers -/

theorem eventRegisters : Says.eventRegisters := by
  intro s hp
  have hn : ¬ (!s.power.pcie) = true := by rw [hp]; nofun
  refine ⟨fun b => ?_, fun v hv => ?_, fun v h0 h1 hm => ?_⟩
  · have he : eventClear b s = _ := if_neg hn
    refine runs_done (u := eventClear b s) rfl ?_
    rw [he, after_q]
    exact ⟨touches_q (by decide) _ s, rfl⟩
  · have he : intEnable v s = _ := (if_neg hn).trans (if_neg hv)
    refine runs_done (u := intEnable v s) rfl ?_
    rw [he, after_q]
    exact ⟨touches_q (by decide) _ s, rfl⟩
  · have hmx : msix .pf s.q.events.vector.toNat { s with q := { s.q with events := { s.q.events with enable := v.truncate 4 } } } =
        emit (.msix .pf s.q.events.vector.toNat) _ := if_neg (by rw [← Bool.not_eq_true] at hm; exact hm)
    have he : intEnable v s = _ := ((if_neg hn).trans (if_pos ⟨h0, h1⟩)).trans hmx
    refine runs_done (u := intEnable v s) rfl ?_
    rw [he, after_q, after_out]
    exact ⟨touches_after (same_of_pieced rfl), rfl, rfl⟩

/-! ### Function resets -/

/-- Cores' queues are emptied; nothing else of the cores changes. -/
theorem emptyQueues_core (l : List Nat) (s : State) (c : Nat) :
    core (l.foldl (fun t c => modCore c (fun x => { x with queue := [] }) t) s) c =
      if c ∈ l then { core s c with queue := [] } else core s c := by
  induction l generalizing s with
  | nil => rfl
  | cons k l ih =>
    rw [List.foldl_cons, ih]
    by_cases hk : k = c
    · subst hk
      rw [modCore_core, if_pos List.mem_cons_self]
      split <;> rfl
    · rw [modCore_core_other s _ hk]
      have : c ∈ k :: l ↔ c ∈ l := by simp [Ne.symm hk]
      simp only [this]

theorem emptyQueues_shape (l : List Nat) (s : State) :
    ∃ cs, l.foldl (fun t c => modCore c (fun x => { x with queue := [] }) t) s = { s with cores := cs } :=
  foldl_shape (P := fun s t => ∃ cs, t = { s with cores := cs }) (fun s => ⟨_, rfl⟩)
    (fun s t c h => by obtain ⟨cs, rfl⟩ := h; exact ⟨_, rfl⟩) l s

/-- What a record's count changes: the partition's and the core's counts. -/
def CountsOnly (s t : State) : Prop := ∃ ps cs, t = { s with parts := { s.parts with parts := ps }, cores := cs } ∧
  ∀ k, ∃ n, core t k = { core s k with counts := n }

theorem modPart_countsOnly (p : Nat) (f : Partition → Partition) (s : State) : CountsOnly s (modPart p f s) :=
  ⟨_, _, rfl, fun _ => ⟨_, rfl⟩⟩

theorem modCore_countsOnly (c p : Nat) (g : Core → CoreCounts) (f : Partition → Partition) (s : State) :
    CountsOnly s (modCore c (fun x => { x with counts := g x }) (modPart p f s)) := by
  refine ⟨_, _, rfl, fun k => ?_⟩
  by_cases hk : c = k
  · subst hk
    exact ⟨_, modCore_core _ _ _⟩
  · exact ⟨_, modCore_core_other _ _ hk⟩

theorem countRecord_countsOnly (p c st : Nat) (s : State) : CountsOnly s (countRecord p c st s) := by
  have hite {c : Prop} [Decidable c] {t u : State} (ht : CountsOnly s t) (hu : CountsOnly s u) :
      CountsOnly s (if c then t else u) := by
    split
    · exact ht
    · exact hu
  exact hite (modPart_countsOnly ..) (modCore_countsOnly ..)

theorem countRecords_countsOnly {α : Type} (p c : α → Nat) (st : Nat) (l : List α) (s : State) :
    CountsOnly s (l.foldl (fun t e => countRecord (p e) (c e) st t) s) :=
  foldl_shape (P := CountsOnly) (fun s => ⟨_, _, rfl, fun k => ⟨_, rfl⟩⟩) (fun s t e h => by
    obtain ⟨ps, cs, rfl, hk⟩ := h
    obtain ⟨ps', cs', he, hk'⟩ := countRecord_countsOnly (p e) (c e) st { s with parts := { s.parts with parts := ps }, cores := cs }
    refine ⟨ps', cs', he, fun k => ?_⟩
    obtain ⟨n, hn⟩ := hk k
    obtain ⟨n', hn'⟩ := hk' k
    exact ⟨n', by rw [hn', hn]⟩) l s

/-- What a VF's reset changes and what it leaves (Table 22-5). -/
structure VfReset (n : Nat) (s t : State) : Prop where
  regs : fnRegs t (fnOf n) = FnRegs.reset
  others : ∀ f, fnKey f ≠ fnKey (fnOf n) → fnRegs t f = fnRegs s f
  cores : ∀ c ∈ coresOf s n, (core t c).queue = [] ∧ (core t c).x = (core s c).x ∧ (core t c).ls = (core s c).ls
  posting : ∀ x ∈ t.q.posting, x.entry.part ≠ n
  mem : t.mem = s.mem
  vault : t.vault = s.vault

/-- The end of a VF's reset: records are counted and the function's registers return to their reset values. -/
theorem VfReset.of_counts {n : Nat} {s u t : State} {post : List Posting} (hpost : ∀ x ∈ post, x.entry.part ≠ n)
    (hc : ∀ c ∈ coresOf s n, core u c = { core s c with queue := [] }) (hq : u.q = { s.q with posting := post })
    (hm : u.mem = s.mem) (hv : u.vault = s.vault) (h : CountsOnly u t) : VfReset n s (resetFn (fnOf n) t) := by
  obtain ⟨ps, cs, rfl, hk⟩ := h
  have hr (f : Fn) : fnRegs u f = fnRegs s f := by rw [fnRegs, hq]; rfl
  refine ⟨setRegs_fnRegs .., fun f hf => (setRegs_fnRegs_other _ _ hf.symm).trans (hr f), fun c hc' => ?_, ?_, hm, hv⟩
  · obtain ⟨m, hm⟩ := hk c
    rw [hc c hc'] at hm
    have h1 := congrArg Core.queue hm
    have h2 := congrArg Core.x hm
    have h3 := congrArg Core.ls hm
    exact ⟨h1, h2, h3⟩
  · intro x hx
    have : x ∈ u.q.posting := hx
    rw [hq] at this
    exact hpost x this

theorem vfFlr_reset (n : Nat) (s : State) : VfReset n s (vfFlr n s) := by
  obtain ⟨cs, hcs⟩ := emptyQueues_shape (coresOf s n) s
  have hcore := emptyQueues_core (coresOf s n) s
  unfold vfFlr
  dsimp only
  rw [hcs] at hcore ⊢
  refine VfReset.of_counts (post := s.q.posting.filter (fun x => x.entry.part != n)) (fun x hx => bne_iff_ne.1 (List.mem_filter.1 hx).2) (fun c hc => ?_) ?_ ?_ ?_
    (countRecords_countsOnly _ _ _ _ _)
  · exact (hcore c).trans (if_pos hc)
  · rfl
  · rfl
  · rfl

/-- The resets of every enabled VF leave memory and the vault. -/
theorem vfFlrs_keep (l : List Nat) (s : State) :
    (l.foldl (fun t n => if t.parts.vfEnable.getLsbD n then vfFlr n t else t) s).mem = s.mem ∧
    (l.foldl (fun t n => if t.parts.vfEnable.getLsbD n then vfFlr n t else t) s).vault = s.vault :=
  foldl_shape (P := fun s t => t.mem = s.mem ∧ t.vault = s.vault) (fun s => ⟨rfl, rfl⟩) (fun s t n h => by
    split
    · exact ⟨(vfFlr_reset n t).mem.trans h.1, (vfFlr_reset n t).vault.trans h.2⟩
    · exact h) l s

theorem functionResets : Says.functionResets := by
  intro s
  refine ⟨fun n hf => ?_, fun hp => ?_⟩
  · have hn : fnOf n.toNat = .vf n := by rw [fnOf, BitVec.ofNat_toNat, BitVec.setWidth_eq]
    obtain ⟨hr, ho, hc, hpost, hm, hv⟩ := vfFlr_reset n.toNat s
    rw [hn] at hr ho
    have he : (if fnLive s (.vf n) then vfFlr n.toNat s else s) = vfFlr n.toNat s := if_pos hf
    refine runs_done (u := if fnLive s (.vf n) then vfFlr n.toNat s else s) rfl ?_
    rw [he, after_mem, after_vault, after_q]
    refine ⟨(fnRegs_after ..).trans hr, fun f hf => (fnRegs_after ..).trans (ho f hf), fun c hc' => ?_, hpost, hm, hv⟩
    rw [core_congr (after_cores ..)]
    exact hc c hc'
  · have he : (if s.power.pcie then pfFlr s else s) = pfFlr s := if_pos hp
    obtain ⟨hm, hv⟩ := vfFlrs_keep (mkeys s.parts.parts) s
    refine runs_done (u := if s.power.pcie then pfFlr s else s) rfl ?_
    rw [he, after_mem, after_vault, after_q, after_parts]
    exact ⟨(fnRegs_after ..).trans (setRegs_fnRegs ..), rfl, rfl, hm, hv⟩

/-- Settles O11. -/
theorem hostInterface : Obligations.HostInterface := ⟨hostRegisters, eventRegisters, functionResets⟩

end Sys2Proof.Machine
end

section
/-! SUPPORT. Entries of the host rings: fetched, checked, copied in and posted (R191, R192, R279, R282). -/

namespace Sys2Proof.Machine

set_option Elab.async false

/-! ### What an access through a turnstile leaves of the rings -/

/-- The rings and the postings stay; of a function's registers an interrupt's pending bits may change. -/
structure RingsKept (s t : State) : Prop where
  regs : ∀ f, ∃ v, fnRegs t f = { fnRegs s f with pba := v }
  posting : t.q.posting = s.q.posting

namespace RingsKept

theorem of_q {s t : State} (h : t.q = s.q) : RingsKept s t := ⟨fun f => ⟨_, fnRegs_congr h f⟩, by rw [h]⟩

theorem refl (s : State) : RingsKept s s := of_q rfl

theorem trans {s t u : State} (h : RingsKept s t) (k : RingsKept t u) : RingsKept s u :=
  ⟨fun f => by
    obtain ⟨v, hv⟩ := h.regs f
    obtain ⟨w, hw⟩ := k.regs f
    exact ⟨w, by rw [hw, hv]⟩, k.posting.trans h.posting⟩

/-- Composition with the later step named first. -/
theorem via {s t u : State} (k : RingsKept t u) (h : RingsKept s t) : RingsKept s u := h.trans k

theorem ite {s t u : State} {c : Prop} [Decidable c] (h : RingsKept s t) (k : RingsKept s u) :
    RingsKept s (if c then t else u) := by
  split
  · exact h
  · exact k

theorem comp {s t : State} (h : RingsKept s t) (f : Fn) : (fnRegs t f).comp = (fnRegs s f).comp := by
  obtain ⟨v, hv⟩ := h.regs f
  rw [hv]

theorem work {s t : State} (h : RingsKept s t) (f : Fn) (q : Nat) : workRing t f q = workRing s f q := by
  obtain ⟨v, hv⟩ := h.regs f
  rw [workRing, hv]
  rfl

theorem msix (f : Fn) (v : Nat) (s : State) : RingsKept s (msix f v s) := by
  unfold Machine.msix
  split
  · refine ⟨fun g => ?_, rfl⟩
    by_cases h : fnKey f = fnKey g
    · have hg : ∀ u : State, fnRegs u g = fnRegs u f := fun u => by rw [fnRegs, fnRegs, h]
      exact ⟨_, by rw [hg, modRegs_fnRegs, hg]⟩
    · exact ⟨_, setRegs_fnRegs_other s _ h⟩
  · exact of_q rfl

theorem raiseEvent (n : Nat) (s : State) : RingsKept s (raiseEvent n s) := by
  have he (c : BitVec 4) : RingsKept s { s with q := { s.q with events := { s.q.events with cause := c } } } :=
    ⟨fun f => ⟨_, rfl⟩, rfl⟩
  exact ite ((he _).trans (msix _ _ _)) (he _)

theorem alert (n : Nat) (s : State) : RingsKept s (alert n s) :=
  ite (of_q rfl) (via (raiseEvent _ _) (of_q rfl))

theorem logFault (a b c d e f g h : Nat) (s : State) : RingsKept s (logFault a b c d e f g h s) := by
  have hr (t : State) (k : t.q = s.q) : RingsKept s (if 3 ≤ b then Machine.raiseEvent 0 t else t) :=
    ite ((of_q k).trans (raiseEvent 0 t)) (of_q k)
  refine hr _ ?_
  unfold emit
  dsimp only
  split <;> split <;> (try split) <;> rfl

theorem countUncorrectable (n : Nat) (s : State) : RingsKept s (countUncorrectable n s) := by
  unfold Machine.countUncorrectable
  dsimp only
  exact ite (via (alert _ _) (via (logFault _ _ _ _ _ _ _ _ _) (of_q rfl))) (of_q rfl)

theorem readLine (g : Gate) (p l : Nat) (s : State) : RingsKept s (readLine g p l s).1 := by
  unfold Machine.readLine
  dsimp only
  split
  · exact (logFault _ _ _ _ _ _ _ _ _).trans (countUncorrectable _ _)
  · have hm : RingsKept s (if (lineInfo s g.wd.stack l).ecc = .corrected then
        Machine.logFault 1 1 1 g.wd.stack l p 0 0 s else s) := ite (logFault _ _ _ _ _ _ _ _ _) (refl s)
    generalize (if (lineInfo s g.wd.stack l).ecc = .corrected then Machine.logFault 1 1 1 g.wd.stack l p 0 0 s else s) = u at hm
    split
    · exact hm.trans (logFault 4 2 1 g.wd.stack l p 0 0 u)
    · exact hm
    · split
      · exact (hm.trans (logFault 3 2 1 g.wd.stack l p 0 0 u)).trans (of_q rfl)
      · exact hm

theorem writeChunks (g : Gate) (p : Nat) (cs : List (Nat × Nat × Nat)) (b : Bytes) (s : State) :
    RingsKept s (writeChunks g p cs b s).1 := by
  induction cs generalizing b s with
  | nil => exact refl s
  | cons c cs ih =>
    obtain ⟨l, o, n⟩ := c
    rw [Machine.writeChunks]
    refine trans ?_ (ih _ _)
    split
    · exact of_q rfl
    · dsimp only
      split
      · exact readLine _ _ _ _
      · exact (readLine _ _ _ _).trans (of_q rfl)

theorem memWrite (who : Requester) (k off : Nat) (b : Bytes) (s : State) : RingsKept s (memWrite who k off b s).1 := by
  have hn (n : Nat) : RingsKept s (needStack n s) := by
    obtain ⟨p, v, h⟩ := needStack_shape n s
    rw [h]
    exact of_q rfl
  unfold Machine.memWrite
  dsimp only
  split
  · exact hn _
  · exact (hn _).trans (writeChunks _ _ _ _ _)

end RingsKept

/-! ### Fetches -/

theorem logDead_fnRegs (a b c d e f g : Nat) (q : BitVec 64) (x : BitVec 128) (s : State) (fn : Fn) :
    fnRegs (logDead a b c d e f g q x s) fn = fnRegs s fn := fnRegs_congr (logDead_q ..) fn

theorem stopEnvRing_cause (f : Fn) (b : Bool) (s : State) : (stopEnvRing f b s).q.events.cause.getLsbD 3 = true := by
  unfold stopEnvRing
  dsimp only
  rw [raiseEvent_cause]
  simp [setBit]

section
variable {f : Fn} {s : State} (hf : fnLive s f = true) (hc : fnConf s f = false) (ho : s.mem.htClosed = false)
  (hh : hostReady s = true)
include hf hc ho hh

theorem envEntryFetch_unread (he : (fnRegs s f).env.enable = true) (hne : (fnRegs s f).env.head ≠ (fnRegs s f).env.tail)
    (hr : (fnRegs s f).env.outstanding.toNat < 8) (env : HostRead) (b : Bool) :
    envEntryFetch f .unreadable env b s = stopEnvRing f false s := by
  have hfew : ¬ 8 ≤ (fnRegs s f).env.outstanding.toNat := by omega
  have hn : ¬ ((!fnLive s f) = true ∨ (!(hostReady s || (f == .pf && recoveryOutcome s))) = true ∨ s.mem.htClosed = true ∨
      (!(fnRegs s f).env.enable) = true ∨ (fnRegs s f).env.head = (fnRegs s f).env.tail ∨
      8 ≤ (fnRegs s f).env.outstanding.toNat ∨ (fnConf s f = true ∧ (!mhas s.vault.bce (fnKey f)) = true)) := by
    simp [hf, hc, ho, hh, he, hne, hfew]
  exact if_neg hn

end

/-- An entry stands due on a work ring of a running Open partition, and its completion has room (R279, R285). -/
structure DescDue (vn : BitVec 7) (q : Nat) (s : State) : Prop where
  live : fnLive s (.vf vn) = true
  conf : isConf s vn.toNat = false
  open_ : s.mem.htClosed = false
  running : ∃ x, part? s vn.toNat = some x ∧ x.state = .running
  enable : (workRing s (.vf vn) q).enable = true
  entry : (workRing s (.vf vn) q).head ≠ (workRing s (.vf vn) q).tail
  room : ((fnRegs s (.vf vn)).comp.tail - (fnRegs s (.vf vn)).comp.head).toNat + (fnRegs s (.vf vn)).comp.reserved.toNat + 1 <
    2 ^ (fnRegs s (.vf vn)).comp.log2.toNat

/-- A descriptor is taken from its ring: HEAD and the accepted counts advance, a completion is reserved. -/
def takeDesc (f : Fn) (q : Nat) (t : State) : State :=
  modComp f (fun x => { x with reserved := x.reserved + 1 })
    (modWork f q (fun x => { x with head := x.head + 1, accepted := x.accepted + 1, accepted56 := x.accepted56 + 1 }) t)

theorem takeDesc_shape (f : Fn) (q : Nat) (s : State) : ∃ rs, takeDesc f q s = { s with q := { s.q with regs := rs } } :=
  ⟨_, rfl⟩

theorem takeDesc_head (f : Fn) (q : Nat) (s : State) : (workRing (takeDesc f q s) f q).head = (workRing s f q).head + 1 := by
  have h (t : State) : workRing (modComp f (fun x => { x with reserved := x.reserved + 1 }) t) f q = workRing t f q := by
    rw [workRing, modComp_fnRegs]
    rfl
  rw [takeDesc, h, modWork_workRing]

theorem takeDesc_reserved (f : Fn) (q : Nat) (s : State) :
    (fnRegs (takeDesc f q s) f).comp.reserved = (fnRegs s f).comp.reserved + 1 := by
  have h : (fnRegs (modWork f q (fun x => { x with head := x.head + 1, accepted := x.accepted + 1, accepted56 := x.accepted56 + 1 }) s) f).comp =
      (fnRegs s f).comp := by
    rw [modWork, setWork, modRegs_fnRegs]
  rw [takeDesc, modComp_fnRegs, h]

section
variable {vn : BitVec 7} {q : Nat} {s : State} (h : DescDue vn q s)
include h

/-- A due fetch is decided by what the host's bytes are. -/
theorem descriptorFetch_due (desc : HostRead) (input : HostInput) : descriptorFetch (.vf vn) q desc input s =
    match desc with
    | .unreadable => stopWork (.vf vn) q s
    | .timeout => stopWork (.vf vn) q (logFault 0x11 2 0xA 0 0 0xFF 0 0 s)
    | .plain b =>
      if 32 ≤ (core s (physOf s (byteAt b 2).toNat)).queue.length ∧ coreHolder s (byteAt b 2).toNat = some vn.toNat then s
      else runDesc vn.toNat q b (BitVec.ofNat 64 (q * 2 ^ 56 + ((workRing s (.vf vn) q).accepted56 + 1).toNat)) input
        (takeDesc (.vf vn) q s)
    | .bounce _ => failDesc vn.toNat q [] (BitVec.ofNat 64 (q * 2 ^ 56 + ((workRing s (.vf vn) q).accepted56 + 1).toNat)) 3
        (takeDesc (.vf vn) q s) := by
  obtain ⟨hl, hc, ho, ⟨x, hx, hr⟩, he, hne, hroom⟩ := h
  have hn : ¬ ((!fnLive s (.vf vn)) = true ∨ (!(match part? s vn.toNat with | some x => x.state == .running | none => false)) = true ∨
      s.mem.htClosed = true ∨ (!(workRing s (.vf vn) q).enable) = true ∨
      (workRing s (.vf vn) q).head = (workRing s (.vf vn) q).tail ∨
      2 ^ (fnRegs s (.vf vn)).comp.log2.toNat ≤ ((fnRegs s (.vf vn)).comp.tail - (fnRegs s (.vf vn)).comp.head).toNat +
        (fnRegs s (.vf vn)).comp.reserved.toNat + 1 ∨
      (isConf s vn.toNat = true ∧ (!mhas s.vault.bce vn.toNat) = true)) := by
    simp [hl, hc, ho, hx, hr, he, hne, hroom, -BitVec.toNat_sub]
  refine (if_neg hn).trans ?_
  have hc1 : ¬ isConf s vn.toNat = true := by rw [hc]; nofun
  have hc2 : (!isConf s vn.toNat) = true := by rw [hc]; rfl
  cases desc with
  | unreadable => rfl
  | timeout => rfl
  | plain b => exact if_neg hc1
  | bounce r => exact if_pos hc2

end

/-- A descriptor of an Open partition that passes the checks of Table 12-3 has its input written and stands posted. -/
theorem runDesc_posts {p q : Nat} {b x : Bytes} {id : BitVec 64} {s : State} (hc : isConf s p = false)
    (hform : descFormOk b false = true) (hrag : (byteAt b 1).getLsbD 0 = false) (hcap : fld b 0x28 4 = 0)
    (hlen : x.length = fld b 0x14 2 * fld b 0x16 2) (hhold : coreHolder s (byteAt b 2).toNat = some p)
    (hfen : resFenced s 1 (byteAt b 2).toNat = false)
    (hwin : winHolds s (byteAt b 2).toNat ((byteAt b 3).toNat % 16) 1 (fld b 0x18 4) (fld b 0x10 4) = true)
    (hw : (memWrite (.host (BitVec.ofNat 7 p)) ((byteAt b 3).toNat % 16) (fld b 0x18 4) x s).2 = 0) (hin : fld b 0x10 4 ≠ 0) :
    ∃ u, RingsKept s u ∧ runDesc p q b id (.plain x) s = { u with q := { u.q with posting := u.q.posting ++
      [{ core := (byteAt b 2).toNat, defer := (byteAt b 1).getLsbD 1, irq := !(byteAt b 1).getLsbD 2,
         entry := entryOf p q b x.length id false }] } } := by
  have hr : readInput p q false (.plain x) s = some (x, s) := rfl
  have hl : inputLen false b (.plain x) = fld b 0x10 4 := rfl
  unfold runDesc
  dsimp only
  rw [hc, hl, hr]
  rw [if_neg (by rw [hform]; nofun), if_neg (by rw [hhold, hfen]; simp), if_neg (by rw [hwin, hcap]; simp), if_neg hin]
  dsimp only
  rw [if_neg (by rw [hw]; simp), hrag, if_neg (by simp [hlen])]
  refine ⟨_, ?_, rfl⟩
  exact .ite (.refl s) (RingsKept.memWrite _ _ _ _ _)

theorem ringFetches : Says.ringFetches := by
  intro f s hf hc ho hh
  refine ⟨fun b env he hne hr hb hz ha hl hu hm hy => ?_, fun env he hne hr => ?_, ?_, ?_⟩
  · exact runs_envEntryFetch_readable ⟨hf, hc, ho, hh, he, hne, hr⟩ ⟨hb, hz, ha, hl, hu, hm, hy⟩ env false
  · rw [runs_envEntryFetch, after_fnRegs, after_q, envEntryFetch_unread hf hc ho hh he hne hr, stopEnvRing_env]
    exact ⟨rfl, rfl, Bool.or_true _, rfl, stopEnvRing_cause f false s⟩
  · intro vn q b input x hfv hx hr he hne hroom hform hrag hcap hlen hhold hfen hq hwin hw hin
    subst hfv
    have hd : DescDue vn q.toNat s := ⟨hf, hc, ho, ⟨x, hx, hr⟩, he, hne, hroom⟩
    have hn : ¬ (32 ≤ (core s (physOf s (byteAt b 2).toNat)).queue.length ∧ coreHolder s (byteAt b 2).toNat = some vn.toNat) :=
      fun h => by omega
    have he := (descriptorFetch_due hd (.plain b) (.plain input)).trans (if_neg hn)
    have hvn : BitVec.ofNat 7 vn.toNat = vn := by rw [BitVec.ofNat_toNat, BitVec.setWidth_eq]
    have hw' : (memWrite (.host (BitVec.ofNat 7 vn.toNat)) ((byteAt b 3).toNat % 16) (fld b 0x18 4) input
        (takeDesc (.vf vn) q.toNat s)).2 = 0 := by
      rw [hvn]
      exact hw _
    obtain ⟨u, hu, hrun⟩ := runDesc_posts (q := q.toNat) (id := BitVec.ofNat 64 (q.toNat * 2 ^ 56 +
      ((workRing s (.vf vn) q.toNat).accepted56 + 1).toNat)) (s := takeDesc (.vf vn) q.toNat s) hc hform hrag hcap hlen hhold
      hfen hwin hw' hin
    rw [hrun] at he
    refine runs_done (u := descriptorFetch (.vf vn) q.toNat (.plain b) (.plain input) s) rfl ?_
    rw [workRing_after, fnRegs_after, after_q, he]
    refine ⟨(congrArg WorkRing.head (hu.work (.vf vn) q.toNat)).trans (takeDesc_head _ _ _),
      (congrArg CompRing.reserved (hu.comp (.vf vn))).trans (takeDesc_reserved _ _ _), _,
      congrArg (· ++ _) hu.posting, rfl, rfl, rfl, ?_⟩
    have hbit : bit false 46 = 0 := rfl
    dsimp only [entryOf]
    rw [hrag, hcap, hbit, Nat.add_zero]
    rfl
  · intro q vn d hfv hx he hne hroom
    subst hfv
    have hd : DescDue vn q.toNat s := ⟨hf, hc, ho, hx, he, hne, hroom⟩
    have he := descriptorFetch_due hd .unreadable d
    have hw : workRing (stopWork (.vf vn) q.toNat s) (.vf vn) q.toNat =
        { workRing s (.vf vn) q.toNat with fault := true, stopped := true, enable := false } := by
      rw [stopWork, raiseEvent_workRing, modWork_workRing]
    refine runs_done (u := descriptorFetch (.vf vn) q.toNat .unreadable d s) rfl ?_
    rw [workRing_after, he]
    dsimp only
    rw [hw]
    exact ⟨rfl, rfl, rfl⟩

/-! ### Posts -/

/-- A tile that is off is started for a woken core; the domains alone change. -/
theorem heldWake_shape (c : Nat) (d : Prop) [Decidable d] (s : State) :
    ∃ p, (if d then s else
      let u := startDomain (tilePd (c / 16)) s
      { u with power := { u.power with held := u.power.held ++ [(tilePd (c / 16), .wake (BitVec.ofNat 7 c))] } }) =
      { s with power := p } := by
  split
  · exact ⟨_, rfl⟩
  · obtain ⟨p, hp, -⟩ := startDomain_shape (tilePd (c / 16)) s
    dsimp only
    rw [hp]
    exact ⟨_, rfl⟩

/-- Waking a core leaves its queue, and every other core. -/
theorem wakeIf_core (c : Nat) (d : Prop) [Decidable d] (s : State) :
    (core (if d then wakeCore c s else s) c).queue = (core s c).queue ∧
    ∀ k, k ≠ c → core (if d then wakeCore c s else s) k = core s k := by
  split
  · exact ⟨by rw [wakeCore_core], fun k hk => modCore_core_other _ _ hk.symm⟩
  · exact ⟨rfl, fun _ _ => rfl⟩

theorem wakeIf_shape (c : Nat) (d : Prop) [Decidable d] (s : State) :
    ∃ cs, (if d then wakeCore c s else s) = { s with cores := cs } := by
  split
  · exact ⟨_, rfl⟩
  · exact ⟨_, rfl⟩

theorem entriesArePosted : Says.entriesArePosted := by
  intro f q s y x hy hx hl
  obtain ⟨v, hv⟩ : ∃ v, v = modCore (physOf s y.core) (fun k => { k with queue := k.queue ++
      [{ y.entry with period := x.periodSeq + (if y.defer then 1 else 0), x := y.entry.x }] })
    { s with q := { s.q with posting := removeFirst (fun z => z == y) s.q.posting } } := ⟨_, rfl⟩
  obtain ⟨cs, hcs⟩ := wakeIf_shape (physOf s y.core) ((core s (physOf s y.core)).waiting = .queue ∧ (!y.defer) = true) v
  obtain ⟨hqueue, hother⟩ := wakeIf_core (physOf s y.core)
    ((core s (physOf s y.core)).waiting = .queue ∧ (!y.defer) = true) v
  obtain ⟨p, hp⟩ := heldWake_shape (physOf s y.core) (domOf s (tilePd (physOf s y.core / 16)) = .on)
    (if (core s (physOf s y.core)).waiting = .queue ∧ (!y.defer) = true then wakeCore (physOf s y.core) v else v)
  have he : entryPost f q.toNat s = { v with cores := cs, power := p } := by
    unfold entryPost
    rw [hy]
    dsimp only
    rw [hx]
    dsimp only
    rw [if_neg (by omega), ← hv]
    refine hp.trans ?_
    rw [hcs]
  rw [hcs] at hqueue hother
  have hc (k : Nat) : core (after s (entryPost f q.toNat s)) k = core { v with cores := cs } k := by
    rw [after_core, he]
    rfl
  refine runs_done (u := entryPost f q.toNat s) rfl ?_
  rw [after_q, after_mem, after_parts, hc, hqueue, he]
  refine ⟨by rw [hv]; rfl, by rw [hv, modCore_core]; rfl, fun k hk => ?_, by rw [hv]; rfl, by rw [hv]; rfl⟩
  rw [after_core]
  refine (hother k hk).trans ?_
  rw [hv, modCore_core_other _ _ hk.symm]
  rfl

/-- Settles O12. -/
theorem ringEntries : Obligations.RingEntries := ⟨ringFetches, entriesArePosted⟩

end Sys2Proof.Machine
end

section
/-! SUPPORT. The digest engines, the symmetric engine and the working key register (Table 07-2, R130, R149, R150,
R159–R162, R165). -/

namespace Sys2Proof.Machine

set_option Elab.async false

variable {s : State} {i : Instr} {u : State} {P : State → Prop}

/-- A command of an engine runs while PD2 is on (R146). -/
theorem runs_engine (hon : domOf s 2 = .on) (he : exec i s = done s (engineOn s u)) (hp : P (after s u)) : Runs i s P :=
  runs_done (he.trans (by rw [engineOn, if_pos hon])) hp

theorem exec_engine (hon : domOf s 2 = .on) (he : exec i s = done s (engineOn s u)) : exec i s = .next (after s u) :=
  he.trans (by rw [engineOn, if_pos hon]; rfl)

/-! ### Digest engines -/

section
variable {n : BitVec 3} (hn : n.toNat < 6) (hon : domOf s 2 = .on)
include hn hon

theorem exec_deFinish : exec (.deFinish n) s = done s (deFinish n.toNat s) := by
  have h : exec (.deFinish n) s = done s (engineOn s (if n.toNat < 6 then deFinish n.toNat s else s)) := rfl
  rw [h, engineOn, if_pos hon, if_pos hn]

theorem exec_deAbort : exec (.deAbort n) s = done s (deAbort n.toNat s) := by
  have h : exec (.deAbort n) s = done s (engineOn s (if n.toNat < 6 then deAbort n.toNat s else s)) := rfl
  rw [h, engineOn, if_pos hon, if_pos hn]

end

theorem setDe_other {n k : Nat} (d : DigestEngine) (s : State) (h : k ≠ n) : deOf (setDe n d s) k = deOf s k :=
  mgetD_mset_other _ _ _ h.symm

theorem touches_setDe {ps : List Piece} (h : .eng ∈ ps) (n : Nat) (d : DigestEngine) (s : State) :
    Touches ps s (after s (setDe n d s)) :=
  touches_after fun p hp => by
    cases p with
    | eng => exact absurd h hp
    | _ => simp [Same, setDe]

theorem nextStart_empty {n : Nat} {s : State} (h : (deOf s n).queued = []) : nextStart n s = s := by
  rw [nextStart, h]

theorem digestEngines : Says.digestEngines := by
  intro n s hn hon hf
  have hnf : ¬ (deOf s n.toNat).fenced = true := by rw [hf]; nofun
  refine ⟨fun alg hst => ?_, fun a hst => ?_, fun f hst hv hs hp ha hfr => ?_, fun hst hq hm hk => ?_,
    fun a b hst hr hm ha => ?_, fun a b hst hr hm => ?_, fun hq => ?_⟩
  · have hns : ¬ ((deOf s n.toNat).st = .loaded ∨ (deOf s n.toNat).st = .running) := by
      rcases hst with h | h <;> rw [h] <;> decide
    have he : deStart n.toNat { alg := alg, mode := .plain, key := .none, l := 0 } s = setDe n.toNat { deOf s n.toNat with
        st := .loaded, args := { alg := alg, mode := .plain, key := .none, l := 0 }, laneA := none, laneB := none,
        world := 0, msg := [], frags := 0, resA := none, resB := none } s := by
      unfold deStart
      dsimp only
      rw [if_neg hnf, if_neg hns, loadMsg, if_neg (fun h => nomatch h.1)]
      rfl
    refine runs_deStart hn hon ?_
    rw [he]
    simp only [after_deOf, setDe_deOf]
    exact ⟨touches_setDe (by decide) _ _ s, trivial, trivial, trivial, fun k hk => setDe_other _ s hk⟩
  · have he : deStart n.toNat a s = _ := (if_neg hnf).trans (if_pos hst)
    refine runs_deStart hn hon ?_
    rw [he, after_deOf, setDe_deOf]
    exact ⟨touches_setDe (by decide) _ _ s, rfl⟩
  · have hb := stream_singleton (fragBytes_sram hv hs hp ha)
    have hni : ¬ (deOf s n.toNat).st = .idle := by rcases hst with h | h <;> rw [h] <;> decide
    have hnd : ¬ (deOf s n.toNat).st = .done := by rcases hst with h | h <;> rw [h] <;> decide
    have he : deData n.toNat [f] s = setDe n.toNat { deOf s n.toNat with
        st := .running, msg := (deOf s n.toNat).msg ++ mread s.eng.sram f.addr.toNat (f.lenM1.toNat + 1),
        frags := (deOf s n.toNat).frags + 1 } s := by
      unfold deData
      dsimp only
      rw [if_neg hnf, if_neg hni, if_neg hnd, fragCount_singleton, hb]
      exact if_neg (by simp; omega)
    refine runs_deData hn hon ?_
    rw [he, after_deOf, setDe_deOf]
    exact ⟨touches_setDe (by decide) _ _ s, rfl, rfl⟩
  · have hnk : ¬ (deOf s n.toNat).args.key = .hsb := by rw [hk]; nofun
    have he : deFinish n.toNat s = setDe n.toNat { deOf s n.toNat with
        st := .done, resA := laneResult (deOf s n.toNat).args (deOf s n.toNat).laneA (deOf s n.toNat).msg, resB := none } s := by
      unfold deFinish
      dsimp only
      rw [if_neg hnf, if_pos hst, if_pos hm, if_neg hnk, nextStart_empty (by rw [setDe_deOf]; exact hq)]
    refine runs_done (exec_deFinish hn hon) ?_
    rw [he, after_deOf, setDe_deOf]
    exact ⟨touches_setDe (by decide) _ _ s, rfl, by rw [laneResult, hm]⟩
  · have hro : routeOk (deOf s n.toNat) (.read a) = true := by rw [routeOk, hm]; rfl
    have he : deRoute n.toNat (.read a) s =
        emit (.engine b) { s with eng := { s.eng with sram := mwrite s.eng.sram a.toNat b, results := b :: s.eng.results } } := by
      unfold deRoute
      dsimp only
      rw [if_neg hnf, hst, hr]
      dsimp only
      rw [if_pos hro, if_pos hm]
      exact if_neg (by omega)
    refine runs_deRoute hn hon ?_
    rw [he, after_eng, after_out]
    exact ⟨touches_after (same_of_pieced rfl), rfl, rfl⟩
  · have hro : ¬ routeOk (deOf s n.toNat) (.read a) = true := by
      have : routeOk (deOf s n.toNat) (.read a) = ((deOf s n.toNat).args.mode == .plain) := rfl
      rw [this, beq_iff_eq]
      exact hm
    have he : deRoute n.toNat (.read a) s = setDe n.toNat { DigestEngine.idle with
        queued := (deOf s n.toNat).queued, fenced := (deOf s n.toNat).fenced, lastFault := (deOf s n.toNat).lastFault }
          (status "ROUTE_REFUSED" s) := by
      unfold deRoute
      dsimp only
      rw [if_neg hnf, hst, hr]
      dsimp only
      rw [if_neg hro, if_neg hm]
    refine runs_deRoute hn hon ?_
    rw [he, after_deOf, after_eng, after_out, setDe_deOf]
    exact ⟨rfl, rfl, rfl, rfl⟩
  · have he : deAbort n.toNat s = zeroWkr (zeroHsb (setDe n.toNat { DigestEngine.idle with
        queued := [], fenced := (deOf s n.toNat).fenced, lastFault := (deOf s n.toNat).lastFault } s)) := by
      unfold deAbort
      dsimp only
      rw [hq]
      exact nextStart_empty (congrArg DigestEngine.queued (setDe_deOf n.toNat _ s))
    refine runs_done (exec_deAbort hn hon) ?_
    have hd : deOf (zeroWkr (zeroHsb (setDe n.toNat { DigestEngine.idle with
        queued := [], fenced := (deOf s n.toNat).fenced, lastFault := (deOf s n.toNat).lastFault } s))) n.toNat = _ :=
      setDe_deOf n.toNat _ s
    rw [he, after_deOf, after_vault, after_eng, hd]
    exact ⟨touches_after (same_of_pieced rfl), rfl, rfl, rfl, rfl, rfl, rfl⟩

/-! ### The symmetric engine -/

theorem mread_length (m : SMap Byte) (a n : Nat) : (mread m a n).length = n := by
  induction n generalizing a with
  | zero => rfl
  | succ n ih => rw [mread, List.length_cons, ih]

theorem symmetricEngine : Says.symmetricEngine := by
  intro s hon hf
  have hnf : ¬ s.eng.seFenced = true := by rw [hf]; nofun
  refine ⟨fun u b k hk => ?_, fun u b hk => ?_, fun o hu hd ha ht hx => ?_, fun o hu hd ha ht hx htag => ?_,
    fun o h1 h2 h3 h4 h5 => ?_, fun a len dst h1 h2 h3 => ?_, fun n p dst hx => ?_, fun c d h1 h2 h3 => ?_⟩
  · have he : wkrLoad u b.toNat s = status "OK" { s with vault := { s.vault with wkr := k.zeroExtend 512 } } := by
      rw [wkrLoad, hk]
    exact (exec_engine (u := wkrLoad u b.toNat s) hon rfl).trans (by rw [he])
  · have he : wkrLoad u b.toNat s = status "REFUSED" s := by rw [wkrLoad, hk]
    exact (exec_engine (u := wkrLoad u b.toNat s) hon rfl).trans (by rw [he])
  · have hp : ¬ (65536 < o.aad.length ∨ 2 ^ 20 < o.text.length ∨ 0x200000 < o.dst.toNat + o.text.length) := by omega
    have hnd : ¬ o.decrypt = true := by rw [hd]; nofun
    intro c
    refine (exec_engine (u := seGcm o s) hon rfl).trans ?_
    unfold seGcm gcmKeys
    rw [if_neg hnf, if_neg hp, hu]
    dsimp only
    rw [if_neg hnd]
    rfl
  · have hp : ¬ (65536 < o.aad.length ∨ 2 ^ 20 < o.text.length ∨ 0x200000 < o.dst.toNat + o.text.length) := by omega
    have hb : (Config.gcmTag (wkrKey s) o.iv o.aad o.text == o.tag) = false := beq_eq_false_iff_ne.2 htag
    refine (exec_engine (u := seGcm o s) hon rfl).trans ?_
    unfold seGcm gcmKeys
    rw [if_neg hnf, if_neg hp, hu]
    dsimp only
    rw [if_pos hd, List.find?_cons, hb]
    rfl
  · have hp : ¬ (¬ (32 ≤ o.text.length ∧ o.text.length ≤ 2 ^ 20 ∧ o.text.length % 16 = 0) ∨
        0x200000 < o.dst.toNat + o.text.length) := by omega
    refine (exec_engine (u := seXts o s) hon rfl).trans ?_
    unfold seXts
    dsimp only
    rw [if_neg hnf, if_neg hp, if_neg h5]
    rfl
  · have hl : (mread s.eng.sram a.toNat len.toNat).length = len.toNat := mread_length ..
    have hlt := len.isLt
    have hp : ¬ (¬ (16 ≤ len.toNat ∧ len.toNat ≤ 4096 ∧ len.toNat % 8 = 0) ∨ 0x200000 < dst.toNat + len.toNat + 8) := by omega
    refine (exec_engine (u := seKwWrap (.record a len) dst.toNat s) hon rfl).trans ?_
    unfold seKwWrap
    dsimp only
    rw [if_neg hnf, hl, if_neg hp]
    rfl
  · have hx' : ¬ ((slot s n.toNat).exportable = true ∧
        (if p then (slot s n.toNat).pendingValid else (slot s n.toNat).activeValid) = true) := by rw [hx]; nofun
    refine (exec_engine (u := seKwWrap (.bank n p) dst.toNat s) hon rfl).trans ?_
    unfold seKwWrap
    dsimp only
    rw [if_neg hnf, if_neg hx']
  · have hp : ¬ ¬ (24 ≤ c.length ∧ c.length ≤ 4104 ∧ c.length % 8 = 0) := fun h => h ⟨h1, h2, h3⟩
    refine ⟨seKwUnwrap c d s, exec_engine hon rfl, ?_⟩
    unfold seKwUnwrap
    dsimp only
    rw [if_neg hnf, if_neg hp]
    cases kwUnwrap (wkrKey s) c with
    | none => rfl
    | some b =>
      intro hd
      rw [hd]

/-- Settles O17. -/
theorem digestAndSymmetric : Obligations.DigestAndSymmetric := ⟨digestEngines, symmetricEngine⟩

end Sys2Proof.Machine
end

section
/-! SUPPORT. The public-key engine, the DRBG and the engines' health (R129, R163–R169). -/

namespace Sys2Proof.Machine

set_option Elab.async false

variable {s : State}

/-! ### The public-key engine -/

theorem pke_open (h : s.eng.pkeFenced = false) (k : State → State) : pke k s = k s := if_neg (by rw [h]; nofun)

theorem withDraw_healthy (h : s.eng.entropyFailed = false) (k : Nat → State → State) : withDraw k s =
    k s.free { s with free := s.free + 1, eng := { s.eng with drbgRuns := s.eng.drbgRuns + 1 } } :=
  if_neg (by rw [h]; nofun)

theorem withSeed_some {u : Use} {b : Nat} {d : Digest} (h : useKey s u b = some d) (k : Digest → State → State) :
    withSeed u b k s = zeroWkr (k d s) := by
  rw [withSeed, h]

theorem publicKeyEngine : Says.publicKeyEngine := by
  intro s hon hf hent
  refine ⟨fun u d k hk => ?_, fun pub sig d => ?_, fun u k peer hk => ?_, fun seed => ?_, fun u k m ctx hm hc hk => ?_,
    fun pub m ctx sg hm hc => ?_, ?_, fun pub => ?_, fun u k ct hk hl => ?_, ?_⟩
  · have he : ecdsaSign u d s = zeroWkr (result (Config.ecdsaSign (ecPriv k) (s.eng.pkeDigest.getD d) s.free) { s with
        free := s.free + 1, eng := { s.eng with drbgRuns := s.eng.drbgRuns + 1, pkeDigest := none } }) :=
      ((pke_open hf _).trans (withSeed_some hk _)).trans (congrArg zeroWkr (withDraw_healthy hent _))
    refine runs_engine (u := ecdsaSign u d s) hon rfl ?_
    rw [he, after_out, after_vault, after_eng]
    exact ⟨touches_after (same_of_pieced rfl), rfl, rfl, rfl, rfl⟩
  · have he : ecdsaVerify pub d sig s = status (if Config.ecdsaVerify pub (s.eng.pkeDigest.getD d) sig then "VALID" else "INVALID")
        { s with eng := { s.eng with pkeDigest := none } } := pke_open hf _
    refine runs_engine (u := ecdsaVerify pub d sig s) hon rfl ?_
    rw [he, after_out, after_eng]
    exact ⟨touches_after (same_of_pieced rfl), rfl, rfl⟩
  · have he : ecdh u peer s = _ := (pke_open hf _).trans (withSeed_some hk _)
    refine runs_engine (u := ecdh u peer s) hon rfl ?_
    rw [after_out, after_eng, after_vault, he]
    cases Config.ecdhShared (ecPriv k) peer with
    | none => exact ⟨touches_after (same_of_pieced rfl), rfl, rfl, rfl⟩
    | some x => exact ⟨touches_after (same_of_pieced rfl), rfl, rfl, rfl⟩
  · have he : pke (result (Config.mldsaPublic seed)) s = result (Config.mldsaPublic seed) s := pke_open hf _
    refine runs_engine (u := pke (result (Config.mldsaPublic seed)) s) hon rfl ?_
    rw [he, after_out]
    exact ⟨touches_after (same_of_pieced rfl), rfl⟩
  · have hn : ¬ (65536 < m.length ∨ 255 < ctx.length) := by omega
    have he : mldsaSign u m ctx s = _ := ((if_neg hn).trans ((pke_open hf _).trans (withSeed_some hk _))).trans
      (congrArg zeroWkr (withDraw_healthy hent _))
    refine runs_engine (u := mldsaSign u m ctx s) hon rfl ?_
    rw [after_out, after_vault, he]
    dsimp only
    cases Config.mldsaSign (mlSeed k) m ctx s.free with
    | none => exact ⟨touches_after (same_of_pieced rfl), rfl, rfl⟩
    | some sg => exact ⟨touches_after (same_of_pieced rfl), rfl, rfl⟩
  · have hn : ¬ (65536 < m.length ∨ 255 < ctx.length) := by omega
    have he : mldsaVerify pub m ctx sg s = _ := (if_neg hn).trans (pke_open hf _)
    refine runs_engine (u := mldsaVerify pub m ctx sg s) hon rfl ?_
    rw [he, after_out]
    exact ⟨touches_after (same_of_pieced rfl), rfl⟩
  · have he : pke (withDraw (fun i t => result (Config.mlkemKeygen i).1 t)) s = _ :=
      (pke_open hf _).trans (withDraw_healthy hent _)
    refine runs_engine (u := pke (withDraw (fun i t => result (Config.mlkemKeygen i).1 t)) s) hon rfl ?_
    rw [he, after_out]
    exact ⟨touches_after (same_of_pieced rfl), rfl⟩
  · have he : mlkemEncaps pub s = _ := (pke_open hf _).trans (withDraw_healthy hent _)
    refine runs_engine (u := mlkemEncaps pub s) hon rfl ?_
    rw [after_out, after_eng, he]
    dsimp only
    cases Config.mlkemEncaps pub s.free with
    | none => exact ⟨touches_after (same_of_pieced rfl), rfl, rfl, rfl⟩
    | some x => exact ⟨touches_after (same_of_pieced rfl), rfl, rfl, rfl⟩
  · have he : mlkemDecaps u ct s = zeroWkr (status "OK" { s with
        eng := { s.eng with hsbKem := some (Config.mlkemDecaps (kemKey k) ct) } }) :=
      ((pke_open hf _).trans (withSeed_some hk _)).trans (congrArg zeroWkr (if_neg fun h => h hl))
    refine runs_engine (u := mlkemDecaps u ct s) hon rfl ?_
    rw [he, after_vault, after_eng]
    exact ⟨touches_after (same_of_pieced rfl), rfl, rfl⟩
  · refine runs_done (u := zeroHsb s) rfl ?_
    rw [after_eng]
    exact ⟨touches_after (same_of_pieced rfl), rfl⟩

/-! ### The DRBG and the engines' health -/

theorem FaultFrame.eng {s t : State} (h : FaultFrame s t) : t.eng = s.eng ∧ t.vault = s.vault ∧ t.mem = s.mem := by
  obtain ⟨m, p, q, o, rfl⟩ := h
  exact ⟨rfl, rfl, rfl⟩

/-- An alert is set, and changes no engine and no key. -/
theorem alert_keeps (bit : Nat) (s : State) : (alert bit s).eng = s.eng ∧ (alert bit s).vault = s.vault ∧
    (alert bit s).mgmt.alert = setBit s.mgmt.alert bit true := by
  obtain ⟨q, o, h⟩ := alert_shape bit s
  rw [h]
  exact ⟨rfl, rfl, rfl⟩

/-- Entropy that fails stops the DRBG, drops what waits for it and raises the alert. -/
theorem entropyFail_keeps (s : State) : (entropyFail s).eng = { s.eng with entropyFailed := true, drbgStopped := true, drbgHeld := [] } ∧
    (entropyFail s).mgmt.alert.getLsbD 5 = true := by
  have hf (l : List Nat) (t : State) : (l.foldl (fun t _ => status "INTERNAL" t) t).eng = t.eng :=
    foldl_shape (f := fun t _ => status "INTERNAL" t) (P := fun s t => t.eng = s.eng) (fun _ => rfl) (fun _ _ _ h => h) l t
  obtain ⟨he, -, ha⟩ := alert_keeps 5 ((List.range s.eng.drbgHeld.length).foldl (fun t _ => status "INTERNAL" t)
    { s with eng := { s.eng with entropyFailed := true, drbgStopped := true, drbgHeld := [] } })
  refine ⟨he.trans (hf _ _), ?_⟩
  show (alert 5 _).mgmt.alert.getLsbD 5 = true
  rw [ha]
  simp [setBit]

/-- The end of a parity fault that fences: the record, the answer, the alert. -/
theorem engineParity_fenced (e : EngineId) (t : State) :
    ∀ u, u = alert 3 (status "ENGINE_FAULT" (logFault 8 3 6 (engineUnit e) 0 0xFF 3 0 t)) →
      u.eng = t.eng ∧ u.vault = t.vault ∧ u.mgmt.alert.getLsbD 3 = true := by
  rintro u rfl
  obtain ⟨he, hv, -⟩ := (logFault_frame 8 3 6 (engineUnit e) 0 0xFF 3 0 t).eng
  obtain ⟨he', hv', ha⟩ := alert_keeps 3 (status "ENGINE_FAULT" (logFault 8 3 6 (engineUnit e) 0 0xFF 3 0 t))
  refine ⟨he'.trans he, hv'.trans hv, ?_⟩
  rw [ha]
  simp [setBit]

theorem generate_healthy (h : s.eng.entropyFailed = false) (len : Nat) : generate len s = result (drawBytes s.free len)
    { s with free := s.free + 1, eng := { s.eng with drbgRuns := s.eng.drbgRuns + 1 } } := withDraw_healthy h _

theorem drbgAndParity : Says.drbgAndParity := by
  intro s hon
  refine ⟨fun len ok hent hst hr => ?_, fun len ok hent hst => ?_, fun hst hl => ?_, fun hst hent hh => ?_,
    fun hst hent => ?_, ?_, fun n hn hq => ?_⟩
  · have hne : ¬ s.eng.entropyFailed = true := by rw [hent]; nofun
    have hns : ¬ s.eng.drbgStopped = true := by rw [hst]; nofun
    have he : drbgGenerate (len.toNat + 1) ok s = _ := ((if_neg hne).trans ((if_neg hns).trans
      (if_neg (Nat.not_le.2 hr)))).trans (generate_healthy hent _)
    refine runs_engine (u := drbgGenerate (len.toNat + 1) ok s) hon rfl ?_
    rw [he, after_out, after_free, after_eng]
    exact ⟨touches_after (same_of_pieced rfl), rfl, rfl, rfl⟩
  · have hne : ¬ s.eng.entropyFailed = true := by rw [hent]; nofun
    have hlen : BitVec.ofNat 16 (len.toNat + 1 - 1) = len := by
      rw [Nat.add_sub_cancel, BitVec.ofNat_toNat, BitVec.setWidth_eq]
    have he : drbgGenerate (len.toNat + 1) ok s = { s with eng := { s.eng with drbgHeld := s.eng.drbgHeld ++ [len] } } := by
      refine ((if_neg hne).trans (if_pos hst)).trans ?_
      rw [hlen]
    refine runs_engine (u := drbgGenerate (len.toNat + 1) ok s) hon rfl ?_
    rw [he, after_eng]
    exact ⟨touches_after (same_of_pieced rfl), rfl⟩
  · obtain ⟨he, hv, hm⟩ := (logFault_frame 0x10 2 6 0x12 0 0xFF 1 0
      { s with eng := { s.eng with drbgStopped := true, lastHealth := some (tick s) } }).eng
    have hh : healthFail s = logFault 0x10 2 6 0x12 0 0xFF 1 0
        { s with eng := { s.eng with drbgStopped := true, lastHealth := some (tick s) } } := by
      unfold healthFail
      rw [hl, hst]
      rfl
    refine runs_engine (u := healthFail s) hon rfl ?_
    rw [after_eng, after_mem, after_vault, hh]
    exact ⟨he, hm, hv⟩
  · have hn : ¬ ((!s.eng.drbgStopped) = true ∨ s.eng.entropyFailed = true) := by rw [hst, hent]; nofun
    have he : entropyRetest true s = { s with
        eng := { s.eng with drbgStopped := false, drbgRuns := 0, drbgReseeds := s.eng.drbgReseeds + 1 } } := by
      unfold entropyRetest
      rw [if_neg hn, if_pos rfl]
      dsimp only
      rw [hh]
      rfl
    refine runs_done (u := entropyRetest true s) rfl ?_
    rw [he, after_eng]
    exact ⟨touches_after (same_of_pieced rfl), rfl⟩
  · have hn : ¬ ((!s.eng.drbgStopped) = true ∨ s.eng.entropyFailed = true) := by rw [hst, hent]; nofun
    obtain ⟨he, ha⟩ := entropyFail_keeps { s with eng := { s.eng with lastHealth := some (tick s) } }
    have hr : entropyRetest false s = entropyFail { s with eng := { s.eng with lastHealth := some (tick s) } } :=
      (if_neg hn).trans (if_neg (by decide))
    refine runs_done (u := entropyRetest false s) rfl ?_
    rw [after_eng, after_mgmt, hr, he]
    exact ⟨rfl, rfl, ha⟩
  · obtain ⟨he, hv, ha⟩ := engineParity_fenced .se (zeroWkr { s with
      eng := { s.eng with seFault := some (tick s), seFenced := s.eng.seFenced || true } }) (engineParity .se false s) rfl
    refine runs_engine (u := engineParity .se false s) hon rfl ?_
    rw [after_eng, after_vault, after_mgmt, he, hv]
    exact ⟨Bool.or_true _, rfl, rfl, ha, rfl⟩
  · obtain ⟨he, -, -⟩ := engineParity_fenced (.de n) (zeroHsb (setDe n.toNat { DigestEngine.idle with
        queued := (deOf s n.toNat).queued, fenced := (deOf s n.toNat).fenced || true, lastFault := some (tick s) } s))
      (engineParity (.de n) false s) (by
        simp only [engineParity, Bool.not_false, Bool.true_or, Bool.or_true, if_true])
    have hdo (k : Nat) : deOf (engineParity (.de n) false s) k = deOf (setDe n.toNat { DigestEngine.idle with
        queued := (deOf s n.toNat).queued, fenced := (deOf s n.toNat).fenced || true, lastFault := some (tick s) } s) k :=
      deOf_congr (congrArg Engines.de he) k
    refine runs_engine (u := engineParity (.de n) false s) hon rfl ?_
    simp only [after_deOf, hdo]
    rw [setDe_deOf]
    exact ⟨Bool.or_true _, rfl, rfl, fun k hk => setDe_other _ s hk⟩

/-- Settles O18. -/
theorem publicKeysAndDrbg : Obligations.PublicKeysAndDrbg := ⟨publicKeyEngine, drbgAndParity⟩

end Sys2Proof.Machine
end

section
/-! SUPPORT. The commands of the parcel group and the steps of an admission (R300–R317, R478). -/

namespace Sys2Proof.Machine

set_option Elab.async false

/-! ### A command past its gate -/

variable {i : Instr} {sp : OpSpec} {e : Env} {s t : State} {r : State × Ans} {body : State → State × Ans}

/-- A command whose gate opens is its body, concluded. -/
theorem served_of (hx : exec i s = done s (serve sp e body s)) (hb : body t = r) : Says.served i sp e s t r := fun q hq => by
  rw [hx, serve_open hq, hb, done_eq]

theorem withPart_live {x : Partition} (hx : part? t e.target.toNat = some x) (hs : x.state ≠ .destroying)
    (k : Partition → State × Ans) : withPart e t k = k x := by
  rw [withPart, hx]
  exact if_neg hs

theorem any_false {α : Type} {l : List α} {p : α → Bool} (h : ∀ a ∈ l, p a = false) : l.any p = false :=
  List.any_eq_false.2 fun a ha => by rw [h a ha]; nofun

/-! ### The parcel group -/

section
variable {x : Partition} (hx : part? t e.target.toNat = some x) (hs : x.state ≠ .destroying)
include hx hs

theorem served_parcelPolicySet {n : BitVec 4} (hp : e.path = .spdm n) (ht : sessionTid t n.toNat = some x.tenant)
    (hf : payFault ([(0, decide (p8 e 0 ≤ 8)), (1, decide (p8 e 1 ≤ 4))] ++ rsv e 2 6 ++
      rsv e (8 + 48 * p8 e 0) (48 * (8 - p8 e 0)) ++ rsv e (392 + 48 * p8 e 1) (48 * (4 - p8 e 1))) = none)
    (hc : t.desk.circles = []) (hb : channelBases t e.target.toNat = [])
    (hz : ∀ z ∈ t.desk.parcels, z.part ≠ e.target.toNat) :
    Says.served (.parcelPolicySet e) specParcelPolicySet e s t
      (modPart e.target.toNat (fun z => { z with policy :=
        { publishers := (List.range (p8 e 0)).map fun i => dig e.payload (8 + 48 * i),
          bases := (List.range (p8 e 1)).map fun i => dig e.payload (392 + 48 * i) } }) t, Ans.ok) := by
  refine served_of rfl ?_
  rw [checked_pass hf, withPart_live hx hs, policySet, hc, hb]
  refine (if_neg (by rw [hp]; simp [ht])).trans (if_neg ?_)
  have hno : (t.desk.parcels.any fun z => z.part == e.target.toNat && (z.bound || z.st == .inProgress) &&
      !((List.range (p8 e 0)).map fun i => dig e.payload (8 + 48 * i)).contains z.head.pbd) = false :=
    any_false fun z hz' => by simp [hz z hz']
  rw [hno]
  simp

theorem served_parcelAdmit {c k : Nat} {cx : Context} (hf : payFault (admitChecks e) = none) (hc : p8 e 8192 = c)
    (h0 : p8 e 8195 = 0) (hm : x.mode ≠ .confidential) (hcx : ctxOf t e x c = some cx)
    (hr : (resOf t 5 (p16 e 8193)).st = .held e.target.toNat) (h180 : 0x180 ≤ p16 e 8193)
    (hrc : (resOf t 5 (p16 e 8193)).params.toNat % 256 = c)
    (hpub : x.policy.publishers.contains (parseHead e.payload).pbd = true) (hk : (parseHead e.payload).kind ≠ 3)
    (hp : parcelOf t e.target.toNat c (parseHead e.payload).hd = none)
    (ha : ∀ a ∈ t.desk.adms, a.head.hd ≠ (parseHead e.payload).hd)
    (hw : chooseWindow t x e.target.toNat c (parseHead e.payload).plainLen = some k) :
    ∃ a : Admission, ∃ y : Parcel, a.step = .waiting ∧ a.window = k ∧ a.head = parseHead e.payload ∧ a.aid = t.desk.order ∧
      a.slot = p16 e 8193 ∧ y.st = .inProgress ∧ y.window = k ∧ y.head = parseHead e.payload ∧ y.bound = false ∧
      Says.served (.parcelAdmit e) specParcelAdmit e s t
        ({ t with desk := { t.desk with
            order := t.desk.order + 1, adms := t.desk.adms ++ [a],
            parcels := t.desk.parcels.filter (fun z => !isParcel e.target.toNat c (parseHead e.payload).hd z) ++ [y] } },
         Ans.ok (digBytes (parseHead e.payload).hd ++ [BitVec.ofNat 8 k] ++ zeros 7)) := by
  subst hc
  refine ⟨{ aid := t.desk.order, part := e.target.toNat, ctx := p8 e 8192, head := parseHead e.payload, slot := p16 e 8193,
            addr := BitVec.ofNat 64 (p64 e 8200), circle := none, window := k, step := .waiting, lane := none, start := 0,
            startSlots := 0, key := 0, table := [], chunk := 0, hit := false, readmit := false, status := 0, detail := 0, ok := false },
    { part := e.target.toNat, ctx := p8 e 8192, head := parseHead e.payload, window := k, st := .inProgress, status := 0,
      detail := 0, usage := 0, touched := false, pinned := false, passport := none, admitted := t.desk.order, circle := none,
      bound := false }, rfl, rfl, rfl, rfl, rfl, rfl, rfl, rfl, rfl, served_of rfl ?_⟩
  rw [checked_pass hf, withPart_live hx hs, acceptParcel]
  generalize parseHead e.payload = h at *
  have hany : (t.desk.adms.any fun a => a.part == e.target.toNat && a.ctx == p8 e 8192 && a.head.hd == h.hd) = false :=
    any_false fun a ha' => by simp [ha a ha']
  dsimp only
  rw [if_neg (fun h => hm h.2), hcx, hr, hrc, hp, hany, h0]
  simp only [baseState]
  simp only [Nat.zero_ne_one, if_false, Option.isSome_none, Option.bind_none, hw, Bool.false_eq_true]
  have hkind : (h.kind != 3) = true := bne_iff_ne.2 hk
  rw [if_neg (by simp [h180]), hpub, hkind, Bool.true_or, if_neg (by simp [hm]), if_neg (by simp)]
  rfl

/-- A command of a parcel its context has bound reaches its own part. -/
theorem withParcel_bound {cx : Context} {y : Parcel} (hcx : ctxOf t e x (p8 e 0) = some cx)
    (hy : parcelOf t e.target.toNat (p8 e 0) (dig e.payload 8) = some y) (hb : y.bound = true) {b : Bool}
    (ho : b = true → isOperator e = false ∨ x.mode ≠ .confidential) (k : Partition → Parcel → State × Ans) :
    withParcel e b t k = k x y := by
  have hno : ¬ (b = true ∧ isOperator e = true ∧ x.mode = .confidential) := fun ⟨h, h1, h2⟩ =>
    (ho h).elim (fun h' => Bool.false_ne_true (h'.symm.trans h1)) (fun h' => h' h2)
  rw [withParcel, withPart_live hx hs, if_neg hno, hcx, hy]
  exact if_pos (Or.inl hb)

theorem served_ofParcel {cx : Context} {y : Parcel} (hcx : ctxOf t e x (p8 e 0) = some cx)
    (hy : parcelOf t e.target.toNat (p8 e 0) (dig e.payload 8) = some y) (hb : y.bound = true)
    (ho : isOperator e = false ∨ x.mode ≠ .confidential) :
    (payFault ([(0, decide (p8 e 0 < 16)), (1, decide (p8 e 1 ≤ 1))] ++ rsv e 2 6) = none →
      Says.served (.parcelPin e) specParcelPin e s t
        (modParcel y.part y.ctx y.head.hd (fun z => { z with pinned := p8 e 1 == 1 }) t, Ans.ok)) ∧
    (payFault ([(0, decide (p8 e 0 < 16))] ++ rsv e 1 7) = none →
      Says.served (.parcelUnbind e) specParcelUnbind e s t (unbindParcel y.part y.ctx y.head.hd t, Ans.ok) ∧
      (y.pinned = false → y.st = .resident → evictable t y = true → t.desk.adms = [] →
        Says.served (.parcelEvict e) specParcelEvict e s t
          (evictParcel y (if isOperator e then countAct x.tenant t else t), Ans.ok)) ∧
      (y.pinned = true → Says.served (.parcelEvict e) specParcelEvict e s t (t, Ans.state))) := by
  have hopen := withParcel_bound hx hs hcx hy hb (b := true) (fun _ => ho)
  have hany := withParcel_bound hx hs hcx hy hb (b := false) (fun h => nomatch h)
  refine ⟨fun hf => served_of rfl ?_, fun hf => ⟨served_of rfl ?_, fun hp hst hev had => served_of rfl ?_, fun hp => served_of rfl ?_⟩⟩
  · rw [checked_pass hf, hopen]
  · rw [checked_pass hf, hopen]
  · rw [checked_pass hf, hany, hp, hst, hev, had]
    rfl
  · rw [checked_pass hf, hany, hp]
    exact if_pos (Or.inl rfl)

theorem served_parcelStatusGet {c : Nat} (hf : payFault ([(0, decide (p8 e 0 < 16) || p8 e 0 == 255)] ++ rsv e 1 1 ++ rsv e 4 4) = none)
    (hc : p8 e 0 = c) (hcx : (ctxOf t e x c).isSome = true) (hk : mkeys x.ctxs = [c]) :
    Says.served (.parcelStatusGet e) specParcelStatusGet e s t
      (returned (fillEntries t e 64 (t.desk.parcels.filter fun y => y.part == e.target.toNat && y.ctx == c) parcelEntry).1 t,
       (fillEntries t e 64 (t.desk.parcels.filter fun y => y.part == e.target.toNat && y.ctx == c) parcelEntry).2) := by
  subst hc
  refine served_of rfl ?_
  have hsome : ¬ (p8 e 0 ≠ 255 ∧ (ctxOf t e x (p8 e 0)).isNone = true) := fun ⟨_, h⟩ => by
    rw [Option.isNone_iff_eq_none.1 h] at hcx
    exact Bool.false_ne_true hcx
  have hone : [p8 e 0].filter (fun k => (p8 e 0 == 255 || k == p8 e 0) && (ctxOf t e x k).isSome) = [p8 e 0] := by
    simp [hcx]
  simp only [checked_pass hf, withPart_live hx hs, if_neg hsome, hk, hone, List.flatMap_singleton]

theorem served_circleJoin {q : Machine.Circle} {cx : Context}
    (hf : payFault ([(0, decide (p8 e 0 < 32)), (1, decide (p8 e 1 < 16)), (2, decide (p8 e 2 < 16))] ++ rsv e 3 5) = none)
    (hq : mget t.desk.circles (p8 e 0) = some q) (hc : mget x.ctxs (p8 e 2) = some cx) (hm : q.members = [])
    (hn : ∀ r ∈ t.desk.circles, ∀ m ∈ r.2.members, m.part ≠ e.target.toNat) (hmode : x.mode = q.mode)
    (hcf : x.mode ≠ .confidential) (hb : x.policy.bases.contains q.baseHd = true) (hw : mget x.windows (p8 e 1) = none) :
    Says.served (.circleJoin e) specCircleJoin e s t
      (modPart e.target.toNat (fun y => { y with
          windows := mput y.windows (p8 e 1)
            { base := q.base, size := q.size, stack := q.stack, access := 4, ctx := p8 e 2, use := .sharedParcel (p8 e 0),
              save := none, exposed := false } })
        { t with desk := { t.desk with circles := mput t.desk.circles (p8 e 0) { q with
            members := [{ part := e.target.toNat, window := p8 e 1, ctx := p8 e 2, bound := false }],
            first := some (q.first.getD e.target.toNat) } } }, Ans.ok) := by
  refine served_of rfl ?_
  have hnone : (t.desk.circles.any fun r => r.2.baseHd == q.baseHd && r.2.members.any fun m => m.part == e.target.toNat) = false :=
    any_false fun r hr => by rw [any_false fun m hm' => by simp [hn r hr m hm'], Bool.and_false]
  rw [checked_pass hf, withPart_live hx hs, Machine.circleJoin, hq]
  dsimp only
  rw [mhas, mhas, hc, hw, hnone, hm, ← hmode, Option.isSome_some, Bool.not_true, if_neg Bool.false_ne_true, if_neg Bool.false_ne_true,
    if_neg (by rw [hb]; simp [hcf])]
  rfl

theorem served_circleLeave {q : Machine.Circle} (hf : payFault ([(0, decide (p8 e 0 < 32))] ++ rsv e 1 7) = none)
    (hq : mget t.desk.circles (p8 e 0) = some q) (hm : (q.members.any fun m => m.part == e.target.toNat) = true) :
    Says.served (.circleLeave e) specCircleLeave e s t
      (leaveCircle e.target.toNat (p8 e 0) (countAct x.tenant t), Ans.ok) := by
  refine served_of rfl ?_
  rw [checked_pass hf, withPart_live hx hs, hq]
  exact if_pos hm

end

/-- Settles O19: each command of the group, past its gate and its own checks, does what its rule says. -/
theorem parcelCommands : Obligations.ParcelCommands := fun _ _ _ _ hx hs =>
  ⟨fun _ hp ht hf hc hb hz => served_parcelPolicySet hx hs hp ht hf hc hb hz,
   fun _ _ _ hf hc h0 hm hcx hr h180 hrc hpub hk hp ha hw => served_parcelAdmit hx hs hf hc h0 hm hcx hr h180 hrc hpub hk hp ha hw,
   fun _ _ hcx hy hb ho => served_ofParcel hx hs hcx hy hb ho,
   fun _ hf hc _ hcx hk => served_parcelStatusGet hx hs hf hc hcx hk,
   fun _ _ hf hq hc hm hn hmode hcf hb hw => served_circleJoin hx hs hf hq hc hm hn hmode hcf hb hw,
   fun _ hf hq hm => served_circleLeave hx hs hf hq hm⟩
end Sys2Proof.Machine
end

section
/-! SUPPORT. Circles and the steps of an admission (R303–R310, R478). -/

namespace Sys2Proof.Machine

set_option Elab.async false

/-! ### What the mirror, the core registers and the maps leave -/

theorem mirror_shape (m : BitVec 8) (b : Bytes) (s : State) : ∃ tw po, mirror m b s = { s with twin := tw, port := po } := by
  simp only [mirror, twinSend]
  split_ifs <;> exact ⟨_, _, rfl⟩

theorem mirrorSlot_shape (n : Nat) (s : State) : ∃ tw po, mirrorSlot n s = { s with twin := tw, port := po } := mirror_shape _ _ _

theorem mirrorParcel_shape (x : Parcel) (n : Nat) (s : State) : ∃ tw po, mirrorParcel x n s = { s with twin := tw, port := po } :=
  mirror_shape _ _ _

theorem reloadWd_shape (p : Nat) (s : State) : ∃ cs, reloadWd p s = { s with cores := cs } := by
  rw [reloadWd]
  split
  · exact ⟨_, rfl⟩
  · exact foldl_shape (P := fun s t => ∃ cs, t = { s with cores := cs }) (fun s => ⟨_, rfl⟩)
      (fun s t n h => by obtain ⟨m, rfl⟩ := h; exact ⟨_, rfl⟩) _ s

theorem mget_mupd {α : Type} (m : SMap α) (i : Nat) (f : α → α) (j : Nat) :
    mget (mupd m i f) j = if j = i then (mget m j).map f else mget m j := by
  induction m with
  | nil => simp [mupd, mget]
  | cons e m ih =>
    obtain ⟨k, v⟩ := e
    by_cases hk : k = j
    · by_cases hi : j = i
      · simp [mupd, mget, hk, hi]
      · simp [mupd, mget, hk, hi]
    · have hne : (if k = i then ((k, f v) : Nat × α) else (k, v)).1 = k := by split <;> rfl
      have hh : mget (mupd ((k, v) :: m) i f) j = mget (mupd m i f) j := by
        rw [mupd, List.map_cons]
        split <;> exact if_neg hk
      rw [hh, ih, mget, if_neg hk]

theorem part?_modPart (s : State) (p q : Nat) (f : Partition → Partition) :
    part? (modPart p f s) q = if q = p then (part? s q).map f else part? s q := mget_mupd _ _ _ _

/-! ### Circles -/

theorem installed_bits (a : BitVec 64) (v : BitVec 16) :
    (a &&& attrRw ||| 1#64 <<< 44 ||| versionOnly v).getLsbD 44 = true ∧
    (a.getLsbD 43 = false → (a &&& attrRw ||| 1#64 <<< 44 ||| versionOnly v).getLsbD 43 = false) := by
  have hone : (1#64 <<< 44).getLsbD 44 = true ∧ (1#64 <<< 44).getLsbD 43 = false := by decide
  have hver : (versionOnly v).getLsbD 43 = false := by simp [versionOnly]
  refine ⟨?_, fun ha => ?_⟩
  · rw [BitVec.getLsbD_or, BitVec.getLsbD_or, hone.1, Bool.or_true, Bool.true_or]
  · rw [BitVec.getLsbD_or, BitVec.getLsbD_or, BitVec.getLsbD_and, ha, hone.2, hver]
    rfl

/-- A slot that a key is installed in holds it, under an attribute word that lets it out only where the letter says so. -/
theorem slot_drawKey (k : Nat) (a : BitVec 64) (s : State) : ∃ tw po x, x.attr.getLsbD 44 = true ∧
    (a.getLsbD 43 = false → x.attr.getLsbD 43 = false) ∧
    drawKey k a s = { setSlot k x { s with free := s.free + 1 } with twin := tw, port := po } := by
  simp only [drawKey, installSlot, useFree]
  generalize (slot _ k).version + 1 = v
  generalize BitVec.ofNat 384 _ = key
  obtain ⟨tw, po, h⟩ := mirrorSlot_shape k (setSlot k
    { attr := a &&& attrRw ||| 1#64 <<< 44 ||| versionOnly v, active := key, pending := 0, targetA := 0, targetP := 0 }
    { s with free := s.free + 1 })
  exact ⟨tw, po, { attr := a &&& attrRw ||| 1#64 <<< 44 ||| versionOnly v, active := key, pending := 0, targetA := 0, targetP := 0 },
    (installed_bits a v).1, (installed_bits a v).2, h⟩

theorem slot_setSlot (k : Nat) (x : Slot) (s : State) : slot (setSlot k x s) k = x := mgetD_mset_same _ _ _ _

theorem resOf_pool (k : Nat) (r : Res) (s : State) : resOf (setRes 5 k r s) 5 k = r := mgetD_mset_same _ _ _ _

variable {e : Env} {s t : State}

theorem circleCreate_done {k : Nat} (hc : mget t.desk.circles (p8 e 0) = none)
    (hh : rangeHeld t { base := p32 e 8, size := p32 e 12, stack := p8 e 2, access := 4, ctx := 255, use := .plain, save := none,
                        exposed := false } = false)
    (hs : stackShut t (p8 e 2) = false) (hm : modeOfCode (p8 e 1) ≠ .confidential)
    (hr : rangeScrub t { base := p32 e 8, size := p32 e 12, stack := p8 e 2, access := 4, ctx := 255, use := .plain, save := none,
                         exposed := false } = false)
    (he : t.eng.entropyFailed = false) (hp : freePool t = some k) : ∃ u r, circleCreate e t = (u, r) ∧ (r = Ans.ok ∨ r = Ans.waiting) ∧
      (∃ c, mget u.desk.circles (p8 e 0) = some c ∧ c.keySlot = k ∧ c.baseHd = dig e.payload 20 ∧ c.members = [] ∧
        c.base = p32 e 8 ∧ c.size = p32 e 12 ∧ c.stack = p8 e 2 ∧ c.resident = false) ∧
      (slot u k).activeValid = true ∧ (slot u k).exportable = false ∧ (resOf u 5 k).st = .held 255 := by
  obtain ⟨tw, po, x, hv, hx, hd⟩ := slot_drawKey k circleAttr (setRes 5 k { st := .held 255, params := 0, tag := none } t)
  simp only [circleCreate, mhas, hc, hh, hs, hr, he, hp, hd]
  rw [if_neg (by simp), if_neg (by simp [hm]), if_neg Bool.false_ne_true, if_neg Bool.false_ne_true]
  have hslot : ∀ u : State, u.vault = (setSlot k x (setRes 5 k { st := .held 255, params := 0, tag := none } t)).vault →
      (slot u k).activeValid = true ∧ (slot u k).exportable = false := fun u hu => by
    have hk : slot u k = x := by rw [slot, hu]; exact slot_setSlot k x _
    rw [hk]
    exact ⟨hv, hx (by decide)⟩
  split
  · exact ⟨_, _, rfl, Or.inr rfl, ⟨_, mget_mput_same _ _ _, rfl, rfl, rfl, rfl, rfl, rfl, rfl⟩, (hslot _ rfl).1, (hslot _ rfl).2,
      congrArg Res.st (resOf_pool k _ t)⟩
  · exact ⟨_, _, rfl, Or.inl rfl, ⟨_, mget_mput_same _ _ _, rfl, rfl, rfl, rfl, rfl, rfl, rfl⟩, (hslot _ rfl).1, (hslot _ rfl).2,
      congrArg Res.st (resOf_pool k _ t)⟩

theorem circlesAreCreated : Says.circlesAreCreated := by
  intro e s t k w
  refine ⟨fun hf hc hh hs hm hr he hp => ?_, fun hf h255 => served_of rfl ?_⟩
  · obtain ⟨u, r, hb, hrest⟩ := circleCreate_done hc hh hs hm hr he hp
    exact ⟨u, r, served_of rfl (by rw [checked_pass hf, hb]), hrest⟩
  · have hall : (circlesSeen t e).filter (fun r => p8 e 0 == 255 || r.1 == p8 e 0) = circlesSeen t e :=
      List.filter_eq_self.2 fun r _ => by simp [h255]
    rw [checked_pass hf]
    simp only [hall]
    exact if_neg fun h => h.1 h255

/-! ### Admissions -/

variable {a : Admission}

theorem setAdm_setAdm {b : Admission} (hb : b.aid = a.aid) (s : State) : setAdm b (setAdm a s) = setAdm b s := by
  simp only [setAdm, List.map_map]
  congr 2
  refine List.map_congr_left fun y _ => ?_
  by_cases hy : y.aid = a.aid
  · simp [hy, hb]
  · simp [hy, hb]

theorem admissionStart_lane {n : Nat}
    (hf : s.desk.adms.find? (fun b => b.step == .waiting && b.head.hd == a.head.hd && laneTurn s b && startAllowed s b.part) = some a)
    (hl : freeLane s = some n) (hc : a.circle = none) (hr : residentIn s a.part a.window = none) (hre : a.readmit = false)
    (hcf : isConf s a.part = false) :
    admissionStart a.head.hd s = setAdm { a with
      lane := some n, start := s.aon.tick, startSlots := (((part? s a.part).bind (·.host)).map (·.slotsA)).getD 0,
      hit := false, step := .headerMark } s := by
  simp only [admissionStart, hf, hl, hc, hr, hre, hcf, Option.isNone_none, if_true, if_false, Bool.false_eq_true]
  split <;> exact setAdm_setAdm (by rfl) s

theorem pkeMark_header (hf : s.desk.adms.find? (fun b => b.step == .headerMark) = some a) (hp : s.eng.pkeFenced = false) :
    pkeMark s = if headSigned a.head = true then keyStep a (bindStep a s) else failAdm 9 1 a s := by
  simp only [pkeMark, hf, hp]
  cases headSigned a.head <;> rfl

section
variable {lane : Nat}
  (hf : s.desk.adms.find? (fun b => b.lane == some lane && !b.hit && (b.step == .table || b.step == .chunks)) = some a)
  (hb : admBusy s a = false) {b : Bytes}
include hf hb

theorem chunkComplete_table (ht : a.step = .table) (hn : b.length = 64 * a.head.chunks) :
    chunkComplete lane (.bytes b) s = if tableRoot a.head.chunks b = a.head.root then
      setAdm { a with step := .chunks, table := tableEntries a.head.chunks b } s else failAdm 9 4 a s := by
  simp only [chunkComplete, hf, hb, ht, hn]
  by_cases hr : tableRoot a.head.chunks b = a.head.root <;> simp [hr]

theorem chunkComplete_chunk (ht : a.step = .chunks) (hc : a.chunk + 1 < a.head.chunks)
    (hn : b.length = min (2 ^ 20) (a.head.plainLen - a.chunk * 2 ^ 20)) (hp : poolUp s = true) (hse : s.eng.seFenced = false)
    (hh : sha384 b = (a.table.getD a.chunk (0, 0)).1) (hk : (slot s a.slot).isEmpty = false)
    (hg : Config.gcmTag a.key (chunkIv a.head a.chunk) (digBytes a.head.hd ++ be64 a.chunk) b = (a.table.getD a.chunk (0, 0)).2)
    (hw : (deskWrite a (a.chunk * 2 ^ 20) (gcmXor a.key (chunkIv a.head a.chunk) b) s).2 = 0) :
    chunkComplete lane (.bytes b) s = setAdm { a with chunk := a.chunk + 1 }
      (deskWrite a (a.chunk * 2 ^ 20) (gcmXor a.key (chunkIv a.head a.chunk) b) s).1 := by
  have hbody : ∀ w : State × Nat, w.2 = 0 → (if w.2 ≠ 0 then failAdm 0xFF 9 a w.1
      else if a.chunk + 1 = a.head.chunks then resident { a with chunk := a.chunk + 1 } (setAdm { a with chunk := a.chunk + 1 } w.1)
      else setAdm { a with chunk := a.chunk + 1 } w.1) = setAdm { a with chunk := a.chunk + 1 } w.1 := fun w hw => by
    rw [if_neg (not_not.2 hw), if_neg hc.ne]
  rw [chunkComplete, hf]
  dsimp only
  rw [hb, if_neg Bool.false_ne_true, if_neg (by rw [ht]; nofun), if_neg (not_not.2 hn), hp, hse, if_neg (by simp),
    if_neg (not_not.2 hh), hk, if_neg Bool.false_ne_true, if_neg (not_not.2 hg)]
  exact hbody _ hw

end

/-- The window of a parcel whose outcome shows (R306). -/
def shownWindow (a : Admission) (w : Window) : Window :=
  { w with access := 1, exposed := true, use := match w.use with | .sharedParcel i => .sharedParcel i | _ => .parcel a.ctx a.head.hd }

/-- What the release of a resident parcel does to the admissions and the partitions. -/
theorem releaseAdm_ok (hok : a.ok = true) (s : State) : ∃ (u : State) (tw : Twin) (po : TwinPort),
    u.desk.adms = s.desk.adms.filter (fun y => y.aid != a.aid) ∧
    u.parts = (modPart a.part (fun x => { x with windows := mupd x.windows a.window (shownWindow a) }) s).parts ∧
    releaseAdm a s = { u with twin := tw, port := po } := by
  simp only [releaseAdm, hok, if_true]
  generalize hq : modParcel _ _ _ _ _ = q
  obtain ⟨cs, hcs⟩ := reloadWd_shape a.part q
  rw [hcs]
  have hadms : q.desk.adms = s.desk.adms.filter (fun y => y.aid != a.aid) := by subst hq; rfl
  have hparts : q.parts = (modPart a.part (fun x => { x with windows := mupd x.windows a.window (shownWindow a) }) s).parts := by
    subst hq
    rfl
  split
  · next x _ =>
    obtain ⟨tw, po, h⟩ := mirrorParcel_shape x (parcelCode x.st) { q with cores := cs }
    exact ⟨{ q with cores := cs }, tw, po, hadms, hparts, h⟩
  · exact ⟨{ q with cores := cs }, q.twin, q.port, hadms, hparts, rfl⟩

/-- An outcome that shows: the admission is gone, and a resident parcel's window is exposed, read-only. -/
theorem releaseAdm_shown (hok : a.ok = true) (s : State) : (∀ b ∈ (releaseAdm a s).desk.adms, b.aid ≠ a.aid) ∧
    ∀ w, windowOf s a.part a.window = some w → ∃ w', windowOf (releaseAdm a s) a.part a.window = some w' ∧
      w'.access = 1 ∧ w'.exposed = true := by
  obtain ⟨u, tw, po, ha, hp, hr⟩ := releaseAdm_ok hok s
  rw [hr]
  refine ⟨fun b hb => ?_, fun w hw => ⟨shownWindow a w, ?_, rfl, rfl⟩⟩
  · have hmem : b ∈ s.desk.adms.filter (fun y => y.aid != a.aid) := ha ▸ hb
    exact bne_iff_ne.1 (List.mem_filter.1 hmem).2
  · obtain ⟨x, hx, hxw⟩ := Option.bind_eq_some_iff.1 hw
    have hpart : part? { u with twin := tw, port := po } a.part = some { x with windows := mupd x.windows a.window (shownWindow a) } := by
      rw [part?, show ({ u with twin := tw, port := po } : State).parts = u.parts from rfl, hp]
      exact (part?_modPart s a.part a.part _).trans (by rw [if_pos rfl, hx]; rfl)
    rw [windowOf, hpart]
    exact (mget_mupd _ _ _ _).trans (by rw [if_pos rfl, hxw]; rfl)

theorem admissionSteps : Says.admissionSteps := fun s a => by
  refine ⟨fun n hf hl hc hr hre hcf => runs_done rfl ?_, fun hf hp => ?_, fun lane hf hb => ⟨fun b ht hn hr => runs_done rfl ?_,
    fun b ht hn hr => ?_, fun b ht hc hn hp hse hh hk hg => ?_⟩, fun p k hcf hf => ⟨fun hst => runs_done rfl ?_, fun hst hok => ?_⟩⟩
  · rw [after_desk, admissionStart_lane hf hl hc hr hre hcf]
    rfl
  · exact congrArg (done s) (pkeMark_header hf hp)
  · rw [after_desk, chunkComplete_table hf hb ht hn, if_pos hr]
    rfl
  · exact congrArg (done s) ((chunkComplete_table hf hb ht hn).trans (if_neg hr))
  · intro w hw
    exact congrArg (done s) (chunkComplete_chunk hf hb ht hc hn hp hse hh hk hg hw)
  · have hrel : admissionRelease p.toNat k.toNat s = { s with desk := { s.desk with overrun := satInc s.desk.overrun } } := by
      simp [admissionRelease, hf, hcf, hst]
    rw [hrel]
    exact ⟨touches_after (same_of_pieced rfl), after_desk _ _⟩
  · have hrel : admissionRelease p.toNat k.toNat s = releaseAdm a s := by simp [admissionRelease, hf, hcf, hst]
    obtain ⟨h1, h2⟩ := releaseAdm_shown hok s
    refine runs_done (u := releaseAdm a s) (congrArg (done s) hrel) ⟨?_, ?_⟩
    · rwa [after_desk]
    · simpa only [windowOf, part?, after_parts] using h2

/-- Settles O20: the creation of a circle and each step of an admission. -/
theorem admissionsAndCircles : Obligations.AdmissionsAndCircles := ⟨circlesAreCreated, admissionSteps⟩
end Sys2Proof.Machine
end

section
/-! SUPPORT. Fields of payloads and replies; periods and tokens (R287, R290–R292, R480). -/

namespace Sys2Proof.Machine

set_option Elab.async false

/-! ### Fields -/

theorem fld_lt (b : Bytes) (off n : Nat) : fld b off n < 256 ^ n := by
  refine lt_of_lt_of_le (leNat_lt _) (Nat.pow_le_pow_right (by decide) ?_)
  rw [slice, List.length_take]
  exact Nat.min_le_left _ _

theorem p16_lt (e : Env) (o : Nat) : p16 e o < 2 ^ 16 := fld_lt e.payload o 2
theorem p32_lt (e : Env) (o : Nat) : p32 e o < 2 ^ 32 := fld_lt e.payload o 4

theorem toNat_p16 (e : Env) (o : Nat) : (BitVec.ofNat 16 (p16 e o)).toNat = p16 e o := by
  rw [BitVec.toNat_ofNat, Nat.mod_eq_of_lt (p16_lt e o)]

theorem toNat_p32 (e : Env) (o : Nat) : (BitVec.ofNat 32 (p32 e o)).toNat = p32 e o := by
  rw [BitVec.toNat_ofNat, Nat.mod_eq_of_lt (p32_lt e o)]

theorem slice_left {a b : Bytes} {n : Nat} (h : a.length = n) : slice (a ++ b) 0 n = a := by
  subst h
  simp [slice]

theorem slice_right {a b : Bytes} {m k n : Nat} (h : a.length = m) (hk : m ≤ k) : slice (a ++ b) k n = slice b (k - m) n := by
  subst h
  simp [slice, List.drop_append, List.drop_eq_nil_of_le hk]

/-! ### Periods and tokens -/

variable {e : Env} {s t : State}

theorem keeps_parts (p : Nat) (f : Partition → Partition) (t : State) : Keeps [.parts] t (modPart p f t) :=
  keeps_of_pieced rfl

theorem keeps_setToken (n : Nat) (k : Token) (t : State) : Keeps [.q] t (setToken n k t) := keeps_of_pieced rfl

theorem mget_setToken (n : Nat) (k : Token) (t : State) : mget (setToken n k t).q.tokens n = some k := mget_mput_same _ _ _

theorem keeps_pages (l : List TokPage) (t : State) : Keeps [.q] t { t with q := { t.q with pages := l } } :=
  keeps_of_pieced rfl

/-- The channel number of an import is zero only where its field is. -/
theorem channel_ne {e : Env} (h : p16 e 4 ≠ 0) : BitVec.ofNat 16 (p16 e 4) ≠ 0 := fun h' => h (by
  rw [← toNat_p16 e 4, h']; rfl)

/-- The import that a TOKEN_IMPORT_SET of a partition in Open mode carries (Table 23-17). -/
def openImport (e : Env) : Import :=
  { src := BitVec.ofNat 16 (p16 e 2), channel := BitVec.ofNat 16 (p16 e 4), inbox := BitVec.ofNat 8 (p8 e 6),
    offset := BitVec.ofNat 64 (p64 e 8), block := BitVec.ofNat 32 (p32 e 16), ring := BitVec.ofNat 16 (p16 e 20), chd := none,
    nextSeq := none, nextSig := none, blocks := 0, waiting := [], broken := false, dropped := 0 }

section
variable {x : Partition} (hx : part? t e.target.toNat = some x) (hs : x.state ≠ .destroying)
include hx hs

theorem served_periodSet (hf : payFault ([(0, decide (50 ≤ p32 e 0 ∧ p32 e 0 ≤ 1000000))] ++ rsv e 4 4) = none) : ∃ u y,
    Says.served (.periodSet e) specPeriodSet e s t (u, Ans.ok) ∧ Keeps [.parts] t u ∧ part? u e.target.toNat = some y ∧
      (∀ k, k ≠ e.target.toNat → part? u k = part? t k) ∧
      (x.periodUs ≠ 0 → x.state = .running → y = { x with pendUs := p32 e 0 }) ∧
      (x.periodUs = 0 ∨ x.state ≠ .running → y = { x with periodUs := p32 e 0, pendUs := 0, anchor := tick t }) := by
  have hb : checked ([(0, decide (50 ≤ p32 e 0 ∧ p32 e 0 ≤ 1000000))] ++ rsv e 4 4) t (withPart e t fun x => periodSet e x t) =
      (modPart e.target.toNat (fun y => if x.periodUs ≠ 0 ∧ x.state = .running then { y with pendUs := p32 e 0 }
        else anchorPeriod (p32 e 0) t y) t, Ans.ok) := by
    rw [checked_pass hf, withPart_live hx hs]
    rfl
  refine ⟨_, if x.periodUs ≠ 0 ∧ x.state = .running then { x with pendUs := p32 e 0 } else anchorPeriod (p32 e 0) t x,
    served_of rfl hb, keeps_parts _ _ _, (part?_modPart _ _ _ _).trans (by rw [if_pos rfl, hx]; rfl),
    fun k hk => (part?_modPart _ _ _ _).trans (if_neg hk), fun h0 hr => if_pos ⟨h0, hr⟩,
    fun h => if_neg fun hn => h.elim hn.1 fun h' => h' hn.2⟩

/-- A command of a token that its partition holds reaches its own part. -/
theorem withToken_held {k : Token} (hr : (resOf t 4 (p16 e 0)).st = .held e.target.toNat) (hk : mget t.q.tokens (p16 e 0) = some k)
    (hv : (k.proxy && callerOf e.path == .vf) = false) (f : Nat → Token → State × Ans) : withToken e t f = f (p16 e 0) k := by
  rw [withToken, withPart_live hx hs]
  dsimp only
  rw [if_neg (not_not.2 hr), hk]
  dsimp only
  rw [hv]
  rfl

theorem withToken_other (hr : (resOf t 4 (p16 e 0)).st ≠ .held e.target.toNat) (f : Nat → Token → State × Ans) :
    withToken e t f = (t, Ans.notFound) := by
  rw [withToken, withPart_live hx hs]
  exact if_pos hr

theorem served_tokenSignal {k : Token}
    (hf : payFault ([(0, decide (p16 e 0 < 4096))] ++ rsv e 2 2 ++ [(4, decide (1 ≤ p32 e 4))]) = none)
    (hr : (resOf t 4 (p16 e 0)).st = .held e.target.toNat) (hk : mget t.q.tokens (p16 e 0) = some k) (hp : k.proxy = false)
    (hw : k.waiters = []) : ∃ u k', Says.served (.tokenSignal e) specTokenSignal e s t (u, Ans.ok) ∧ Keeps [.q] t u ∧
      mget u.q.tokens (p16 e 0) = some k' ∧ k'.count.toNat = min (k.count.toNat + p32 e 4) (2 ^ 32 - 1) ∧
      k'.overflow = (k.overflow || decide (2 ^ 32 ≤ k.count.toNat + p32 e 4)) ∧
      ∀ n, n ≠ p16 e 0 → mget u.q.tokens n = mget t.q.tokens n := by
  have hsig : signalToken (p16 e 0) (BitVec.ofNat 32 (p32 e 4)) t = setToken (p16 e 0) { k with
      count := BitVec.ofNat 32 (min (k.count.toNat + p32 e 4) (2 ^ 32 - 1)),
      overflow := k.overflow || decide (2 ^ 32 ≤ k.count.toNat + p32 e 4) } t := by
    simp only [signalToken, homeSignal, hk, hp, hw, serveWaiters, toNat_p32, Bool.false_eq_true, if_false]
  refine ⟨_, _, served_of rfl (by rw [checked_pass hf, withToken_held hx hs hr hk (by rw [hp]; rfl), hsig]), keeps_setToken _ _ _,
    mget_setToken _ _ _, ?_, rfl, fun n hn => mget_mput_other _ _ (Ne.symm hn)⟩
  rw [BitVec.toNat_ofNat]
  exact Nat.mod_eq_of_lt (lt_of_le_of_lt (Nat.min_le_right _ _) (by decide))

theorem served_tokenStatusGet {k : Token} (hf : payFault ([(0, decide (p16 e 0 < 4096))] ++ rsv e 2 6) = none)
    (hr : (resOf t 4 (p16 e 0)).st = .held e.target.toNat) (hk : mget t.q.tokens (p16 e 0) = some k) (hp : k.proxy = false) : ∃ b,
    Says.served (.tokenStatusGet e) specTokenStatusGet e s t (t, Ans.ok b) ∧ b.length = 16 ∧ slice b 0 4 = leBytes 4 k.count.toNat ∧
      slice b 8 4 = leBytes 4 k.initial.toNat ∧ (byteAt b 5).getLsbD 0 = k.overflow ∧ (byteAt b 5).getLsbD 2 = k.periodReset := by
  have flags : ∀ a p r b : Bool, (BitVec.ofNat 8 (bit a 0 + bit p 1 + bit r 2 + bit b 3)).getLsbD 0 = a ∧
      (BitVec.ofNat 8 (bit a 0 + bit p 1 + bit r 2 + bit b 3)).getLsbD 2 = r := by decide
  refine ⟨_, served_of rfl (by rw [checked_pass hf, withToken_held hx hs hr hk (by rw [hp]; rfl)]), ?_, ?_, ?_, ?_, ?_⟩
  · simp [length_leBytes, zeros]
  · rw [List.append_assoc, List.append_assoc]
    exact slice_left (length_leBytes _ _)
  · rw [List.append_assoc, slice_right (m := 8) (by simp [length_leBytes]) le_rfl]
    exact slice_left (length_leBytes _ _)
  · exact (flags _ _ _ _).1
  · exact (flags _ _ _ _).2

theorem withToken_import {k : Token} (hr : (resOf t 4 (p16 e 0)).st = .held e.target.toNat) (hk : mget t.q.tokens (p16 e 0) = some k)
    (hv : ∀ n, e.path ≠ .vf n) (f : Nat → Token → State × Ans) : withToken e t f = f (p16 e 0) k := by
  refine withToken_held hx hs hr hk ?_ f
  have hc : (callerOf e.path == .vf) = false := by
    cases h : e.path with
    | vf n => exact absurd h (hv n)
    | _ => rfl
  rw [hc, Bool.and_false]

theorem served_tokenImportClear {k : Token} (hf : payFault (importChecks e) = none)
    (hr : (resOf t 4 (p16 e 0)).st = .held e.target.toNat) (hk : mget t.q.tokens (p16 e 0) = some k) (hv : ∀ n, e.path ≠ .vf n)
    (h0 : p16 e 4 = 0) :
    (k.imp ≠ none → ∃ u, Says.served (.tokenImportSet e) specTokenImportSet e s t (u, Ans.ok) ∧ Keeps [.q] t u ∧
      mget u.q.tokens (p16 e 0) = some { k with imp := none }) ∧
    (k.imp = none → Says.served (.tokenImportSet e) specTokenImportSet e s t (t, Ans.notFound)) := by
  have hbody (r : State × Ans) (h : (match k.imp with
      | none => (t, Ans.notFound) | some _ => (setToken (p16 e 0) { k with imp := none } t, Ans.ok)) = r) :
      Says.served (.tokenImportSet e) specTokenImportSet e s t r := by
    refine served_of rfl ?_
    rw [checked_pass hf, withToken_import hx hs hr hk hv, importSet, h0]
    exact (if_pos rfl).trans h
  refine ⟨fun h => ?_, fun h => hbody _ (by rw [h])⟩
  obtain ⟨i, hi⟩ := Option.ne_none_iff_exists'.1 h
  exact ⟨_, hbody _ (by rw [hi]), keeps_setToken _ _ _, mget_setToken _ _ _⟩

theorem served_tokenImportSet {k : Token} (hf : payFault (importChecks e) = none)
    (hr : (resOf t 4 (p16 e 0)).st = .held e.target.toNat) (hk : mget t.q.tokens (p16 e 0) = some k) (hv : ∀ n, e.path ≠ .vf n)
    (h0 : p16 e 4 ≠ 0) (hp : k.proxy = false) (hi : k.imp = none) (h6 : p8 e 6 = 0xFF) :
    (x.mode ≠ .confidential → (∀ y ∈ t.q.tokens, y.2.imp = none) → ∃ u i,
      Says.served (.tokenImportSet e) specTokenImportSet e s t (u, Ans.ok) ∧ Keeps [.q] t u ∧
        mget u.q.tokens (p16 e 0) = some { k with imp := some i } ∧ i.src.toNat = p16 e 2 ∧ i.channel.toNat = p16 e 4 ∧
        i.broken = false ∧ i.nextSeq = none) ∧
    ((∃ y ∈ t.q.tokens, ∃ i, y.2.imp = some i ∧ y.1 ≠ p16 e 0 ∧ i.src.toNat = p16 e 2 ∧ i.channel.toNat = p16 e 4) →
      Says.served (.tokenImportSet e) specTokenImportSet e s t (t, Ans.conflict)) := by
  have hdata : ¬ (p8 e 6 ≠ 0xFF ∧ windowOf t e.target.toNat (p8 e 6) = none) := fun h => h.1 h6
  refine ⟨fun hm hnone => ?_, fun ⟨y, hy, i, hyi, hyn, hsrc, hch⟩ => served_of rfl ?_⟩
  · have hfew : ¬ (1024 ≤ (t.q.tokens.filter fun y => y.2.imp.isSome).length) := by
      rw [List.filter_eq_nil_iff.2 fun y hy => by rw [hnone y hy]; exact Bool.false_ne_true]
      decide
    refine ⟨_, openImport e, served_of rfl ?_, keeps_setToken _ _ _, mget_setToken _ _ _, toNat_p16 e 2, toNat_p16 e 4, rfl, rfl⟩
    rw [checked_pass hf, withToken_import hx hs hr hk hv, importSet]
    dsimp only
    rw [if_neg (channel_ne h0), hp, if_neg Bool.false_ne_true, if_neg hdata, hi]
    refine (if_neg ?_).trans ?_
    · rw [any_false fun y hy => ?_]
      · exact Bool.false_ne_true
      · rw [hnone y hy, Bool.and_false]
    · rw [if_neg fun h => hfew h.2, hx]
      dsimp only
      rw [if_neg fun h => hm h.1, if_neg hm]
      rfl
  · rw [checked_pass hf, withToken_import hx hs hr hk hv, importSet]
    dsimp only
    rw [if_neg (channel_ne h0), hp, if_neg Bool.false_ne_true, if_neg hdata]
    refine if_pos (Bool.or_eq_true_iff.2 (Or.inr (List.any_eq_true.2 ⟨y, hy, ?_⟩)))
    have h2 : i.src = BitVec.ofNat 16 (p16 e 2) := BitVec.eq_of_toNat_eq (by rw [toNat_p16, hsrc])
    have h4 : i.channel = BitVec.ofNat 16 (p16 e 4) := BitVec.eq_of_toNat_eq (by rw [toNat_p16, hch])
    simp [hyi, hyn, h2, h4]

/-! ### Token pages -/

theorem served_tokenPageOff
    (hf : payFault ([(0, decide (p8 e 0 < 16)), (1, decide (p8 e 1 < 16)), (2, decide (p8 e 2 < 2))] ++ rsv e 3 5 ++
      [(8, p64 e 8 % 65536 == 0)]) = none) (h2 : p8 e 2 = 0) :
    ((∀ q ∈ t.q.pages, ¬ (q.part = e.target.toNat ∧ q.page = p8 e 1)) →
      Says.served (.tokenPageSet e) specTokenPageSet e s t (t, Ans.notFound)) ∧
    ((∃ q ∈ t.q.pages, q.part = e.target.toNat ∧ q.page = p8 e 1) → ∃ u,
      Says.served (.tokenPageSet e) specTokenPageSet e s t (u, Ans.ok) ∧ Keeps [.q] t u ∧
        ∀ q, q ∈ u.q.pages ↔ q ∈ t.q.pages ∧ ¬ (q.part = e.target.toNat ∧ q.page = p8 e 1)) := by
  have hbody (r : State × Ans) (h : (if (t.q.pages.any fun q => q.part == e.target.toNat && q.page == p8 e 1) = true then
      ({ t with q := { t.q with pages := t.q.pages.filter fun q => !(q.part == e.target.toNat && q.page == p8 e 1) } }, Ans.ok)
      else (t, Ans.notFound)) = r) : Says.served (.tokenPageSet e) specTokenPageSet e s t r := by
    refine served_of rfl ?_
    rw [checked_pass hf, withPart_live hx hs, pageSet, h2]
    exact (if_pos rfl).trans h
  refine ⟨fun hno => hbody _ (if_neg ?_), fun ⟨q, hq, hmine⟩ => ⟨_, hbody _ (if_pos ?_), keeps_pages _ _, fun q => ?_⟩⟩
  · rw [any_false fun q hq => by simpa using hno q hq]
    exact Bool.false_ne_true
  · exact List.any_eq_true.2 ⟨q, hq, by simp [hmine]⟩
  · simp [List.mem_filter, imp_iff_not_or]

theorem served_tokenPageOn
    (hf : payFault ([(0, decide (p8 e 0 < 16)), (1, decide (p8 e 1 < 16)), (2, decide (p8 e 2 < 2))] ++ rsv e 3 5 ++
      [(8, p64 e 8 % 65536 == 0)]) = none) (h2 : p8 e 2 = 1) :
    (mget x.windows (p8 e 0) = none → Says.served (.tokenPageSet e) specTokenPageSet e s t (t, Ans.notFound)) ∧
    (∀ w, mget x.windows (p8 e 0) = some w → w.access.getLsbD 2 = false → w.use = .plain → p64 e 8 + 65536 ≤ w.size * 2 ^ 21 →
      (∀ q ∈ t.q.pages, q.part ≠ e.target.toNat) → ∃ u, Says.served (.tokenPageSet e) specTokenPageSet e s t (u, Ans.ok) ∧
        Keeps [.q] t u ∧ u.q.pages = t.q.pages ++ [{ part := e.target.toNat, page := p8 e 1, window := p8 e 0, offset := p64 e 8 }]) := by
  have hwin : windowOf t e.target.toNat (p8 e 0) = mget x.windows (p8 e 0) := by rw [windowOf, hx]; rfl
  refine ⟨fun hw => served_of rfl ?_, fun w hw ha hu hl hno => ⟨_, served_of rfl ?_, keeps_pages _ _, rfl⟩⟩
  · rw [checked_pass hf, withPart_live hx hs, pageSet, hwin, hw, h2]
    rfl
  · have hall : (t.q.pages.filter fun q => !(q.part == e.target.toNat && q.page == p8 e 1)) = t.q.pages :=
      List.filter_eq_self.2 fun q hq => by simp [hno q hq]
    have hclash : (t.q.pages.any fun q => q.part == e.target.toNat && q.window == p8 e 0 && q.offset == p64 e 8) = false :=
      any_false fun q hq => by simp [hno q hq]
    have hmine : (t.q.pages.filter fun q => q.part == e.target.toNat) = [] := List.filter_eq_nil_iff.2 fun q hq => by simp [hno q hq]
    rw [checked_pass hf, withPart_live hx hs, pageSet, hwin, hw, h2]
    dsimp only
    rw [hall, hclash, hmine, ha, hu, if_neg (by decide), if_neg (by simpa using hl), if_neg Bool.false_ne_true]
    rfl

end

/-- Settles O41: the commands of periods and tokens, each after its own checks. -/
theorem periodsAndTokens : Obligations.PeriodsAndTokens := by
  intro e s t x hx hs p
  refine ⟨served_periodSet hx hs, served_of rfl (withPart_live hx hs _), fun hf => ⟨fun hr => served_of rfl ?_,
    fun k hr hk hp hw => served_tokenSignal hx hs hf hr hk hp hw⟩, fun hf k hr hk hp => served_tokenStatusGet hx hs hf hr hk hp,
    fun hf k hr hk hv => ⟨fun h0 => (served_tokenImportClear hx hs hf hr hk hv h0).1,
      fun h0 => (served_tokenImportClear hx hs hf hr hk hv h0).2, fun h0 hp hi hm h6 => (served_tokenImportSet hx hs hf hr hk hv h0 hp hi h6).1 hm,
      fun h0 hp hi h6 => (served_tokenImportSet hx hs hf hr hk hv h0 hp hi h6).2⟩, fun hf => ?_⟩
  · rw [checked_pass hf, withToken_other hx hs hr]
  · exact ⟨fun h2 => (served_tokenPageOff hx hs hf h2).1, fun h2 => (served_tokenPageOff hx hs hf h2).2,
      fun h2 => (served_tokenPageOn hx hs hf h2).1, fun w h2 => (served_tokenPageOn hx hs hf h2).2 w⟩
end Sys2Proof.Machine
end

section
/-! SUPPORT. What a reply leaves, and a plan set as the tick counter wraps (R373). -/

namespace Sys2Proof.Machine

set_option Elab.async false

/-! ### What a reply changes -/

/-- Only what carries replies has changed: the rings, the mailboxes, the sessions and the outputs. -/
def RepliesOnly (s u : State) : Prop := ∃ q m a o, u = { s with q := q, mail := m, att := a, out := o }

namespace RepliesOnly

theorem refl (s : State) : RepliesOnly s s := ⟨s.q, s.mail, s.att, s.out, rfl⟩

theorem trans {s u v : State} (h : RepliesOnly s u) (g : RepliesOnly u v) : RepliesOnly s v := by
  obtain ⟨_, _, _, _, rfl⟩ := h
  obtain ⟨q, m, a, o, rfl⟩ := g
  exact ⟨q, m, a, o, rfl⟩

theorem ite {s u v : State} {c : Prop} [Decidable c] (h : RepliesOnly s u) (g : RepliesOnly s v) : RepliesOnly s (if c then u else v) := by
  split
  · exact h
  · exact g

theorem mail (m : Mail) (s : State) : RepliesOnly s { s with mail := m } := ⟨s.q, m, s.att, s.out, rfl⟩

theorem emit (x : Out) (s : State) : RepliesOnly s (Machine.emit x s) := ⟨s.q, s.mail, s.att, x :: s.out, rfl⟩

theorem logDead (pa ca ta op se int ch : Nat) (seq : BitVec 64) (src : BitVec 128) (s : State) :
    RepliesOnly s (Machine.logDead pa ca ta op se int ch seq src s) := by
  simp only [Machine.logDead]
  split
  · exact ite (mail _ s) (mail _ s)
  · exact mail _ s

theorem msix (f : Fn) (v : Nat) (s : State) : RepliesOnly s (Machine.msix f v s) := by
  obtain ⟨q, o, h⟩ := msix_shape f v s
  exact ⟨q, s.mail, s.att, o, h⟩

theorem modRegs (f : Fn) (g : FnRegs → FnRegs) (s : State) : RepliesOnly s (Machine.modRegs f g s) := ⟨_, s.mail, s.att, s.out, rfl⟩

theorem releaseReply (r : Reply) (s : State) : RepliesOnly s (Machine.releaseReply r s) := by
  have hring (f : Fn) (g : FnRegs → FnRegs) : RepliesOnly s (if r.env.replyFails = true then Machine.modRegs f g s
      else Machine.msix f (fnRegs (Machine.modRegs f g s) f).env.vector.toNat (Machine.emit (.reply r) (Machine.modRegs f g s))) :=
    ite (modRegs f g s) ((modRegs f g s).trans ((emit _ _).trans (msix f _ _)))
  unfold Machine.releaseReply
  refine ite (mail _ s) ?_
  split
  · exact hring .pf _
  · exact hring _ _
  · exact ite ((mail _ s).trans (logDead _ _ _ _ _ _ _ _ _ _)) ((mail _ s).trans (emit _ _))
  · split
    · exact ⟨s.q, s.mail, _, _, rfl⟩
    · exact refl s
  · exact (mail _ s).trans (emit _ _)

theorem scheduleReply (r : Reply) (s : State) : RepliesOnly s (Machine.scheduleReply r s) :=
  ite (mail _ s) (ite (mail _ s) (releaseReply r s))

theorem reply (e : Env) (op : Nat) (a : Ans) (m : Option (BitVec 64)) (s : State) : RepliesOnly s (Machine.reply e op a m s) := by
  have hdead : RepliesOnly s (if a.status = 1 ∨ a.status = 3 ∨ a.status = 4 ∨ a.status = 9 then
      Machine.logDead (pathCode e.path) (callerCode e) e.target.toNat (deadOp s e op) a.status a.status a.check e.seq (sourceOf e) s
      else s) := ite (logDead _ _ _ _ _ _ _ _ _ _) (refl s)
  unfold Machine.reply
  cases m with
  | none => exact hdead.trans (scheduleReply _ _)
  | some n => exact ite (hdead.trans (mail _ _)) (hdead.trans (scheduleReply _ _))

theorem conclude (sp : OpSpec) (e : Env) (m : Option (BitVec 64)) (r : State × Ans) : RepliesOnly r.1 (Machine.conclude sp e m r) :=
  ite (refl _) (reply _ _ _ _ _)

theorem finish (p : Pending) (a : Ans) (s : State) : RepliesOnly s (Machine.finish p a s) := reply _ _ _ _ _

theorem finish? (p : Option Pending) (a : Ans) (s : State) : RepliesOnly s (Machine.finish? p a s) := by
  cases p with
  | none => exact refl s
  | some p => exact finish p a s

end RepliesOnly

/-! ### Plans at the wrap of the tick counter -/

/-- A served command says what the command itself does: with its gate open, the effect it names is the effect it has, as far
as replies leave it. -/
theorem served_unique {α : Type} {i : Instr} {sp : OpSpec} {e : Env} {s t u : State} {a : Ans} {q : Option (BitVec 64)}
    {body : State → State × Ans} {r : State × Ans} (hg : gate sp e s = .open_ t q)
    (hx : exec i s = done s (serve sp e body s)) (hb : body t = r)
    (hu : Says.served i sp e s t (u, a)) (f : State → α) (hf : ∀ v w, RepliesOnly v w → f w = f v) (ha : ∀ v, f (after s v) = f v) :
    f u = f r.1 := by
  have hsame : after s (conclude sp e q (u, a)) = after s (conclude sp e q r) :=
    Host.Outcome.next.inj ((hu q hg).symm.trans (served_of hx hb q hg))
  rw [← hf _ _ (RepliesOnly.conclude sp e q (u, a)), ← ha, hsame, ha, hf _ _ (RepliesOnly.conclude sp e q r)]

/-- The tick counter is at its highest value and the device serves the host. -/
def lateState : State :=
  { State.reset with
    aon := { Aon.reset with tick := BitVec.allOnes 48 }
    boot := { Boot.reset with phase := .done, outcome := .hostReady }
    power := { Power.reset with dom := [(1, .on)] } }

/-- A plan of one bucket for core 0 that starts six ticks after the counter's highest value. -/
def latePlan : Bytes := [5, 0, 0, 0, 0, 0, 1, 0, 1, 0, 0, 0, 0, 0, 0, 0, 1, 0, 0, 0, 0, 0, 0, 0, 0, 0, 0, 0, 0, 0, 0, 0, 7]

/-- The envelope that carries it. -/
def latePlanEnv : Env :=
  { path := .pf, magic := 0x5544, version := 1, flags := 0, target := 0xFF, cred := 0, seq := 0, franking := 0, length := 33,
    rsv1 := 0, bootNonce := 0, status := 0, rsv2 := 0, detail := 0, rsv3 := 0, payload := latePlan,
    trailer := .crc (crc32c (envHeader 0x801 { blankEnv with target := 0xFF, length := 33 } ++ latePlan)) 0,
    replyMax := 0, replyFails := false }

theorem crcOk_latePlan : crcOk 0x801 latePlanEnv = true := by
  have h : latePlanEnv.trailer = .crc (crc32c (envHeader 0x801 latePlanEnv ++ latePlanEnv.payload)) 0 := rfl
  rw [crcOk, h]
  exact Bool.and_eq_true_iff.2 ⟨beq_self_eq_true _, rfl⟩

theorem formFault_latePlan : formFault lateState specThermalPlanSet latePlanEnv = none := by
  have hcrc : ¬ (!crcOk specThermalPlanSet.op latePlanEnv) = true := by rw [show specThermalPlanSet.op = 0x801 from rfl, crcOk_latePlan]; nofun
  rw [formFault]
  rw [if_neg (by decide), if_neg (by decide), if_neg (by decide), if_neg (by decide), if_neg hcrc]
  decide +kernel

theorem gate_latePlan : gate specThermalPlanSet latePlanEnv lateState = .open_ lateState none := by
  obtain ⟨-, -, -, -, hopen⟩ := checksInOrder specThermalPlanSet latePlanEnv lateState rfl rfl (Or.inl rfl)
  exact (hopen formFault_latePlan rfl rfl rfl rfl rfl rfl).1 (Or.inl rfl)

/-- Refutes O42: a plan may start up to one second from now, and one that starts beyond the highest value of the 48-bit
tick counter is kept with its start cut to 48 bits, has ended by that start at once and is not kept at all. -/
theorem not_thermalAndUpkeep : ¬ Obligations.ThermalAndUpkeep := by
  unfold Obligations.ThermalAndUpkeep Says.thermalCommands
  rintro ⟨h, -⟩
  have hf : payFault (planChecks lateState latePlanEnv) = none := by decide +kernel
  obtain ⟨-, hset⟩ := (h latePlanEnv lateState lateState).1 hf
  obtain ⟨u, hserved, -, -, hkept, -⟩ := hset (by decide +kernel)
  have htherm : u.therm = (planSet latePlanEnv lateState).1.therm :=
    served_unique gate_latePlan rfl (by rw [hf]) hserved State.therm (fun _ _ ⟨_, _, _, _, h⟩ => by rw [h]) fun _ => after_therm _ _
  refine hkept 0 (by decide +kernel) (by decide +kernel) ?_
  rw [coreTherm, htherm]
  decide +kernel
end Sys2Proof.Machine
end

section
/-! SUPPORT. The update group (R123, R429–R433). -/

namespace Sys2Proof.Machine

set_option Elab.async false

/-! ### Banks -/

/-- Bank `b` becomes `y`: nothing but the flash has changed, the other bank and the active one stay, no job is dropped. -/
def BankBecomes (b : Bool) (y : Bank) (s u : State) : Prop :=
  Keeps [.flash] s u ∧ bankOf u b = y ∧ bankOf u (!b) = bankOf s (!b) ∧ u.flash.active = s.flash.active ∧
    ∃ l, u.flash.jobs = s.flash.jobs ++ l

theorem keeps_flash (f : Flash) (s : State) : Keeps [.flash] s { s with flash := f } := keeps_of_pieced rfl

theorem BankBecomes.trans {b : Bool} {y z : Bank} {s u v : State} (h : BankBecomes b y s u) (g : BankBecomes b z u v) :
    BankBecomes b z s v := by
  obtain ⟨hk, -, ho, ha, l, hl⟩ := h
  obtain ⟨hk', hb, ho', ha', l', hl'⟩ := g
  exact ⟨keeps_trans hk hk', hb, ho'.trans ho, ha'.trans ha, l ++ l', by rw [hl', hl, List.append_assoc]⟩

theorem journal_becomes (jt bk v c : BitVec 8) (a : BitVec 64) (n : BitVec 32) (b : Bool) (s : State) :
    BankBecomes b (bankOf s b) s (journal jt bk v c a n s) ∧ (journal jt bk v c a n s).flash.bankA = s.flash.bankA ∧
      (journal jt bk v c a n s).flash.bankB = s.flash.bankB := by
  simp only [journal]
  split
  · exact ⟨⟨keeps_flash _ _, rfl, rfl, rfl, _, rfl⟩, rfl, rfl⟩
  · exact ⟨⟨keeps_flash _ _, rfl, rfl, rfl, [], (List.append_nil _).symm⟩, rfl, rfl⟩

theorem setBank_becomes (b : Bool) (y : Bank) (s : State) : BankBecomes b y s (setBank b y s) := by
  cases b <;> exact ⟨keeps_flash _ _, rfl, rfl, rfl, [], (List.append_nil _).symm⟩

theorem setBankSt_becomes (b : Bool) (st : BankSt) (s : State) :
    BankBecomes b { bankOf s b with st := st, consumed := (bankOf s b).consumed && st != .trial } s (setBankSt b st s) := by
  have h := setBank_becomes b { bankOf s b with st := st, consumed := (bankOf s b).consumed && st != .trial } s
  have hj := (journal_becomes 1 (bankCode b) (bankStCode st) 0 0 0 b (setBank b { bankOf s b with
    st := st, consumed := (bankOf s b).consumed && st != .trial } s)).1
  rw [h.2.1] at hj
  exact h.trans hj

theorem setActive_keeps (b : Bool) (s : State) : Keeps [.flash] s (setActive b s) ∧ (setActive b s).flash.active = b ∧
    (setActive b s).flash.bankA = s.flash.bankA ∧ (setActive b s).flash.bankB = s.flash.bankB := by
  obtain ⟨⟨hk, -, -, ha, -⟩, h1, h2⟩ := journal_becomes 3 (bankCode b) 0 0 0 0 b { s with flash := { s.flash with active := b } }
  exact ⟨keeps_trans (keeps_flash _ s) hk, ha, h1, h2⟩

theorem bankOf_congr {s u : State} (h1 : u.flash.bankA = s.flash.bankA) (h2 : u.flash.bankB = s.flash.bankB) (b : Bool) :
    bankOf u b = bankOf s b := by
  cases b
  · exact h1
  · exact h2

/-! ### Staging and activation -/

variable {e : Env} {s t : State}

theorem needFlash_answers (h : t.flash.answers = true) (k : State × Ans) : needFlash t k = k := if_pos h

theorem needFirmware_runs (h : romRecovery t = false) (k : State × Ans) : needFirmware t k = k :=
  if_neg fun h' => Bool.false_ne_true (h.symm.trans h'.1)

theorem runningBank_runs (h : romRecovery t = false) : runningBank t = some t.boot.bank := by rw [runningBank, h]; rfl

section
variable (hans : t.flash.answers = true)
include hans

theorem served_updateBegin (hf : payFault (bankChecks e) = none) :
    (runningBank t = some (bankArg e) → Says.served (.updateBegin e) specUpdateBegin e s t (t, Ans.conflict)) ∧
    (runningBank t ≠ some (bankArg e) → eraseQueued t (bankArg e) = false → ∃ u,
      Says.served (.updateBegin e) specUpdateBegin e s t (u, Ans.ok) ∧
      (Keeps [.flash] t u ∧ bankOf u (!bankArg e) = bankOf t (!bankArg e)) ∧ (bankOf u (bankArg e)).st = .writing ∧
      (bankOf u (bankArg e)).erasing = true ∧ (bankOf u (bankArg e)).written = [] ∧ FlashJob.bankErase (bankArg e) 0 ∈ u.flash.jobs) := by
  have hbody (r : State × Ans) (h : updateBegin (bankArg e) t = r) : Says.served (.updateBegin e) specUpdateBegin e s t r :=
    served_of rfl (by rw [checked_pass hf, needFlash_answers hans, h])
  refine ⟨fun hr => hbody _ (if_pos hr), fun hr hq => ?_⟩
  generalize bankArg e = b at *
  have h1 := setBankSt_becomes b .writing t
  have h2 := (journal_becomes 5 (bankCode b) 0 0 (bankBase b) 80 b (setBankSt b .writing t)).1
  rw [h1.2.1] at h2
  have h3 := setBank_becomes b { bankOf (journal 5 (bankCode b) 0 0 (bankBase b) 80 (setBankSt b .writing t)) b with
    written := [], images := [], erased := 0, erasing := true } (journal 5 (bankCode b) 0 0 (bankBase b) 80 (setBankSt b .writing t))
  obtain ⟨hk, hb, ho, -, -⟩ := (h1.trans h2).trans h3
  refine ⟨_, hbody _ ((if_neg hr).trans (if_neg (by rw [hq]; exact Bool.false_ne_true))), ⟨keeps_trans hk (keeps_flash _ _), ?_⟩,
    ?_, ?_, ?_, List.mem_append_right _ (List.mem_singleton_self _)⟩
  · exact (bankOf_congr rfl rfl _).trans ho
  · exact (congrArg Bank.st hb).trans (congrArg Bank.st h2.2.1)
  · exact congrArg Bank.erasing hb
  · exact congrArg Bank.written hb

theorem served_updateFinish (hf : payFault (bankChecks e) = none) :
    ((bankOf t (bankArg e)).st ≠ .writing → Says.served (.updateFinish e) specUpdateFinish e s t (t, Ans.state)) ∧
    ((bankOf t (bankArg e)).st = .writing → (bankOf t (bankArg e)).erasing = false →
      ∃ u r, Says.served (.updateFinish e) specUpdateFinish e s t (u, r) ∧
        (Keeps [.flash] t u ∧ bankOf u (!bankArg e) = bankOf t (!bankArg e)) ∧
        (bankOf u (bankArg e)).images = (bankOf t (bankArg e)).images ∧
        match bankFault t (bankArg e) with
        | some (l, c) => r = Ans.integrity (BitVec.ofNat 32 (l * 256 + c)) ∧ u = t
        | none => r = Ans.ok ∧ (bankOf u (bankArg e)).st = .staged) := by
  have hbody (r : State × Ans) (h : updateFinish (bankArg e) t = r) : Says.served (.updateFinish e) specUpdateFinish e s t r :=
    served_of rfl (by rw [checked_pass hf, needFlash_answers hans, h])
  refine ⟨fun hw => hbody _ (if_pos (Or.inl hw)), fun hw he => ?_⟩
  have hno : ¬ ((bankOf t (bankArg e)).st ≠ .writing ∨ (bankOf t (bankArg e)).erasing = true) := by simp [hw, he]
  cases hb : bankFault t (bankArg e) with
  | some lc =>
    exact ⟨t, _, hbody _ ((if_neg hno).trans (by rw [hb]; rfl)), ⟨keeps_refl _ _, rfl⟩, rfl, rfl, rfl⟩
  | none =>
    obtain ⟨hk, hy, ho, -, -⟩ := setBankSt_becomes (bankArg e) .staged t
    exact ⟨_, _, hbody _ ((if_neg hno).trans (by rw [hb])), ⟨hk, ho⟩, by rw [hy], rfl, by rw [hy]⟩

theorem served_updateWrite (hf : payFault (writeChecks e) = none) :
    ((bankOf t (bankArg e)).st ≠ .writing ∨ (bankOf t (bankArg e)).erasing = true →
      Says.served (.updateWrite e) specUpdateWrite e s t (t, Ans.state)) ∧
    ((bankOf t (bankArg e)).st = .writing → (bankOf t (bankArg e)).erasing = false →
      (p32 e 4 ≠ mgetD (bankOf t (bankArg e)).written (p8 e 1) 0 → Says.served (.updateWrite e) specUpdateWrite e s t
        (t, Ans.conflict (BitVec.ofNat 32 (mgetD (bankOf t (bankArg e)).written (p8 e 1) 0)))) ∧
      (p32 e 4 = mgetD (bankOf t (bankArg e)).written (p8 e 1) 0 → ∃ u, Says.served (.updateWrite e) specUpdateWrite e s t (u, Ans.ok) ∧
        (Keeps [.flash] t u ∧ bankOf u (!bankArg e) = bankOf t (!bankArg e)) ∧
        mgetD (bankOf u (bankArg e)).written (p8 e 1) 0 = p32 e 4 + (e.payload.length - 8) ∧
        mgetD (bankOf u (bankArg e)).images (p8 e 1) [] = mgetD (bankOf t (bankArg e)).images (p8 e 1) [] ++ e.payload.drop 8)) := by
  have hbody (r : State × Ans) (h : updateWrite e t = r) : Says.served (.updateWrite e) specUpdateWrite e s t r :=
    served_of rfl (by rw [checked_pass hf, needFlash_answers hans, h])
  refine ⟨fun hw => hbody _ (if_pos hw), fun hw he => ?_⟩
  have hno : ¬ ((bankOf t (bankArg e)).st ≠ .writing ∨ (bankOf t (bankArg e)).erasing = true) := by simp [hw, he]
  refine ⟨fun hn => hbody _ ((if_neg hno).trans (if_pos hn)), fun hn => ?_⟩
  obtain ⟨hk, hy, ho, -, -⟩ := setBank_becomes (bankArg e) { bankOf t (bankArg e) with
    written := mput (bankOf t (bankArg e)).written (p8 e 1) (mgetD (bankOf t (bankArg e)).written (p8 e 1) 0 + (e.payload.drop 8).length),
    images := mput (bankOf t (bankArg e)).images (p8 e 1) (mgetD (bankOf t (bankArg e)).images (p8 e 1) [] ++ e.payload.drop 8) } t
  refine ⟨_, hbody _ ((if_neg hno).trans (if_neg (not_not.2 hn))), ⟨hk, ho⟩, ?_, ?_⟩
  · rw [hy, mgetD, mget_mput_same, hn, List.length_drop]
    rfl
  · rw [hy, mgetD, mget_mput_same]
    rfl

theorem served_updateActivate (hf : payFault (activateChecks e) = none) (hrom : romRecovery t = false) :
    ((bankOf t (bankArg e)).st ≠ .staged → Says.served (.updateActivate e) specUpdateActivate e s t (t, Ans.state)) ∧
    ((bankOf t (bankArg e)).st = .staged → p8 e 1 = 1 → ∃ u, Says.served (.updateActivate e) specUpdateActivate e s t (u, Ans.ok) ∧
      (Keeps [.flash] t u ∧ bankOf u (!bankArg e) = bankOf t (!bankArg e)) ∧ (bankOf u (bankArg e)).st = .trial ∧
      (bankOf u (bankArg e)).consumed = false) ∧
    ((bankOf t (bankArg e)).st = .staged → p8 e 1 = 2 → sameLayers t (bankArg e) = true → t.fuses.op = none →
      t.flash.activation = none → Says.served (.updateActivate e) specUpdateActivate e s t
        ({ t with flash := { t.flash with activation := some (bankArg e, { env := e, op := 0x704 }) } }, Ans.waiting)) := by
  have hbody (r : State × Ans) (h : (if p8 e 1 = 1 then activateNext (bankArg e) t else activateLive e (bankArg e) t) = r) :
      Says.served (.updateActivate e) specUpdateActivate e s t r :=
    served_of rfl (by rw [checked_pass hf, needFlash_answers hans, updateActivate, needFirmware_runs hrom, h])
  refine ⟨fun hs => hbody _ ?_, fun hs h1 => ?_, fun hs h2 hl hop ha => hbody _ ?_⟩
  · split
    · exact if_pos hs
    · exact if_pos (Or.inl hs)
  · obtain ⟨hk, hy, ho, -, -⟩ := setBankSt_becomes (bankArg e) .trial t
    refine ⟨_, hbody _ ((if_pos h1).trans (if_neg (not_not.2 hs))), ?_⟩
    rw [hrom]
    refine ⟨⟨hk, ho⟩, ?_, ?_⟩
    · exact (congrArg Bank.st hy)
    · exact (congrArg Bank.consumed hy).trans (Bool.and_false _)
  · rw [if_neg (by rw [h2]; decide), activateLive, if_neg (by simp [hs, hl, hop]), ha]
    rfl

end

theorem updatesAreStaged : Says.updatesAreStaged := fun _ _ _ hans =>
  ⟨fun hf => ⟨(served_updateBegin hans hf).1, (served_updateBegin hans hf).2, (served_updateFinish hans hf).1,
    (served_updateFinish hans hf).2⟩, fun hf => served_updateWrite hans hf, fun hf hrom => served_updateActivate hans hf hrom⟩

/-! ### Commit, rollback, discard, status, reanchoring -/

theorem keeps_beginFuse (job : FuseJob) (p : Option Pending) (s : State) : Keeps [.fuses, .aon] s (beginFuse job p s) :=
  keeps_of_pieced rfl

/-- What a commit makes of the running bank. -/
theorem commit_becomes (b : Bool) (t : State) : Keeps [.flash] t (setActive b (setBankSt b .good t)) ∧
    (bankOf (setActive b (setBankSt b .good t)) b).st = .good ∧ bankOf (setActive b (setBankSt b .good t)) (!b) = bankOf t (!b) ∧
    (setActive b (setBankSt b .good t)).flash.active = b := by
  obtain ⟨hk, hy, ho, -, -⟩ := setBankSt_becomes b .good t
  obtain ⟨hk', ha, h1, h2⟩ := setActive_keeps b (setBankSt b .good t)
  exact ⟨keeps_trans hk hk', by rw [bankOf_congr h1 h2, hy], (bankOf_congr h1 h2 _).trans ho, ha⟩

/-- The security version of layer `l` as the boot loaded it. -/
def loadedSvn (t : State) (l : Nat) : Nat := match mget t.boot.layers l with | some r => r.svn.toNat | none => 0

/-- The security versions a commit advances in fuses. -/
def risenSvns (t : State) : List (Nat × Nat) := ((layersOf t.fuses.shadow).map (fun l => (l, loadedSvn t l))).filter
  (fun x => t.fuses.shadow.svn.getD (x.1 - 1) 0 < x.2)

theorem mem_risenSvns {l n : Nat} : (l, n) ∈ risenSvns t ↔
    l ∈ layersOf t.fuses.shadow ∧ n = loadedSvn t l ∧ t.fuses.shadow.svn.getD (l - 1) 0 < n := by
  simp only [risenSvns, List.mem_filter, List.mem_map, Prod.mk.injEq, decide_eq_true_eq]
  refine ⟨?_, fun ⟨hl, hn, hlt⟩ => ⟨⟨l, hl, rfl, hn.symm⟩, hlt⟩⟩
  rintro ⟨⟨_, hl, rfl, rfl⟩, hlt⟩
  exact ⟨hl, rfl, hlt⟩

theorem updateCommit_refused (h : (bankOf t t.boot.bank).st ≠ .trial ∨ (bankOf t t.boot.bank).consumed = false) (h0 : p8 e 0 = 0) :
    updateCommit e t = (t, Ans.state) := by
  rw [updateCommit, h0]
  refine (if_neg Bool.false_ne_true).trans (if_pos (h.imp_right fun h' => ?_))
  rw [h']
  rfl

section
variable (hst : (bankOf t t.boot.bank).st = .trial) (hcon : (bankOf t t.boot.bank).consumed = true)
include hst hcon

theorem not_commit_refused : ¬ ((bankOf t t.boot.bank).st ≠ .trial ∨ (!(bankOf t t.boot.bank).consumed) = true) := by simp [hst, hcon]

theorem updateCommit_plain (h0 : p8 e 0 = 0) :
    updateCommit e t = (setActive t.boot.bank (setBankSt t.boot.bank .good t), Ans.ok) := by
  rw [updateCommit, h0]
  exact (if_neg Bool.false_ne_true).trans ((if_neg (not_commit_refused hst hcon)).trans ((if_neg Bool.false_ne_true).trans
    ((if_neg Bool.false_ne_true).trans (if_neg Bool.false_ne_true))))

theorem updateCommit_advances (h1 : p8 e 0 = 1) (hop : t.fuses.op = none) (hg : (bankOf t (!t.boot.bank)).st ≠ .good)
    (hs : (bankOf t (!t.boot.bank)).st ≠ .staged) (hle : ∀ l ∈ layersOf t.fuses.shadow, loadedSvn t l ≤ 64)
    (hex : ∃ l ∈ layersOf t.fuses.shadow, t.fuses.shadow.svn.getD (l - 1) 0 < loadedSvn t l) :
    updateCommit e t = (beginFuse (.svnAdvance (risenSvns t)) (some { env := e, op := 0x705 })
      (setActive t.boot.bank (setBankSt t.boot.bank .good t)), Ans.waiting) := by
  have hne : (risenSvns t).isEmpty = false := by
    obtain ⟨l, hl, hlt⟩ := hex
    exact List.isEmpty_eq_false_iff.2 (List.ne_nil_of_mem (mem_risenSvns.2 ⟨hl, rfl, hlt⟩))
  rw [updateCommit, h1]
  refine (if_neg (by simp [hop])).trans ((if_neg (not_commit_refused hst hcon)).trans ((if_neg ?_).trans ((if_neg ?_).trans (if_pos ?_))))
  · simp [hg, hs]
  · rw [Bool.and_eq_true, List.any_eq_true]
    rintro ⟨-, l, hl, hlt⟩
    exact absurd (of_decide_eq_true hlt) (Nat.not_lt.2 (hle l hl))
  · exact (congrArg not hne :)

end

section
variable (hans : t.flash.answers = true) (hrom : romRecovery t = false)
include hans hrom

theorem served_updateCommit (hf : payFault ([(0, decide (p8 e 0 ≤ 1))] ++ rsv e 1 7) = none) {r : State × Ans} (h : updateCommit e t = r) :
    Says.served (.updateCommit e) specUpdateCommit e s t r :=
  served_of rfl (by rw [checked_pass hf, needFirmware_runs hrom, needFlash_answers hans, h])

theorem served_updateRollback :
    ((bankOf t (!t.boot.bank)).st = .good → imageBelow t (!t.boot.bank) (fun l => t.fuses.shadow.svn.getD (l - 1) 0) = false → ∃ u,
      Says.served (.updateRollback e) specUpdateRollback e s t (u, Ans.ok) ∧ Keeps [.flash] t u ∧ u.flash.active = !t.boot.bank ∧
        u.flash.bankA = t.flash.bankA ∧ u.flash.bankB = t.flash.bankB) ∧
    ((bankOf t (!t.boot.bank)).st ≠ .good → Says.served (.updateRollback e) specUpdateRollback e s t (t, Ans.state)) := by
  have hbody (r : State × Ans) (h : updateRollback t = r) : Says.served (.updateRollback e) specUpdateRollback e s t r :=
    served_of rfl (by rw [needFirmware_runs hrom, needFlash_answers hans, h])
  refine ⟨fun hg hb => ⟨_, hbody _ (if_neg ?_), setActive_keeps _ _⟩, fun hg => hbody _ (if_pos (Or.inl hg))⟩
  rintro (h | h)
  · exact h hg
  · exact Bool.false_ne_true (hb.symm.trans h)

theorem served_updateDiscard (hf : payFault (bankChecks e) = none) :
    (bankArg e = t.boot.bank → Says.served (.updateDiscard e) specUpdateDiscard e s t (t, Ans.conflict)) ∧
    (bankArg e ≠ t.boot.bank → ∃ u, Says.served (.updateDiscard e) specUpdateDiscard e s t (u, Ans.ok) ∧ Keeps [.flash] t u ∧
      (bankOf u (!t.boot.bank)).st = .empty ∧ bankOf u t.boot.bank = bankOf t t.boot.bank) := by
  have hbody (r : State × Ans) (h : updateDiscard (bankArg e) t = r) : Says.served (.updateDiscard e) specUpdateDiscard e s t r :=
    served_of rfl (by rw [checked_pass hf, needFirmware_runs hrom, needFlash_answers hans, h])
  refine ⟨fun h => hbody _ (if_pos (by rw [runningBank_runs hrom, h])), fun h => ?_⟩
  have hn : runningBank t ≠ some (bankArg e) := by rw [runningBank_runs hrom]; exact fun h' => h (Option.some.inj h').symm
  obtain ⟨hk, hy, ho, -, -⟩ := setBankSt_becomes (bankArg e) .empty t
  refine ⟨_, hbody _ (if_neg hn), hk, ?_, ?_⟩
  · rw [← Bool.eq_not.2 h]
    exact congrArg Bank.st hy
  · rw [Bool.eq_not.2 h] at ho ⊢
    rwa [Bool.not_not] at ho

end

theorem served_updateStatusGet (hans : t.flash.answers = true) :
    Says.served (.updateStatusGet e) specUpdateStatusGet e s t (t, Ans.ok (updateStatus t)) :=
  served_of rfl (needFlash_answers hans _)

theorem length_updateStatus (t : State) : (updateStatus t).length = 32 := by
  simp only [updateStatus, List.length_append, length_leBytes, List.map_cons, List.map_nil, List.flatten_cons, List.flatten_nil]
  rfl

theorem slice_updateStatus (t : State) : slice (updateStatus t) 0 3 =
    [bankCode t.flash.active, bankStCode t.flash.bankA.st, bankStCode t.flash.bankB.st] := rfl

/-- A reanchor token that is signed: the nonce is used up, and a fresh one on a device without its anchor begins the step. -/
theorem counterReanchor_signed (hop : t.fuses.op = none) (hsig : reanchorSigned t.fuses.shadow e = true) :
    Keeps [.fuses, .aon] t (counterReanchor e t).1 ∧ (counterReanchor e t).1.fuses.cells = t.fuses.cells ∧
      (counterReanchor e t).1.fuses.nonce = none ∧
      (t.fuses.nonce = some (BitVec.ofNat 128 (fld e.payload 16 16)) → t.boot.fuseDegraded = false → t.boot.unanchored = true →
        t.fuses.shadow.ratchet < 4096 → counterReanchor e t = (beginFuse (.reanchor (BitVec.ofNat 64 (p64 e 32)))
          (some { env := e, op := 0x709 }) { t with fuses := { t.fuses with nonce := none } }, Ans.waiting)) := by
  have hk : Keeps [.fuses, .aon] t { t with fuses := { t.fuses with nonce := none } } := keeps_of_pieced rfl
  rw [counterReanchor, if_neg (by simp [hop]), if_neg (by simp [hsig])]
  split
  · exact ⟨hk, rfl, rfl, fun h => absurd h ‹_›⟩
  split
  · exact ⟨hk, rfl, rfl, fun _ h => absurd (h.symm.trans ‹_›) Bool.false_ne_true⟩
  split
  · next hu => exact ⟨hk, rfl, rfl, fun _ _ h => absurd (hu.symm.trans (congrArg not h)) (by decide)⟩
  split
  · exact ⟨hk, rfl, rfl, fun _ _ _ h => absurd h (Nat.not_lt.2 ‹_›)⟩
  · exact ⟨keeps_trans hk (keeps_beginFuse _ _ _), rfl, rfl, fun _ _ _ _ => rfl⟩

theorem served_counterReanchor (hans : t.flash.answers = true) (hrom : romRecovery t = false)
    (hf : payFault (reanchorChecks e) = none) (hop : t.fuses.op = none) :
    ∃ u r, Says.served (.counterReanchor e) specCounterReanchor e s t (u, r) ∧ Keeps [.fuses, .aon] t u ∧
      u.fuses.cells = t.fuses.cells ∧
      (reanchorSigned t.fuses.shadow e = false → u = t ∧ r = Ans.refused) ∧
      (reanchorSigned t.fuses.shadow e = true → u.fuses.nonce = none) ∧
      (reanchorSigned t.fuses.shadow e = true → t.fuses.nonce = some (BitVec.ofNat 128 (fld e.payload 16 16)) →
        t.boot.fuseDegraded = false → t.boot.unanchored = true → t.fuses.shadow.ratchet < 4096 →
        r = Ans.waiting ∧ u.aon.fusePwrEn = true ∧
        u.fuses.op = some { job := .reanchor (BitVec.ofNat 64 (p64 e 32)), env := some { env := e, op := 0x709 }, ready := false }) := by
  refine ⟨(counterReanchor e t).1, (counterReanchor e t).2,
    served_of rfl (by rw [checked_pass hf, needFirmware_runs hrom, needFlash_answers hans]), ?_⟩
  cases hsig : reanchorSigned t.fuses.shadow e with
  | false =>
    have h : counterReanchor e t = (t, Ans.refused) := by rw [counterReanchor, if_neg (by simp [hop]), if_pos (by simp [hsig])]
    rw [h]
    exact ⟨keeps_refl _ _, rfl, fun _ => ⟨rfl, rfl⟩, fun h' => absurd h' Bool.false_ne_true, fun h' => absurd h' Bool.false_ne_true⟩
  | true =>
    obtain ⟨hk, hc, hn, hb⟩ := counterReanchor_signed hop hsig
    refine ⟨hk, hc, fun h => absurd h.symm Bool.false_ne_true, fun _ => hn, fun _ h1 h2 h3 h4 => ?_⟩
    rw [hb h1 h2 h3 h4]
    exact ⟨rfl, rfl, rfl⟩

theorem updatesAreCommitted : Says.updatesAreCommitted := by
  intro e s t hans hrom b svn
  refine ⟨fun hf => ⟨fun h0 h => served_updateCommit hans hrom hf (updateCommit_refused h h0), fun hst hcon => ⟨fun h0 => ?_, ?_⟩⟩,
    (served_updateRollback hans hrom).1, (served_updateRollback hans hrom).2, served_updateDiscard hans hrom,
    ⟨_, served_updateStatusGet hans, length_updateStatus t, slice_updateStatus t⟩, served_counterReanchor hans hrom⟩
  · exact ⟨_, served_updateCommit hans hrom hf (updateCommit_plain hst hcon h0), commit_becomes b t⟩
  · intro h1 hop hg hs hle hex
    obtain ⟨hk, hy, -, ha⟩ := commit_becomes b t
    have hb := updateCommit_advances hst hcon h1 hop hg hs hle hex
    have hc : (setActive t.boot.bank (setBankSt t.boot.bank .good t)).fuses.cells = t.fuses.cells :=
      congrArg Fuses.cells (hk.2 .fuses (by decide) : _ = _)
    generalize setActive t.boot.bank (setBankSt t.boot.bank .good t) = v at *
    exact ⟨_, risenSvns t, served_updateCommit hans hrom hf hb,
      keeps_trans (keeps_mono hk (by decide)) (keeps_mono (keeps_beginFuse _ _ _) (by decide)), hy, ha,
      hc, rfl, rfl, fun _ _ => mem_risenSvns⟩

/-- Settles O39. -/
theorem updates : Obligations.Updates := ⟨updatesAreStaged, updatesAreCommitted⟩

end Sys2Proof.Machine
end

section
/-! SUPPORT. The debug state and the debug access to Open cores (R224, R225, R449, R450). -/

namespace Sys2Proof.Machine

set_option Elab.async false

/-! ### Cores changed one by one -/

theorem keeps_cores (x : SMap Core) (s : State) : Keeps [.cores] s { s with cores := x } :=
  ⟨rfl, fun p hp => by
    cases p with
    | cores => exact absurd (List.mem_singleton_self _) hp
    | gens => exact ⟨rfl, rfl⟩
    | _ => rfl⟩

theorem keeps_modCore (c : Nat) (f : Core → Core) (s : State) : Keeps [.cores] s (modCore c f s) := keeps_cores _ s

/-- A fold of a step that changes one core and the pieces it names: the cores of the list change, each once. -/
theorem foldl_cores {ch : List Piece} {f : State → Nat → State} (hk : ∀ t c, Keeps ch t (f t c))
    (ho : ∀ t c k, c ≠ k → core (f t c) k = core t k) (cs : List Nat) (s : State) :
    Keeps ch s (cs.foldl f s) ∧ (∀ c, c ∉ cs → core (cs.foldl f s) c = core s c) ∧
      (cs.Nodup → ∀ c ∈ cs, ∃ t, Keeps ch s t ∧ core t c = core s c ∧ core (cs.foldl f s) c = core (f t c) c) := by
  induction cs generalizing s with
  | nil => exact ⟨keeps_refl _ _, fun _ _ => rfl, fun _ _ h => absurd h List.not_mem_nil⟩
  | cons a cs ih =>
    obtain ⟨hks, hos, hin⟩ := ih (f s a)
    refine ⟨keeps_trans (hk s a) hks, fun c hc => ?_, fun hn c hc => ?_⟩
    · obtain ⟨hca, hcs⟩ := not_or.1 (fun h => hc (List.mem_cons.2 h))
      exact (hos c hcs).trans (ho s a c (Ne.symm hca))
    · obtain ⟨hna, hns⟩ := List.nodup_cons.1 hn
      by_cases hca : c = a
      · exact ⟨s, keeps_refl _ _, rfl, hca ▸ hos a hna⟩
      · have hcs := (List.mem_cons.1 hc).resolve_left hca
        obtain ⟨t, hkt, ht, hf⟩ := hin hns c hcs
        exact ⟨t, keeps_trans (hk s a) hkt, ht.trans (ho s a c (Ne.symm hca)), hf⟩

theorem nodup_bitsOf {w : Nat} (v : BitVec w) : (bitsOf v).Nodup := List.nodup_range.filter _

/-- A fold of a change of one core each. -/
theorem foldl_modCore (g : State → Nat → Core → Core) (cs : List Nat) (s : State) :
    Keeps [.cores] s (cs.foldl (fun t c => modCore c (g t c) t) s) ∧
      (∀ c, c ∉ cs → core (cs.foldl (fun t c => modCore c (g t c) t) s) c = core s c) ∧
      (cs.Nodup → ∀ c ∈ cs, ∃ t, Keeps [.cores] s t ∧ core t c = core s c ∧
        core (cs.foldl (fun t c => modCore c (g t c) t) s) c = g t c (core s c)) := by
  obtain ⟨hk, ho, hin⟩ := foldl_cores (fun t c => keeps_modCore c (g t c) t) (fun t c k h => modCore_core_other t (g t c) h) cs s
  refine ⟨hk, ho, fun hn c hc => ?_⟩
  obtain ⟨t, hkt, ht, h⟩ := hin hn c hc
  exact ⟨t, hkt, ht, by rw [h, modCore_core, ht]⟩

/-! ### The debug state -/

variable {e : Env} {s t : State}

theorem trimLog_logSeq (n : Nat) (b : Boot) : (trimLog n b).logSeq = b.logSeq := by
  induction n generalizing b with
  | zero => rfl
  | succ n ih =>
    rw [trimLog]
    split
    · split
      · exact ih _
      · rfl
    · rfl

/-- A postmark changes the boot state alone and takes the next number. -/
theorem extend_shape (r ty : Nat) (b : Bytes) (d : Digest) (s : State) : ∃ x : Boot, x.logSeq = s.boot.logSeq + 1 ∧
    extend r ty b d s = { s with boot := x } := ⟨_, trimLog_logSeq _ _, rfl⟩

theorem keeps_parts_boot (p : Parts) (b : Boot) (s : State) : Keeps [.parts, .boot] s { s with parts := p, boot := b } :=
  ⟨rfl, fun y hq => by
    cases y with
    | parts => exact absurd List.mem_cons_self hq
    | boot => exact absurd (List.mem_cons_of_mem _ List.mem_cons_self) hq
    | gens => exact ⟨rfl, rfl⟩
    | _ => rfl⟩

theorem served_debugStateSet (hf : payFault ([(0, decide (p8 e 0 ≤ 1))] ++ rsv e 1 7) = none) {r : State × Ans}
    (h : debugStateSet e t = r) : Says.served (.debugStateSet e) specDebugStateSet e s t r :=
  served_of rfl (by rw [checked_pass hf, h])

theorem debugStateSet_refused (h1 : p8 e 0 = 1) (h : t.fuses.shadow.code ≠ 7 ∨ anyConf t = true ∨ t.twin.bond ≠ none ∨ t.car.join ≠ none) :
    debugStateSet e t = (t, Ans.state) := by
  rw [debugStateSet, h1]
  refine if_pos ?_
  simp only [beq_self_eq_true, Bool.true_and, Bool.or_eq_true, decide_eq_true_eq, Option.isSome_iff_ne_none]
  exact or_assoc.2 (or_assoc.2 h)

theorem debugStateSet_opens (h1 : p8 e 0 = 1) (hc : t.fuses.shadow.code = 7) (ha : anyConf t = false) (hb : t.twin.bond = none)
    (hj : t.car.join = none) (hd : t.parts.debugOpen = false) : ∃ u, debugStateSet e t = (u, Ans.ok) ∧
      u.parts = { t.parts with debugOpen := true } ∧ u.boot.logSeq = t.boot.logSeq + 1 ∧ u.aon.alertLow = true ∧
      u.cores = t.cores ∧ u.mem = t.mem := by
  obtain ⟨x, hx, h⟩ := extend_shape 6 8 [0, 1] (sha384 [0, 1]) { t with parts := { t.parts with debugOpen := true } }
  obtain ⟨q, o, hal⟩ := alert_shape 7 { t with parts := { t.parts with debugOpen := true }, boot := x }
  refine ⟨{ t with parts := { t.parts with debugOpen := true }, boot := x, mgmt := { t.mgmt with alert := setBit t.mgmt.alert 7 true }
                   aon := { t.aon with alertLow := true }, q := q, out := o }, ?_, rfl, hx, rfl, rfl, rfl⟩
  rw [debugStateSet, h1, hd]
  refine (if_neg (by simp [hc, ha, hb, hj])).trans ((if_neg (by decide)).trans ?_)
  exact congrArg (·, Ans.ok) ((congrArg (alert 7) h).trans hal)

theorem debugStateSet_closes (h0 : p8 e 0 = 0) : (t.parts.debugOpen = false → debugStateSet e t = (t, Ans.ok)) ∧
    (t.parts.debugOpen = true → ∃ u, debugStateSet e t = (u, Ans.ok) ∧ Keeps [.parts, .boot] t u ∧
      u.parts = { t.parts with debugOpen := false } ∧ u.boot.logSeq = t.boot.logSeq + 1) := by
  rw [debugStateSet, h0]
  refine ⟨fun hd => (if_neg Bool.false_ne_true).trans (if_pos hd.symm), fun hd => ?_⟩
  obtain ⟨x, hx, h⟩ := extend_shape 6 8 [1, 0] (sha384 [1, 0]) { t with parts := { t.parts with debugOpen := false } }
  refine ⟨{ t with parts := { t.parts with debugOpen := false }, boot := x },
    (if_neg Bool.false_ne_true).trans ((if_neg (by rw [hd]; decide)).trans ?_), keeps_parts_boot _ _ _, rfl, hx⟩
  rw [hd]
  exact congrArg (·, Ans.ok) h

/-! ### Cores of an Open partition -/

theorem payFault_append {a b : List Chk} (ha : payFault a = none) (hb : payFault b = none) : payFault (a ++ b) = none :=
  payFault_none.2 fun c hc => (List.mem_append.1 hc).elim (payFault_none.1 ha c) (payFault_none.1 hb c)

theorem maskFits_pass (h : fld e.payload 0 16 < 2 ^ nCores t) : payFault (maskFits t e 0) = none :=
  payFault_none.2 fun c hc => by
    rw [List.mem_singleton.1 hc]
    exact decide_eq_true h

theorem not_any {α : Type} {l : List α} {p : α → Bool} (h : ∀ a ∈ l, p a = false) : ¬ l.any p = true := by
  rw [any_false h]
  exact Bool.false_ne_true

/-- Cores that an Open partition holds may be reached. -/
theorem reachable_held {p : Nat} {x : Partition} {cs : List Nat} (hx : part? t p = some x) (hm : x.mode = .open)
    (hc : ∀ c ∈ cs, coreHolder t c = some p) (k : State × Ans) : reachable t p cs k = k := by
  have hopen : isOpenPart t p = true := by
    rw [isOpenPart, hx]
    exact beq_iff_eq.2 hm
  have h : debugRefused t p cs = none := by
    rw [debugRefused, hx]
    exact (if_neg Bool.false_ne_true).trans ((if_neg (not_any fun c h => by rw [hc c h]; exact congrArg not hopen)).trans
      (if_neg (not_any fun c h => by rw [hc c h, bne_self_eq_false])))
  rw [reachable, h]

theorem debugHalt_halts {cs : List Nat} (hn : cs.Nodup) (hl : ∀ c ∈ cs, coreLive t c = true) : ∃ u, debugHalt cs t = (u, Ans.ok) ∧
    Keeps [.cores, .q] t u ∧ (∀ c, c ∉ cs → core u c = core t c) ∧ ∀ c ∈ cs, (core u c).st = .debugHalt ∧
      (core u c).pc = (core t c).pc ∧ (core u c).x = (core t c).x ∧ (core u c).queue = (core t c).queue := by
  have hk (v : State) (c : Nat) : Keeps [.cores, .q] v (unwait c v) := ⟨rfl, fun p hp => by
    cases p with
    | q => exact absurd (List.mem_cons_of_mem _ List.mem_cons_self) hp
    | gens => exact ⟨rfl, rfl⟩
    | _ => rfl⟩
  obtain ⟨hks, hos, hin⟩ := foldl_cores
    (f := fun t c => modCore c (fun x => { x with st := .debugHalt, waiting := .none, dbg := { x.dbg with stepsLeft := 0 } }) (unwait c t))
    (fun v c => keeps_trans (hk v c) (keeps_mono (keeps_modCore c _ _) (by decide)))
    (fun v c k h => modCore_core_other (unwait c v) _ h) cs t
  refine ⟨_, if_neg ?_, hks, hos, fun c hc => ?_⟩
  · exact not_any fun c h => by rw [hl c h]; rfl
  · obtain ⟨v, -, hv, h⟩ := hin hn c hc
    rw [h, modCore_core, show core (unwait c v) c = core t c from hv]
    exact ⟨rfl, rfl, rfl, rfl⟩

theorem debugHalt_refused {cs : List Nat} (h : ∃ c ∈ cs, coreLive t c = false) : debugHalt cs t = (t, Ans.state) := by
  obtain ⟨c, hc, hl⟩ := h
  exact if_pos (List.any_eq_true.2 ⟨c, hc, by rw [hl]; rfl⟩)

/-- What lets a core run is not among what a change of cores changes, but the program it has verified. -/
theorem canRun_congr {c : Nat} {v : State} (hk : Keeps [.cores] t v) (hc : core v c = core t c) : canRun v c = canRun t c := by
  have hp : v.parts = t.parts := hk.2 .parts (by decide)
  have hw : v.power = t.power := hk.2 .power (by decide)
  simp only [canRun, coreHolder, part?, domOf, hp, hw, hc]

theorem debugResume_resumes {cs : List Nat} (n : Nat) (hn : cs.Nodup) (hl : ∀ c ∈ cs, (core t c).st = .debugHalt) :
    ∃ u, debugResume cs n t = (u, Ans.ok) ∧ Keeps [.cores] t u ∧ (∀ c, c ∉ cs → core u c = core t c) ∧
      ∀ c ∈ cs, core u c = { core t c with st := if canRun t c then .run else .stopped, dbg := { (core t c).dbg with stepsLeft := n } } := by
  obtain ⟨hks, hos, hin⟩ := foldl_modCore (fun t c x =>
    { x with st := if canRun t c then .run else .stopped, dbg := { x.dbg with stepsLeft := n } }) cs t
  refine ⟨_, if_neg ?_, hks, hos, fun c hc => ?_⟩
  · exact not_any fun c h => by rw [hl c h]; rfl
  · obtain ⟨v, hv, hcv, h⟩ := hin hn c hc
    rw [h, canRun_congr hv hcv]

theorem debugTraceSet_clears {p : Nat} {cs : List Nat} (hn : cs.Nodup) (h0 : p8 e 17 = 0) : ∃ u, debugTraceSet e p cs t = (u, Ans.ok) ∧
    Keeps [.cores] t u ∧ (∀ c, c ∉ cs → core u c = core t c) ∧
      ∀ c ∈ cs, core u c = { core t c with dbg := { (core t c).dbg with trace := none } } := by
  obtain ⟨hks, hos, hin⟩ := foldl_modCore (fun _ _ x => { x with dbg := { x.dbg with trace := none } }) cs t
  refine ⟨_, if_pos h0, hks, hos, fun c hc => ?_⟩
  obtain ⟨v, -, -, h⟩ := hin hn c hc
  exact h

theorem debugTraceSet_sets {p : Nat} {cs : List Nat} {x : Partition} {w : Window} (hx : part? t p = some x) (h1 : p8 e 17 = 1)
    (hw : mget x.windows (p8 e 16) = some w) (hu : w.use = .plain) (hs : w.save = none) (ha : w.access.getLsbD 1 = true)
    (hr : p64 e 24 + p64 e 32 ≤ w.size * 2097152) : ∃ u, debugTraceSet e p cs t = (u, Ans.ok) ∧
      Keeps [.cores] t u ∧ (∀ c, c ∉ cs → core u c = core t c) ∧ ∀ c, cs = [c] → core u c = { core t c with
        dbg := { (core t c).dbg with trace := some (p8 e 16, p64 e 24, p64 e 32, 0) } } := by
  have hb : debugTraceSet e p cs t = (cs.zipIdx.foldl (fun t c => modCore c.1 (fun x => { x with dbg := { x.dbg with
      trace := some (p8 e 16, p64 e 24 + p64 e 32 / max 1 cs.length * c.2, p64 e 32 / max 1 cs.length, 0) } }) t) t, Ans.ok) := by
    rw [debugTraceSet, h1, hx, Option.bind_some, hw]
    exact (if_neg (by decide)).trans ((if_neg (by simp [hu, hs, ha])).trans (if_neg (Nat.not_lt.2 hr)))
  refine ⟨_, hb, ?_, fun c hc => ?_, fun c hc => ?_⟩
  · exact List.foldlRecOn (motive := Keeps [.cores] t) _ _ (keeps_refl _ _) fun v hv a _ => keeps_trans hv (keeps_modCore _ _ _)
  · refine List.foldlRecOn (motive := fun v => core v c = core t c) _ _ rfl fun v hv a ha => ?_
    exact (modCore_core_other v _ fun h : a.1 = c => hc (h ▸ List.fst_mem_of_mem_zipIdx ha)).trans hv
  · rw [hc]
    simp only [List.zipIdx_singleton, List.foldl_cons, List.foldl_nil, modCore_core, List.length_singleton, Nat.max_self,
      Nat.div_one, Nat.mul_zero, Nat.add_zero]

theorem overlay_whole {b d : Bytes} (h : d.length = b.length) : overlay b 0 d = d := by
  rw [overlay, List.take_zero, List.nil_append, Nat.zero_add, h, List.drop_length, List.append_nil]

/-- A write of a whole scalar register or of the program counter, and of local store. -/
theorem spaceWrite_whole {x : Core} {d : Bytes} {i off : Nat} :
    (off = 0 → d.length = 8 → spaceWrite 1 i off d x = setX i (BitVec.ofNat 64 (leNat d)) x) ∧
    (off = 0 → d.length = 4 → spaceWrite 6 i off d x = { x with pc := leNat d }) ∧ spaceWrite 7 i off d x = lsWrite off d x := by
  refine ⟨fun h0 h => ?_, fun h0 h => ?_, rfl⟩
  · rw [spaceWrite, h0, overlay_whole (by rw [h, length_leBytes])]
  · rw [spaceWrite, h0, overlay_whole (by rw [h, length_leBytes])]

/-- What is written fits its space, so that as many bytes as the space has are written from its first. -/
theorem offset_of_whole (hf : payFault (spaceChecks t e true) = none) {n : Nat} (hn : (spaceSize (p8 e 1)).2 = n) (h8 : p32 e 8 = n) :
    p32 e 4 = 0 := by
  have h : decide (p32 e 4 + p32 e 8 ≤ (spaceSize (p8 e 1)).2) = true :=
    payFault_none.1 hf (4, _) (List.mem_append_left _ (.tail _ (.tail _ (.tail _ (.head _)))))
  have := of_decide_eq_true h
  omega

theorem debugWrite_writes (hf : payFault (spaceChecks t e true) = none) (hlen : e.payload.length = 16 + p32 e 8)
    (hst : (core t (p8 e 0)).st = .debugHalt) : ∃ u, debugWrite e t = (u, Ans.ok) ∧ Keeps [.cores] t u ∧
      (∀ k, k ≠ p8 e 0 → core u k = core t k) ∧
      (p8 e 1 = 1 → (e.payload.drop 16).length = 8 →
        core u (p8 e 0) = setX (p16 e 2) (BitVec.ofNat 64 (leNat (e.payload.drop 16))) (core t (p8 e 0))) ∧
      (p8 e 1 = 6 → (e.payload.drop 16).length = 4 → core u (p8 e 0) = { core t (p8 e 0) with pc := leNat (e.payload.drop 16) }) ∧
      (p8 e 1 = 7 → core u (p8 e 0) = lsWrite (p32 e 4) (e.payload.drop 16) (core t (p8 e 0))) := by
  obtain ⟨hx, hp, hl⟩ := @spaceWrite_whole (core t (p8 e 0)) (e.payload.drop 16) (p16 e 2) (p32 e 4)
  have hd : (e.payload.drop 16).length = p32 e 8 := by rw [List.length_drop]; omega
  refine ⟨_, if_neg (not_not.2 hst), keeps_modCore _ _ _, fun k hk => modCore_core_other _ _ (Ne.symm hk), ?_⟩
  rw [modCore_core]
  refine ⟨fun h1 h8 => ?_, fun h6 h4 => ?_, fun h7 => ?_⟩
  · rw [h1]
    exact hx (offset_of_whole hf (by rw [h1]; rfl) (hd.symm.trans h8)) h8
  · rw [h6]
    exact hp (offset_of_whole hf (by rw [h6]; rfl) (hd.symm.trans h4)) h4
  · rw [h7]
    exact hl

theorem debugRead_reads (hst : (core t (p8 e 0)).st = .debugHalt) :
    (p8 e 1 = 5 → ∃ u b, debugRead e t = (u, Ans.ok b)) ∧
    (p8 e 1 ≠ 5 → debugRead e t =
      (t, Ans.ok (spaceRead (core t (p8 e 0)) (p8 e 1) (p16 e 2) (p32 e 4) (min (p32 e 8) (space t e))))) :=
  ⟨fun h => ⟨_, _, (if_neg (not_not.2 hst)).trans (if_pos h)⟩, fun h => (if_neg (not_not.2 hst)).trans (if_neg h)⟩

section
variable {x : Partition} (hx : part? t e.target.toNat = some x) (hm : x.mode = .open)
include hx hm

section
variable (hfit : fld e.payload 0 16 < 2 ^ nCores t) (hc : ∀ c ∈ coresArg e 0, coreHolder t c = some e.target.toNat)
include hfit hc

theorem served_debugHalt {r : State × Ans} (h : debugHalt (coresArg e 0) t = r) : Says.served (.debugHalt e) specDebugHalt e s t r :=
  served_of rfl (by rw [checked_pass (maskFits_pass hfit), reachable_held hx hm hc, h])

theorem served_debugResume (hf : payFault (rsv e 18 6) = none) {r : State × Ans} (h : debugResume (coresArg e 0) (p16 e 16) t = r) :
    Says.served (.debugResume e) specDebugResume e s t r :=
  served_of rfl (by rw [checked_pass (payFault_append (maskFits_pass hfit) hf), reachable_held hx hm hc, h])

theorem served_debugFaultPolicy (hf : payFault ([(16, decide (p8 e 16 ≤ 1))] ++ rsv e 17 7) = none) :
    Says.served (.debugFaultPolicy e) specDebugFaultPolicy e s t (debugFaultPolicy (coresArg e 0) (p8 e 16 == 1) t, Ans.ok) :=
  served_of rfl (by
    rw [List.append_assoc, checked_pass (payFault_append (maskFits_pass hfit) hf), reachable_held hx hm hc])

theorem served_debugTraceSet (hf : payFault ([(16, decide (p8 e 16 < 16)), (17, decide (p8 e 17 ≤ 1))] ++ rsv e 18 6) = none)
    {r : State × Ans} (h : debugTraceSet e e.target.toNat (coresArg e 0) t = r) :
    Says.served (.debugTraceSet e) specDebugTraceSet e s t r :=
  served_of rfl (by
    rw [List.append_assoc, checked_pass (payFault_append (maskFits_pass hfit) hf), reachable_held hx hm hc, h])

end

theorem served_debugRead (hf : payFault (spaceChecks t e false) = none) (hc : coreHolder t (p8 e 0) = some e.target.toNat)
    {r : State × Ans} (h : debugRead e t = r) : Says.served (.debugRead e) specDebugRead e s t r :=
  served_of rfl (by rw [checked_pass hf, reachable_held hx hm (fun c hm => List.mem_singleton.1 hm ▸ hc), h])

theorem served_debugWrite (hf : payFault (spaceChecks t e true) = none) (hc : coreHolder t (p8 e 0) = some e.target.toNat)
    (hlen : e.payload.length = 16 + p32 e 8) {r : State × Ans} (h : debugWrite e t = r) :
    Says.served (.debugWrite e) specDebugWrite e s t r :=
  served_of rfl (by
    rw [checked_pass hf, if_neg (not_not.2 hlen), reachable_held hx hm (fun c hm => List.mem_singleton.1 hm ▸ hc), h])

end

/-- Settles O43. -/
theorem debugCommands : Obligations.DebugCommands := by
  intro e s t
  have hn : (coresArg e 0).Nodup := nodup_bitsOf _
  refine ⟨fun hf => ⟨fun h1 h => served_debugStateSet hf (debugStateSet_refused h1 h), fun h1 hc ha hb hj hd => ?_,
    fun h0 hd => served_debugStateSet hf ((debugStateSet_closes h0).1 hd), fun h0 hd => ?_⟩, fun x hx hm => ⟨fun hfit hc => ⟨fun hl => ?_,
      fun h => served_debugHalt hx hm hfit hc (debugHalt_refused h), fun hf hl => ?_, fun hf => ?_, fun hf => ⟨fun h0 => ?_, fun w h1 hw hu hs ha hr => ?_⟩⟩,
      fun hf hc => ⟨fun h => served_debugRead hx hm hf hc (if_pos h), fun hst => ?_⟩,
      fun hf hc hlen => ⟨fun h => served_debugWrite hx hm hf hc hlen (if_pos h), fun hst => ?_⟩⟩⟩
  · obtain ⟨u, h, hu⟩ := debugStateSet_opens h1 hc ha hb hj hd
    exact ⟨u, served_debugStateSet hf h, hu⟩
  · obtain ⟨u, h, hu⟩ := (debugStateSet_closes h0).2 hd
    exact ⟨u, served_debugStateSet hf h, hu⟩
  · obtain ⟨u, h, hu⟩ := debugHalt_halts hn hl
    exact ⟨u, served_debugHalt hx hm hfit hc h, hu⟩
  · obtain ⟨u, h, hu⟩ := debugResume_resumes (p16 e 16) hn hl
    exact ⟨u, served_debugResume hx hm hfit hc hf h, hu⟩
  · obtain ⟨hk, ho, hin⟩ := foldl_modCore (fun _ _ x => { x with dbg := { x.dbg with haltOnFault := p8 e 16 == 1 } }) (coresArg e 0) t
    refine ⟨_, served_debugFaultPolicy hx hm hfit hc hf, hk, ho, fun c hcs => ?_⟩
    obtain ⟨v, -, -, h⟩ := hin hn c hcs
    exact h
  · obtain ⟨u, h, hu⟩ := debugTraceSet_clears hn h0
    exact ⟨u, served_debugTraceSet hx hm hfit hc hf h, hu⟩
  · obtain ⟨u, h, hu⟩ := debugTraceSet_sets hx h1 hw hu hs ha hr
    exact ⟨u, served_debugTraceSet hx hm hfit hc hf h, hu⟩
  · obtain ⟨hcsr, hother⟩ := debugRead_reads (e := e) hst
    refine ⟨fun h => ?_, fun h => ?_, fun h => ?_, fun h => ?_⟩
    · exact served_debugRead hx hm hf hc ((hother (by rw [h]; decide)).trans (by rw [h]; rfl))
    · obtain ⟨u, b, hb⟩ := hcsr h
      exact ⟨u, b, served_debugRead hx hm hf hc hb⟩
    · exact served_debugRead hx hm hf hc ((hother (by rw [h]; decide)).trans (by rw [h]; rfl))
    · exact served_debugRead hx hm hf hc ((hother (by rw [h]; decide)).trans (by rw [h]; rfl))
  · obtain ⟨u, h, hu⟩ := debugWrite_writes hf hlen hst
    exact ⟨u, served_debugWrite hx hm hf hc hlen h, hu⟩

end Sys2Proof.Machine
end

section
/-! SUPPORT. What cancelled work leaves of the state. -/

namespace Sys2Proof.Machine

set_option Elab.async false

/-- Only the cores that `P` names, the partitions, the queues, the memory's counts and the outputs have changed. -/
def WorkOnly (P : Nat → Prop) (s u : State) : Prop :=
  ∃ x p q m o, (∀ c, ¬ P c → mgetD x c Core.reset = core s c) ∧ u = { s with cores := x, parts := p, q := q, mem := m, out := o }

namespace WorkOnly

variable {P : Nat → Prop} {s u v : State}

theorem refl (s : State) : WorkOnly P s s := ⟨s.cores, s.parts, s.q, s.mem, s.out, fun _ _ => rfl, rfl⟩

theorem trans (h : WorkOnly P s u) (g : WorkOnly P u v) : WorkOnly P s v := by
  obtain ⟨x, p, q, m, o, hx, rfl⟩ := h
  obtain ⟨x', p', q', m', o', hx', rfl⟩ := g
  exact ⟨x', p', q', m', o', fun c hc => (hx' c hc).trans (hx c hc), rfl⟩

theorem ite {c : Prop} [Decidable c] (h : WorkOnly P s u) (g : WorkOnly P s v) : WorkOnly P s (if c then u else v) := by
  split
  · exact h
  · exact g

theorem foldl {α : Type} {f : State → α → State} {l : List α} (h : ∀ a ∈ l, ∀ t, WorkOnly P t (f t a)) (s : State) :
    WorkOnly P s (l.foldl f s) :=
  List.foldlRecOn (motive := WorkOnly P s) l f (refl s) fun t ht a ha => ht.trans (h a ha t)

theorem core_eq (h : WorkOnly P s u) {c : Nat} (hc : ¬ P c) : core u c = core s c := by
  obtain ⟨x, p, q, m, o, hx, rfl⟩ := h
  exact hx c hc

/-- A step that leaves the cores alone. -/
theorem of_parts (p : Parts) (q : Queues) (m : Mem) (o : List Out) (s : State) :
    WorkOnly P s { s with parts := p, q := q, mem := m, out := o } := ⟨s.cores, p, q, m, o, fun _ _ => rfl, rfl⟩

theorem modCore {c : Nat} (hc : P c) (f : Core → Core) (s : State) : WorkOnly P s (modCore c f s) :=
  ⟨_, s.parts, s.q, s.mem, s.out, fun k hk => modCore_core_other s f fun h : c = k => hk (h ▸ hc), rfl⟩

theorem unwait (c : Nat) (s : State) : WorkOnly P s (unwait c s) := of_parts _ _ _ _ s
theorem modPart (n : Nat) (f : Partition → Partition) (s : State) : WorkOnly P s (modPart n f s) := of_parts _ _ _ _ s
theorem modRegs (f : Fn) (g : FnRegs → FnRegs) (s : State) : WorkOnly P s (modRegs f g s) := of_parts _ _ _ _ s
theorem emit (x : Out) (s : State) : WorkOnly P s (emit x s) := of_parts _ _ _ _ s
theorem sealBounce (p k st : Nat) (b : Bytes) (s : State) : WorkOnly P s (sealBounce p k st b s).2 := of_parts _ _ _ _ s
theorem countAct (d : Digest) (s : State) : WorkOnly P s (countAct d s) := of_parts _ _ _ _ s

theorem countActPart (p : Nat) (s : State) : WorkOnly P s (countActPart p s) := by
  unfold Machine.countActPart
  split
  · exact countAct _ s
  · exact refl s

theorem msix (f : Fn) (v : Nat) (s : State) : WorkOnly P s (msix f v s) := by
  obtain ⟨q, o, h⟩ := msix_shape f v s
  rw [h]
  exact of_parts s.parts q s.mem o s

theorem putRecord (f : Fn) (r : CompRec) (s : State) : WorkOnly P s (putRecord f r s) :=
  ite ((ite ((modRegs _ _ s).trans ((sealBounce _ _ _ _ _).trans (emit _ _))) ((modRegs _ _ s).trans (emit _ _))).trans (msix _ _ _))
    (ite ((modRegs _ _ s).trans ((sealBounce _ _ _ _ _).trans (emit _ _))) ((modRegs _ _ s).trans (emit _ _)))

theorem writeRecord (f : Fn) (r : CompRec) (s : State) : WorkOnly P s (writeRecord f r s) :=
  ite (modPart _ _ s) (ite (putRecord f r s) (modRegs _ _ s))

theorem countRecord {c : Nat} (hc : P c) (p st : Nat) (s : State) : WorkOnly P s (countRecord p c st s) :=
  ite (modPart _ _ s) ((modPart _ _ s).trans (modCore hc _ _))

theorem dropEntries {es : List (Nat × WorkEntry)} (h : ∀ e ∈ es, P e.1) (n : Nat) (s : State) : WorkOnly P s (dropEntries es n s) :=
  foldl (fun e he t => (writeRecord _ _ t).trans (countRecord (h e he) _ _ _)) s

theorem clearCore {c : Nat} (hc : P c) (s : State) : WorkOnly P s (clearCore c s) := modCore hc _ s

theorem clearCores {cs : List Nat} (h : ∀ c ∈ cs, P c) (s : State) :
    WorkOnly P s (cs.foldl (fun t c => Machine.unwait c (Machine.clearCore c t)) s) :=
  foldl (fun c hc t => (clearCore (h c hc) t).trans (unwait c _)) s

theorem cancelCores {cs : List Nat} (h : ∀ c ∈ cs, P c) (s : State) : WorkOnly P s (cancelCores cs s).1 := by
  refine (clearCores h s).trans (dropEntries (fun e he => ?_) _ _)
  obtain ⟨c, hc, hm⟩ := List.mem_flatMap.1 he
  obtain ⟨w, -, rfl⟩ := List.mem_map.1 hm
  exact h c hc

theorem cancelPart (p : Nat) (s : State) : WorkOnly (fun _ => True) s (cancelPart p s).1 :=
  (clearCores (fun _ _ => trivial) s).trans ((of_parts _ _ _ _ _).trans (dropEntries (fun _ _ => trivial) _ _))

end WorkOnly
end Sys2Proof.Machine
end

section
/-! SUPPORT. The device group (R62–R65, R464, R474, R475, Table 23-5). -/

namespace Sys2Proof.Machine

set_option Elab.async false

variable {e : Env} {s t : State}

/-! ### What the device tells of itself -/

theorem length_beBytes (n v : Nat) : (beBytes n v).length = n := by rw [beBytes, List.length_reverse, length_leBytes]
theorem length_digBytes (d : Digest) : (digBytes d).length = 48 := length_beBytes _ _

theorem deviceInfo_told (t : State) : (deviceInfo t).length = 96 ∧
    slice (deviceInfo t) 2 2 = [t.fuses.shadow.code, if t.parts.debugOpen then 1 else 0] ∧
    slice (deviceInfo t) 8 8 = leBytes 8 t.fuses.shadow.serial.toNat ∧ slice (deviceInfo t) 16 8 = leBytes 8 t.boot.bn.toNat ∧
    slice (deviceInfo t) 24 8 = leBytes 8 (bootStatus t).toNat ∧ slice (deviceInfo t) 32 48 = digBytes t.vault.did := by
  simp only [deviceInfo, List.append_assoc]
  generalize bootStatus t = b
  have h8 (v : Nat) : (leBytes 8 v).length = 8 := length_leBytes 8 v
  have hz : (zeros 4).length = 4 := List.length_replicate
  refine ⟨by simp [length_leBytes, length_digBytes, zeros], rfl, ?_, ?_, ?_, ?_⟩
  · rw [slice_right (m := 4) rfl (by decide), slice_right hz (by decide)]
    exact slice_left (h8 _)
  · rw [slice_right (m := 4) rfl (by decide), slice_right hz (by decide), slice_right (h8 _) (by decide)]
    exact slice_left (h8 _)
  · rw [slice_right (m := 4) rfl (by decide), slice_right hz (by decide), slice_right (h8 _) (by decide), slice_right (h8 _) (by decide)]
    exact slice_left (h8 _)
  · rw [slice_right (m := 4) rfl (by decide), slice_right hz (by decide), slice_right (h8 _) (by decide), slice_right (h8 _) (by decide),
      slice_right (h8 _) (by decide)]
    exact slice_left (length_digBytes _)

theorem powerPolicyGet_told (t : State) : (powerPolicyGet t).length = 40 ∧
    slice (powerPolicyGet t) 0 2 = leBytes 2 t.power.policy.tileIdleMs.toNat ∧
    slice (powerPolicyGet t) 2 2 = leBytes 2 t.power.policy.stackIdleMs.toNat ∧
    slice (powerPolicyGet t) 6 3 = [t.power.policy.tileOn, t.power.policy.tileOff, t.power.policy.stackOn] ∧
    slice (powerPolicyGet t) 16 1 = [1] ∧ slice (powerPolicyGet t) 17 1 = [domByte t 1] ∧ slice (powerPolicyGet t) 22 1 = [domByte t 6] :=
  ⟨rfl, rfl, rfl, rfl, rfl, rfl, rfl⟩

/-! ### A tile that goes off -/

theorem WorkOnly.kept {P : Nat → Prop} {s u : State} (h : WorkOnly P s u) :
    u.aon = s.aon ∧ u.power = s.power ∧ u.mail = s.mail ∧ u.fuses = s.fuses := by
  obtain ⟨x, p, q, m, o, -, rfl⟩ := h
  exact ⟨rfl, rfl, rfl, rfl⟩

theorem mem_tileCores {c k : Nat} (h : c ∈ tileCores k) : c / 16 = k := by
  obtain ⟨i, hi, rfl⟩ := List.mem_map.1 h
  have := List.mem_range.1 hi
  omega

theorem tileOff_shape (k : Nat) (s : State) : ∃ v pw, WorkOnly (fun c => c / 16 = k) s v ∧ tileOff k s = { v with power := pw } ∧
    pw.policy = s.power.policy ∧ pw.tileFence = s.power.tileFence ∧ mgetD pw.dom (tilePd k) Dom.off = .off := by
  have h : WorkOnly (fun c => c / 16 = k) s
      ((tileCores k).foldl (fun x c => if (core x c).st = .unassigned then x else modCore c coldCore (unwait c x)) s) :=
    WorkOnly.foldl (fun c hc t => .ite (.refl t) ((WorkOnly.unwait c t).trans (WorkOnly.modCore (P := fun c => c / 16 = k) (mem_tileCores hc) _ _))) s
  generalize hv : (tileCores k).foldl (fun x c => if (core x c).st = .unassigned then x else modCore c coldCore (unwait c x)) s = v at h
  obtain ⟨-, hp, -, -⟩ := h.kept
  refine ⟨dropL2 k v, { v.power with
    reload := v.power.reload.filter (fun c => c.toNat / 16 != k), held := v.power.held.filter (fun h => h.1 != tilePd k),
    dom := mset v.power.dom (tilePd k) .off Dom.off }, h.trans (.of_parts _ _ _ _ v), ?_, by rw [hp], by rw [hp],
    (mgetD_mset_same v.power.dom (tilePd k) .off Dom.off :)⟩
  rw [tileOff, hv]
  rfl

theorem tileDown_shape (k : Nat) (s : State) : ∃ v pw, WorkOnly (fun c => c / 16 = k) s v ∧ (tileDown k s).1 = { v with power := pw } ∧
    pw.policy = s.power.policy ∧ pw.tileFence = s.power.tileFence ∧ mgetD pw.dom (tilePd k) Dom.off = .off := by
  have h : WorkOnly (fun c => c / 16 = k) s (cancelCores ((tileCores k).filter fun c => (core s c).st != .unassigned) s).1 :=
    .cancelCores (fun c hc => mem_tileCores (List.mem_filter.1 hc).1) s
  obtain ⟨v, pw, hv, he, hpol, hf, hd⟩ := tileOff_shape k (cancelCores ((tileCores k).filter fun c => (core s c).st != .unassigned) s).1
  obtain ⟨-, hp, -, -⟩ := h.kept
  exact ⟨v, pw, h.trans hv, he, hpol.trans (by rw [hp]), hf.trans (by rw [hp]), hd⟩

theorem forceOff_shape (k : Nat) (s : State) : ∃ v pw, WorkOnly (fun c => c / 16 = k) s v ∧ (forceOff k s).1 = { v with power := pw } ∧
    pw.policy = s.power.policy ∧ mgetD pw.dom (tilePd k) Dom.off = .off := by
  have h : WorkOnly (fun c => c / 16 = k) s (((tileCores k).flatMap (coreEntries s)).foldl (fun u m => countActPart m.2.part u) s) :=
    WorkOnly.foldl (fun _ _ t => .countActPart _ t) s
  obtain ⟨v, pw, hv, he, hpol, -, hd⟩ := tileDown_shape k (((tileCores k).flatMap (coreEntries s)).foldl (fun u m => countActPart m.2.part u) s)
  obtain ⟨-, hp, -, -⟩ := h.kept
  exact ⟨v, pw, h.trans hv, he, hpol.trans (by rw [hp]), hd⟩

/-! ### The power policy -/

theorem powerPolicySet_refused (h : (∃ k, (byteAt e.payload 7).getLsbD k = true ∧ k < 8 ∧ (tileConf t k = true ∨ tileScrub t k = true)) ∨
    (∃ k, (byteAt e.payload 8).getLsbD k = true ∧ k < 8 ∧ t.power.stackFence.getLsbD k = true) ∨
    ((byteAt e.payload 4).getLsbD 0 = true ∧ t.twin.bond ≠ none)) : powerPolicySet e t = (t, Ans.state) := by
  have hbit {m : BitVec 8} {k : Nat} (hb : m.getLsbD k = true) (hk : k < 8) : k ∈ bitsOf m :=
    List.mem_filter.2 ⟨List.mem_range.2 hk, hb⟩
  refine if_pos ?_
  rcases h with ⟨k, hb, hk, hc⟩ | ⟨k, hb, hk, hc⟩ | ⟨hd, hb⟩
  · exact Or.inl (List.any_eq_true.2 ⟨k, hbit hb hk, Bool.or_eq_true_iff.2 hc⟩)
  · exact Or.inr (Or.inr (Or.inl (List.any_eq_true.2 ⟨k, hbit hb hk, hc⟩)))
  · refine Or.inr (Or.inr (Or.inr (Bool.and_eq_true_iff.2 ⟨hd, ?_⟩)))
    rw [Option.isSome_iff_ne_none.2 hb]
    rfl

theorem byte_of_p8 {o n : Nat} (h : p8 e o = n) : byteAt e.payload o = BitVec.ofNat 8 n := by
  rw [← h, p8, BitVec.ofNat_toNat, BitVec.setWidth_eq]

theorem policyOfEnv_eq {b : BitVec 8} (h4 : p8 e 4 = 0) (h6 : byteAt e.payload 6 = 0) (h7 : byteAt e.payload 7 = b)
    (h8 : byteAt e.payload 8 = 0) : policyOfEnv e =
      { tileIdleMs := BitVec.ofNat 16 (p16 e 0), stackIdleMs := BitVec.ofNat 16 (p16 e 2), deepIdle := false, tileOn := 0,
        tileOff := b, stackOn := 0 } := by
  rw [policyOfEnv, h6, h7, h8, byte_of_p8 h4]
  rfl

theorem bitsOf_zero : bitsOf (0 : BitVec 8) = [] := by decide

theorem bitsOf_two_pow {k : Nat} (h : k < 8) : bitsOf (BitVec.ofNat 8 (2 ^ k)) = [k] :=
  (by decide : ∀ k : Fin 8, bitsOf (BitVec.ofNat 8 (2 ^ k.1)) = [k.1]) ⟨k, h⟩

/-- The tiles that go off, one after the other. -/
def forcedOff (l : List Nat) (s : State) : State × Nat :=
  l.foldl (fun (a : State × Nat) t => ((forceOff t a.1).1, a.2 + (forceOff t a.1).2)) (s, 0)

theorem forcedOff_one (k : Nat) (s : State) : (forcedOff [k] s).1 = (forceOff k s).1 := by
  simp only [forcedOff, List.foldl_cons, List.foldl_nil]

theorem powerPolicySet_ok {x : PowerPolicy} (hx : policyOfEnv e = x) (hon : bitsOf x.tileOn = []) (hst : bitsOf x.stackOn = [])
    (hdi : x.deepIdle = false) (hoff : ∀ k ∈ bitsOf x.tileOff, tileConf t k = false ∧ tileScrub t k = false) :
    powerPolicySet e t =
      ((forcedOff ((bitsOf x.tileOff).filter fun k => domOf { t with power := { t.power with policy := x } } (tilePd k) != .off)
        { t with power := { t.power with policy := x } }).1, Ans.okD (count31
      (forcedOff ((bitsOf x.tileOff).filter fun k => domOf { t with power := { t.power with policy := x } } (tilePd k) != .off)
        { t with power := { t.power with policy := x } }).2)) := by
  subst hx
  rw [powerPolicySet, hon, hst, hdi]
  refine (if_neg ?_).trans rfl
  rintro (h | h | h | h)
  · obtain ⟨k, hk, hc⟩ := List.any_eq_true.1 h
    obtain ⟨h1, h2⟩ := hoff k hk
    rw [h1, h2] at hc
    exact Bool.false_ne_true hc
  · exact Bool.false_ne_true h
  · exact Bool.false_ne_true h
  · exact Bool.false_ne_true h

theorem powerPolicySet_plain (h4 : p8 e 4 = 0) (h6 : p8 e 6 = 0) (h7 : p8 e 7 = 0) (h8 : p8 e 8 = 0) :
    powerPolicySet e t = ({ t with power := { t.power with policy :=
      { tileIdleMs := BitVec.ofNat 16 (p16 e 0), stackIdleMs := BitVec.ofNat 16 (p16 e 2), deepIdle := false,
        tileOn := 0, tileOff := 0, stackOn := 0 } } }, Ans.okD 0) := by
  have hx := policyOfEnv_eq (b := 0) h4 (byte_of_p8 h6) (byte_of_p8 h7) (byte_of_p8 h8)
  generalize hp : ({ tileIdleMs := _, stackIdleMs := _, deepIdle := _, tileOn := _, tileOff := _, stackOn := _ } : PowerPolicy) = x at hx ⊢
  have hb : bitsOf x.tileOff = [] := by rw [← hp, bitsOf_zero]
  have h := powerPolicySet_ok (t := t) hx (by rw [← hp, bitsOf_zero]) (by rw [← hp, bitsOf_zero]) (by rw [← hp])
    (by rw [hb]; exact fun _ h => absurd h List.not_mem_nil)
  rw [hb] at h
  exact h

theorem powerPolicySet_off {k : Nat} (hk : k < 8) (h4 : p8 e 4 = 0) (h6 : byteAt e.payload 6 = 0)
    (h7 : byteAt e.payload 7 = BitVec.ofNat 8 (2 ^ k)) (h8 : byteAt e.payload 8 = 0) (hc : tileConf t k = false)
    (hs : tileScrub t k = false) (hd : domOf t (6 + k) = .on) : ∃ u r, powerPolicySet e t = (u, r) ∧ r.status = 0 ∧
      domOf u (6 + k) = .off ∧ u.power.policy.tileOff = BitVec.ofNat 8 (2 ^ k) ∧ ∀ c, c / 16 ≠ k → core u c = core t c := by
  have hx := policyOfEnv_eq h4 h6 h7 h8
  generalize hp : ({ tileIdleMs := _, stackIdleMs := _, deepIdle := _, tileOn := _, tileOff := _, stackOn := _ } : PowerPolicy) = x at hx
  have hb := bitsOf_two_pow hk
  rw [show BitVec.ofNat 8 (2 ^ k) = x.tileOff by rw [← hp]] at hb ⊢
  have hset := powerPolicySet_ok (t := t) hx (by rw [← hp, bitsOf_zero]) (by rw [← hp, bitsOf_zero]) (by rw [← hp]) (by
    rw [hb]
    exact fun _ h => List.mem_singleton.1 h ▸ ⟨hc, hs⟩)
  have hfil : (bitsOf x.tileOff).filter (fun k => domOf { t with power := { t.power with policy := x } } (tilePd k) != .off) = [k] := by
    rw [hb]
    refine List.filter_eq_self.2 fun a ha => bne_iff_ne.2 ?_
    rw [List.mem_singleton.1 ha, show domOf { t with power := { t.power with policy := x } } (tilePd k) = Dom.on from hd]
    nofun
  rw [hfil] at hset
  obtain ⟨v, pw, hv, he, hpol, hoff⟩ := forceOff_shape k { t with power := { t.power with policy := x } }
  rw [forcedOff_one, he] at hset
  refine ⟨_, _, hset, rfl, hoff, congrArg PowerPolicy.tileOff hpol, fun c hk => ?_⟩
  exact hv.core_eq hk

/-! ### Recovery -/

section
variable {c : Prop} [Decidable c] {d : Dom} {k n : Nat}

theorem start_domOf_other (h : k ≠ n) : domOf (if c then setDom k d s else s) n = domOf s n := by
  split
  · exact setDom_domOf_other s d h
  · rfl

theorem start_aon : (if c then setDom k d s else s).aon = s.aon := by split <;> rfl
theorem start_fuses : (if c then setDom k d s else s).fuses = s.fuses := by split <;> rfl
theorem start_tileFence : (if c then setDom k d s else s).power.tileFence = s.power.tileFence := by split <;> rfl

end

theorem pdPresent_congr {u : State} (h : u.fuses = s.fuses) (n : Nat) : pdPresent u n = pdPresent s n := by
  rw [pdPresent, isU620, h]
  rfl

theorem pdPresent_tile {k : Nat} (h : k < nTiles s) : pdPresent s (6 + k) = true := by
  unfold nTiles at h
  unfold pdPresent
  split at h
  · next hu => simp [hu]; omega
  · next hu => simp [hu]; omega

/-- A tile that is off starts, with the domains it needs. -/
theorem startDomain_tile {k : Nat} (hk : k < nTiles s) (hd : domOf s (tilePd k) = .off) (hf : s.power.tileFence.getLsbD k = false)
    (ht : s.aon.ret.tripLatch = false) : domOf (startDomain (tilePd k) s) (tilePd k) = .starting := by
  have h8 : k < 8 := by unfold nTiles at hk; split at hk <;> omega
  unfold tilePd at *
  unfold startDomain
  dsimp only
  rw [if_neg (by omega), if_pos (by omega), if_pos, setDom_domOf]
  refine ⟨?_, ?_, ?_⟩
  · rw [start_domOf_other (by omega), start_domOf_other (by omega), hd]
  · rw [pdPresent_congr start_fuses, pdPresent_congr start_fuses, pdPresent_tile hk]
  · rw [if_neg (by omega), start_tileFence, start_tileFence, start_aon, start_aon, Nat.add_sub_cancel_left, hf, ht]
    simp

theorem getLsbD_setBit_false {w i : Nat} (v : BitVec w) : (setBit v i false).getLsbD i = false := by
  rw [setBit, if_neg Bool.false_ne_true, BitVec.getLsbD_and, BitVec.getLsbD_not, BitVec.getLsbD_ofNat, Nat.testBit_two_pow_self]
  simp

theorem recoverTile_starts {k : Nat} (hk : k < nTiles t) (hs : tileScrub t k = false) (ht : t.aon.ret.tripLatch = false)
    (hf : t.power.tileFence.getLsbD k = false) : ∃ u, recoverTile e k t = (u, Ans.waiting) ∧ domOf u (6 + k) = .starting ∧
      ∃ q, u.mail.recovering = t.mail.recovering ++ [q] ∧ q.1 = k := by
  have hc : WorkOnly (fun c => c / 16 = k) t ((tileParts t k).foldl (fun u p => countActPart p u) t) :=
    WorkOnly.foldl (fun _ _ t => .countActPart _ t) t
  generalize hw : (tileParts t k).foldl (fun u p => countActPart p u) t = w at hc
  obtain ⟨v, pw, hv, hd, -, -, hoff⟩ := tileDown_shape k w
  obtain ⟨ha, -, hm, hfu⟩ := (hc.trans hv).kept
  have hb : recoverTile e k t = (startDomain (tilePd k) { v with
      mail := { v.mail with recovering := v.mail.recovering ++ [(k, (tileDown k w).2, pend e 0x106)] }
      power := { pw with tileFence := setBit pw.tileFence k false } }, Ans.waiting) := by
    rw [recoverTile, hw]
    refine (if_neg (by simp [hs, ht, hf])).trans ?_
    dsimp only
    rw [hd]
  refine ⟨_, hb, startDomain_tile ?_ hoff (getLsbD_setBit_false _) (by rw [← ht, ← ha]), ?_⟩
  · rw [nTiles, isU620, hfu]
    exact hk
  · obtain ⟨p, hp, -⟩ := startDomain_shape (tilePd k) { v with
      mail := { v.mail with recovering := v.mail.recovering ++ [(k, (tileDown k w).2, pend e 0x106)] }
      power := { pw with tileFence := setBit pw.tileFence k false } }
    exact ⟨_, by rw [hp, ← hm], rfl⟩

/-! ### A link that is recovered -/

/-- Only the links, the twin port and the keys have changed. -/
def LinksOnly (s u : State) : Prop := ∃ c p v w, u = { s with car := c, port := p, vault := v, twin := w }

namespace LinksOnly

variable {s u v : State}

theorem refl (s : State) : LinksOnly s s := ⟨s.car, s.port, s.vault, s.twin, rfl⟩

theorem trans (h : LinksOnly s u) (g : LinksOnly u v) : LinksOnly s v := by
  obtain ⟨_, _, _, _, rfl⟩ := h
  obtain ⟨c, p, k, w, rfl⟩ := g
  exact ⟨c, p, k, w, rfl⟩

theorem ite {c : Prop} [Decidable c] (h : LinksOnly s u) (g : LinksOnly s v) : LinksOnly s (if c then u else v) := by
  split
  · exact h
  · exact g

theorem foldl {α : Type} {f : State → α → State} (h : ∀ t a, LinksOnly t (f t a)) (l : List α) (s : State) :
    LinksOnly s (l.foldl f s) :=
  List.foldlRecOn (motive := LinksOnly s) l f (refl s) fun t ht a _ => ht.trans (h t a)

theorem car (c : Caravan) (s : State) : LinksOnly s { s with car := c } := ⟨c, s.port, s.vault, s.twin, rfl⟩

theorem vault (k : Vault) (s : State) : LinksOnly s { s with vault := k } := ⟨s.car, s.port, k, s.twin, rfl⟩

theorem modWire (port : Option Nat) (f : Wire → Wire) (s : State) : LinksOnly s (modWire port f s) := by
  cases port with
  | some n => exact car _ s
  | none => exact ⟨s.car, _, s.vault, s.twin, rfl⟩

theorem routeFrame (x : TxFrame) (s : State) : LinksOnly s (routeFrame x s) := by
  unfold Machine.routeFrame
  refine ite (car _ s) ?_
  split
  · exact ite (modWire _ _ s) ((modWire _ _ s).trans ((car _ _).trans (car _ _)))
  · exact car _ s

theorem releaseFrames (post : Nat) (s : State) : LinksOnly s (releaseFrames post s) :=
  (car _ s).trans (foldl (fun t x => routeFrame x t) _ _)

theorem settleHeld (s : State) : LinksOnly s (settleHeld s) := foldl (fun t _ => releaseFrames _ t) _ s

theorem withdraw (n : Nat) (s : State) : LinksOnly s (withdraw n s) :=
  ((modWire _ _ s).trans ((car _ _).trans (foldl (fun t _ => car _ t) _ _))).trans
    ((foldl (fun t x => routeFrame x t) _ _).trans (settleHeld _))

theorem dropCopies (n : Nat) (s : State) : LinksOnly s (dropCopies n s) :=
  ite (vault _ s) (ite (vault _ s) (ite (vault _ s) (ite (vault _ s) (refl s))))

theorem setSlot (n : Nat) (x : Slot) (s : State) : LinksOnly s (setSlot n x s) := vault _ s

theorem mirrorSlot (n : Nat) (s : State) : LinksOnly s (mirrorSlot n s) := by
  obtain ⟨tw, po, h⟩ := mirrorSlot_shape n s
  exact ⟨s.car, po, s.vault, tw, h⟩

theorem destroySlot (n : Nat) (s : State) : LinksOnly s (destroySlot n s) :=
  ite (refl s) ((setSlot n _ s).trans ((dropCopies n _).trans (mirrorSlot n _)))

theorem unkey (port : Option Nat) (s : State) : LinksOnly s (unkey port s) := by
  have h := (modWire port (fun w => { Wire.reset with
    txWait := (wireOf s port).retry.map (fun e => { frame := e.2, via := none }) ++ w.txWait }) s).trans (destroySlot (portSlot port) _)
  cases port with
  | some n => exact (h.trans (car _ _)).trans (withdraw n _)
  | none => exact h.trans ⟨_, _, _, _, rfl⟩

end LinksOnly

theorem served_recover (hf : payFault (recoverChecks t e) = none) {r : State × Ans} (h : recoverBody e t = r) :
    Says.served (.recover e) specRecover e s t r :=
  served_of rfl (by rw [checked_pass hf, h])

theorem recoverBody_link (h5 : p8 e 0 = 5) :
    ((linkOf t (p8 e 1)).st = .disabled → recoverBody e t = (t, Ans.notFound)) ∧
    ((linkOf t (p8 e 1)).st ≠ .disabled → ∃ u, recoverBody e t = (u, Ans.ok) ∧ (linkOf u (p8 e 1)).st = .training ∧
      u.mem = t.mem ∧ u.cores = t.cores) := by
  rw [recoverBody, h5]
  refine ⟨fun hl => (if_neg (by decide)).trans ((if_pos rfl).trans (if_pos hl)), fun hl =>
    ⟨_, (if_neg (by decide)).trans ((if_pos rfl).trans (if_neg hl)), by rw [linkOf_modLink], ?_⟩⟩
  obtain ⟨c, p, v, w, h⟩ := LinksOnly.unkey (some (p8 e 1)) t
  rw [h]
  exact ⟨rfl, rfl⟩

theorem tile_of_recoverChecks (hf : payFault (recoverChecks t e) = none) (h3 : p8 e 0 = 3) : p8 e 1 < nTiles t := by
  have h : (decide (p8 e 0 = 3 → p8 e 1 < nTiles t) && decide (p8 e 0 = 5 → p8 e 1 < 16)) = true :=
    payFault_none.1 hf (1, _) (List.mem_append_left _ (.tail _ (.head _)))
  exact of_decide_eq_true (Bool.and_eq_true_iff.1 h).1 h3

theorem domByte_on {n : Nat} (h : domOf t n = .on) : domByte t n = 1 := by rw [domByte, h]
theorem domByte_off {n : Nat} (h : domOf t n = .off) : domByte t n = 0 := by rw [domByte, h]

/-- Settles O35. -/
theorem deviceCommands : Obligations.DeviceCommands := by
  intro e s t
  obtain ⟨hl, h0, h2, h6, h16, h17, h22⟩ := powerPolicyGet_told t
  refine ⟨⟨_, served_of rfl rfl, deviceInfo_told t⟩, ⟨_, served_of rfl rfl, hl, h0, h2, h6, h16, fun h => by rw [h17, domByte_on h],
    fun h => by rw [h22, domByte_off h]⟩, fun hf => ?_, fun hf => ⟨fun h => ?_, fun h => ?_, fun h5 hd => ?_, fun h5 hd => ?_, fun h3 hs ht hfe => ?_⟩⟩
  · have hserved {r : State × Ans} (h : powerPolicySet e t = r) : Says.served (.powerPolicySet e) specPowerPolicySet e s t r :=
      served_of rfl (by rw [checked_pass hf, h])
    refine ⟨fun h6 h7 h8 h4 => hserved (powerPolicySet_plain h4 h6 h7 h8),
      fun k hk hb hc => hserved (powerPolicySet_refused (Or.inl ⟨k, hb, hk, hc⟩)),
      fun k hk hb hc => hserved (powerPolicySet_refused (Or.inr (Or.inl ⟨k, hb, hk, hc⟩))),
      fun h4 hb => hserved (powerPolicySet_refused (Or.inr (Or.inr ⟨by rw [byte_of_p8 h4]; decide, hb⟩))),
      fun k hk h6 h8 h4 h7 hc hs hd => ?_⟩
    obtain ⟨u, r, h, hu⟩ := powerPolicySet_off hk h4 h6 h7 h8 hc hs hd
    exact ⟨u, r, hserved h, hu⟩
  · exact served_recover hf (by rw [recoverBody, h]; rfl)
  · exact served_recover hf (by rw [recoverBody, h]; rfl)
  · exact served_recover hf ((recoverBody_link h5).1 hd)
  · obtain ⟨u, h, hu⟩ := (recoverBody_link h5).2 hd
    exact ⟨u, served_recover hf h, hu⟩
  · obtain ⟨u, h, hu⟩ := recoverTile_starts (e := e) (tile_of_recoverChecks hf h3) hs ht hfe
    exact ⟨u, served_recover hf ((if_pos h3).trans h), hu⟩

end Sys2Proof.Machine
end

section
/-! SUPPORT. Registered letters and the other key commands (R136, R138–R141, R145, R443, R498). -/

namespace Sys2Proof.Machine

set_option Elab.async false

/-! ### Attribute words -/

theorem getLsbD_versionOnly (v : BitVec 16) (i : Nat) (h : i < 48) : (versionOnly v).getLsbD i = false := by
  rw [versionOnly, BitVec.getLsbD_shiftLeft, decide_eq_true h]
  simp

theorem attrRw_high (i : Nat) (h : 48 ≤ i) : attrRw.getLsbD i = false := by
  by_cases hi : i < 64
  · exact (by decide : ∀ k : Fin 64, 48 ≤ k.1 → attrRw.getLsbD k.1 = false) ⟨i, hi⟩ h
  · exact BitVec.getLsbD_of_ge _ _ (Nat.not_lt.1 hi)

theorem versionOnly_rw (v : BitVec 16) : versionOnly v &&& attrRw = 0 := by
  refine BitVec.eq_of_getLsbD_eq fun i _ => ?_
  rw [BitVec.getLsbD_and]
  by_cases h : i < 48
  · rw [getLsbD_versionOnly v i h]
    simp
  · rw [attrRw_high i (Nat.not_lt.1 h), Bool.and_false]
    simp

theorem extract_versionOnly (v : BitVec 16) : (versionOnly v).extractLsb' 48 16 = v := by
  refine BitVec.eq_of_getLsbD_eq fun i hi => ?_
  rw [BitVec.getLsbD_extractLsb', versionOnly, BitVec.getLsbD_shiftLeft, BitVec.getLsbD_setWidth]
  simp [hi, show 48 + i < 64 by omega, show i < 64 by omega]

/-- The attribute word of an installed key: the letter's fields, the active bank, the version. -/
def installedAttr (a : BitVec 64) (v : BitVec 16) : BitVec 64 := a &&& attrRw ||| 1#64 <<< 44 ||| versionOnly v

theorem installedAttr_rw (a : BitVec 64) (v : BitVec 16) : installedAttr a v &&& attrRw = a &&& attrRw := by
  have h : (1#64 <<< 44) &&& attrRw = 0 := by decide
  rw [installedAttr, BitVec.and_or_distrib_right, BitVec.and_or_distrib_right, versionOnly_rw, h, BitVec.and_assoc, BitVec.and_self]
  simp

theorem installedAttr_version (a : BitVec 64) (v : BitVec 16) : (installedAttr a v).extractLsb' 48 16 = v := by
  have h (i : Nat) (hi : i < 16) : (a &&& attrRw ||| 1#64 <<< 44).getLsbD (48 + i) = false := by
    rw [BitVec.getLsbD_or, BitVec.getLsbD_and, attrRw_high _ (Nat.le_add_right ..), Bool.and_false, Bool.false_or]
    exact (by decide : ∀ k : Fin 16, (1#64 <<< 44).getLsbD (48 + k.1) = false) ⟨i, hi⟩
  refine (BitVec.eq_of_getLsbD_eq fun i hi => ?_ : _ = (versionOnly v).extractLsb' 48 16).trans (extract_versionOnly v)
  rw [BitVec.getLsbD_extractLsb', BitVec.getLsbD_extractLsb', installedAttr, BitVec.getLsbD_or, h i hi, Bool.false_or]

theorem installedAttr_active (a : BitVec 64) (v : BitVec 16) : (installedAttr a v).getLsbD 44 = true := (installed_bits a v).1

theorem installedAttr_pending (a : BitVec 64) (v : BitVec 16) : (installedAttr a v).getLsbD 45 = false := by
  have h : (1#64 <<< 44).getLsbD 45 = false ∧ attrRw.getLsbD 45 = false := by decide
  rw [installedAttr, BitVec.getLsbD_or, BitVec.getLsbD_or, BitVec.getLsbD_and, h.1, h.2, getLsbD_versionOnly v 45 (by decide), Bool.and_false]
  rfl

theorem installedAttr_low (a : BitVec 64) (v : BitVec 16) (i : Nat) (h : i < 4) : (installedAttr a v).getLsbD i = a.getLsbD i := by
  obtain ⟨h1, h2⟩ := (by decide : ∀ k : Fin 4, (1#64 <<< 44).getLsbD k.1 = false ∧ attrRw.getLsbD k.1 = true) ⟨i, h⟩
  rw [installedAttr, BitVec.getLsbD_or, BitVec.getLsbD_or, BitVec.getLsbD_and, h1, h2, getLsbD_versionOnly v i (by omega), Bool.and_true,
    Bool.or_false, Bool.or_false]

/-- A pending bank's bit set or cleared in an attribute word. -/
theorem pendingBit_set (a : BitVec 64) : (a ||| bitsNat [45]).getLsbD 45 = true ∧ (a ||| bitsNat [45]).getLsbD 44 = a.getLsbD 44 ∧
    (a ||| bitsNat [45]).extractLsb' 48 16 = a.extractLsb' 48 16 := by
  have h : (bitsNat [45]).getLsbD 45 = true ∧ (bitsNat [45]).getLsbD 44 = false ∧
      ∀ k : Fin 16, (bitsNat [45]).getLsbD (48 + k.1) = false := by decide
  obtain ⟨h45, h44, hk⟩ := h
  refine ⟨by rw [BitVec.getLsbD_or, h45, Bool.or_true], by rw [BitVec.getLsbD_or, h44, Bool.or_false], ?_⟩
  refine BitVec.eq_of_getLsbD_eq fun i hi => ?_
  rw [BitVec.getLsbD_extractLsb', BitVec.getLsbD_extractLsb', BitVec.getLsbD_or, hk ⟨i, hi⟩, Bool.or_false]

theorem pendingBit_cleared (a : BitVec 64) : (a &&& ~~~(1#64 <<< 45)).getLsbD 45 = false := by
  have h : (~~~(1#64 <<< 45)).getLsbD 45 = false := by decide
  rw [BitVec.getLsbD_and, h, Bool.and_false]

/-! ### What becomes of a slot -/

/-- Slot `n` becomes `x`; the other slots and the issuers' counters stay. -/
def SlotBecomes (n : Nat) (x : Slot) (s u : State) : Prop :=
  slot u n = x ∧ (∀ k, k ≠ n → slot u k = slot s k) ∧ u.vault.franking = s.vault.franking

namespace SlotBecomes

variable {n : Nat} {x : Slot} {s u v : State}

theorem refl (n : Nat) (s : State) : SlotBecomes n (slot s n) s s := ⟨rfl, fun _ _ => rfl, rfl⟩

theorem setSlot (n : Nat) (x : Slot) (s : State) : SlotBecomes n x s (setSlot n x s) :=
  ⟨slot_setSlot n x s, fun _ hk => mgetD_mset_other _ _ _ (Ne.symm hk), rfl⟩

theorem same (h : SlotBecomes n x s u) (hs : v.vault.slots = u.vault.slots) (hf : v.vault.franking = u.vault.franking) :
    SlotBecomes n x s v := by
  obtain ⟨h1, h2, h3⟩ := h
  have hv (k : Nat) : slot v k = slot u k := by rw [slot, hs]; rfl
  exact ⟨(hv n).trans h1, fun k hk => (hv k).trans (h2 k hk), hf.trans h3⟩

theorem mirrorSlot (h : SlotBecomes n x s u) (k : Nat) : SlotBecomes n x s (mirrorSlot k u) :=
  h.same (congrArg Vault.slots (mirror_vault _ _ u)) (congrArg Vault.franking (mirror_vault _ _ u))

theorem copyBounce (h : SlotBecomes n x s u) (k : Nat) : SlotBecomes n x s (copyBounce k u) := by
  unfold Machine.copyBounce
  split
  · exact h.same rfl rfl
  · exact h

theorem freshCounts (h : SlotBecomes n x s u) (k : Nat) : SlotBecomes n x s (freshCounts k u) := by
  unfold Machine.freshCounts
  split
  · exact h.same rfl rfl
  · exact h

theorem dropCopies (h : SlotBecomes n x s u) (k : Nat) : SlotBecomes n x s (dropCopies k u) := by
  unfold Machine.dropCopies
  dsimp only
  split
  · exact h.same rfl rfl
  split
  · exact h.same rfl rfl
  split
  · exact h.same rfl rfl
  split
  · exact h.same rfl rfl
  · exact h

theorem installSlot (n : Nat) (a : BitVec 64) (key g : Digest) (s : State) : SlotBecomes n
    { attr := installedAttr a ((slot s n).version + 1), active := key, pending := 0, targetA := g, targetP := 0 } s
    (installSlot n a key g s) := (setSlot n _ s).mirrorSlot n

theorem installPending (n : Nat) (key g : Digest) (s : State) : SlotBecomes n
    { slot s n with pending := key, targetP := g, attr := (slot s n).attr ||| bitsNat [45] } s (installPending n key g s) :=
  (setSlot n _ s).copyBounce n

theorem destroySlot (h : (slot s n).isEmpty = false) : SlotBecomes n { Slot.empty with attr := versionOnly (slot s n).version } s
    (destroySlot n s) := by
  have hne : slot s n ≠ Slot.empty := fun he => by rw [he] at h; exact absurd h (by decide)
  have hd : Machine.destroySlot n s = Machine.mirrorSlot n (Machine.dropCopies n (Machine.setSlot n
      { Slot.empty with attr := versionOnly (slot s n).version } s)) := if_neg hne
  rw [hd]
  exact ((setSlot n _ s).dropCopies n).mirrorSlot n

theorem abandonPending (n : Nat) (s : State) : SlotBecomes n
    { slot s n with pending := 0, targetP := 0, attr := (slot s n).attr &&& ~~~(1#64 <<< 45) } s (abandonPending n s) := by
  unfold Machine.abandonPending
  dsimp only
  split
  · exact (setSlot n _ s).same rfl rfl
  split
  · exact (setSlot n _ s).same rfl rfl
  · exact setSlot n _ s

end SlotBecomes

/-! ### The counter of a letter -/

variable {e : Env} {s t u : State}

/-- A recorded counter changes the counters and what is mirrored. -/
def Recorded (t u : State) : Prop := ∃ fr tw po, u = { t with vault := { t.vault with franking := fr }, twin := tw, port := po }

theorem recordCounter_recorded (i : Issuer) (c : BitVec 64) (s : State) : Recorded s (recordCounter i c s) := by
  obtain ⟨tw, po, h⟩ := mirror_shape 4 (issuerBytes i ++ leBytes 8 c.toNat) { s with vault := { s.vault with
    franking := if s.vault.franking.any (fun e => e.1 == i) then s.vault.franking.map (fun e => if e.1 == i then (i, c) else e)
      else s.vault.franking ++ [(i, c)] } }
  exact ⟨_, tw, po, h⟩

theorem recordFranking_recorded (e : Env) (s : State) : Recorded s (recordFranking e s) := by
  unfold recordFranking
  split
  · exact ⟨s.vault.franking, _, s.port, rfl⟩
  · split
    · exact recordCounter_recorded _ _ s
    · exact ⟨s.vault.franking, s.twin, s.port, rfl⟩

/-- The state in which a letter runs, its counter recorded. -/
def letterStart (e : Env) (t : State) : State :=
  match issuerOf t e with | some i => recordCounter i e.franking t | none => t

theorem letterStart_recorded (e : Env) (t : State) : Recorded t (letterStart e t) := by
  unfold letterStart
  split
  · exact recordCounter_recorded _ _ t
  · exact ⟨t.vault.franking, t.twin, t.port, rfl⟩

theorem letterStart_counter (e : Env) (t : State) {i : Issuer} (h : issuerOf t e = some i) : ownCounter (letterStart e t) i = e.franking := by
  rw [letterStart, h]
  exact ownCounter_recordCounter _ _ _

theorem ownCounter_congr {v : State} (h : v.vault.franking = u.vault.franking) (i : Issuer) : ownCounter v i = ownCounter u i := by
  rw [ownCounter, h]
  rfl

/-- What is left of a volatile letter once the life-cycle state lets its key in: the slot's state, the wrapped key, the bank. -/
def letterTail (e : Env) (rep : Bool) (kek : BitVec 256) (u : State) : State × Ans :=
  let n := p16 e 6
  let a := BitVec.ofNat 64 (p64 e 8)
  let x := slot u n
  if (!rep) = true ∧ (!x.isEmpty) = true then (u, (Ans.conflict 1).at_ 6)
  else if rep = true ∧ x.isEmpty = true then (u, (Ans.notFound (x.version.zeroExtend 32)).at_ 6)
  else if rep = true ∧ x.attr &&& attrRw ≠ a &&& attrRw then (u, (Ans.conflict 3).at_ 6)
  else match kwUnwrap kek (e.payload.drop 0x80) with
    | none => (u, Ans.integrity.at_ 8)
    | some b =>
      let key : Digest := BitVec.ofNat 384 (beNat b)
      if rep = true ∧ x.activeValid = true ∧ key = x.active ∧ (!(x.sealed && dig e.payload 0x48 != x.targetA)) = true then
        (u, (Ans.conflict 2).at_ 9)
      else if rep = true then
        let v := installPending n key (dig e.payload 0x48) u
        (v, letterReply n v)
      else
        let v := freshCounts n (copyBounce n (installSlot n a key (dig e.payload 0x48) u))
        (v, letterReply n v)

/-! ### Letters -/

section
variable {kek : BitVec 256} (hl : Says.lettered e t kek)
include hl

theorem letter_lettered (rep : Bool) : letter e rep t = ((letterRest e rep kek (letterStart e t)).1,
    (letterRest e rep kek (letterStart e t)).2.noted) := by
  obtain ⟨hform, hvol, hkey, hauth, hdid, hbn, hlast, -, -, -⟩ := hl
  rw [letter, hform, hkey, hvol, hauth]
  refine (if_neg Bool.false_ne_true).trans ((if_neg (not_not.2 hdid)).trans ((if_neg (fun h => Bool.false_ne_true h.1)).trans
    ((if_neg ?_).trans rfl)))
  rintro (h | h)
  · exact h.2 hbn
  · exact absurd hlast (Nat.not_lt.2 h)

theorem letterRest_tail (rep : Bool) (hu : Recorded t u) : letterRest e rep kek u = letterTail e rep kek u := by
  obtain ⟨-, hvol, -, -, -, -, -, hdeg, ⟨b, hb, hbit⟩, hver⟩ := hl
  obtain ⟨fr, tw, po, rfl⟩ := hu
  rw [letterRest, letterTail, hvol, hb]
  refine (if_neg (by rw [hdeg]; exact Bool.false_ne_true)).trans ((if_neg fun h => Bool.false_ne_true h.1).trans ((if_neg ?_).trans ?_))
  · exact fun h => Bool.false_ne_true ((congrArg not hbit).symm.trans h)
  · refine ite_congr rfl (fun _ => rfl) fun _ => ite_congr rfl (fun _ => rfl) fun _ => ite_congr rfl (fun _ => rfl) fun _ =>
      (if_neg ?_).trans rfl
    rintro (h | h)
    · exact hver h
    · exact Bool.false_ne_true h.1

theorem letter_tail (rep : Bool) : letter e rep t = ((letterTail e rep kek (letterStart e t)).1,
    (letterTail e rep kek (letterStart e t)).2.noted) := by
  rw [letter_lettered hl, letterRest_tail hl rep (letterStart_recorded e t)]

end

theorem letterTail_taken (kek : BitVec 256) (h : (slot u (p16 e 6)).isEmpty = false) :
    letterTail e false kek u = (u, (Ans.conflict 1).at_ 6) := if_pos ⟨rfl, congrArg not h⟩

theorem letterTail_missing (kek : BitVec 256) (h : (slot u (p16 e 6)).isEmpty = true) :
    letterTail e true kek u = (u, (Ans.notFound ((slot u (p16 e 6)).version.zeroExtend 32)).at_ 6) := if_pos ⟨rfl, h⟩

theorem letterTail_install {kek : BitVec 256} (h : (slot u (p16 e 6)).isEmpty = true) :
    (kwUnwrap kek (e.payload.drop 0x80) = none → letterTail e false kek u = (u, Ans.integrity.at_ 8)) ∧
    (∀ b, kwUnwrap kek (e.payload.drop 0x80) = some b → ∃ v, letterTail e false kek u = (v, letterReply (p16 e 6) v) ∧
      SlotBecomes (p16 e 6)
        { attr := installedAttr (BitVec.ofNat 64 (p64 e 8)) ((slot u (p16 e 6)).version + 1), active := BitVec.ofNat 384 (beNat b),
          pending := 0, targetA := dig e.payload 0x48, targetP := 0 } u v) := by
  have hchecks {r : State × Ans} (hr : (match kwUnwrap kek (e.payload.drop 0x80) with
      | none => (u, Ans.integrity.at_ 8)
      | some b => (freshCounts (p16 e 6) (copyBounce (p16 e 6) (installSlot (p16 e 6) (BitVec.ofNat 64 (p64 e 8))
            (BitVec.ofNat 384 (beNat b)) (dig e.payload 0x48) u)),
          letterReply (p16 e 6) (freshCounts (p16 e 6) (copyBounce (p16 e 6) (installSlot (p16 e 6) (BitVec.ofNat 64 (p64 e 8))
            (BitVec.ofNat 384 (beNat b)) (dig e.payload 0x48) u))))) = r) : letterTail e false kek u = r := by
    refine (if_neg fun h' => Bool.false_ne_true ((congrArg not h).symm.trans h'.2)).trans ((if_neg ?_).trans ((if_neg ?_).trans hr))
    · exact fun h => Bool.false_ne_true h.1
    · exact fun h => Bool.false_ne_true h.1
  refine ⟨fun hk => hchecks (by rw [hk]), fun b hk => ⟨_, hchecks (by rw [hk]), ?_⟩⟩
  exact ((SlotBecomes.installSlot _ _ _ _ u).copyBounce _).freshCounts _

theorem letterTail_replace {kek : BitVec 256} (h : (slot u (p16 e 6)).isEmpty = false)
    (ha : (slot u (p16 e 6)).attr &&& attrRw = BitVec.ofNat 64 (p64 e 8) &&& attrRw) :
    (kwUnwrap kek (e.payload.drop 0x80) = none → letterTail e true kek u = (u, Ans.integrity.at_ 8)) ∧
    (∀ b, kwUnwrap kek (e.payload.drop 0x80) = some b →
      letterTail e true kek u = (u, (Ans.conflict 2).at_ 9) ∧ ¬ ((slot u (p16 e 6)).activeValid = false ∨
        BitVec.ofNat 384 (beNat b) ≠ (slot u (p16 e 6)).active) ∨
      ∃ v, letterTail e true kek u = (v, letterReply (p16 e 6) v) ∧
        SlotBecomes (p16 e 6) { slot u (p16 e 6) with pending := BitVec.ofNat 384 (beNat b), targetP := dig e.payload 0x48,
                                                      attr := (slot u (p16 e 6)).attr ||| bitsNat [45] } u v) := by
  have hchecks {r : State × Ans} (hr : (match kwUnwrap kek (e.payload.drop 0x80) with
      | none => (u, Ans.integrity.at_ 8)
      | some b =>
        if true = true ∧ (slot u (p16 e 6)).activeValid = true ∧ BitVec.ofNat 384 (beNat b) = (slot u (p16 e 6)).active ∧
            (!((slot u (p16 e 6)).sealed && dig e.payload 0x48 != (slot u (p16 e 6)).targetA)) = true then (u, (Ans.conflict 2).at_ 9)
        else (installPending (p16 e 6) (BitVec.ofNat 384 (beNat b)) (dig e.payload 0x48) u,
          letterReply (p16 e 6) (installPending (p16 e 6) (BitVec.ofNat 384 (beNat b)) (dig e.payload 0x48) u))) = r) :
      letterTail e true kek u = r := by
    refine (if_neg ?_).trans ((if_neg ?_).trans hr)
    · exact fun h' => Bool.false_ne_true (h.symm.trans h'.2)
    · exact fun h => h.2 ha
  refine ⟨fun hk => hchecks (by rw [hk]), fun b hk => ?_⟩
  by_cases hc : (slot u (p16 e 6)).activeValid = true ∧ BitVec.ofNat 384 (beNat b) = (slot u (p16 e 6)).active ∧
      (!((slot u (p16 e 6)).sealed && dig e.payload 0x48 != (slot u (p16 e 6)).targetA)) = true
  · refine Or.inl ⟨hchecks (by rw [hk]; exact if_pos ⟨rfl, hc⟩), ?_⟩
    rintro (h' | h')
    · exact Bool.false_ne_true (h'.symm.trans hc.1)
    · exact h' hc.2.1
  · exact Or.inr ⟨_, hchecks (by rw [hk]; exact if_neg fun h => hc h.2), .installPending _ _ _ u⟩

theorem slot_letterStart (e : Env) (t : State) (k : Nat) : slot (letterStart e t) k = slot t k := by
  obtain ⟨fr, tw, po, h⟩ := letterStart_recorded e t
  rw [h]
  rfl

/-- What a letter leaves of the other slots, and its counter. -/
theorem letter_others {x : Slot} (h : SlotBecomes (p16 e 6) x (letterStart e t) u) :
    (∀ k, k ≠ p16 e 6 → slot u k = slot t k) ∧ ∀ i, issuerOf t e = some i → ownCounter u i = e.franking := by
  obtain ⟨-, ho, hf⟩ := h
  exact ⟨fun k hk => (ho k hk).trans (slot_letterStart e t k), fun i hi =>
    (ownCounter_congr hf i).trans (letterStart_counter e t hi)⟩

theorem served_keyInstall {r : State × Ans} (h : letter e false t = r) : Says.served (.keyInstall e) specKeyInstall e s t r := served_of rfl h
theorem served_keyReplace {r : State × Ans} (h : letter e true t = r) : Says.served (.keyReplace e) specKeyReplace e s t r := served_of rfl h

theorem letter_refused (rep : Bool) {kek : BitVec 256} (hform : letterForm t e = none) (hkey : wrapKey t e = some kek)
    (hauth : slotAuthority t e (p16 e 6) = true) (hdid : dig e.payload 0x10 ≠ t.vault.did) : letter e rep t = (t, Ans.refused.at_ 3) := by
  rw [letter, hform, hkey, hauth]
  exact (if_neg Bool.false_ne_true).trans (if_pos hdid)

theorem lettersInstallKeys : Says.lettersInstallKeys := by
  intro e s t kek n a x others
  have hstart : slot (letterStart e t) n = x := slot_letterStart e t n
  refine ⟨fun hl => ⟨fun hx => ?_, fun hx => ?_, fun hx ha => ?_, fun hx => ?_⟩, fun hform hkey hauth hdid =>
    ⟨served_keyInstall (letter_refused false hform hkey hauth hdid), served_keyReplace (letter_refused true hform hkey hauth hdid)⟩⟩
  · obtain ⟨hnone, hsome⟩ := letterTail_install (e := e) (kek := kek) (by rw [hstart]; exact hx)
    cases hk : kwUnwrap kek (e.payload.drop 0x80) with
    | none => exact ⟨_, _, served_keyInstall (by rw [letter_tail hl, hnone hk]), letter_others (.refl _ _), rfl, hstart⟩
    | some b =>
      obtain ⟨v, hv, hb⟩ := hsome b hk
      refine ⟨v, _, served_keyInstall (by rw [letter_tail hl, hv]), letter_others hb, rfl, ?_⟩
      rw [Slot.activeValid, Slot.pendingValid, Slot.version, hb.1, hstart]
      exact ⟨rfl, installedAttr_active _ _, installedAttr_pending _ _, installedAttr_version _ _, installedAttr_rw _ _⟩
  · exact ⟨_, served_keyInstall (by rw [letter_tail hl, letterTail_taken kek (by rw [hstart]; exact hx)]),
      (letterStart_recorded e t).elim fun _ ⟨_, _, h⟩ => by rw [h]⟩
  · obtain ⟨hnone, hsome⟩ := letterTail_replace (e := e) (kek := kek) (by rw [hstart]; exact hx) (by rw [hstart]; exact ha)
    cases hk : kwUnwrap kek (e.payload.drop 0x80) with
    | none => exact ⟨_, _, served_keyReplace (by rw [letter_tail hl, hnone hk]), letter_others (.refl _ _), by rw [hstart], by rw [hstart], rfl, hstart⟩
    | some b =>
      rcases hsome b hk with ⟨hv, hno⟩ | ⟨v, hv, hb⟩
      · rw [hstart] at hno
        exact ⟨_, _, served_keyReplace (by rw [letter_tail hl, hv]), letter_others (.refl _ _), by rw [hstart], by rw [hstart], fun h => absurd h hno⟩
      · refine ⟨v, _, served_keyReplace (by rw [letter_tail hl, hv]), letter_others hb, ?_⟩
        obtain ⟨h45, h44, hver⟩ := pendingBit_set x.attr
        rw [Slot.version, Slot.pendingValid, Slot.activeValid, hb.1, hstart]
        exact ⟨rfl, hver, fun _ => ⟨rfl, rfl, h45, h44⟩⟩
  · refine ⟨letterStart e t, served_keyReplace ?_, (letterStart_recorded e t).elim fun _ ⟨_, _, h⟩ => by rw [h]⟩
    rw [letter_tail hl, letterTail_missing kek (by rw [hstart]; exact hx), hstart]

/-! ### Destruction, pending banks, attributes -/

theorem Recorded.slots (h : Recorded t u) : u.vault.slots = t.vault.slots := by
  obtain ⟨fr, tw, po, rfl⟩ := h
  rfl

theorem Recorded.slot_eq (h : Recorded t u) (k : Nat) : slot u k = slot t k := by
  rw [slot, h.slots]
  rfl

section
variable (hf : payFault (keySlotChecks t e) = none) (hauth : slotAuthority t e (p16 e 0) = true)
include hf hauth

theorem keyOp_recorded (hop : t.fuses.op = none) {sp : OpSpec} (hst : staleCounter t sp e = none) (fp : Slot → Bool)
    (k : Nat → State → State × Ans) : keyOp sp e fp k t =
      ((k (p16 e 0) (recordFranking e t)).1, (k (p16 e 0) (recordFranking e t)).2.noted) := by
  rw [keyOp, hf]
  dsimp only
  rw [hauth, hst, hop]
  exact (if_neg Bool.false_ne_true).trans (if_neg fun h => Bool.false_ne_true h.2)

theorem served_keyDestroy (hop : t.fuses.op = none) (hst : staleCounter t specKeyDestroy e = none) {r : State × Ans}
    (h : keyDestroyBody e (p16 e 0) (recordFranking e t) = r) :
    Says.served (.keyDestroy e) specKeyDestroy e s t (r.1, r.2.noted) :=
  served_of rfl (by rw [keyOp_recorded hf hauth hop hst, h])

theorem served_keyAbandonPending (hop : t.fuses.op = none) (hst : staleCounter t specKeyAbandonPending e = none) {r : State × Ans}
    (h : (if (slot (recordFranking e t) (p16 e 0)).pendingValid then (abandonPending (p16 e 0) (recordFranking e t), Ans.ok)
      else (recordFranking e t, Ans.notFound)) = r) :
    Says.served (.keyAbandonPending e) specKeyAbandonPending e s t (r.1, r.2.noted) :=
  served_of rfl (by rw [keyOp_recorded hf hauth hop hst, h])

theorem keysAreDestroyed (hop : t.fuses.op = none) (hst : staleCounter t specKeyDestroy e = none) :
    ((slot t (p16 e 0)).isEmpty = false → (slot t (p16 e 0)).persist = false → ∃ u,
      Says.served (.keyDestroy e) specKeyDestroy e s t (u, Ans.ok.noted) ∧
        (slot u (p16 e 0)).attr = versionOnly (slot t (p16 e 0)).version ∧
        (slot u (p16 e 0)).active = 0 ∧ (slot u (p16 e 0)).pending = 0 ∧ ∀ k, k ≠ p16 e 0 → slot u k = slot t k) ∧
    ((slot t (p16 e 0)).isEmpty = false → (slot t (p16 e 0)).persist = true → ∃ u,
      Says.served (.keyDestroy e) specKeyDestroy e s t (u, Ans.waiting.noted) ∧ u.vault.slots = t.vault.slots ∧
        u.fuses.op = some { job := .destroy (p16 e 0), env := some { env := e, op := 0x303 }, ready := false }) ∧
    ((slot t (p16 e 0)).isEmpty = true → ∃ u, Says.served (.keyDestroy e) specKeyDestroy e s t
      (u, (Ans.notFound ((slot t (p16 e 0)).version.zeroExtend 32)).noted) ∧ u.vault.slots = t.vault.slots) := by
  have hr := recordFranking_recorded e t
  have hx := hr.slot_eq (p16 e 0)
  refine ⟨fun hne hp => ?_, fun hne hp => ?_, fun hem => ?_⟩
  · obtain ⟨hn, ho, -⟩ := SlotBecomes.destroySlot (n := p16 e 0) (s := recordFranking e t) (by rw [hx]; exact hne)
    rw [hx] at hn
    refine ⟨_, served_keyDestroy hf hauth hop hst (r := (destroySlot (p16 e 0) (recordFranking e t), Ans.ok)) ?_,
      by rw [hn], by rw [hn]; rfl, by rw [hn]; rfl, fun k hk => (ho k hk).trans (hr.slot_eq k)⟩
    rw [keyDestroyBody, hx]
    exact (if_neg (by rw [hne]; exact Bool.false_ne_true)).trans (if_neg (by rw [hp]; exact Bool.false_ne_true))
  · refine ⟨_, served_keyDestroy hf hauth hop hst
      (r := (beginPersistent (.destroy (p16 e 0)) (pend e 0x303) (recordFranking e t), Ans.waiting)) ?_, hr.slots, rfl⟩
    rw [keyDestroyBody, hx]
    exact (if_neg (by rw [hne]; exact Bool.false_ne_true)).trans (if_pos hp)
  · refine ⟨_, served_keyDestroy hf hauth hop hst
      (r := (recordFranking e t, Ans.notFound ((slot t (p16 e 0)).version.zeroExtend 32))) ?_, hr.slots⟩
    rw [keyDestroyBody, hx]
    exact if_pos hem

theorem pendingIsAbandoned (hop : t.fuses.op = none) (hst : staleCounter t specKeyAbandonPending e = none) :
    ((slot t (p16 e 0)).pendingValid = true → ∃ u,
      Says.served (.keyAbandonPending e) specKeyAbandonPending e s t (u, Ans.ok.noted) ∧ (slot u (p16 e 0)).pendingValid = false ∧
        (slot u (p16 e 0)).pending = 0 ∧ (slot u (p16 e 0)).active = (slot t (p16 e 0)).active ∧
        ∀ k, k ≠ p16 e 0 → slot u k = slot t k) ∧
    ((slot t (p16 e 0)).pendingValid = false → ∃ u,
      Says.served (.keyAbandonPending e) specKeyAbandonPending e s t (u, Ans.notFound.noted) ∧ u.vault.slots = t.vault.slots) := by
  have hr := recordFranking_recorded e t
  have hx := hr.slot_eq (p16 e 0)
  refine ⟨fun hp => ?_, fun hp => ?_⟩
  · obtain ⟨hn, ho, -⟩ := SlotBecomes.abandonPending (p16 e 0) (recordFranking e t)
    rw [hx] at hn
    refine ⟨_, served_keyAbandonPending hf hauth hop hst (if_pos (by rw [hx]; exact hp)), ?_, by rw [hn], by rw [hn],
      fun k hk => (ho k hk).trans (hr.slot_eq k)⟩
    rw [Slot.pendingValid, hn]
    exact pendingBit_cleared _
  · exact ⟨_, served_keyAbandonPending hf hauth hop hst (if_neg (by rw [hx, hp]; exact Bool.false_ne_true)), hr.slots⟩

end

theorem served_keyInfo (hf : payFault (keySlotChecks t e) = none) :
    (slotAuthority t e (p16 e 0) = true → (slot t (p16 e 0)).isEmpty = false → Says.served (.keyInfo e) specKeyInfo e s t (t, Ans.ok
      (leBytes 8 (slot t (p16 e 0)).attr.toNat ++ digBytes (slot t (p16 e 0)).targetA ++ digBytes (slot t (p16 e 0)).targetP))) ∧
    (slotAuthority t e (p16 e 0) = false → Says.served (.keyInfo e) specKeyInfo e s t (t, Ans.refused)) := by
  refine ⟨fun ha hne => served_of rfl ?_, fun ha => served_of rfl ?_⟩
  · rw [checked_pass hf]
    dsimp only
    rw [ha, hne]
    exact (if_neg Bool.false_ne_true).trans (if_neg Bool.false_ne_true)
  · rw [checked_pass hf]
    dsimp only
    rw [ha]
    exact if_pos rfl

/-! ### Seal blobs -/

section
variable (hauth : slotAuthority t e (p16 e 0) = true) (hdeg : t.boot.fuseDegraded = false)
include hauth hdeg

theorem served_keySealExport (hf : payFault (keySlotChecks t e) = none) (hact : (slot t (p16 e 0)).activeValid = true) :
    ((slot t (p16 e 0)).exportable = false → Says.served (.keySealExport e) specKeySealExport e s t (t, Ans.state 0x4558)) ∧
    ((slot t (p16 e 0)).exportable = true → ∀ g, slotTarget t e.target.toNat (p16 e 0) = some g →
      ((slot t (p16 e 0)).sealed = true → (slot t (p16 e 0)).targetA = g) → Says.served (.keySealExport e) specKeySealExport e s t
        (t, Ans.ok (leBytes 4 0x55445342 ++ [1, 0, 0, 0] ++ digBytes t.vault.did ++
          kwWrap (sealKey t g) (leBytes 8 (slot t (p16 e 0)).attr.toNat ++ digBytes (slot t (p16 e 0)).active)))) := by
  refine ⟨fun hx => served_of rfl ?_, fun hx g hg hs => served_of rfl ?_⟩
  · rw [checked_pass hf]
    dsimp only
    rw [hauth, hdeg, hact, hx]
    exact (if_neg Bool.false_ne_true).trans ((if_neg Bool.false_ne_true).trans ((if_neg Bool.false_ne_true).trans (if_pos rfl)))
  · rw [checked_pass hf]
    dsimp only
    rw [hauth, hdeg, hact, hx, hg]
    exact (if_neg Bool.false_ne_true).trans ((if_neg Bool.false_ne_true).trans ((if_neg Bool.false_ne_true).trans
      ((if_neg Bool.false_ne_true).trans (if_neg fun h => h.2 (hs h.1)))))

theorem served_keySealImport (hf : payFault (keySlotChecks t e ++ [(8, p8 e 8 == 0x42), (9, p8 e 9 == 0x53), (10, p8 e 10 == 0x44),
      (11, p8 e 11 == 0x55), (12, p8 e 12 == 1)] ++ rsv e 13 3) = none) (hem : (slot t (p16 e 0)).isEmpty = true) :
    (dig e.payload 16 ≠ t.vault.did → Says.served (.keySealImport e) specKeySealImport e s t (t, Ans.integrity)) ∧
    (dig e.payload 16 = t.vault.did → ∀ g, slotTarget t e.target.toNat (p16 e 0) = some g → ∃ u r,
      Says.served (.keySealImport e) specKeySealImport e s t (u, r) ∧ (∀ k, k ≠ p16 e 0 → slot u k = slot t k) ∧
        match kwUnwrap (sealKey t g) (slice e.payload 64 64) with
        | some b => r = Ans.ok (leBytes 8 (slot u (p16 e 0)).attr.toNat) ∧ (slot u (p16 e 0)).active = dig b 8 ∧
            (slot u (p16 e 0)).activeValid = true
        | none => r = Ans.integrity ∧ u = t) := by
  refine ⟨fun hd => served_of rfl ?_, fun hd g hg => ?_⟩
  · rw [checked_pass hf]
    dsimp only
    rw [hauth, hdeg, hem]
    exact (if_neg Bool.false_ne_true).trans ((if_neg Bool.false_ne_true).trans ((if_neg Bool.false_ne_true).trans (if_pos hd)))
  · cases hk : kwUnwrap (sealKey t g) (slice e.payload 64 64) with
    | none =>
      refine ⟨t, Ans.integrity, served_of rfl ?_, fun _ _ => rfl, rfl, rfl⟩
      rw [checked_pass hf]
      dsimp only
      rw [hauth, hdeg, hem, hg]
      dsimp only
      rw [hk]
      exact (if_neg Bool.false_ne_true).trans ((if_neg Bool.false_ne_true).trans ((if_neg Bool.false_ne_true).trans
        (if_neg (not_not.2 hd))))
    | some b =>
      obtain ⟨hn, ho, -⟩ := (SlotBecomes.installSlot (p16 e 0) (BitVec.ofNat 64 (fld b 0 8)) (dig b 8)
        (if (BitVec.ofNat 64 (fld b 0 8)).getLsbD 40 then g else 0) t).copyBounce (p16 e 0)
      refine ⟨copyBounce (p16 e 0) (installSlot (p16 e 0) (BitVec.ofNat 64 (fld b 0 8)) (dig b 8)
        (if (BitVec.ofNat 64 (fld b 0 8)).getLsbD 40 then g else 0) t), _, served_of rfl ?_, ho, rfl, by rw [hn], ?_⟩
      · rw [checked_pass hf]
        dsimp only
        rw [hauth, hdeg, hem, hg]
        dsimp only
        rw [hk]
        exact (if_neg Bool.false_ne_true).trans ((if_neg Bool.false_ne_true).trans ((if_neg Bool.false_ne_true).trans
          (if_neg (not_not.2 hd))))
      · rw [Slot.activeValid, hn]
        exact installedAttr_active _ _

end

/-! ### Operator wrap keys -/

theorem needPke_answers (he : t.eng.entropyFailed = false) (hp : t.eng.pkeFenced = false) (k : State × Ans) : needPke t k = k :=
  (if_neg (by rw [he]; exact Bool.false_ne_true)).trans (if_neg (by rw [hp]; exact Bool.false_ne_true))

theorem lcBit_cases (c : BitVec 8) : lcBit c = none ∨ ∃ k : Fin 5, lcBit c = some (32 + k.1) := by
  unfold lcBit
  split
  · exact Or.inr ⟨0, rfl⟩
  · exact Or.inr ⟨1, rfl⟩
  · exact Or.inr ⟨2, rfl⟩
  · exact Or.inr ⟨3, rfl⟩
  · exact Or.inr ⟨4, rfl⟩
  · exact Or.inl rfl

/-- The attribute word of an operator wrap key: its use, its world, its caller, and the life-cycle state it serves in. -/
def wrapAttr (c : BitVec 8) : BitVec 64 := 1 ||| bitsNat [6, 13, 16] ||| match lcBit c with | some b => bitsNat [b] | none => 0

theorem wrapAttr_type (v : BitVec 16) (c : BitVec 8) : (installedAttr (wrapAttr c) v).extractLsb' 0 4 = 1 := by
  have hlow (k : Fin 4) : (wrapAttr c).getLsbD k.1 = (1 : BitVec 64).getLsbD k.1 := by
    rw [wrapAttr]
    rcases lcBit_cases c with h | ⟨j, h⟩
    · rw [h]
      revert k
      decide
    · rw [h]
      clear h
      revert j k
      decide
  refine BitVec.eq_of_getLsbD_eq fun i hi => ?_
  rw [BitVec.getLsbD_extractLsb', Nat.zero_add, installedAttr_low _ _ _ hi, hlow ⟨i, hi⟩]
  exact (by decide : ∀ k : Fin 4, (decide (k.1 < 4) && (1 : BitVec 64).getLsbD k.1) = (1 : BitVec 4).getLsbD k.1) ⟨i, hi⟩

/-- What WRAP_ESTABLISH does once both shared secrets are there: the wrap key installed, the signed reply. -/
def wrapInstalled (e : Env) (t : State) (ec : Digest) (ct : Bytes) (kem : BitVec 256) : State × Ans :=
  let pub := padTo 97 (Config.ecdhPublic (BitVec.ofNat 384 (beNat (drawBytes t.free 48))))
  let body := pub ++ padTo 1568 ct
  let th := sha384 (e.payload ++ body)
  let sg := signTh (akEc t) (akMl t) th "U-OPWRAP" (t.free + 2)
  (installSlot (0x40 + p8 e 0) (wrapAttr t.fuses.shadow.code) ((key256 (hybridKey ec kem "U-HYB-OPWRAP" (digBytes th) 256)).zeroExtend 384) 0
    { t with free := t.free + 1 + 3 }, Ans.ok (body ++ sg.1 ++ sg.2))

theorem wrapInstalled_slot (e : Env) (t : State) (ec : Digest) (ct : Bytes) (kem : BitVec 256) :
    (slot (wrapInstalled e t ec ct kem).1 (0x40 + p8 e 0)).attr =
      installedAttr (wrapAttr t.fuses.shadow.code) ((slot t (0x40 + p8 e 0)).version + 1) ∧
    ∀ j, j ≠ 0x40 + p8 e 0 → slot (wrapInstalled e t ec ct kem).1 j = slot t j := by
  obtain ⟨hn, ho, -⟩ := SlotBecomes.installSlot (0x40 + p8 e 0) (wrapAttr t.fuses.shadow.code)
    ((key256 (hybridKey ec kem "U-HYB-OPWRAP" (digBytes (sha384 (e.payload ++ (padTo 97 (Config.ecdhPublic (BitVec.ofNat 384
      (beNat (drawBytes t.free 48)))) ++ padTo 1568 ct)))) 256)).zeroExtend 384) 0 { t with free := t.free + 1 + 3 }
  exact ⟨congrArg Slot.attr hn, ho⟩

theorem served_wrapEstablish (hf : payFault ([(0, decide (p8 e 0 ≤ 0x3F))] ++ rsv e 1 7) = none) (hdeg : t.boot.fuseDegraded = false)
    (he : t.eng.entropyFailed = false) (hp : t.eng.pkeFenced = false) :
    ((slot t (0x40 + p8 e 0)).isEmpty = false → Says.served (.wrapEstablish e) specWrapEstablish e s t (t, Ans.conflict)) ∧
    ((slot t (0x40 + p8 e 0)).isEmpty = true → ∃ u r, Says.served (.wrapEstablish e) specWrapEstablish e s t (u, r) ∧
      (∀ j, j ≠ 0x40 + p8 e 0 → slot u j = slot t j) ∧
      match Config.ecdhShared (BitVec.ofNat 384 (beNat (drawBytes t.free 48))) (slice e.payload 8 97),
        Config.mlkemEncaps (slice e.payload 105 1568) (t.free + 1) with
      | some _, some _ => r.status = 0 ∧ (slot u (0x40 + p8 e 0)).type = 1 ∧ (slot u (0x40 + p8 e 0)).activeValid = true
      | none, _ => r = Ans.malformed 0x48 ∧ u = t
      | some _, none => r = Ans.malformed 0xA9 ∧ u = t) := by
  refine ⟨fun hx => served_of rfl ?_, fun hx => ?_⟩
  · rw [checked_pass hf]
    dsimp only
    rw [hdeg, hx]
    exact (if_neg Bool.false_ne_true).trans (if_pos rfl)
  · have hbody {r : State × Ans} (h : (match Config.ecdhShared (BitVec.ofNat 384 (beNat (drawBytes t.free 48))) (slice e.payload 8 97),
          Config.mlkemEncaps (slice e.payload 105 1568) (t.free + 1) with
        | none, _ => (t, Ans.malformed (payOff 8))
        | some _, none => (t, Ans.malformed (payOff 105))
        | some ec, some (ct, kem) => wrapInstalled e t ec ct kem) = r) : Says.served (.wrapEstablish e) specWrapEstablish e s t r := by
      refine served_of rfl ?_
      rw [checked_pass hf]
      dsimp only
      rw [hdeg, hx, needPke_answers he hp]
      refine (if_neg Bool.false_ne_true).trans ((if_neg Bool.false_ne_true).trans ?_)
      rw [← h]
      rfl
    cases hec : Config.ecdhShared (BitVec.ofNat 384 (beNat (drawBytes t.free 48))) (slice e.payload 8 97) with
    | none => exact ⟨t, _, hbody (by rw [hec]; rfl), fun _ _ => rfl, rfl, rfl⟩
    | some ec =>
      cases hkem : Config.mlkemEncaps (slice e.payload 105 1568) (t.free + 1) with
      | none => exact ⟨t, _, hbody (by rw [hec, hkem]; rfl), fun _ _ => rfl, rfl, rfl⟩
      | some c =>
        obtain ⟨hn, ho⟩ := wrapInstalled_slot e t ec c.1 c.2
        refine ⟨_, _, hbody (r := ((wrapInstalled e t ec c.1 c.2).1, (wrapInstalled e t ec c.1 c.2).2)) (by rw [hec, hkem]),
          ho, rfl, ?_, ?_⟩
        · rw [Slot.type, hn, wrapAttr_type]
          rfl
        · rw [Slot.activeValid, hn]
          exact installedAttr_active _ _

theorem keyCommands : Says.keyCommands := by
  intro e s t n
  refine ⟨fun hf hauth hop => ⟨fun hst => keysAreDestroyed hf hauth hop hst, fun hst => pendingIsAbandoned hf hauth hop hst⟩,
    fun hf => ⟨(served_keyInfo hf).1, (served_keyInfo hf).2, fun hauth hdeg hact => served_keySealExport hauth hdeg hf hact⟩,
    fun hf hauth hdeg hem => served_keySealImport hauth hdeg hf hem, fun hf hdeg he hp => served_wrapEstablish hf hdeg he hp⟩

/-- Settles O37. -/
theorem keys : Obligations.Keys := ⟨lettersInstallKeys, keyCommands⟩

end Sys2Proof.Machine
end

section
/-! SUPPORT, O23. Vector lanes, the wide registers and the matrix accumulators (R262–R264, R267).
Here and in the sections of O33, O31 and O32, `Elab.async false` on every fourth theorem makes the compiler wait
for the proofs before it, so that fewer are open at once and the whole text stays within the check's memory. -/

namespace Sys2Proof.Machine

/-! ### Lanes of a wide register -/

/-- The lanes packed into one number, lane 0 lowest. -/
def packLanes (b : Nat) (ls : List Nat) : Nat := ls.foldr (fun n a => n % 2 ^ b + a * 2 ^ b) 0

theorem packLanes_lane (b : Nat) (ls : List Nat) (i : Nat) : packLanes b ls / 2 ^ (b * i) % 2 ^ b = ls.getD i 0 % 2 ^ b := by
  have hb : 0 < 2 ^ b := Nat.two_pow_pos b
  induction ls generalizing i with
  | nil => simp [packLanes]
  | cons n ls ih =>
    have hp : packLanes b (n :: ls) = n % 2 ^ b + packLanes b ls * 2 ^ b := rfl
    cases i with
    | zero => rw [hp, Nat.mul_zero, Nat.pow_zero, Nat.div_one, Nat.add_mul_mod_self_right, Nat.mod_mod]; rfl
    | succ i =>
      have hd : (n % 2 ^ b + packLanes b ls * 2 ^ b) / 2 ^ b = packLanes b ls := by
        rw [Nat.add_mul_div_right _ _ hb, Nat.div_eq_of_lt (Nat.mod_lt _ hb), Nat.zero_add]
      rw [hp, Nat.mul_succ, Nat.add_comm (b * i), Nat.pow_add, ← Nat.div_div_eq_div_mul, hd, ih i]
      rfl

/-- The bits of a number cut to `w` bits are the number's where they lie below `w`. -/
theorem extractLsb'_ofNat_toNat {w k b : Nat} (n : Nat) (h : k + b ≤ w) :
    ((BitVec.ofNat w n).extractLsb' k b).toNat = n / 2 ^ k % 2 ^ b := by
  have hw : 2 ^ w = 2 ^ k * 2 ^ (w - k) := by rw [← Nat.pow_add, Nat.add_sub_cancel' (by omega)]
  rw [BitVec.extractLsb'_toNat, Nat.shiftRight_eq_div_pow, BitVec.toNat_ofNat, hw, Nat.mod_mul_right_div_self,
    Nat.mod_mod_of_dvd _ (Nat.pow_dvd_pow 2 (by omega))]

theorem lane_ofLanes {b i : Nat} (ls : List Nat) (h : b * i + b ≤ 8192) : lane (ofLanes b ls) b i = ls.getD i 0 % 2 ^ b :=
  (extractLsb'_ofNat_toNat (packLanes b ls) h).trans (packLanes_lane b ls i)

set_option Elab.async false in
theorem lane_ofLanes_range {b n i : Nat} (f : Nat → Nat) (hi : i < n) (h : b * n ≤ 8192) :
    lane (ofLanes b ((List.range n).map f)) b i = f i % 2 ^ b := by
  have hb : b * i + b ≤ 8192 := (Nat.mul_le_mul_left b hi).trans h
  rw [lane_ofLanes _ hb, List.getD_eq_getElem _ _ (by simpa using hi)]
  simp

/-- A bit of a wide register is a bit of its lane. -/
theorem lane_testBit (v : BitVec 8192) {b i : Nat} (hb : 0 < b) : (lane v b (i / b)).testBit (i % b) = v.getLsbD i := by
  rw [lane, BitVec.testBit_toNat, BitVec.getLsbD_extractLsb', Nat.div_add_mod, decide_eq_true (Nat.mod_lt i hb), Bool.true_and]

theorem laneBits_cases (d : Nat) : laneBits d = 8 ∨ laneBits d = 16 ∨ laneBits d = 32 := by
  unfold laneBits
  split_ifs <;> simp

theorem laneBits_mul_wLanes (d : Nat) : laneBits d * wLanes d ≤ 8192 := by
  rw [wLanes]
  exact Nat.mul_div_le 8192 (laneBits d)

set_option Elab.async false in
theorem granules_getLsbD (m : BitVec 64) (old new_ : BitVec 8192) {i : Nat} (hi : i < 8192) :
    (granules m old new_).getLsbD i = if m.getLsbD (i / 128) then new_.getLsbD i else old.getLsbD i := by
  have hm : (ofLanes 128 ((List.range 64).map fun g => if m.getLsbD g then 2 ^ 128 - 1 else 0)).getLsbD i = m.getLsbD (i / 128) := by
    rw [← lane_testBit _ (b := 128) (by decide), lane_ofLanes_range _ (by omega) (by decide)]
    cases m.getLsbD (i / 128)
    · rw [if_neg (by decide), Nat.zero_mod, Nat.zero_testBit]
    · rw [if_pos rfl, Nat.mod_eq_of_lt (by decide), Nat.testBit_two_pow_sub_one, decide_eq_true (Nat.mod_lt i (by decide))]
  rw [granules, BitVec.getLsbD_or, BitVec.getLsbD_and, BitVec.getLsbD_and, BitVec.getLsbD_not, hm, decide_eq_true hi]
  cases m.getLsbD (i / 128) <;> simp

/-- A mask of all ones takes the whole new value. -/
theorem granules_allOnes (old new_ : BitVec 8192) : granules (BitVec.allOnes 64) old new_ = new_ := by
  refine BitVec.eq_of_getLsbD_eq fun i hi => ?_
  rw [granules_getLsbD _ _ _ hi, BitVec.getLsbD_allOnes, decide_eq_true (by omega)]
  rfl

theorem vecLanes_lane (op : LaneOp) (d free : Nat) (a b : BitVec 8192) {i : Nat} (h : i < 8192 / laneBits d) :
    lane (vecLanes op d free a b) (laneBits d) i =
      laneOp op d (Config.openNaN (free + i)).toNat (lane a (laneBits d) i) (lane b (laneBits d) i) % 2 ^ laneBits d :=
  lane_ofLanes_range _ h (laneBits_mul_wLanes d)

/-! ### Integer lanes -/

theorem wrapTo_lt (w : Nat) (z : Int) : wrapTo w z < 2 ^ w := by
  have hp : (0 : Int) < (2 ^ w : Nat) := mod_cast Nat.two_pow_pos w
  have := Int.emod_lt_of_pos z hp
  have := Int.emod_nonneg z hp.ne'
  rw [wrapTo]
  omega

set_option Elab.async false in
theorem wrapTo_emod (w : Nat) (z : Int) : ((wrapTo w z : Nat) : Int) = z % (2 ^ w : Nat) := by
  have hp : (0 : Int) < (2 ^ w : Nat) := mod_cast Nat.two_pow_pos w
  rw [wrapTo, Int.toNat_of_nonneg (Int.emod_nonneg z hp.ne')]

/-- A wrapped value in the signed range is read back. -/
theorem sgn8_wrapTo {z : Int} (h1 : -128 ≤ z) (h2 : z ≤ 127) : sgn 8 (wrapTo 8 z) = z := by
  have h := wrapTo_emod 8 z
  unfold sgn
  split_ifs <;> omega

theorem laneOp_add_int32 (z x y : Nat) : laneOp .add 3 z x y < 2 ^ 32 ∧ ((laneOp .add 3 z x y : Int) - (sgn 32 x + sgn 32 y)) % 2 ^ 32 = 0 := by
  have h : laneOp .add 3 z x y = wrapTo 32 (sgn 32 x + sgn 32 y) := rfl
  rw [h, wrapTo_emod]
  exact ⟨wrapTo_lt 32 _, by omega⟩

theorem laneOp_byte (z x y : Nat) :
    laneOp .add 1 z x y = wrapTo 8 (clamp 0 255 (x + y)) ∧ laneOp .sub 1 z x y = wrapTo 8 (clamp 0 255 (x - y)) ∧
      laneOp .mul 0 z x y = wrapTo 8 (clamp (-128) 127 (sgn 8 x * sgn 8 y)) := ⟨rfl, rfl, rfl⟩

set_option Elab.async false in
theorem clamp_id {lo hi z : Int} (h1 : lo ≤ z) (h2 : z ≤ hi) : clamp lo hi z = z := by
  rw [clamp, if_neg (by omega), if_neg (by omega)]

theorem clamp_low {lo hi z : Int} (h : z < lo) : clamp lo hi z = lo := if_pos h

theorem clamp_high {lo hi z : Int} (hb : lo ≤ hi) (h : hi < z) : clamp lo hi z = hi := by
  rw [clamp, if_neg (by omega), if_pos h]

theorem wrapTo_of_byte {n : Nat} (h : n ≤ 255) : wrapTo 8 (n : Int) = n := by
  have := wrapTo_emod 8 n
  omega

set_option Elab.async false in
theorem vectorLanes : Says.vectorLanes := by
  intro a b
  refine ⟨fun op d free i _ h => ⟨_, vecLanes_lane op d free a b h⟩, fun m i hi => granules_getLsbD m a b hi,
    fun x y z _ _ => laneOp_add_int32 z x y, fun x y z hx hy => ?_⟩
  obtain ⟨hadd, hsub, hmul⟩ := laneOp_byte z x y
  rw [hadd, hsub, hmul]
  refine ⟨fun h => ?_, fun h => ?_, fun h => ?_, fun h => ?_, fun h1 h2 => ?_, fun h => ?_⟩
  · rw [clamp_id (by omega) (by omega)]
    exact wrapTo_of_byte h
  · rw [clamp_high (by decide) (by omega)]
    rfl
  · rw [clamp_id (by omega) (by omega), ← Int.natCast_sub h]
    exact wrapTo_of_byte (by omega)
  · rw [clamp_low (by omega)]
    rfl
  · rw [clamp_id h1 h2]
    exact sgn8_wrapTo h1 h2
  · rw [clamp_high (by decide) h]
    rfl

/-! ### A wide word that is issued -/

@[simp] theorem setW_pc (r : Nat) (v : BitVec 8192) (x : Core) : (setW r v x).pc = x.pc := (rfl)
@[simp] theorem setW_dbg (r : Nat) (v : BitVec 8192) (x : Core) : (setW r v x).dbg = x.dbg := (rfl)

section
variable {c : BitVec 7} {ok : Bool} {s : State} {i : Instr} {y : Core} (hi : Says.issues c s) (hok : ok = true)
include hi hok

theorem wideOp_on {f : Core → Except (Nat × Nat) Core} (hf : f (core s c.toNat) = .ok y) :
    wideOp c.toNat ok f s = nextWord c.toNat (setCore c.toNat y s) := by
  rw [wideOp, issue_on hi hok, hf]

set_option Elab.async false in
/-- A wide word in good form leaves its operation's core. -/
theorem wideOp_coreTo {f : Core → Except (Nat × Nat) Core} (he : exec i s = done s (wideOp c.toNat ok f s))
    (hf : f (core s c.toNat) = .ok y) (ht : y.dbg.trace = none) : Says.coreTo i c s (Says.retired (y.pc + 1) y) := by
  rw [wideOp_on hi hok hf] at he
  exact (((CoreBecomes.refl _ s).set y).nextWord ht).coreTo he

/-- A wide word that may use `n` free values leaves its operation's core and that many values used. -/
theorem wideFree_runs {n : Nat} {f : Nat → Core → Except (Nat × Nat) Core} (he : exec i s = done s (wideFree c.toNat n ok f s))
    (hf : f s.free (core s c.toNat) = .ok y) (ht : y.dbg.trace = none) : Runs i s fun t => Touches [.cores, .free] s t ∧
      t.free = s.free + n ∧ core t c.toNat = Says.retired (y.pc + 1) y ∧ ∀ k, k ≠ c.toNat → core t k = core s k := by
  obtain ⟨hrun, hpc, htr⟩ := hi
  have hu : wideFree c.toNat n ok f s = nextWord c.toNat (setCore c.toNat y { s with free := s.free + n }) := by
    rw [wideFree, if_pos hrun]
    exact wideOp_on (s := { s with free := s.free + n }) ⟨hrun, hpc, htr⟩ hok hf
  have hb := ((CoreBecomes.refl c.toNat { s with free := s.free + n }).set y).nextWord ht
  rw [← hu] at hb
  obtain ⟨hrest, hcore, hothers⟩ := hb
  refine runs_done he ⟨touches_after fun p hp => ?_, ?_, by rw [after_core, hcore], fun k hk => by rw [after_core, hothers k hk]; rfl⟩
  · rw [hrest]
    simp only [List.mem_cons, List.not_mem_nil, or_false, not_or] at hp
    obtain ⟨hc, hf⟩ := hp
    cases p
    case cores => exact absurd rfl hc
    case free => exact absurd rfl hf
    case gens => exact ⟨rfl, rfl⟩
    all_goals rfl
  · rw [after_free, hrest]

end

/-! ### Local store without marks -/

theorem lsPoison_unmarked {x : Core} (h : x.lsMark = []) (es : List Extent) : lsPoison x es = none := by
  induction es with
  | nil => rfl
  | cons e es ih =>
    have hn : ((List.range ((e.1 + e.2 + 63) / 64 - e.1 / 64)).map (· + e.1 / 64)).findSome?
        (fun l => (mget x.lsMark l).map fun k => (k.toNat, 64 * l)) = none := by
      rw [h, List.findSome?_eq_none_iff]
      exact fun _ _ => rfl
    simp only [lsPoison, hn, ih]

theorem lsCheck_inside {x : Core} {rs ws : List Extent} (h : ∀ e ∈ rs ++ ws, e.1 + e.2 ≤ 8388608) :
    lsCheck x rs ws = lsPoison x rs := by
  have hn : (rs ++ ws).find? (fun e => decide (lsSize < e.1 + e.2)) = none :=
    List.find?_eq_none.2 fun e he hd => Nat.not_lt.2 (h e he) (of_decide_eq_true hd)
  simp only [lsCheck, hn]

set_option Elab.async false in
theorem lsCheck_none {x : Core} {rs ws : List Extent} (h : ∀ e ∈ rs ++ ws, e.1 + e.2 ≤ 8388608) (hm : x.lsMark = []) :
    lsCheck x rs ws = none := (lsCheck_inside h).trans (lsPoison_unmarked hm rs)

/-- One piece written to a store without marks. -/
theorem lsWriteAll_one {x : Core} (hm : x.lsMark = []) (a : Nat) (b : Bytes) :
    lsWriteAll [(a, b)] x = { x with ls := mwrite x.ls a b } := by
  simp [lsWriteAll, hm]

/-! ### The wide-register operations -/

/-- An unused granule mask is all ones. -/
theorem unmasked {u : WUse} {w : WWord} (hu : u.pred = false) (h : wUnused u w = true) (x : Core) :
    (if w.pneg then ~~~getM x w.pred.toNat else getM x w.pred.toNat) = BitVec.allOnes 64 := by
  have hp : w.pred = 0 ∧ w.pneg = false := by
    simp only [wUnused, hu, Bool.false_or, Bool.and_eq_true, beq_iff_eq, Bool.not_eq_true'] at h
    tauto
  rw [hp.1, hp.2]
  rfl

theorem vsel_getLsbD (a b m : BitVec 8192) {n : Nat} (hn : n < 8192) :
    ((a &&& m) ||| (b &&& ~~~m)).getLsbD n = if m.getLsbD n then a.getLsbD n else b.getLsbD n := by
  rw [BitVec.getLsbD_or, BitVec.getLsbD_and, BitVec.getLsbD_and, BitVec.getLsbD_not, decide_eq_true hn]
  cases m.getLsbD n <;> simp

/-- A register with each of its lanes shifted. -/
def shiftLanes (left : Bool) (d sh : Nat) (a : BitVec 8192) : BitVec 8192 :=
  ofLanes (laneBits d) ((List.range (wLanes d)).map fun i => laneShift left d sh (lane a (laneBits d) i))

set_option Elab.async false in
theorem shiftLanes_lane (left : Bool) (d sh : Nat) (a : BitVec 8192) {n : Nat} (hn : n < 8192 / laneBits d) :
    lane (shiftLanes left d sh a) (laneBits d) n = laneShift left d sh (lane a (laneBits d) n) % 2 ^ laneBits d :=
  lane_ofLanes_range _ hn (laneBits_mul_wLanes d)

theorem shiftOp_eq (c : Nat) (w : WWord) (left : Bool) (s : State) : shiftOp c w left s =
    wideOp c (wUnused { dtype := true, shift := true } w && (w.dtype.toNat == 0 || w.dtype.toNat == 1 || w.dtype.toNat == 3) &&
      descW w.da && descNone w.db && descW w.dd)
    (fun x => .ok (setW (wIndex w.dd) (shiftLanes left w.dtype.toNat w.shift.toNat (getW x (wIndex w.da))) x)) s := rfl

/-- WLS on a core. -/
def wlsCore (w : WWord) (x : Core) : Except (Nat × Nat) Core :=
  match lsCheck x (wideExtents x w.da) [] with
  | some e => .error e
  | none => .ok (setW (wIndex w.dd) (wOfBytes (cat ((wideExtents x w.da).map fun e => lsRead x e.1 e.2))) x)

theorem exec_wls (c : BitVec 7) (w : WWord) (s : State) : exec (.wls c w) s =
    done s (wideOp c.toNat (wUnused {} w && descLs w.da && descNone w.db && descW w.dd) (wlsCore w) s) := rfl

theorem wlsCore_whole {w : WWord} {x : Core} (hs : w.da.stride = 0) (hl : descAddr x w.da 0 + 1024 ≤ 8388608) (hm : x.lsMark = []) :
    wlsCore w x = .ok (setW (wIndex w.dd) (BitVec.ofNat 8192 (leNat (mread x.ls (descAddr x w.da 0) 1024))) x) := by
  have he : wideExtents x w.da = [(descAddr x w.da 0, 1024)] := if_pos hs
  rw [wlsCore, he, lsCheck_none (fun e h => by rw [List.mem_singleton.1 h]; exact hl) hm]
  simp [wOfBytes, cat, lsRead]

/-- WSS on a core. -/
def wssCore (w : WWord) (x : Core) : Except (Nat × Nat) Core :=
  match lsCheck x [] (wideExtents x w.dd) with
  | some e => .error e
  | none => .ok (lsWriteAll ((wideExtents x w.dd).zipIdx.map fun e =>
      (e.1.1, slice (wBytes (getW x (wIndex w.da))) (e.1.2 * e.2) e.1.2)) x)

set_option Elab.async false in
theorem exec_wss (c : BitVec 7) (w : WWord) (s : State) : exec (.wss c w) s =
    done s (wideOp c.toNat (wUnused {} w && descW w.da && descNone w.db && descLs w.dd) (wssCore w) s) := rfl

theorem wssCore_whole {w : WWord} {x : Core} (hs : w.dd.stride = 0) (hl : descAddr x w.dd 0 + 1024 ≤ 8388608) (hm : x.lsMark = []) :
    wssCore w x = .ok { x with ls := mwrite x.ls (descAddr x w.dd 0) (leBytes 1024 (getW x (wIndex w.da)).toNat) } := by
  have he : wideExtents x w.dd = [(descAddr x w.dd 0, 1024)] := if_pos hs
  have hb : slice (wBytes (getW x (wIndex w.da))) 0 1024 = leBytes 1024 (getW x (wIndex w.da)).toNat := by
    rw [slice, List.drop_zero, wBytes, List.take_of_length_le (length_leBytes _ _).le]
  rw [wssCore, he, lsCheck_none (fun e h => by rw [List.mem_singleton.1 h]; exact hl) hm]
  simp only [List.zipIdx_cons, List.zipIdx_nil, List.map_cons, List.map_nil, Nat.mul_zero, hb, lsWriteAll_one hm]

section
variable {c : BitVec 7} {w : WWord} {s : State} {i : Instr} (hi : Says.issues c s)
include hi

/-- A vector operation writes its lanes' results to the destination, under its mask. -/
theorem vecOp_runs {op : LaneOp} {masked : Bool} (he : exec i s = done s (vecOp c.toNat w op masked s))
    (hw : wUnused { pred := masked, dtype := true } w = true) (hd : w.dtype.toNat ≤ 4) (ha : descW w.da = true) (hb : descW w.db = true)
    (ho : descW w.dd = true) : let x := core s c.toNat
    Runs i s fun t => Touches [.cores, .free] s t ∧ t.free = s.free + 1024 ∧
      core t c.toNat = Says.retired (x.pc + 1) (setW (wIndex w.dd)
        (granules (if w.pneg then ~~~getM x w.pred.toNat else getM x w.pred.toNat) (getW x (wIndex w.dd))
          (vecLanes op w.dtype.toNat s.free (getW x (wIndex w.da)) (getW x (wIndex w.db)))) x) ∧
      ∀ k, k ≠ c.toNat → core t k = core s k :=
  wideFree_runs hi (by rw [hw, ha, hb, ho, dtypeOk, decide_eq_true hd]; rfl) he rfl (by rw [setW_dbg, hi.2.2])

/-- A bitwise operation writes its result to the destination, under its mask. -/
theorem bitOp_coreTo {op : BitVec 8192 → BitVec 8192 → BitVec 8192} (he : exec i s = done s (bitOp c.toNat w op s))
    (hw : wUnused { pred := true } w = true) (ha : descW w.da = true) (hb : descW w.db = true) (ho : descW w.dd = true) :
    let x := core s c.toNat
    Says.coreTo i c s (Says.retired (x.pc + 1) (setW (wIndex w.dd)
      (granules (if w.pneg then ~~~getM x w.pred.toNat else getM x w.pred.toNat) (getW x (wIndex w.dd))
        (op (getW x (wIndex w.da)) (getW x (wIndex w.db)))) x)) :=
  wideOp_coreTo hi (by rw [hw, ha, hb, ho]; rfl) he rfl (by rw [setW_dbg, hi.2.2])

set_option Elab.async false in
theorem vsel_coreTo (hw : wUnused { sreg := true } w = true) (ha : descW w.da = true) (hb : descW w.db = true)
    (ho : descW w.dd = true) : let x := core s c.toNat
    Says.coreTo (.vsel c w) c s (Says.retired (x.pc + 1) (setW (wIndex w.dd)
      ((getW x (wIndex w.da) &&& getW x w.sreg.toNat) ||| (getW x (wIndex w.db) &&& ~~~getW x w.sreg.toNat)) x)) :=
  wideOp_coreTo hi (by rw [hw, ha, hb, ho]; rfl) rfl rfl (by rw [setW_dbg, hi.2.2])

/-- A lane shift writes each lane's shifted value. -/
theorem shiftOp_coreTo {left : Bool} (he : exec i s = done s (shiftOp c.toNat w left s))
    (hw : wUnused { dtype := true, shift := true } w = true) (hd : w.dtype = 0 ∨ w.dtype = 1 ∨ w.dtype = 3) (ha : descW w.da = true)
    (hb : descNone w.db = true) (ho : descW w.dd = true) : let x := core s c.toNat
    Says.coreTo i c s (Says.retired (x.pc + 1)
      (setW (wIndex w.dd) (shiftLanes left w.dtype.toNat w.shift.toNat (getW x (wIndex w.da))) x)) := by
  have hok : (w.dtype.toNat == 0 || w.dtype.toNat == 1 || w.dtype.toNat == 3) = true := by
    rcases hd with h | h | h <;> rw [h] <;> rfl
  rw [shiftOp_eq] at he
  exact wideOp_coreTo hi (by rw [hw, ha, hb, ho, hok]; rfl) he rfl (by rw [setW_dbg, hi.2.2])

theorem wnop_coreTo (hw : wUnused {} w = true) (ha : descNone w.da = true) (hb : descNone w.db = true) (ho : descNone w.dd = true) :
    Says.coreTo (.wnop c w) c s (Says.retired ((core s c.toNat).pc + 1) (core s c.toNat)) :=
  wideOp_coreTo (f := .ok) hi (by rw [hw, ha, hb, ho]; rfl) rfl rfl hi.2.2

theorem wls_coreTo (hw : wUnused {} w = true) (ha : descLs w.da = true) (hb : descNone w.db = true) (ho : descW w.dd = true)
    (hs : w.da.stride = 0) : let x := core s c.toNat
    descAddr x w.da 0 + 1024 ≤ 8388608 → x.lsMark = [] → Says.coreTo (.wls c w) c s (Says.retired (x.pc + 1)
      (setW (wIndex w.dd) (BitVec.ofNat 8192 (leNat (mread x.ls (descAddr x w.da 0) 1024))) x)) := by
  intro x hl hm
  have h := wideOp_coreTo hi (by rw [hw, ha, hb, ho]; rfl) (exec_wls c w s) (wlsCore_whole hs hl hm) (by rw [setW_dbg, hi.2.2])
  rwa [setW_pc] at h

set_option Elab.async false in
theorem wss_coreTo (hw : wUnused {} w = true) (ha : descW w.da = true) (hb : descNone w.db = true) (ho : descLs w.dd = true)
    (hs : w.dd.stride = 0) : let x := core s c.toNat
    descAddr x w.dd 0 + 1024 ≤ 8388608 → x.lsMark = [] → Says.coreTo (.wss c w) c s (Says.retired (x.pc + 1)
      { x with ls := mwrite x.ls (descAddr x w.dd 0) (leBytes 1024 (getW x (wIndex w.da)).toNat) }) := by
  intro x hl hm
  have h := wideOp_coreTo hi (by rw [hw, ha, hb, ho]; rfl) (exec_wss c w s) (wssCore_whole hs hl hm) hi.2.2
  exact h

end

theorem wideResults : Says.wideResults := by
  intro c w s hi x a b old m into freely
  refine ⟨fun ha ho => ⟨fun hb hd => ⟨fun hw p hp => ?_, fun hw p hp => ?_⟩, fun hb hw p hp => ?_, fun hb hw => ?_,
    fun hb hw hd p hp => ?_⟩, wnop_coreTo hi, wls_coreTo hi, wss_coreTo hi⟩
  · have he : exec (p.1 c w) s = done s (vecOp c.toNat w p.2 true s) := by
      simp only [List.mem_cons, List.not_mem_nil, or_false] at hp
      rcases hp with rfl | rfl | rfl | rfl | rfl <;> rfl
    exact vecOp_runs hi he hw hd ha hb ho
  · have he : exec (p.1 c w) s = done s (vecOp c.toNat w p.2 false s) := by
      simp only [List.mem_cons, List.not_mem_nil, or_false] at hp
      rcases hp with rfl | rfl <;> rfl
    have hr := vecOp_runs hi he hw hd ha hb ho
    simp only [unmasked rfl hw, granules_allOnes] at hr
    exact hr
  · have he : exec (p.1 c w) s = done s (bitOp c.toNat w p.2 s) := by
      simp only [List.mem_cons, List.not_mem_nil, or_false] at hp
      rcases hp with rfl | rfl | rfl <;> rfl
    exact bitOp_coreTo hi he hw ha hb ho
  · exact ⟨_, vsel_coreTo hi hw ha hb ho, fun n hn => vsel_getLsbD a b _ hn⟩
  · have he : exec (p.1 c w) s = done s (shiftOp c.toNat w p.2 s) := by
      simp only [List.mem_cons, List.not_mem_nil, or_false] at hp
      rcases hp with rfl | rfl <;> rfl
    exact ⟨_, shiftOp_coreTo hi he hw hd ha hb ho, fun n hn => shiftLanes_lane _ _ _ _ hn⟩

/-! ### The accumulators -/

theorem mget_filter {α : Type} (m : SMap α) (p : Nat → Bool) (k : Nat) :
    mget (m.filter fun e => p e.1) k = if p k then mget m k else none := by
  induction m with
  | nil => simp [mget]
  | cons e m ih =>
    rw [List.filter_cons]
    by_cases hp : p e.1 = true
    · rw [if_pos hp, mget, mget, ih]
      by_cases hk : e.1 = k
      · rw [if_pos hk, if_pos hk, if_pos (hk ▸ hp)]
      · rw [if_neg hk, if_neg hk]
    · rw [if_neg hp, ih, mget]
      by_cases hk : e.1 = k
      · rw [if_neg (hk ▸ hp), if_neg (hk ▸ hp)]
      · rw [if_neg hk]

theorem mem_block {m n : Nat} {e : Nat × Nat} : e ∈ block m n ↔ e.1 < m ∧ e.2 < n := by
  obtain ⟨i, j⟩ := e
  simp [block]

/-- The accumulators with the enabled elements of a list set. -/
def setAccs (a : Nat) (en : Nat → Nat → Bool) (v : Nat → Nat → BitVec 32) (es : List (Nat × Nat)) (acc : SMap (BitVec 32)) :
    SMap (BitVec 32) :=
  es.foldl (fun z e => if en e.1 e.2 then mset z (accKey a e.1 e.2) (v e.1 e.2) 0 else z) acc

set_option Elab.async false in
theorem foldl_setAcc (a : Nat) (en : Nat → Nat → Bool) (v : Nat → Nat → BitVec 32) (es : List (Nat × Nat)) (y : Core) :
    es.foldl (fun z e => if en e.1 e.2 then setAcc a e.1 e.2 (v e.1 e.2) z else z) y = { y with acc := setAccs a en v es y.acc } := by
  induction es generalizing y with
  | nil => rfl
  | cons e es ih =>
    rw [List.foldl_cons, ih]
    cases h : en e.1 e.2 <;> simp [setAccs, setAcc, h]

theorem digit64 {u v i j : Nat} (hi : i < 64) (hj : j < 64) (h : 64 * u + i = 64 * v + j) : u = v ∧ i = j := by omega

theorem accKey_inj {a b i j k l : Nat} (hi : i < 64) (hj : j < 64) (hk : k < 64) (hl : l < 64) (h : accKey a k l = accKey b i j) :
    b = a ∧ i = k ∧ j = l := by
  have hkey (a i j : Nat) : accKey a i j = 64 * (64 * a + i) + j := by rw [accKey, Nat.mul_add, ← Nat.mul_assoc]
  obtain ⟨hrow, rfl⟩ := digit64 hl hj (by rwa [hkey, hkey] at h)
  obtain ⟨rfl, rfl⟩ := digit64 hk hi hrow
  exact ⟨rfl, rfl, rfl⟩

/-- A set element reads its value, every other its own. -/
theorem setAccs_get {a b i j : Nat} {en : Nat → Nat → Bool} {v : Nat → Nat → BitVec 32} {es : List (Nat × Nat)}
    (acc : SMap (BitVec 32)) (hi : i < 64) (hj : j < 64) (hes : ∀ e ∈ es, e.1 < 64 ∧ e.2 < 64) :
    mgetD (setAccs a en v es acc) (accKey b i j) 0 =
      if b = a ∧ (i, j) ∈ es ∧ en i j = true then v i j else mgetD acc (accKey b i j) 0 := by
  induction es generalizing acc with
  | nil => simp [setAccs]
  | cons e es ih =>
    obtain ⟨hk, hl⟩ := hes e (List.mem_cons_self ..)
    rw [setAccs, List.foldl_cons, ← setAccs, ih _ fun x hx => hes x (List.mem_cons_of_mem _ hx)]
    by_cases hlater : b = a ∧ (i, j) ∈ es ∧ en i j = true
    · rw [if_pos hlater, if_pos ⟨hlater.1, List.mem_cons_of_mem _ hlater.2.1, hlater.2.2⟩]
    rw [if_neg hlater]
    by_cases he : en e.1 e.2 = true
    · rw [if_pos he]
      by_cases hhere : accKey a e.1 e.2 = accKey b i j
      · obtain ⟨rfl, rfl, rfl⟩ := accKey_inj hi hj hk hl hhere
        rw [if_pos ⟨rfl, List.mem_cons_self .., he⟩, mgetD_mset_same]
      · have hn : ¬ (b = a ∧ (i, j) ∈ e :: es ∧ en i j = true) := by
          rintro ⟨rfl, hm, hn⟩
          rcases List.mem_cons.1 hm with rfl | hm
          · exact hhere rfl
          · exact hlater ⟨rfl, hm, hn⟩
        rw [if_neg hn, mgetD_mset_other _ _ _ hhere]
    · have hn : ¬ (b = a ∧ (i, j) ∈ e :: es ∧ en i j = true) := by
        rintro ⟨rfl, hm, hn⟩
        rcases List.mem_cons.1 hm with rfl | hm
        · exact he hn
        · exact hlater ⟨rfl, hm, hn⟩
      rw [if_neg he, if_neg hn]

set_option Elab.async false in
theorem setAccs_block {a b i j m n : Nat} {en : Nat → Nat → Bool} {v : Nat → Nat → BitVec 32} (acc : SMap (BitVec 32))
    (hi : i < 64) (hj : j < 64) (hm : m ≤ 64) (hn : n ≤ 64) :
    mgetD (setAccs a en v (block m n) acc) (accKey b i j) 0 =
      if b = a ∧ i < m ∧ j < n ∧ en i j = true then v i j else mgetD acc (accKey b i j) 0 := by
  rw [setAccs_get acc hi hj fun e he => ⟨(mem_block.1 he).1.trans_le hm, (mem_block.1 he).2.trans_le hn⟩]
  simp only [mem_block, and_assoc]

/-- ACLR clears one accumulator. -/
theorem getAcc_aclr (on : Bool) (a b : Nat) {i j : Nat} (hi : i < 64) (hj : j < 64) (x : Core) :
    getAcc (aclr on a x) b i j = if on ∧ b = a then 0 else getAcc x b i j := by
  have hb : accKey b i j / 4096 = b := by unfold accKey; omega
  cases on with
  | false => simp [aclr]
  | true =>
    have hf : getAcc (aclr true a x) b i j = (if b ≠ a then mget x.acc (accKey b i j) else none).getD 0 := by
      show (mget (x.acc.filter fun e => decide (e.1 / 4096 ≠ a)) _).getD 0 = _
      rw [mget_filter x.acc (fun k => decide (k / 4096 ≠ a)), hb]
      simp only [decide_eq_true_eq]
    by_cases h : b = a
    · rw [hf, if_neg (not_not_intro h), if_pos ⟨rfl, h⟩]; rfl
    · rw [hf, if_pos h, if_neg fun hh => h hh.2]; rfl

/-! ### MMA -/

theorem sgn_toNat {n : Nat} (hn : 0 < n) (b : BitVec n) : sgn n b.toNat = b.toInt := by
  have h2 : 2 ^ n = 2 * 2 ^ (n - 1) := (Nat.two_pow_pred_mul_two hn).symm.trans (Nat.mul_comm ..)
  have hm : b.toNat % 2 ^ n = b.toNat := Nat.mod_eq_of_lt b.isLt
  rw [sgn, BitVec.toInt_eq_toNat_cond, hm]
  by_cases h : 2 ^ (n - 1) ≤ b.toNat
  · rw [if_pos h, if_neg (by omega)]
  · rw [if_neg h, if_pos (by omega)]

theorem ofNat_wrapTo (w : Nat) (z : Int) : BitVec.ofNat w (wrapTo w z) = BitVec.ofInt w z := by
  apply BitVec.eq_of_toNat_eq
  rw [BitVec.toNat_ofNat, BitVec.toNat_ofInt, Nat.mod_eq_of_lt (wrapTo_lt w z)]
  rfl

set_option Elab.async false in
theorem elem_byte (b : Bytes) (i : Nat) : elem b 1 i = (b.getD i 0).toNat := by
  rw [elem, fld, slice, Nat.one_mul]
  by_cases h : i < b.length
  · rw [List.drop_eq_getElem_cons h, List.take_succ_cons, List.take_zero, List.getD_eq_getElem _ _ h]
    simp [leNat]
  · rw [List.drop_of_length_le (by omega), List.getD_eq_default _ _ (by omega)]
    rfl

theorem foldl_add_map {α : Type} (g : α → Int) (l : List α) (z : Int) : l.foldl (fun z e => z + g e) z = z + (l.map g).sum := by
  induction l generalizing z with
  | nil => simp
  | cons e l ih => rw [List.foldl_cons, ih, List.map_cons, List.sum_cons, Int.add_assoc]

/-- The integer accumulation over `k` rows. -/
theorem ofNat_accInt (d k : Nat) (ar br : Nat → Bytes) (acc : BitVec 32) (i j : Nat) :
    BitVec.ofNat 32 (accInt d ((List.range k).map ar) ((List.range k).map br) acc.toNat i j) =
      BitVec.ofInt 32 (acc.toInt + ((List.range k).map fun r =>
        laneInt d ((ar r).getD i 0).toNat * ((br r).getD j 0).toInt).sum) := by
  have hz : ((List.range k).map ar).zip ((List.range k).map br) = (List.range k).map fun r => (ar r, br r) := List.zip_map' ..
  rw [accInt, ofNat_wrapTo, hz, List.foldl_map, foldl_add_map, sgn_toNat (by decide)]
  simp only [elem_byte, sgn_toNat (n := 8) (by decide)]

theorem descLs_space {d : Desc} (h : descLs d = true) : d.space = 0 := by
  simp only [descLs, Bool.and_eq_true, beq_iff_eq] at h
  exact h.1.1

set_option Elab.async false in
theorem mem_lsRows {x : Core} {d : Desc} {rows len : Nat} {e : Extent} (h : e ∈ lsRows x d rows len) :
    ∃ r, r < rows ∧ e = (descAddr x d r, len) := by
  obtain ⟨r, hr, rfl⟩ := List.mem_map.1 h
  exact ⟨r, List.mem_range.1 hr, rfl⟩

/-- What an integer MMA adds to one element. -/
def mmaSum (w : WWord) (x : Core) (i j : Nat) : Int :=
  ((List.range (w.kM1.toNat + 1)).map fun r =>
    laneInt w.dtype.toNat ((lsRead x (descAddr x w.da r) (w.mM1.toNat + 1)).getD i 0).toNat *
      ((lsRead x (descAddr x w.db r) (w.nM1.toNat + 1)).getD j 0).toInt).sum

/-- An enabled element after an integer MMA. -/
def mmaValue (w : WWord) (x : Core) (i j : Nat) : BitVec 32 :=
  BitVec.ofInt 32 ((getAcc (aclr w.aclr w.acc.toNat x) w.acc.toNat i j).toInt + mmaSum w x i j)

/-- The accumulators after an integer MMA. -/
def mmaAcc (w : WWord) (x : Core) : SMap (BitVec 32) :=
  setAccs w.acc.toNat (enabled x w) (mmaValue w x)
    (block (w.mM1.toNat + 1) (w.nM1.toNat + 1)) (aclr w.aclr w.acc.toNat x).acc

theorem aclr_with_acc (on : Bool) (a : Nat) (x : Core) (acc : SMap (BitVec 32)) :
    { aclr on a x with acc := acc } = { x with acc := acc } := by
  cases on <;> rfl

/-- An integer MMA whose operands lie in local store without marks adds its sums. -/
theorem mmaCore_int {w : WWord} (free : Nat) {x : Core} (hd : w.dtype.toNat ≤ 1) (ha : descLs w.da = true) (hb : descLs w.db = true)
    (hm : x.lsMark = []) (hr : ∀ r, r < w.kM1.toNat + 1 →
      descAddr x w.da r + (w.mM1.toNat + 1) ≤ 8388608 ∧ descAddr x w.db r + (w.nM1.toNat + 1) ≤ 8388608) :
    mmaCore w free x = .ok { x with acc := mmaAcc w x } := by
  have hw : mmaBytes w.dtype.toNat = 1 := if_neg (by omega)
  have hd2 : ¬ w.dtype.toNat = 2 := by omega
  have hc : lsCheck x (mmaExtents x w.da (w.kM1.toNat + 1) (w.mM1.toNat + 1) ++
      mmaExtents x w.db (w.kM1.toNat + 1) (w.nM1.toNat + 1)) [] = none := by
    refine lsCheck_none (fun e he => ?_) hm
    rw [mmaExtents, if_pos (descLs_space ha), mmaExtents, if_pos (descLs_space hb), List.append_nil, List.mem_append] at he
    rcases he with he | he
    · obtain ⟨r, hlt, rfl⟩ := mem_lsRows he
      exact (hr r hlt).1
    · obtain ⟨r, hlt, rfl⟩ := mem_lsRows he
      exact (hr r hlt).2
  have hrow (d : Desc) (hls : descLs d = true) (len : Nat) :
      (fun r => mmaRow x d 1 r len) = fun r => lsRead x (descAddr x d r) len := funext fun r => if_pos (descLs_space hls)
  simp only [mmaCore, hw, Nat.one_mul, hc, hrow _ ha, hrow _ hb, if_neg hd2, ofNat_accInt]
  exact congrArg Except.ok ((foldl_setAcc w.acc.toNat (enabled x w) (mmaValue w x) _ _).trans (aclr_with_acc ..))

/-- The elements after an integer MMA. -/
theorem mmaAcc_get (w : WWord) (x : Core) (b : Nat) {i j : Nat} (hi : i < 64) (hj : j < 64) :
    mgetD (mmaAcc w x) (accKey b i j) 0 =
      if b = w.acc.toNat then
        (if i < w.mM1.toNat + 1 ∧ j < w.nM1.toNat + 1 ∧ enabled x w i j = true then
          BitVec.ofInt 32 ((if w.aclr then 0 else (getAcc x w.acc.toNat i j).toInt) + mmaSum w x i j)
        else if w.aclr then 0 else getAcc x w.acc.toNat i j)
      else getAcc x b i j := by
  have hy (a : Nat) : mgetD (aclr w.aclr w.acc.toNat x).acc (accKey a i j) 0 =
      if w.aclr ∧ a = w.acc.toNat then 0 else getAcc x a i j := getAcc_aclr w.aclr w.acc.toNat a hi hj x
  rw [mmaAcc, setAccs_block _ hi hj w.mM1.isLt w.nM1.isLt, mmaValue, getAcc, hy, hy]
  by_cases hb : b = w.acc.toNat
  · subst hb
    cases w.aclr <;> simp
  · simp [hb]

/-! ### ACCWR -/

/-- The accumulators after an ACCWR. -/
def accwrAcc (w : WWord) (x : Core) : SMap (BitVec 32) :=
  setAccs w.acc.toNat (enabled x w) (fun i j => BitVec.ofNat 32 (leNat (lsRead x (descAddr x w.da i + 4 * j) 4)))
    (block (w.mM1.toNat + 1) (w.nM1.toNat + 1)) x.acc

set_option Elab.async false in
theorem accwrCore_rows {w : WWord} {x : Core} (hm : x.lsMark = [])
    (hr : ∀ r, r < w.mM1.toNat + 1 → descAddr x w.da r + 4 * (w.nM1.toNat + 1) ≤ 8388608) :
    accwrCore w x = .ok { x with acc := accwrAcc w x } := by
  have hc : lsCheck x (lsRows x w.da (w.mM1.toNat + 1) (4 * (w.nM1.toNat + 1))) [] = none := by
    refine lsCheck_none (fun e he => ?_) hm
    rw [List.append_nil] at he
    obtain ⟨r, hlt, rfl⟩ := mem_lsRows he
    exact hr r hlt
  simp only [accwrCore, hc]
  exact congrArg Except.ok (foldl_setAcc w.acc.toNat (enabled x w)
    (fun i j => BitVec.ofNat 32 (leNat (lsRead x (descAddr x w.da i + 4 * j) 4))) _ x)

/-! ### ACCRD -/

/-- Pieces written one after another. -/
def writePieces (ps : List (Nat × Bytes)) (m : SMap Byte) : SMap Byte := ps.foldl (fun m p => mwrite m p.1 p.2) m

theorem writePieces_other {ps : List (Nat × Bytes)} {q : Nat} (h : ∀ p ∈ ps, q < p.1 ∨ p.1 + p.2.length ≤ q) (m : SMap Byte) :
    mgetD (writePieces ps m) q 0 = mgetD m q 0 := by
  induction ps generalizing m with
  | nil => rfl
  | cons p ps ih =>
    rw [writePieces, List.foldl_cons, ← writePieces, ih fun r hr => h r (List.mem_cons_of_mem _ hr)]
    exact mgetD_mwrite_other _ (h p (List.mem_cons_self ..))

/-- A piece that no later piece overlaps reads back. -/
theorem writePieces_read {ps : List (Nat × Bytes)} {p : Nat × Bytes} (hp : p ∈ ps)
    (hd : ∀ r ∈ ps, r = p ∨ r.1 + r.2.length ≤ p.1 ∨ p.1 + p.2.length ≤ r.1) (m : SMap Byte) :
    mread (writePieces ps m) p.1 p.2.length = p.2 := by
  induction ps generalizing m with
  | nil => exact absurd hp (List.not_mem_nil)
  | cons r ps ih =>
    rw [writePieces, List.foldl_cons, ← writePieces]
    by_cases hin : p ∈ ps
    · exact ih hin (fun t ht => hd t (List.mem_cons_of_mem _ ht)) _
    · have hr : p = r := (List.mem_cons.1 hp).resolve_right hin
      have hk : mread (writePieces ps (mwrite m r.1 r.2)) p.1 p.2.length = mread (mwrite m r.1 r.2) p.1 p.2.length := by
        refine mread_congr fun q h1 h2 => writePieces_other (fun t ht => ?_) _
        rcases hd t (List.mem_cons_of_mem _ ht) with rfl | h | h
        · exact absurd ht hin
        · omega
        · omega
      rw [hk, hr, mread_mwrite]

/-- An int32 element of ACCRD without a scale register: rounded, offset and saturated. -/
theorem accOut_int32 {w : WWord} (x : Core) (free i j : Nat) (hd : w.dtype = 3) (hs : w.smode = 0) :
    accOut x w free i j = wrapTo 32 (clamp (-(2 ^ 31)) (2 ^ 31 - 1)
      (((getAcc x w.acc.toNat i j).toInt + (if w.shift = 0 then 0 else 2 ^ (w.shift.toNat - 1))) / 2 ^ w.shift.toNat + w.zp.toInt)) := by
  have hone : sgn 32 1 = 1 := by decide
  have hsh : w.shift.toNat = 0 ↔ w.shift = 0 := ⟨fun h => BitVec.eq_of_toNat_eq h, fun h => h ▸ rfl⟩
  have hf : isFloat (3 : BitVec 3).toNat = false := rfl
  have hsc : scaleBits x w false j = 1 := if_pos hs
  simp only [accOut, hd, hf, hsc, hone, Int.mul_one, sgn_toNat (n := 32) (by decide), hsh]
  show satTo 3 _ = _
  by_cases h : w.shift = 0
  · rw [if_pos h, if_pos h, h]
    simp [satTo]
  · rw [if_neg h, if_neg h]
    simp [satTo]

set_option Elab.async false in
theorem toInt_saturated (z : Int) : let v := BitVec.ofNat 32 (wrapTo 32 (clamp (-(2 ^ 31)) (2 ^ 31 - 1) z))
    (-(2 ^ 31) ≤ z → z < 2 ^ 31 → v.toInt = z) ∧ (z < -(2 ^ 31) → v.toInt = -(2 ^ 31)) ∧ (2 ^ 31 ≤ z → v.toInt = 2 ^ 31 - 1) := by
  intro v
  have hv : v.toInt = clamp (-(2 ^ 31)) (2 ^ 31 - 1) z := by
    have hlo : -(2 ^ 31) ≤ clamp (-(2 ^ 31)) (2 ^ 31 - 1) z := by unfold clamp; split_ifs <;> omega
    have hhi : clamp (-(2 ^ 31)) (2 ^ 31 - 1) z < 2 ^ 31 := by unfold clamp; split_ifs <;> omega
    rw [show v = BitVec.ofInt 32 _ from ofNat_wrapTo 32 _]
    exact BitVec.toInt_ofInt_eq_self (by decide) hlo hhi
  rw [hv]
  exact ⟨fun h1 h2 => clamp_id h1 (by omega), clamp_low, fun h => clamp_high (by decide) (by omega)⟩

/-- A row of a local-store operand that stays within the address space lies at its spacing. -/
theorem descAddr_row {x : Core} {d : Desc} {r k : Nat} (hk : r * d.stride.toNat = k) (h : descAddr x d 0 + k < 2 ^ 64) :
    descAddr x d r = descAddr x d 0 + k := by
  simp only [descAddr, hk, Nat.zero_mul, Nat.add_zero] at h ⊢
  omega

/-- The pieces of an int32 ACCRD. -/
def accrdPieces (w : WWord) (free : Nat) (x : Core) : List (Nat × Bytes) :=
  ((block (w.mM1.toNat + 1) (w.nM1.toNat + 1)).filter fun e => enabled x w e.1 e.2).map fun e =>
    (descAddr x w.dd e.1 + 4 * e.2, leBytes 4 (accOut x w free e.1 e.2))

theorem mem_accrdPieces {w : WWord} {free : Nat} {x : Core} {p : Nat × Bytes} : p ∈ accrdPieces w free x ↔
    ∃ i j, (i < w.mM1.toNat + 1 ∧ j < w.nM1.toNat + 1 ∧ enabled x w i j = true) ∧
      p = (descAddr x w.dd i + 4 * j, leBytes 4 (accOut x w free i j)) := by
  simp only [accrdPieces, List.mem_map, List.mem_filter, mem_block, Prod.exists, and_assoc, eq_comm (a := p)]

section
variable {w : WWord} {x : Core} (hs : w.dd.stride.toNat = 4 * (w.nM1.toNat + 1))
  (hb : descAddr x w.dd 0 + 4 * (w.nM1.toNat + 1) * (w.mM1.toNat + 1) ≤ 8388608)
include hs hb

theorem accrd_row {i : Nat} (hi : i < w.mM1.toNat + 1) : descAddr x w.dd i = descAddr x w.dd 0 + 4 * (w.nM1.toNat + 1) * i := by
  have hle := Nat.mul_le_mul_left (4 * (w.nM1.toNat + 1)) hi.le
  exact descAddr_row (by rw [hs, Nat.mul_comm]) (by omega)

set_option Elab.async false in
theorem accrd_inside {i : Nat} (hi : i < w.mM1.toNat + 1) : descAddr x w.dd i + 4 * (w.nM1.toNat + 1) ≤ 8388608 := by
  have hle := Nat.mul_le_mul_left (4 * (w.nM1.toNat + 1)) (Nat.succ_le_of_lt hi)
  rw [Nat.mul_succ] at hle
  rw [accrd_row hs hb hi]
  omega

/-- Elements of a block lie apart. -/
theorem accrd_apart {i j k l : Nat} (hi : i < w.mM1.toNat + 1) (hj : j < w.nM1.toNat + 1) (hk : k < w.mM1.toNat + 1)
    (hl : l < w.nM1.toNat + 1) : (k = i ∧ l = j) ∨ descAddr x w.dd k + 4 * l + 4 ≤ descAddr x w.dd i + 4 * j ∨
      descAddr x w.dd i + 4 * j + 4 ≤ descAddr x w.dd k + 4 * l := by
  rw [accrd_row hs hb hi, accrd_row hs hb hk]
  rcases lt_trichotomy k i with h | h | h
  · have hle := Nat.mul_le_mul_left (4 * (w.nM1.toNat + 1)) (Nat.succ_le_of_lt h)
    rw [Nat.mul_succ] at hle
    omega
  · subst h
    omega
  · have hle := Nat.mul_le_mul_left (4 * (w.nM1.toNat + 1)) (Nat.succ_le_of_lt h)
    rw [Nat.mul_succ] at hle
    omega

/-- An int32 ACCRD writes its pieces. -/
theorem accrdCore_int32 (free : Nat) (hd : w.dtype = 3) :
    ∃ mk, accrdCore w free x = .ok { x with ls := writePieces (accrdPieces w free x) x.ls, lsMark := mk } := by
  have hw : laneBits (3 : BitVec 3).toNat / 8 = 4 := rfl
  have hc : lsCheck x [] (lsRows x w.dd (w.mM1.toNat + 1) (4 * (w.nM1.toNat + 1))) = none := by
    refine lsCheck_inside fun e he => ?_
    obtain ⟨r, hr, rfl⟩ := mem_lsRows he
    exact accrd_inside hs hb hr
  refine ⟨(lsWriteAll (accrdPieces w free x) x).lsMark, ?_⟩
  simp only [accrdCore, hd, hw, hc]
  rfl

/-- An enabled element of an ACCRD reads back from its place. -/
theorem accrd_read (free : Nat) {i j : Nat} (hi : i < w.mM1.toNat + 1) (hj : j < w.nM1.toNat + 1) (he : enabled x w i j = true) :
    mread (writePieces (accrdPieces w free x) x.ls) (descAddr x w.dd i + 4 * j) 4 = leBytes 4 (accOut x w free i j) := by
  have hr := writePieces_read (p := (descAddr x w.dd i + 4 * j, leBytes 4 (accOut x w free i j)))
    (mem_accrdPieces.2 ⟨i, j, ⟨hi, hj, he⟩, rfl⟩) (fun r hr => ?_) x.ls
  · rwa [length_leBytes] at hr
  · obtain ⟨k, l, ⟨hk, hl, -⟩, rfl⟩ := mem_accrdPieces.1 hr
    rw [length_leBytes, length_leBytes]
    rcases accrd_apart hs hb hi hj hk hl with ⟨rfl, rfl⟩ | h
    · exact .inl rfl
    · exact .inr h

end

set_option Elab.async false in
theorem enabled_iff {x : Core} {w : WWord} {i j : Nat} : enabled x w i j = true ↔
    (getM x w.mrow.toNat).getLsbD i = true ∧ (getM x w.mcol.toNat).getLsbD j = true := Bool.and_eq_true_iff

theorem laneInt_byte {d : BitVec 3} (h : d.toNat ≤ 1) (b : BitVec 8) :
    laneInt d.toNat b.toNat = if d = 1 then (b.toNat : Int) else b.toInt := by
  have h1 : d.toNat = 1 ↔ d = 1 := ⟨fun h => BitVec.eq_of_toNat_eq h, fun h => h ▸ rfl⟩
  have h8 : laneBits d.toNat = 8 := if_pos h
  rw [laneInt, h8, sgn_toNat (by decide)]
  simp only [h1]

theorem matrixResults : Says.matrixResults := by
  intro c w s hi x m n k a on one
  have hon (i j : Nat) : on i j ↔ i < m ∧ j < n ∧ enabled x w i j = true := by
    simp only [on, enabled_iff]
  refine ⟨fun hw hd ha hb ho hm hr => ?_, fun hw hd ha hb ho hm hr => ?_, fun hw hd hsm hsr ha hb ho hs hin => ?_⟩
  · have hok : (wUnused { acc := true, aclr := true, dtype := true, m := true, n := true, k := true, mask := true } w &&
        decide (w.dtype.toNat ≤ 2) && mmaDesc w.da (mmaBytes w.dtype.toNat) (w.kM1.toNat + 1) &&
        mmaDesc w.db (mmaBytes w.dtype.toNat) (w.kM1.toNat + 1) && descNone w.dd) = true := by
      rw [hw, mmaDesc, mmaDesc, ha, hb, ho, decide_eq_true (hd.trans (by decide))]
      rfl
    obtain ⟨t, he, ht, -, hcore, hrest⟩ := wideFree_runs hi hok (i := .mma c w) rfl (mmaCore_int s.free hd ha hb hm hr) hi.2.2
    refine ⟨t, he, ht, _, ⟨hcore, hrest⟩, fun b i j hi64 hj64 => ?_⟩
    refine (mmaAcc_get w x b hi64 hj64).trans ?_
    simp only [hon, mmaSum, laneInt_byte hd]
    rfl
  · have hok : (wUnused { acc := true, dtype := true, m := true, n := true, mask := true } w && (w.dtype == 3 || w.dtype == 4) &&
        descLs w.da && descNone w.db && descNone w.dd) = true := by
      rw [hw, ha, hb, ho]
      rcases hd with h | h <;> rw [h] <;> rfl
    obtain ⟨t, he, ht, hcore, hrest⟩ := wideOp_coreTo hi hok (i := .accwr c w) rfl (accwrCore_rows hm hr) hi.2.2
    refine ⟨t, he, ht, _, ⟨hcore, hrest⟩, fun b i j hi64 hj64 => ?_⟩
    refine (setAccs_block x.acc hi64 hj64 w.mM1.isLt w.nM1.isLt).trans ?_
    simp only [hon]
    rfl
  · have hok : (wUnused { acc := true, dtype := true, m := true, n := true, mask := true, scale := true, shift := true, sreg := true } w &&
        dtypeOk w.dtype && scaleOk w && descNone w.da && descNone w.db && descLs w.dd) = true := by
      rw [hw, ha, hb, ho, scaleOk, hd, hsm, hsr]
      rfl
    obtain ⟨mk, hcore⟩ := accrdCore_int32 hs hin s.free hd
    obtain ⟨t, he, ht, -, hcore, hrest⟩ := wideFree_runs hi hok (i := .accrd c w) rfl hcore hi.2.2
    refine ⟨t, he, ht, _, mk, ⟨hcore, hrest⟩, fun q hq => writePieces_other (fun p hp => ?_) _, fun i j hij => ?_⟩
    · obtain ⟨i, j, hij, rfl⟩ := mem_accrdPieces.1 hp
      rw [length_leBytes]
      exact hq i j ((hon i j).2 hij)
    · obtain ⟨hi', hj', hen⟩ := (hon i j).1 hij
      have ho := accOut_int32 x s.free i j hd hsm
      refine ⟨BitVec.ofNat 32 (accOut x w s.free i j), ?_, ho ▸ toInt_saturated _⟩
      rw [accrd_read hs hin s.free hi' hj' hen, BitVec.toNat_ofNat, Nat.mod_eq_of_lt (ho ▸ wrapTo_lt 32 _)]

/-- Settles O23. -/
theorem wideAndMatrix : Obligations.WideAndMatrix := ⟨vectorLanes, wideResults, matrixResults⟩

end Sys2Proof.Machine
end

section
/-! SUPPORT, O33. Contexts, arbitration, epochs and programs (R217–R222, R239, R255, R477, R496). -/

namespace Sys2Proof.Machine

/-! ### Steps, and the room for them (R185, R219) -/

/-- The state with a step recorded, but for the mirror's record of it. -/
def stepAdded (r : StepRec) (s : State) : State := { s with parts := { s.parts with openSteps := s.parts.openSteps ++ [r] } }

theorem recordStep_shape (r : StepRec) (s : State) : ∃ tw po, recordStep r s = { stepAdded r s with twin := tw, port := po } :=
  mirror_shape _ _ _

set_option Elab.async false in
theorem recordStep_parts (r : StepRec) (s : State) :
    (recordStep r s).parts = { s.parts with openSteps := s.parts.openSteps ++ [r] } := by
  obtain ⟨tw, po, h⟩ := recordStep_shape r s
  rw [h]
  rfl

theorem part?_congr {s u : State} (h : u.parts.parts = s.parts.parts) (p : Nat) : part? u p = part? s p := by rw [part?, h, part?]

@[simp] theorem part?_recordStep (r : StepRec) (s : State) (p : Nat) : part? (recordStep r s) p = part? s p :=
  part?_congr (recordStep_partitions r s) p

/-- A recorded step is the last of the open ones. -/
theorem stepped_recordStep {a rt p rid : Nat} {t u : State} (h : u.parts.openSteps = t.parts.openSteps) (ctx : Nat) (new old : BitVec 128) :
    Says.stepped a rt p rid t (recordStep (mkStep a rt p ctx rid new old) u) := by
  have hs : (recordStep (mkStep a rt p ctx rid new old) u).parts.openSteps = t.parts.openSteps ++ [mkStep a rt p ctx rid new old] := by
    rw [recordStep_parts, ← h]
  refine ⟨by rw [hs, List.length_append]; rfl, mkStep a rt p ctx rid new old, by rw [hs, List.getLast?_concat], rfl, rfl, rfl, rfl⟩

set_option Elab.async false in
theorem withSteps_room {n : Nat} {t : State} (hr : t.parts.rollback = none) (h : t.parts.openSteps.length + n ≤ 4096) (k : State × Ans) :
    withSteps n t k = k := by
  have hroom : stepRoom t n = true := decide_eq_true h
  simp [withSteps, hr, hroom]

/-- The state with another table of TIDs for the open steps. -/
def withTids (ts : List Digest) (s : State) : State := { s with parts := { s.parts with openTids := ts } }

/-- The open steps' table of TIDs has room, and only that table changes. -/
theorem tidIndex_parts (d : Digest) {s : State} (h : s.parts.openTids.length < 128) : ∃ i ts, tidIndex d s = some (i, withTids ts s) := by
  simp only [tidIndex, if_pos h]
  split
  · exact ⟨_, s.parts.openTids, rfl⟩
  · exact ⟨_, _, rfl⟩

theorem part?_modPart_self {s : State} {p : Nat} {x : Partition} (h : part? s p = some x) (f : Partition → Partition) :
    part? (modPart p f s) p = some (f x) := by
  rw [part?_modPart, if_pos rfl, h]
  rfl

/-! ### Contexts (R210, R211, R496) -/

section
variable {e : Env} {s t : State} {x : Partition} (ht : Says.target e t x)
include ht

theorem target_steps {n : Nat} (hn : n ≤ 1000) (f : Partition → State × Ans) :
    withPart e t (fun y => withSteps n t (f y)) = f x := by
  obtain ⟨hx, hlive, hroll, hlen, -, -, -⟩ := ht
  rw [withPart_live hx hlive]
  exact withSteps_room hroll (by omega) _

set_option Elab.async false in
theorem contextCreate_ok {c : Nat} {d : Digest} (hc : mget x.ctxs c = none) (hm : x.mode ≠ .confidential ∨ d = x.tenant) : ∃ u,
    contextCreate e.target.toNat c 255 d t = (u, Ans.ok) ∧ Says.stepped 4 0x11 e.target.toNat 0 t u ∧
      part? u e.target.toNat = some { x with ctxs := mput x.ctxs c { tid := d, save := none, binds := [] } } := by
  obtain ⟨hx, -, -, -, htids, -, -⟩ := ht
  obtain ⟨i, ts, hi⟩ := tidIndex_parts d (s := t) (by omega)
  have hno : ¬ (mhas x.ctxs c = true ∨ (x.mode = .confidential ∧ d ≠ x.tenant)) := by
    rw [mhas, hc]
    rintro (h | ⟨h1, h2⟩)
    · exact absurd h (by decide)
    · exact hm.elim (fun h => h h1) h2
  have h : contextCreate e.target.toNat c 255 d t =
      (recordStep (mkStep 4 0x11 e.target.toNat c 0 (BitVec.ofNat 128 (255 + 256 * i)) 0) (modPart e.target.toNat (fun y => { y with
        ctxs := mput y.ctxs c { tid := d, save := none, binds := [] } }) (withTids ts t)), Ans.ok) := by
    simp [contextCreate, hx, hno, hi]
  refine ⟨_, h, stepped_recordStep rfl .., ?_⟩
  rw [part?_recordStep, part?_modPart_self (s := withTids ts t) hx]

theorem contextDestroy_busy {c : Nat} {k : Context} (hk : mget x.ctxs c = some k) (h : c = 0 ∨ c = x.running) :
    contextDestroy e.target.toNat c t = (t, Ans.state) := by
  have hb : c = 0 ∨ c = x.running ∨ x.switchTo = some c := h.imp_right .inl
  simp only [contextDestroy, ht.1, hk, if_pos hb]

theorem contextSwitch_running {c : Nat} {k : Context} (hk : mget x.ctxs c = some k) (h : c = x.running) (env : Option Pending) :
    contextSwitch e.target.toNat c env t = (t, Ans.state) := by
  have hh : ¬ (!mhas x.ctxs c) = true := by simp [mhas, hk]
  simp only [contextSwitch, ht.1, if_neg hh, if_pos (Or.inr h : x.switchTo.isSome = true ∨ c = x.running)]

theorem contextSwitch_waits {c : Nat} {k : Context} (hk : mget x.ctxs c = some k) (hs : x.switchTo = none) (hc : c ≠ x.running)
    (hr : x.state = .running) (env : Option Pending) : ∃ u, contextSwitch e.target.toNat c env t = (u, Ans.waiting) ∧
      Says.stepped 3 0x11 e.target.toNat 0 t u ∧ part? u e.target.toNat = some { x with switchTo := some c, switchEnv := env } := by
  have hh : ¬ (!mhas x.ctxs c) = true := by simp [mhas, hk]
  have hb : ¬ (x.switchTo.isSome = true ∨ c = x.running) := by simp [hs, hc]
  have h : contextSwitch e.target.toNat c env t =
      (recordStep (mkStep 3 0x11 e.target.toNat c 0 (BitVec.ofNat 128 c) (BitVec.ofNat 128 x.running))
        (modPart e.target.toNat (fun y => { y with switchTo := some c, switchEnv := env }) t), Ans.waiting) := by
    simp only [contextSwitch, ht.1, if_neg hh, if_neg hb, if_pos hr]
  refine ⟨_, h, stepped_recordStep rfl .., ?_⟩
  rw [part?_recordStep, part?_modPart_self ht.1]

end

set_option Elab.async false in
/-- A partition that holds nothing of the parcel desk has nothing there to forget. -/
theorem deskForget_empty {s : State} (hc : s.desk.circles = []) (hp : s.desk.parcels = []) (ha : s.desk.adms = []) (p : Nat)
    (ctx : Option Nat) : deskForget p ctx s = s := by
  simp only [deskForget, hc, List.filter_nil, List.map_nil, List.foldl_nil, hp, ha]
  rw [← hc, ← hp, ← ha]

theorem contextDestroy_ok {e : Env} {t : State} {x : Partition} (ht : Says.target e t x) {c : Nat} {k : Context}
    (hk : mget x.ctxs c = some k) (h0 : c ≠ 0) (hr : c ≠ x.running) (hs : x.switchTo = none) (hw : x.windows = [])
    (hp : heldOf t 5 e.target.toNat = []) (hcs : t.desk.circles = []) (hps : t.desk.parcels = []) (has : t.desk.adms = []) : ∃ u,
    contextDestroy e.target.toNat c t = (u, Ans.ok) ∧ Says.stepped 5 0x11 e.target.toNat 0 t u ∧
      part? u e.target.toNat = some { x with ctxs := mdel x.ctxs c } := by
  obtain ⟨hx, -, -, -, htids, -, -⟩ := ht
  obtain ⟨i, ts, hi⟩ := tidIndex_parts k.tid (s := t) (by omega)
  have hb : ¬ (c = 0 ∨ c = x.running ∨ x.switchTo = some c) := by simp [h0, hr, hs]
  have hd := deskForget_empty (s := withTids ts t) hcs hps has e.target.toNat (some c)
  have h : contextDestroy e.target.toNat c t =
      (recordStep (mkStep 5 0x11 e.target.toNat c 0 0 (BitVec.ofNat 128 (k.save.getD 0xFF + 256 * i))) (modPart e.target.toNat (fun y =>
        { y with ctxs := mdel y.ctxs c, windows := y.windows.map fun w => (w.1, if w.2.save = some c then { w.2 with save := none } else w.2) })
          (withTids ts t)), Ans.ok) := by
    simp only [contextDestroy, hx, hk, if_neg hb, hi, hd, hw, hp, List.filter_nil, List.map_nil, List.append_nil, List.foldl_nil,
      revokeAll]
  refine ⟨_, h, stepped_recordStep rfl .., ?_⟩
  rw [part?_recordStep, part?_modPart_self (s := withTids ts t) hx]
  simp [hw]

/-! ### Fields of parameters -/

theorem leNat_take_add (m n : Nat) (b : Bytes) : leNat (b.take (m + n)) = leNat (b.take m) + 256 ^ m * leNat ((b.drop m).take n) := by
  induction m generalizing b with
  | zero => simp [leNat]
  | succ m ih =>
    cases b with
    | nil => simp [leNat]
    | cons x b =>
      rw [Nat.succ_add_eq_add_succ, Nat.add_succ, List.take_succ_cons, List.take_succ_cons, List.drop_succ_cons, leNat, leNat, ih,
        Nat.pow_succ]
      ring

/-- A field splits into its low bytes and the rest. -/
theorem fld_add (b : Bytes) (o m n : Nat) : fld b o (m + n) = fld b o m + 256 ^ m * fld b (o + m) n := by
  rw [fld, slice, leNat_take_add, List.drop_drop]
  rfl

set_option Elab.async false in
theorem shareOf_fld (b : Bytes) (o : Nat) : shareOf (BitVec.ofNat 128 (fld b o 16)) = { slotsA := fld b o 2, slotsB := fld b (o + 2) 2 } := by
  have h : (BitVec.ofNat 128 (fld b o 16)).toNat = fld b o 16 := by
    exact (BitVec.toNat_ofNat ..).trans (Nat.mod_eq_of_lt (fld_lt b o 16))
  have h1 : fld b o 16 = fld b o 2 + 65536 * fld b (o + 2) 14 := fld_add b o 2 14
  have h2 : fld b (o + 2) 14 = fld b (o + 2) 2 + 65536 * fld b (o + 2 + 2) 12 := fld_add b (o + 2) 2 12
  have h3 : fld b o 2 < 65536 := fld_lt b o 2
  have h4 : fld b (o + 2) 2 < 65536 := fld_lt b (o + 2) 2
  rw [shareOf, h, Share.mk.injEq]
  omega

/-! ### Arbitration (R217, R239) -/

section
variable {t : State} {x : Partition} {p v : Nat} {old : Share}

/-- A share of a stack's path, set by its path code. -/
theorem arbShare_cases (hx : part? t p = some x) (hv : v < 8) (ho : mget x.mem v = some old) (params : BitVec 128) :
    let h := shareOf params
    (slotsFit t p 8 v h = false → arbShare v p params t = (t, Ans.exhausted)) ∧
    (slotsFit t p 8 v h = true → x.mode ≠ .confidential → shareParams h = shareParams old → arbShare v p params t = (t, Ans.ok)) ∧
    (slotsFit t p 8 v h = true → x.mode ≠ .confidential → shareParams h ≠ shareParams old → ∃ u, arbShare v p params t = (u, Ans.ok) ∧
      Says.stepped 3 0x12 p v t u ∧ part? u p = some { x with mem := mput x.mem v h }) := by
  intro h
  have hpath : pathOf v = (8, v) := if_pos hv
  have hps : partShare x 8 v = some old := ho
  have hmode (hc : x.mode ≠ .confidential) : ¬ (x.mode = .confidential ∧
      ((8 : Nat) ≠ 8 ∨ x.windows.any (fun w => w.2.stack == v) = true) ∧ (h.slotsA = 0 ∨ (8 = 6 ∧ h.slotsB = 0))) := fun hh => hc hh.1
  refine ⟨fun hf => ?_, fun hf hc he => ?_, fun hf hc he => ?_⟩
  · have hn : (!slotsFit t p 8 v h) = true := by rw [hf]; rfl
    simp only [arbShare, hx, hpath, hps, h, if_pos hn]
  · have hn : ¬ (!slotsFit t p 8 v h) = true := by rw [hf]; nofun
    simp only [arbShare, hx, hpath, hps, h, if_neg hn, if_neg (hmode hc), if_pos he]
  · have hn : ¬ (!slotsFit t p 8 v h) = true := by rw [hf]; nofun
    have hs : arbShare v p params t = (recordStep (mkStep 3 0x12 p 0xFF v (shareParams h) (shareParams old))
        (modPart p (putShare 8 v (some h)) t), Ans.ok) := by
      simp only [arbShare, hx, hpath, hps, h, if_neg hn, if_neg (hmode hc), if_neg he]
    refine ⟨_, hs, stepped_recordStep rfl .., ?_⟩
    rw [part?_recordStep, part?_modPart_self hx]
    rfl

end

theorem getLsbD_setBit_true {w i : Nat} (v : BitVec w) (h : i < w) : (setBit v i true).getLsbD i = true := by
  rw [setBit, if_pos rfl, BitVec.getLsbD_or, BitVec.getLsbD_ofNat, Nat.testBit_two_pow_self, decide_eq_true h]
  simp

theorem fixedOn_codes {s : State} {v : Nat} : pathOk s v = true → v < 8 ∨ v = 0x10 ∨ (0x20 ≤ v ∧ v < 0x30) := by
  have hn : nStacks s ≤ 8 := by
    unfold nStacks
    split <;> decide
  simp only [pathOk, Bool.or_eq_true, Bool.and_eq_true, decide_eq_true_eq, beq_iff_eq]
  omega

set_option Elab.async false in
/-- Fixed-slot arbitration is turned on for a path, or is already. -/
theorem arbMode_on (v : Nat) (t : State) :
    (fixedOn t (pathOf v).1 (pathOf v).2 = true → arbMode v true t = (t, Ans.ok)) ∧
    (fixedOn t (pathOf v).1 (pathOf v).2 = false → ∃ u, arbMode v true t = (u, Ans.ok) ∧ Says.stepped 3 0x12 0xFF v t u ∧
      (v < 8 → u.parts.fixedMt.getLsbD v = true) ∧ (v = 0x10 → u.parts.fixedHt = true) ∧
      (0x20 ≤ v → v < 0x30 → u.parts.fixedLt.getLsbD (v - 0x20) = true)) := by
  have hoff : ¬ ((!true) = true ∧
      t.parts.parts.any (fun e => e.2.mode == .confidential && (partShare e.2 (pathOf v).1 (pathOf v).2).isSome) = true) := nofun
  refine ⟨fun hf => by simp only [arbMode, if_neg hoff, if_pos hf], fun hf => ?_⟩
  have hs : arbMode v true t = (recordStep (mkStep 3 0x12 0xFF 0xFF v 1 0) (setFixed v true t), Ans.ok) := by
    simp only [arbMode, if_neg hoff, hf]
    rfl
  have hlong : (setFixed v true t).parts.openSteps = t.parts.openSteps := by
    unfold setFixed
    dsimp only
    split_ifs <;> rfl
  refine ⟨_, hs, stepped_recordStep hlong .., fun h => ?_, fun h => ?_, fun h1 h2 => ?_⟩
  · rw [recordStep_parts]
    simp only [setFixed, if_pos h]
    exact getLsbD_setBit_true _ h
  · subst h
    rw [recordStep_parts]
    rfl
  · have hm : v % 16 = v - 0x20 := by omega
    rw [recordStep_parts]
    simp only [setFixed, if_neg (by omega : ¬ v < 8), if_neg (by omega : ¬ v = 0x10), hm]
    exact getLsbD_setBit_true _ (by omega)

/-! ### Epochs (R218–R223) -/

/-- The partitions' state once the open steps are the next epoch. -/
def nextEpoch (x : Parts) : Parts :=
  { x with current := { num := x.current.num + 1, steps := x.openSteps, tids := x.openTids }, previous := some x.current,
           openSteps := [], openTids := [] }

theorem commitEpoch_parts (s : State) : (commitEpoch s).parts = nextEpoch s.parts := by
  obtain ⟨tw, po, h⟩ := mirror_shape 2 (leBytes 8 (s.parts.current.num + 1).toNat ++ digBytes (epochDigest
    { num := s.parts.current.num + 1, steps := s.parts.openSteps, tids := s.parts.openTids })) { s with parts := nextEpoch s.parts }
  exact congrArg (fun u => u.parts) h

theorem RepliesOnly.parts {s u : State} (h : RepliesOnly s u) : u.parts = s.parts := by
  obtain ⟨_, _, _, _, rfl⟩ := h
  rfl

/-- A rollback of nothing, with nothing to wait for, commits an epoch without steps. -/
theorem pumpRollback_nothing {s : State} {p : Pending} (hr : s.parts.rollback = some { env := some p, todo := [], done := [] })
    (hj : s.scrub.jobs = []) (hp : s.parts.parts = []) :
    (pumpRollback s).parts = nextEpoch { s.parts with rollback := none } := by
  have hb : ¬ rollbackBlocked s = true := by simp [rollbackBlocked, hj, hp]
  simp only [pumpRollback, hr, runRollback, if_neg hb]
  rw [(RepliesOnly.reply ..).parts, commitEpoch_parts]

/-- What EPOCH_STATUS_GET tells (Table 23-5). -/
def epochStatus (e : Env) (t : State) : Bytes :=
  let op := match e.path with | .pf | .mgmt _ => true | _ => false
  let prev := match t.parts.previous with | some y => leBytes 8 y.num.toNat ++ digBytes (epochDigest y) | none => zeros 56
  epochNow t ++ (if op then leBytes 4 t.parts.openSteps.length ++ zeros 4 ++ prev else zeros 64)

set_option Elab.async false in
theorem length_epochBytes (y : Epoch) : (leBytes 8 y.num.toNat ++ digBytes (epochDigest y)).length = 56 := by
  rw [List.length_append, length_leBytes, length_digBytes]

theorem length_epochNow (t : State) : (epochNow t).length = 56 := length_epochBytes t.parts.current

theorem epochStatus_tells (e : Env) (t : State) : (epochStatus e t).length = 120 ∧
    slice (epochStatus e t) 0 8 = leBytes 8 t.parts.current.num.toNat ∧ slice (epochStatus e t) 8 48 = digBytes (epochDigest t.parts.current) ∧
    (e.path = .pf → slice (epochStatus e t) 56 4 = leBytes 4 t.parts.openSteps.length) ∧
    ((∃ n, e.path = .spdm n) → slice (epochStatus e t) 56 64 = zeros 64) := by
  have hnow := length_epochNow t
  have h8 : (leBytes 8 t.parts.current.num.toNat).length = 8 := length_leBytes 8 _
  have h48 := length_digBytes (epochDigest t.parts.current)
  have hprev : (match t.parts.previous with | some y => leBytes 8 y.num.toNat ++ digBytes (epochDigest y) | none => zeros 56).length = 56 := by
    split
    · exact length_epochBytes _
    · exact List.length_replicate
  have htail (op : Bool) : (if op then leBytes 4 t.parts.openSteps.length ++ zeros 4 ++
      (match t.parts.previous with | some y => leBytes 8 y.num.toNat ++ digBytes (epochDigest y) | none => zeros 56)
      else zeros 64).length = 64 := by
    cases op
    · rfl
    · rw [if_pos rfl, List.length_append, List.length_append, length_leBytes, hprev]
      rfl
  unfold epochStatus
  refine ⟨?_, ?_, ?_, fun h => ?_, fun ⟨n, h⟩ => ?_⟩
  · rw [List.length_append, hnow]
    exact congrArg (56 + ·) (htail _)
  · rw [epochNow, List.append_assoc]
    exact slice_left h8
  · rw [epochNow, List.append_assoc, slice_right h8 (by decide)]
    exact slice_left h48
  · rw [slice_right hnow (by decide), h]
    simp only [if_true, List.append_assoc]
    exact slice_left (length_leBytes 4 _)
  · rw [slice_right hnow (by decide), h]
    rfl

/-! ### The commands -/

section
variable {e : Env} {s t : State} {x : Partition} (ht : Says.target e t x)
include ht

theorem served_contextCreate
    (hf : payFault ([(0, decide (p8 e 0 < 16))] ++ rsv e 1 3 ++ [(4, decide (p8 e 4 < 16) || p8 e 4 == 255)] ++ rsv e 5 3) = none)
    {r : State × Ans} (h : contextCreate e.target.toNat (p8 e 0) (p8 e 4) (dig e.payload 8) t = r) :
    Says.served (.contextCreate e) specContextCreate e s t r :=
  served_of rfl ((checked_pass hf).trans ((target_steps ht (by decide) _).trans h))

set_option Elab.async false in
theorem served_contextDestroy (hf : payFault ([(0, decide (p8 e 0 < 16))] ++ rsv e 1 7) = none)
    {r : State × Ans} (h : contextDestroy e.target.toNat (p8 e 0) t = r) :
    Says.served (.contextDestroy e) specContextDestroy e s t r :=
  served_of rfl ((checked_pass hf).trans ((target_steps ht (by decide) _).trans h))

theorem served_contextSwitch (hf : payFault ([(0, decide (p8 e 0 < 16))] ++ rsv e 1 7) = none)
    {r : State × Ans} (h : contextSwitch e.target.toNat (p8 e 0) (some (pend e 0x40B)) t = r) :
    Says.served (.contextSwitch e) specContextSwitch e s t r :=
  served_of rfl ((checked_pass hf).trans ((target_steps ht (by decide) _).trans h))

theorem served_arbitrationShare (hf : payFault ([(0, pathOk t (p8 e 0)), (1, decide (1 ≤ p8 e 1 ∧ p8 e 1 ≤ 3))] ++ rsv e 2 6 ++
      (if p8 e 0 = 0x10 then rsv e 12 12 else rsv e 10 14)) = none) (h3 : p8 e 1 = 3) (hff : e.target ≠ 0xFF) {r : State × Ans}
    (h : arbShare (p8 e 0) e.target.toNat (BitVec.ofNat 128 (fld e.payload 8 16)) t = r) :
    Says.served (.arbitrationSet e) specArbitrationSet e s t r := by
  refine served_of rfl ?_
  obtain ⟨hx, hlive, hroll, hlen, -, -, -⟩ := ht
  have hpath : ¬ ((p8 e 1 = 3) ≠ (e.target ≠ 0xFF) ∧ 1 ≤ p8 e 1 ∧ p8 e 1 ≤ 3) := fun hh => hh.1 (propext ⟨fun _ => hff, fun _ => h3⟩)
  dsimp only
  rw [if_neg hpath, if_pos h3, if_pos h3, checked_pass hf, withSteps_room hroll (by omega), withPart_live hx hlive, h]

end

theorem served_arbitrationMode {e : Env} {s t : State} (hf : payFault ([(0, pathOk t (p8 e 0)), (1, decide (1 ≤ p8 e 1 ∧ p8 e 1 ≤ 3))] ++
      rsv e 2 6 ++ rsv e 8 16) = none) (h1 : p8 e 1 = 1) (hff : e.target = 0xFF) (hr : t.parts.rollback = none)
    (hs : t.parts.openSteps.length < 4096) {r : State × Ans} (h : arbMode (p8 e 0) true t = r) :
    Says.served (.arbitrationSet e) specArbitrationSet e s t r := by
  refine served_of rfl ?_
  have h3 : ¬ p8 e 1 = 3 := by omega
  have hon : (p8 e 1 == 1) = true := beq_iff_eq.2 h1
  have hpath : ¬ ((p8 e 1 = 3) ≠ (e.target ≠ 0xFF) ∧ 1 ≤ p8 e 1 ∧ p8 e 1 ≤ 3) :=
    fun hh => hh.1 (propext ⟨fun h => absurd h h3, fun h => absurd hff h⟩)
  dsimp only
  rw [if_neg hpath, if_neg h3, if_neg h3, checked_pass hf, withSteps_room hr (by omega), hon, h]

section
variable {e : Env} {s t : State} (hr : t.parts.rollback = none)
include hr

set_option Elab.async false in
theorem not_rolling : ¬ t.parts.rollback.isSome = true := by rw [hr]; nofun

theorem served_epochCommit_empty (h : t.parts.openSteps = []) : Says.served (.epochCommit e) specEpochCommit e s t (t, Ans.ok (epochNow t)) := by
  refine served_of rfl ?_
  dsimp only
  rw [if_neg (not_rolling hr), if_pos h]

theorem served_epochCommit (h : t.parts.openSteps ≠ []) : ∃ u,
    Says.served (.epochCommit e) specEpochCommit e s t (u, Ans.waiting) ∧ u.parts = nextEpoch t.parts := by
  refine ⟨reply e 0x410 (Ans.ok (epochNow (commitEpoch t))) (some (commitEpoch t).twin.mseqOut) (commitEpoch t), served_of rfl ?_, ?_⟩
  · dsimp only
    rw [if_neg (not_rolling hr), if_neg h]
  · rw [(RepliesOnly.reply ..).parts, commitEpoch_parts]

theorem served_epochRollback_none (h : t.parts.previous = none) :
    Says.served (.epochRollback e) specEpochRollback e s t (t, Ans.notFound) := by
  have hp : t.parts.previous.isNone = true := by rw [h]; rfl
  refine served_of rfl ?_
  dsimp only
  rw [if_neg (not_rolling hr), if_pos hp]

set_option Elab.async false in
theorem served_epochRollback_nothing (hp : t.parts.previous ≠ none) (ho : t.parts.openSteps = []) (hc : t.parts.current.steps = [])
    (hj : t.scrub.jobs = []) (hps : t.parts.parts = []) : ∃ u, Says.served (.epochRollback e) specEpochRollback e s t (u, Ans.waiting) ∧
      u.parts = nextEpoch t.parts := by
  have hp : ¬ t.parts.previous.isNone = true := by simpa using hp
  let v : State := { t with parts := { t.parts with rollback := some { env := some (pend e 0x411), todo := [], done := [] } } }
  refine ⟨pumpRollback v, served_of rfl ?_, ?_⟩
  · have htodo : t.parts.openSteps.reverse.map (fun r => (r, t.parts.openTids)) ++
        t.parts.current.steps.reverse.map (fun r => (r, t.parts.current.tids)) = [] := by rw [ho, hc]; rfl
    dsimp only
    rw [if_neg (not_rolling hr), if_neg hp, htodo]
  · rw [pumpRollback_nothing (s := v) rfl hj hps]
    show nextEpoch { t.parts with rollback := none } = _
    rw [← hr]

end

theorem contextsAndEpochs : Says.contextsAndEpochs := by
  intro e s t p
  refine ⟨fun x ht => ⟨fun hf hc hs hm => ?_, fun hf k hk => ⟨fun h => ?_, fun h0 hr hs hw hp hcs hps has => ?_, fun hs hr hrun => ?_,
    fun h => ?_⟩, fun hf h3 hff hv => ?_⟩, fun hf h1 hff hr hs => ?_, fun hr => ⟨served_epochCommit_empty hr, served_epochCommit hr,
    served_epochRollback_none hr, fun hp ho hc hj hps => ?_⟩, epochStatus e t, served_of rfl rfl, epochStatus_tells e t⟩
  · obtain ⟨u, h, hu⟩ := contextCreate_ok ht hc hm
    exact ⟨u, served_contextCreate ht hf (by rw [hs, h]), hu⟩
  · exact served_contextDestroy ht hf (contextDestroy_busy ht hk h)
  · obtain ⟨u, h, hu⟩ := contextDestroy_ok ht hk h0 hr hs hw hp hcs hps has
    exact ⟨u, served_contextDestroy ht hf h, hu⟩
  · obtain ⟨u, h, hu⟩ := contextSwitch_waits ht hk hs hr hrun (some (pend e 0x40B))
    exact ⟨u, served_contextSwitch ht hf h, hu⟩
  · exact served_contextSwitch ht hf (contextSwitch_running ht hk h _)
  · intro h old ho
    have hsh : h = shareOf (BitVec.ofNat 128 (fld e.payload 8 16)) := (shareOf_fld e.payload 8).symm
    rw [hsh]
    obtain ⟨hno, hsame, hnew⟩ := arbShare_cases ht.1 hv ho (BitVec.ofNat 128 (fld e.payload 8 16))
    refine ⟨fun hfit hm hne => ?_, fun hfit hm he => served_arbitrationShare ht hf h3 hff (hsame hfit hm he),
      fun hfit => served_arbitrationShare ht hf h3 hff (hno hfit)⟩
    obtain ⟨u, h, hu⟩ := hnew hfit hm hne
    exact ⟨u, served_arbitrationShare ht hf h3 hff h, hu⟩
  · obtain ⟨hsame, hnew⟩ := arbMode_on (p8 e 0) t
    refine ⟨fun hoff => ?_, fun hon => served_arbitrationMode hf h1 hff hr hs (hsame hon)⟩
    obtain ⟨u, h, hst, hmt, hht, hlt⟩ := hnew hoff
    have hcode := fixedOn_codes (payFault_none.1 hf (0, pathOk t (p8 e 0)) (by simp))
    exact ⟨u, served_arbitrationMode hf h1 hff hr hs h, hst, hmt, hht, fun h => hlt h (by omega)⟩
  · obtain ⟨u, h, hu⟩ := served_epochRollback_nothing hr hp ho hc hj hps
    refine ⟨u, h, ?_, ?_, ?_⟩
    · rw [hu]; exact hr
    · rw [hu]; rfl
    · rw [hu]; rfl

/-! ### A memory access leaves the partitions alone -/

@[simp] theorem raiseEvent_parts (b : Nat) (s : State) : (raiseEvent b s).parts = s.parts := by
  obtain ⟨q, o, h⟩ := raiseEvent_shape b s
  rw [h]

@[simp] theorem alert_parts (b : Nat) (s : State) : (alert b s).parts = s.parts := by
  simp only [alert]
  split
  · rfl
  · rw [raiseEvent_parts]

set_option Elab.async false in
@[simp] theorem logFault_parts (cls sev scope unit_ loc prt action detail : Nat) (s : State) :
    (logFault cls sev scope unit_ loc prt action detail s).parts = s.parts := by
  obtain ⟨m, p, q, o, h⟩ := logFault_frame cls sev scope unit_ loc prt action detail s
  rw [h]

@[simp] theorem countUncorrectable_parts (n : Nat) (s : State) : (countUncorrectable n s).parts = s.parts := by
  unfold countUncorrectable
  dsimp only
  rw [apply_ite State.parts, alert_parts, logFault_parts]
  exact ite_self _

theorem loadMce_parts (n : Nat) (s : State) : (loadMce n s).parts = s.parts :=
  List.foldlRecOn (motive := fun t : State => t.parts = s.parts) s.parts.parts _ rfl fun t h _ _ => by
    dsimp only
    split <;> exact h

theorem domainUp_stack_parts (n : Nat) (s : State) : (domainUp (stackPd n) true s).parts = s.parts := by
  have h1 : ¬ stackPd n = 1 := by simp only [stackPd]; omega
  have h2 : ¬ stackPd n = 2 := by simp only [stackPd]; omega
  have h3 : ¬ (6 ≤ stackPd n ∧ stackPd n ≤ 13) := by simp only [stackPd]; omega
  have h4 : 14 ≤ stackPd n := by simp only [stackPd]; omega
  simp only [domainUp, if_neg h1, if_neg h2, if_neg h3, if_pos h4, if_true, loadMce_parts]
  rfl

set_option Elab.async false in
@[simp] theorem needStack_parts (n : Nat) (s : State) : (needStack n s).parts = s.parts := by
  unfold needStack
  split
  · rfl
  · rw [domainUp_stack_parts]

@[simp] theorem readLine_parts (g : Gate) (part line : Nat) (s : State) : (readLine g part line s).1.parts = s.parts := by
  have corrected (P : Prop) [Decidable P] (cls sev scope unit_ loc prt action detail : Nat) :
      (if P then logFault cls sev scope unit_ loc prt action detail s else s).parts = s.parts := by
    rw [apply_ite State.parts, logFault_parts, ite_self]
  unfold readLine
  dsimp only
  split
  · simp
  · split
    · rw [logFault_parts, corrected]
    · rw [corrected]
    · rw [apply_ite Prod.fst, apply_ite State.parts, emit_parts, logFault_parts, corrected, ite_self]

theorem readChunks_parts (g : Gate) (part : Nat) (cs : List (Nat × Nat × Nat)) (s : State) : (readChunks g part cs s).1.parts = s.parts := by
  induction cs generalizing s with
  | nil => rfl
  | cons k cs ih => simp only [readChunks, ih, readLine_parts]

@[simp] theorem memRead_parts (who : Requester) (k off n : Nat) (s : State) : (memRead who k off n s).1.parts = s.parts := by
  simp only [memRead]
  split
  · exact needStack_parts _ _
  · rw [apply_ite Prod.fst, ite_self, readChunks_parts, needStack_parts]

set_option Elab.async false in
@[simp] theorem sealBounce_parts (p k st : Nat) (b : Bytes) (s : State) : (sealBounce p k st b s).2.parts = s.parts := (rfl)

@[simp] theorem msix_parts (f : Fn) (v : Nat) (s : State) : (msix f v s).parts = s.parts := by
  obtain ⟨q, o, h⟩ := msix_shape f v s
  rw [h]

theorem putRecord_parts (f : Fn) (r : CompRec) (s : State) : (putRecord f r s).parts = s.parts := by
  simp [putRecord, apply_ite State.parts]

/-! ### What a change leaves of every partition -/

/-- Every partition has the same facts as before. -/
def PartsKeep {α : Type} (f : Partition → α) (s u : State) : Prop := ∀ p, (part? u p).map f = (part? s p).map f

namespace PartsKeep

variable {α : Type} {f : Partition → α} {s u v : State}

theorem refl (s : State) : PartsKeep f s s := fun _ => rfl

set_option Elab.async false in
theorem trans (h : PartsKeep f s u) (g : PartsKeep f u v) : PartsKeep f s v := fun p => (g p).trans (h p)

theorem ite {c : Prop} [Decidable c] (h : PartsKeep f s u) (g : PartsKeep f s v) : PartsKeep f s (if c then u else v) := by
  split
  · exact h
  · exact g

theorem foldl {β : Type} {g : State → β → State} (h : ∀ t a, PartsKeep f t (g t a)) (l : List β) (s : State) : PartsKeep f s (l.foldl g s) :=
  List.foldlRecOn (motive := PartsKeep f s) l g (refl s) fun _ ht a _ => ht.trans (h _ a)

/-- The partitions' table itself is the same. -/
theorem of_eq (h : u.parts.parts = s.parts.parts) : PartsKeep f s u := fun p => by rw [part?_congr h]

set_option Elab.async false in
theorem modPart {g : Partition → Partition} (h : ∀ x, f (g x) = f x) (p : Nat) (s : State) : PartsKeep f s (modPart p g s) := fun q => by
  rw [part?_modPart]
  split
  · rw [Option.map_map, show f ∘ g = f from funext h]
  · rfl

theorem replies (h : RepliesOnly s u) : PartsKeep f s u := of_eq (congrArg (·.parts) h.parts)

theorem queues (q : Queues) (s : State) : PartsKeep f s { s with q := q } := of_eq rfl

theorem some (h : PartsKeep f s u) {p : Nat} {x : Partition} (hx : part? s p = some x) : ∃ y, part? u p = some y ∧ f y = f x := by
  have hp := h p
  rw [hx] at hp
  exact Option.map_eq_some_iff.1 hp

/-! ### Cancelled work -/

set_option Elab.async false in
theorem clearCores (cs : List Nat) (s : State) : PartsKeep f s (cs.foldl (fun t c => unwait c (clearCore c t)) s) :=
  foldl (g := fun t c => unwait c (clearCore c t)) (fun _ _ => of_eq rfl) cs s

section
variable (hc : ∀ x c, f { x with counts := c } = f x)
include hc

theorem writeRecord (fn : Fn) (r : CompRec) (s : State) : PartsKeep f s (writeRecord fn r s) := by
  have hq : PartsKeep f s (putRecord fn r s) := of_eq (congrArg (·.parts) (putRecord_parts fn r s))
  exact ite (modPart (fun x => hc x _) _ s) (ite hq (of_eq rfl))

theorem countRecord (p c st : Nat) (s : State) : PartsKeep f s (countRecord p c st s) :=
  ite (modPart (fun x => hc x _) _ s) ((modPart (fun x => hc x _) _ s).trans (of_eq rfl))

theorem dropEntries (es : List (Nat × WorkEntry)) (n : Nat) (s : State) : PartsKeep f s (dropEntries es n s) :=
  foldl (fun t _ => (writeRecord hc _ _ t).trans (countRecord hc _ _ _ _)) es s

set_option Elab.async false in
theorem cancelCores (cs : List Nat) (s : State) : PartsKeep f s (cancelCores cs s).1 :=
  (clearCores cs s).trans (dropEntries hc _ _ _)

theorem cancelPart (p : Nat) (s : State) : PartsKeep f s (cancelPart p s).1 :=
  ((clearCores (coresOf s p) s).trans (queues _ _)).trans (dropEntries hc _ _ _)

end
end PartsKeep

/-! ### Programs (R255, R477) -/

theorem bitsOf_lt {w : Nat} {v : BitVec w} {i : Nat} (h : i ∈ bitsOf v) : v.getLsbD i = true := (List.mem_filter.1 h).2

/-- A context without a binding for the cores unbound. -/
theorem bindOf_unbindCores (cs : BitVec 128) (k : Context) {i : Nat} (h : cs.getLsbD i = true) : bindOf (unbindCores cs k) i = none := by
  refine List.find?_eq_none.2 fun b hb => ?_
  obtain ⟨b', -, hb'⟩ := List.mem_filterMap.1 hb
  cases b' with
  | parcel a d =>
    have hp : Bind.parcel a d = b := Option.some.inj hb'
    rw [← hp]
    nofun
  | program d w o l m =>
    dsimp only at hb'
    split at hb'
    · nomatch hb'
    · have hp : Bind.program d w o l (m &&& ~~~cs) = b := Option.some.inj hb'
      rw [← hp]
      simp [h]

set_option Elab.async false in
/-- Cores with a program put on them. -/
theorem putPrograms (b : Bytes) (d : Digest) (cs : List Nat) (s : State) : let u := cs.foldl (fun t i => putProgram i b d t) s
    Keeps [.cores] s u ∧ (∀ i, i ∉ cs → core u i = core s i) ∧ (cs.Nodup → ∀ i ∈ cs, (core u i).program = some d ∧
      (core u i).verified = true ∧ (core u i).progLen = b.length) := by
  intro u
  obtain ⟨hk, ho, hin⟩ := foldl_modCore (fun _ _ x => { x with istore := mwrite [] 0 b, progLen := b.length, program := some d, verified := true }) cs s
  refine ⟨hk, ho, fun hn i hi => ?_⟩
  obtain ⟨v, -, -, h⟩ := hin hn i hi
  rw [show core u i = _ from h]
  exact ⟨rfl, rfl, rfl⟩

/-- Cores without a program. -/
theorem dropPrograms (cs : List Nat) (s : State) : let u := cs.foldl (fun t i => dropProgram i t) s
    Keeps [.cores] s u ∧ (cs.Nodup → ∀ i ∈ cs, (core u i).program = none ∧ (core u i).progLen = 0 ∧ (core u i).istore = []) := by
  intro u
  obtain ⟨hk, -, hin⟩ := foldl_modCore (fun _ _ x => { x with istore := [], progLen := 0, program := none, verified := false, st := if x.st = .unassigned then .unassigned else .stopped }) cs s
  refine ⟨hk, fun hn i hi => ?_⟩
  obtain ⟨v, -, -, h⟩ := hin hn i hi
  rw [show core u i = _ from h]
  exact ⟨rfl, rfl, rfl⟩

theorem part?_keeps {cs : List Piece} {s u : State} (h : Keeps cs s u) (hc : Piece.parts ∉ cs) (p : Nat) : part? u p = part? s p :=
  part?_congr (congrArg Parts.parts (h.2 .parts hc)) p

/-- A context as its caller may name it is the partition's. -/
theorem mget_of_ctxOf {s : State} {e : Env} {x : Partition} {c : Nat} {k : Context} (h : ctxOf s e x c = some k) : mget x.ctxs c = some k := by
  unfold ctxOf at h
  split at h
  · obtain ⟨k', hk, hif⟩ := Option.bind_eq_some_iff.1 h
    split at hif
    · rw [hk, hif]
    · nomatch hif
  · exact h

set_option Elab.async false in
theorem not_operator {e : Env} {x : Partition} (ho : isOperator e = false ∨ x.mode ≠ .confidential) :
    ¬ (isOperator e = true ∧ x.mode = .confidential) :=
  fun h => ho.elim (fun hf => by rw [hf] at h; exact Bool.false_ne_true h.1) (fun hm => hm h.2)

section
variable {e : Env} {t : State} {x : Partition} {k : Context} (hk : ctxOf t e x (p8 e 0) = some k)

section
variable (hb : ∀ i ∈ bitsOf (BitVec.ofNat 128 (fld e.payload 16 16)), bindOf k i = none ∧ coreHolder t i = some e.target.toNat)
include hb

theorem programBind_unbound : ¬ (bitsOf (BitVec.ofNat 128 (fld e.payload 16 16))).any (fun i => (bindOf k i).isSome) = true := by
  rw [any_false fun i hi => by rw [(hb i hi).1]; rfl]
  nofun

include hk

theorem programBind_running (h : x.running = p8 e 0 ∧ x.state = .running) : programBind e x t = (t, Ans.state) := by
  simp only [programBind, hk, if_neg (programBind_unbound hb), if_pos h]

/-- A program's image read through its window, bound to the context and put on the cores that run it. -/
theorem programBind_ok (ho : isOperator e = false ∨ x.mode ≠ .confidential)
    (hx : part? t e.target.toNat = some x) (hr : ¬ (x.running = p8 e 0 ∧ x.state = .running)) {w : Window}
    (hw : mget x.windows (p8 e 1) = some w) (ha : w.access.getLsbD 0 = true) (hs : p64 e 8 + p32 e 4 ≤ w.size * 2 ^ 21)
    (h0 : (memRead (.host (BitVec.ofNat 7 e.target.toNat)) (p8 e 1) (p64 e 8) (p32 e 4) t).2.1 = 0) :
    let cores := BitVec.ofNat 128 (fld e.payload 16 16)
    let b := (memRead (.host (BitVec.ofNat 7 e.target.toNat)) (p8 e 1) (p64 e 8) (p32 e 4) t).2.2
    ∃ u, programBind e x t = (u, Ans.ok (digBytes (sha384 b))) ∧
      (∃ y, part? u e.target.toNat = some y ∧ (mget y.ctxs (p8 e 0)).map (fun c => c.binds) =
        (mget x.ctxs (p8 e 0)).map (fun c => c.binds ++ [.program (sha384 b) (p8 e 1) (p64 e 8) (p32 e 4) cores])) ∧
      (x.running = p8 e 0 → ∀ i ∈ bitsOf cores, (core u i).program = some (sha384 b) ∧ (core u i).verified = true ∧
        (core u i).progLen = b.length) ∧ (∀ i, i ∉ bitsOf cores → core u i = core t i) := by
  intro cores b
  let r := memRead (.host (BitVec.ofNat 7 e.target.toNat)) (p8 e 1) (p64 e 8) (p32 e 4) t
  let v := modPart e.target.toNat (fun y => { y with ctxs := mupd y.ctxs (p8 e 0) (fun k =>
    { k with binds := k.binds ++ [.program (sha384 b) (p8 e 1) (p64 e 8) (p32 e 4) cores] }) }) r.1
  have hheld : ¬ (bitsOf cores).any (fun i => coreHolder t i ≠ some e.target.toNat) = true := by
    rw [any_false fun i hi => by simp [(hb i hi).2]]
    nofun
  have hacc : ¬ ((!w.access.getLsbD 0) = true ∨ w.size * 2 ^ 21 < p64 e 8 + p32 e 4) := by
    rw [ha]
    exact fun h => h.elim nofun (by omega)
  have heq : programBind e x t = (if x.running = p8 e 0 then (bitsOf cores).foldl (fun t i => putProgram i b (sha384 b) t) v else v,
      Ans.ok (digBytes (sha384 b))) := by
    simp only [programBind, hk, if_neg (programBind_unbound hb), if_neg hr, if_neg (not_operator ho), hw]
    rw [if_neg hheld, if_neg hacc, if_neg (not_not.2 h0)]
  have hp : part? r.1 e.target.toNat = some x := (part?_congr (congrArg (·.parts) (memRead_parts ..)) _).trans hx
  have hv : part? v e.target.toNat = some { x with ctxs := mupd x.ctxs (p8 e 0) (fun k =>
      { k with binds := k.binds ++ [.program (sha384 b) (p8 e 1) (p64 e 8) (p32 e 4) cores] }) } := part?_modPart_self hp _
  have hcs (i : Nat) : core v i = core t i := by
    show (mget r.1.cores i).getD _ = _
    rw [memRead_cores]
    rfl
  have hcx : (mget (mupd x.ctxs (p8 e 0) (fun k => { k with binds := k.binds ++ [.program (sha384 b) (p8 e 1) (p64 e 8) (p32 e 4) cores] }))
      (p8 e 0)).map (fun c => c.binds) =
      (mget x.ctxs (p8 e 0)).map (fun c => c.binds ++ [.program (sha384 b) (p8 e 1) (p64 e 8) (p32 e 4) cores]) := by
    rw [mget_mupd, if_pos rfl, Option.map_map]
    rfl
  obtain ⟨hput, hother, hon⟩ := putPrograms b (sha384 b) (bitsOf cores) v
  refine ⟨_, heq, ⟨_, Eq.trans ?_ hv, hcx⟩, fun hrun i hi => ?_, fun i hi => ?_⟩
  · split
    · exact part?_keeps hput (by decide) _
    · rfl
  · rw [if_pos hrun]
    exact hon (nodup_bitsOf _) i hi
  · rw [← hcs i]
    split
    · exact hother i hi
    · rfl

end

/-- An unbind's effect past its checks. -/
def programUnbind (e : Env) (x : Partition) (t : State) : State :=
  let cores := BitVec.ofNat 128 (fld e.payload 8 16)
  let v := modPart e.target.toNat (fun y => { y with ctxs := mupd y.ctxs (p8 e 0) (unbindCores cores) }) t
  if x.running = p8 e 0 then (bitsOf cores).foldl (fun u i => dropProgram i u) (cancelCores (bitsOf cores) v).1 else v

include hk in
set_option Elab.async false in
theorem programUnbind_forgets (hx : part? t e.target.toNat = some x) :
    (x.running ≠ p8 e 0 → Keeps [.parts] t (programUnbind e x t)) ∧
    (x.running = p8 e 0 → ∀ i ∈ bitsOf (BitVec.ofNat 128 (fld e.payload 8 16)), (core (programUnbind e x t) i).program = none ∧
      (core (programUnbind e x t) i).progLen = 0 ∧ (core (programUnbind e x t) i).istore = []) ∧
    ∃ y z, part? (programUnbind e x t) e.target.toNat = some y ∧ mget y.ctxs (p8 e 0) = some z ∧
      ∀ i ∈ bitsOf (BitVec.ofNat 128 (fld e.payload 8 16)), bindOf z i = none := by
  let cores := BitVec.ofNat 128 (fld e.payload 8 16)
  let v := modPart e.target.toNat (fun y => { y with ctxs := mupd y.ctxs (p8 e 0) (unbindCores cores) }) t
  have hv : part? v e.target.toNat = some { x with ctxs := mupd x.ctxs (p8 e 0) (unbindCores cores) } := part?_modPart_self hx _
  have hz : mget (mupd x.ctxs (p8 e 0) (unbindCores cores)) (p8 e 0) = some (unbindCores cores k) := by
    rw [mget_mupd, if_pos rfl, mget_of_ctxOf hk]
    rfl
  have hcancel : PartsKeep (·.ctxs) v (cancelCores (bitsOf cores) v).1 := PartsKeep.cancelCores (fun _ _ => rfl) _ v
  obtain ⟨hdrop, hoff⟩ := dropPrograms (bitsOf cores) (cancelCores (bitsOf cores) v).1
  have hctxs : ∃ y, part? (programUnbind e x t) e.target.toNat = some y ∧ y.ctxs = mupd x.ctxs (p8 e 0) (unbindCores cores) := by
    by_cases h : x.running = p8 e 0
    · rw [programUnbind, if_pos h]
      obtain ⟨y, hy, hc⟩ := hcancel.some hv
      exact ⟨y, (part?_keeps hdrop (by decide) _).trans hy, hc⟩
    · rw [programUnbind, if_neg h]
      exact ⟨_, hv, rfl⟩
  refine ⟨fun h => ?_, fun h => ?_, ?_⟩
  · rw [programUnbind, if_neg h]
    exact keeps_parts ..
  · rw [programUnbind, if_pos h]
    exact hoff (nodup_bitsOf _)
  · obtain ⟨y, hy, hc⟩ := hctxs
    exact ⟨y, unbindCores cores k, hy, hc ▸ hz, fun i hi => bindOf_unbindCores cores k (bitsOf_lt hi)⟩

end

theorem programsAreBound : Says.programsAreBound := by
  intro e s t x k hx hs hk ho p cores gone
  refine ⟨fun hf hb => ?_, fun hf => ?_⟩
  · have served {r : State × Ans} (h : programBind e x t = r) : Says.served (.programBind e) specProgramBind e s t r :=
      served_of rfl ((checked_pass hf).trans ((withPart_live hx hs _).trans h))
    refine ⟨fun h => served (programBind_running hk hb h), fun hr w hw ha hlen h0 => ?_⟩
    obtain ⟨u, h, hu⟩ := programBind_ok hk hb ho hx hr hw ha hlen h0
    exact ⟨u, served h, hu⟩
  · refine ⟨fun ⟨i, hi, hn⟩ => ?_, fun hall => ⟨programUnbind e x t, ?_, programUnbind_forgets hk hx⟩⟩
    · have hany : (bitsOf gone).any (fun i => (bindOf k i).isNone) = true := List.any_eq_true.2 ⟨i, hi, by rw [hn]; rfl⟩
      refine served_of rfl ((checked_pass hf).trans ((withPart_live hx hs _).trans ?_))
      simp only [hk, if_neg (not_operator ho)]
      exact if_pos hany
    · have hany : ¬ (bitsOf gone).any (fun i => (bindOf k i).isNone) = true := by
        rw [any_false fun i hi => Option.isNone_eq_false_iff.2 (Option.isSome_iff_ne_none.2 (hall i hi))]
        nofun
      refine served_of rfl ((checked_pass hf).trans ((withPart_live hx hs _).trans ?_))
      simp only [hk, if_neg (not_operator ho)]
      refine (if_neg hany).trans ?_
      rw [programUnbind]
      split <;> rfl

/-- Settles O33. -/
theorem contextsAndPrograms : Obligations.ContextsAndPrograms := ⟨contextsAndEpochs, programsAreBound⟩

end Sys2Proof.Machine
end

section
/-! SUPPORT, O31. Partitions are created, destroyed, started, stopped and change their mode (R205–R209). -/

namespace Sys2Proof.Machine

/-- What survives of every partition: whose it is and whether it runs. -/
structure Lives (s u : State) : Prop where
  keeps : PartsKeep (fun x => (x.tenant, x.state)) s u

namespace Lives

variable {s u v : State}

theorem refl (s : State) : Lives s s := ⟨PartsKeep.refl s⟩

theorem trans (h : Lives s u) (g : Lives u v) : Lives s v := ⟨h.keeps.trans g.keeps⟩

set_option Elab.async false in
/-- The last step first, so that its state says what the one before has left. -/
theorem after (g : Lives u v) (h : Lives s u) : Lives s v := h.trans g

theorem ite {c : Prop} [Decidable c] (h : Lives s u) (g : Lives s v) : Lives s (if c then u else v) := ⟨h.keeps.ite g.keeps⟩

theorem foldl {β : Type} {g : State → β → State} (h : ∀ t a, Lives t (g t a)) (l : List β) (s : State) : Lives s (l.foldl g s) :=
  ⟨PartsKeep.foldl (fun t a => (h t a).keeps) l s⟩

theorem of_parts (h : u.parts = s.parts) : Lives s u := ⟨PartsKeep.of_eq (congrArg (·.parts) h)⟩

set_option Elab.async false in
theorem modPart (p : Nat) (g : Partition → Partition) (s : State) (h : ∀ x, ((g x).tenant, (g x).state) = (x.tenant, x.state) := by intro; rfl) :
    Lives s (modPart p g s) := ⟨PartsKeep.modPart h p s⟩

theorem work (d : Desk) (k : Scrub) (q : Queues) (s : State) : Lives s { s with desk := d, scrub := k, q := q } := of_parts rfl

theorem links (h : LinksOnly s u) : Lives s u := by
  obtain ⟨c, po, k, tw, rfl⟩ := h
  exact of_parts rfl

theorem mirror (m : BitVec 8) (b : Bytes) (s : State) : Lives s (mirror m b s) := by
  obtain ⟨tw, po, h⟩ := mirror_shape m b s
  rw [h]
  exact of_parts rfl

set_option Elab.async false in
theorem reloadWd (p : Nat) (s : State) : Lives s (reloadWd p s) := by
  obtain ⟨cs, h⟩ := reloadWd_shape p s
  rw [h]
  exact of_parts rfl

theorem recordStep (r : StepRec) (s : State) : Lives s (recordStep r s) :=
  (⟨PartsKeep.of_eq rfl⟩ : Lives s (stepAdded r s)).trans (mirror 1 _ (stepAdded r s))

theorem destroySlots (ns : List Nat) (s : State) : Lives s (destroySlots ns s) :=
  foldl (fun t n => links (LinksOnly.destroySlot n t)) ns s

theorem drawKey (n : Nat) (a : BitVec 64) (s : State) : Lives s (drawKey n a s) :=
  (of_parts rfl : Lives s (setSlot n _ { s with free := s.free + 1 })).trans (mirror _ _ _)

set_option Elab.async false in
theorem setRes (rt k : Nat) (r : Res) (s : State) : Lives s (setRes rt k r s) := ⟨PartsKeep.of_eq (by
  simp only [Machine.setRes]
  split_ifs <;> rfl)⟩

/-! ### Memory -/

theorem writeChunks (g : Gate) (p : Nat) (cs : List (Nat × Nat × Nat)) (b : Bytes) (s : State) : Lives s (writeChunks g p cs b s).1 := by
  induction cs generalizing b s with
  | nil => exact refl s
  | cons k cs ih =>
    obtain ⟨l, o, n⟩ := k
    refine trans (u := _) ?_ (ih (b.drop n) _)
    split
    · exact of_parts rfl
    · dsimp only
      split
      · exact of_parts (readLine_parts ..)
      · exact of_parts (readLine_parts g p l s)

theorem memWrite (who : Requester) (k off : Nat) (b : Bytes) (s : State) : Lives s (memWrite who k off b s).1 := by
  unfold Machine.memWrite
  dsimp only
  split
  · exact of_parts (needStack_parts ..)
  · exact (of_parts (needStack_parts ..)).trans (writeChunks ..)

theorem poisonLine (n l : Nat) (s : State) : Lives s (poisonLine n l s) := of_parts rfl

set_option Elab.async false in
theorem writeLine (g : Gate) (l : Nat) (b : Bytes) (s : State) : Lives s (writeLine g l b s) := of_parts rfl

theorem flushWay (p n : Nat) (s : State) : Lives s (flushWay p n s) :=
  (foldl (fun _ _ => ite (poisonLine ..) (writeLine ..)) _ s).trans (of_parts rfl)

/-! ### The parcel desk -/

theorem mirrorParcel (x : Parcel) (n : Nat) (s : State) : Lives s (mirrorParcel x n s) := mirror _ _ s

theorem unchain (p c : Nat) (d : Digest) (s : State) : Lives s (unchain p c d s) := after (work _ _ _ _) (modPart ..)

set_option Elab.async false in
theorem clearParcel (p k : Nat) (s : State) : Lives s (clearParcel p k s) := by
  unfold Machine.clearParcel
  split
  · exact refl s
  · exact work _ _ _ _

theorem poisonWritten (a : Admission) (s : State) : Lives s (poisonWritten a s) := by
  unfold Machine.poisonWritten
  split
  · exact refl s
  · exact foldl (fun _ _ => poisonLine ..) _ s

theorem releaseAdm (a : Admission) (s : State) : Lives s (releaseAdm a s) := by
  have told (t : State) : Lives t (match parcelOf t a.part a.ctx a.head.hd with
      | some x => Machine.mirrorParcel x (parcelCode x.st) t | none => t) := by
    split
    · exact mirrorParcel ..
    · exact refl t
  unfold Machine.releaseAdm
  exact after (told _) (ite (after (reloadWd ..) (after (work _ _ _ _) (after (modPart ..) (work _ _ _ s))))
    (after (work _ _ _ _) (work _ _ _ s)))

theorem endAdm (a : Admission) (s : State) : Lives s (endAdm a s) :=
  ite (work _ _ _ s) (ite (work _ _ _ s) (after (releaseAdm ..) (work _ _ _ s)))

set_option Elab.async false in
theorem abandonOne (st d : Nat) (a : Admission) (s : State) : Lives s (abandonOne st d a s) :=
  ite (refl s) (after (endAdm ..) (after (ite (refl _) (after (clearParcel ..) (poisonWritten ..))) (ite (refl s) (unchain ..))))

theorem abandon (st d : Nat) (a : Admission) (s : State) : Lives s (abandon st d a s) :=
  after (foldl (fun _ _ => abandonOne ..) _ _) (abandonOne ..)

theorem abandonAll (l : List Admission) (s : State) :
    Lives s (l.foldl (fun t a => Machine.abandon 8 (droppedDetail a) a t) s) := foldl (fun _ _ => abandon ..) l s

theorem windowGone (p k : Nat) (s : State) : Lives s (windowGone p k s) := by
  have dropped : Lives s (match windowOf s p k with
      | some w => dropRange p w.stack (w.base * 2 ^ 15) (w.size * 2 ^ 15) s | none => s) := by
    split
    · exact of_parts rfl
    · exact refl s
  unfold Machine.windowGone
  refine after (foldl (fun t c => ?_) _ _) (after (work _ _ _ _) (after (abandonAll ..) dropped))
  split
  · exact ite (of_parts rfl) (refl t)
  · exact refl t

set_option Elab.async false in
theorem shadow (p k : Nat) (s : State) : Lives s (shadow p k s) := after (reloadWd ..) (modPart ..)

theorem unbindOne (p c : Nat) (d : Digest) (s : State) : Lives s (unbindOne p c d s) := by
  have h : Lives s ((s.desk.adms.filter (fun a => a.part == p && a.ctx == c && a.head.hd == d)).foldl
      (fun t a => Machine.abandon 8 (droppedDetail a) a t) s) := abandonAll ..
  unfold Machine.unbindOne
  dsimp only
  split
  · exact h
  · exact after (ite (work _ _ _ _) (work _ _ _ _)) (after (mirrorParcel ..) (after (unchain ..)
      (after (ite (after (clearParcel ..) (shadow ..)) (ite (shadow ..) (refl _))) h)))

theorem leaveCircle (p i : Nat) (s : State) : Lives s (leaveCircle p i s) := by
  unfold Machine.leaveCircle
  split
  · exact refl s
  · split
    · exact refl s
    · exact after (ite (after (work _ _ _ _) (after (setRes ..) (links (LinksOnly.destroySlot _ _)))) (refl _))
        (after (work _ _ _ _) (after (reloadWd ..) (after (modPart ..) (after (unchain ..) (after (foldl (fun _ _ => unbindOne ..) _ _)
          (after (windowGone ..) (after (shadow ..) (work _ _ _ _))))))))

theorem deskForget (p : Nat) (c : Option Nat) (s : State) : Lives s (deskForget p c s) :=
  after (work _ _ _ _) (after (foldl (fun _ _ => unbindOne ..) _ _) (foldl (fun _ _ => leaveCircle ..) _ s))

end Lives

namespace Lives

variable {s u v : State}

/-! ### Cancelled work and a pending switch (R207, R210, R276) -/

set_option Elab.async false in
theorem dropEntries (es : List (Nat × WorkEntry)) (n : Nat) (s : State) : Lives s (dropEntries es n s) :=
  ⟨PartsKeep.dropEntries (fun _ _ => rfl) es n s⟩

theorem cancelCores (cs : List Nat) (s : State) : Lives s (cancelCores cs s).1 := ⟨PartsKeep.cancelCores (fun _ _ => rfl) cs s⟩

theorem cancelPart (p : Nat) (s : State) : Lives s (cancelPart p s).1 := ⟨PartsKeep.cancelPart (fun _ _ => rfl) p s⟩

theorem cores (c : SMap Core) (s : State) : Lives s { s with cores := c } := of_parts rfl

set_option Elab.async false in
theorem device (th : Thermal) (p : Power) (s : State) : Lives s { s with therm := th, power := p } := of_parts rfl

theorem channels (c : Caravan) (q : Queues) (s : State) : Lives s { s with car := c, q := q } := of_parts rfl

theorem replies (h : RepliesOnly s u) : Lives s u := of_parts h.parts

theorem saveContext (p c : Nat) (w : Option Nat) (n : BitVec 64) (s : State) : Lives s (saveContext p c w n s) := by
  unfold Machine.saveContext
  split
  · exact refl s
  · exact foldl (fun _ _ => memWrite ..) _ s

set_option Elab.async false in
theorem loadCore (p c k : Nat) (w : Option Nat) (s : State) : Lives s (loadCore p c k w s).1 := by
  unfold Machine.loadCore
  dsimp only
  split
  · exact of_parts rfl
  · split_ifs
    · exact after (cores _ _) (of_parts (memRead_parts ..))
    · exact after (cores _ _) (of_parts (memRead_parts ..))
    · exact after (cores _ _) (after (cores _ _) (of_parts (memRead_parts ..)))

theorem reloadProgram (p c : Nat) (b : Bind) (s : State) : Lives s (reloadProgram p c b s) := by
  cases b with
  | program d w o l m =>
    exact ite (after (cores _ _) (of_parts (memRead_parts ..)))
      (after (of_parts (logFault_parts ..)) (after (cores _ _) (of_parts (memRead_parts ..))))
  | parcel => exact refl s

theorem releaseCore (c : Nat) (s : State) : Lives s (releaseCore c s) := ite (cores _ _) (refl s)

/-- A core as the incoming context has it. -/
theorem loadedCore (p x c : Nat) (cx : Option Context) (a : State × Bool) : Lives a.1
    (let l := Machine.loadCore p x c (cx.bind (·.save)) a.1
      let b := cx.bind (bindOf · c)
      let t := match b with
        | some (.program d w o n m) =>
          if (core l.1 c).program = some d ∧ (core l.1 c).verified then l.1 else Machine.reloadProgram p c (.program d w o n m) l.1
        | _ => dropProgram c l.1
      if l.2 then modCore c (fun k => { k with st := .stopped, verified := false }) t else Machine.releaseCore c t) := by
  refine after (ite (cores _ _) (releaseCore ..)) (after ?_ (loadCore p x c (cx.bind (·.save)) a.1))
  split
  · exact ite (refl _) (reloadProgram ..)
  · exact cores _ _

set_option Elab.async false in
theorem loadContext (p n : Nat) (s : State) : Lives s (loadContext p n s) := by
  unfold Machine.loadContext
  split
  · exact refl s
  · refine after (replies (RepliesOnly.finish? _ _ _)) (after (modPart ..) ?_)
    exact List.foldlRecOn (motive := fun a : State × Bool => Lives s a.1) _ _ (reloadWd ..) fun a h c _ => after (loadedCore _ _ c _ a) h

theorem applySwitch (p n : Nat) (s : State) : Lives s (applySwitch p n s) := by
  unfold Machine.applySwitch
  split
  · exact refl s
  · split
    · exact refl s
    · have left := fun (x : Partition) (new : Nat) (l : List Nat) => after (modPart p (fun y => { y with running := new, switchTo := none }) _)
        (after (saveContext p x.running ((mget x.ctxs x.running).bind (·.save)) x.periodSeq _)
          (foldl (g := fun t c => modCore c (fun k => { atEntry k with wd := [], st := .stopped }) (unwait c t)) (fun _ _ => of_parts rfl) l s))
      exact ite (after (loadContext ..) (left ..)) (ite (after (loadContext ..) (left ..)) (after (foldl (fun _ _ => work _ _ _ _) _ _) (left ..)))

/-! ### Revokes (R214) -/

theorem dropWaiters (k : Nat) (s : State) : Lives s (dropWaiters k s) := by
  unfold Machine.dropWaiters
  split
  · exact refl s
  · refine after (foldl (fun t c => ?_) _ _) (work _ _ _ _)
    split
    · exact of_parts rfl
    · exact refl t

theorem putShare (p rt k : Nat) (h : Option Share) (s : State) : Lives s (Machine.modPart p (putShare rt k h) s) :=
  modPart p _ s fun x => by
    simp only [Machine.putShare]
    split_ifs <;> rfl

set_option Elab.async false in
theorem iteFst {β : Type} {c : Prop} [Decidable c] {a b : State × β} (h : Lives s a.1) (g : Lives s b.1) : Lives s (if c then a else b).1 := by
  split
  · exact h
  · exact g

/-- A resource given up: scrubbed first, or free at once. -/
theorem givenUp {c : Prop} [Decidable c] (j : ScrubJob) (rt k n m : Nat) (r q : Res) (a b : Bool) (t : State) :
    Lives t (if c then (addJob j (Machine.setRes rt k r t), n, a) else (Machine.setRes rt k q t, m, b)).1 :=
  iteFst (after (work _ _ _ _) (setRes ..)) (setRes ..)

theorem revokeEffect (x : Partition) (p rt k : Nat) (next : ScrubNext) (env : Option Pending) (s : State) :
    Lives s (revokeEffect x p rt k next env s).1 := by
  refine iteFst ?core (iteFst ?window (iteFst ?way (iteFst ?token (iteFst ?pool ?share))))
  case core => exact after (givenUp ..) (after (cores _ _) (after (device _ _ _) (after (modPart ..) (after (dropEntries ..)
    (after (work _ _ _ _) (after (cancelCores ..) (recordStep ..)))))))
  case window =>
    split
    · exact recordStep ..
    · exact after (work _ _ _ _) (after (reloadWd ..) (after (modPart ..) (after (windowGone ..) (recordStep ..))))
  case way => exact after (givenUp ..) (after (flushWay ..) (recordStep ..))
  case token => exact after (setRes ..) (after (channels _ _ _) (after (dropWaiters ..) (recordStep ..)))
  case pool => exact after (setRes ..) (after (links (LinksOnly.destroySlot _ _)) (recordStep ..))
  case share => exact iteFst (after (work _ _ _ _) (after (putShare ..) (recordStep ..))) (after (putShare ..) (recordStep ..))

theorem revokeAll (p : Nat) (rs : List (Nat × Nat)) (next : Nat → Nat → BitVec 128 → ScrubNext) (s : State) :
    Lives s (revokeAll p rs next s).1 :=
  List.foldlRecOn (motive := fun a : State × Nat => Lives s a.1) _ _ (refl s) fun a h r _ => by
    dsimp only
    split
    · exact h
    · split
      · exact h
      · exact after (revokeEffect ..) h

end Lives

/-! ### Partitions made and ended (R205, R207) -/

set_option Elab.async false in
theorem slot_destroySlot_other {n k : Nat} (h : k ≠ n) (s : State) : slot (destroySlot n s) k = slot s k := by
  have hs : SlotBecomes n { Slot.empty with attr := versionOnly (slot s n).version } s (mirrorSlot n (dropCopies n
    (setSlot n { Slot.empty with attr := versionOnly (slot s n).version } s))) := ((SlotBecomes.setSlot n _ s).dropCopies n).mirrorSlot n
  rw [destroySlot, apply_ite (slot · k), hs.2.1 k h, ite_self]

theorem mkAttr_stays {p : Nat} (h : p < 256) : (mkAttr p).getLsbD 43 = false := by
  rw [mkAttr, BitVec.getLsbD_ofNat, Nat.testBit_lt_two_pow (by omega)]
  exact Bool.and_false _

/-- The step of a change in the state it has changed. -/
theorem slot_recordStep (r : StepRec) (s : State) (k : Nat) : slot (recordStep r s) k = slot s k := by
  obtain ⟨tw, po, h⟩ := recordStep_shape r s
  rw [h]
  rfl

theorem part?_setPart_other {p k : Nat} (h : k ≠ p) (x : Partition) (s : State) : part? (setPart p x s) k = part? s k :=
  mget_mput_other _ _ (Ne.symm h)

set_option Elab.async false in
/-- A partition is made at its number, its key drawn to its slot. -/
theorem createPart_ok {p : Nat} {m : Mode} {s : State} (d : Digest) (hp : p < 256) (hn : part? s p = none) (hd : m = .confidential → s.parts.debugOpen = false)
    (ht : s.parts.openTids.length < 128) : ∃ u, createPart p m d s = (u, Ans.ok) ∧ part? u p = some (Partition.new m d) ∧
      (∀ k, k ≠ p → part? u k = part? s k) ∧ (slot u (0x80 + p)).activeValid = true ∧ (slot u (0x80 + p)).exportable = false ∧
      (∀ n, n ≠ 0x80 + p → slot u n = slot s n) ∧ Says.stepped 4 0x10 p 0 s u := by
  obtain ⟨i, ts, hi⟩ := tidIndex_parts d ht
  obtain ⟨tw, po, x, hv, he, hx⟩ := slot_drawKey (0x80 + p) (mkAttr p) (destroySlot (0x80 + p) (withTids ts s))
  let v := setPart p (Partition.new m d) (drawKey (0x80 + p) (mkAttr p) (destroySlot (0x80 + p) (withTids ts s)))
  have hdb : ¬ (s.parts.debugOpen = true ∧ m = .confidential) := fun h => by rw [hd h.2] at h; exact Bool.false_ne_true h.1
  have hc : createPart p m d s = (recordStep (mkStep 4 0x10 p 0xFF 0 (BitVec.ofNat 128 (modeCode m + 256 * i)) 0) v, Ans.ok) := by
    simp [createPart, hn, hdb, hi, v]
  have hparts : (drawKey (0x80 + p) (mkAttr p) (destroySlot (0x80 + p) (withTids ts s))).parts = (withTids ts s).parts := by
    obtain ⟨c, po', k, tw', h⟩ := LinksOnly.destroySlot (0x80 + p) (withTids ts s)
    rw [hx, h]
    rfl
  have hslot (n : Nat) : slot v n = slot (setSlot (0x80 + p) x (destroySlot (0x80 + p) (withTids ts s))) n := by
    show slot (drawKey _ _ _) n = _
    rw [hx]
    rfl
  have hkey : slot v (0x80 + p) = x := (hslot _).trans (slot_setSlot ..)
  refine ⟨_, hc, ?_, fun k hk => ?_, ?_, ?_, fun n hn => ?_, stepped_recordStep ?_ ..⟩
  · rw [part?_recordStep]
    exact mget_mput_same ..
  · rw [part?_recordStep, part?_setPart_other hk]
    exact part?_congr (congrArg (·.parts) hparts) k
  · rw [slot_recordStep, hkey]
    exact hv
  · rw [slot_recordStep, hkey]
    exact he (mkAttr_stays hp)
  · rw [slot_recordStep, hslot, (SlotBecomes.setSlot ..).2.1 n hn, slot_destroySlot_other hn]
    rfl
  · exact (congrArg Parts.openSteps hparts).trans rfl

/-- The end of a destroy leaves nothing of the partition once no scrub of its own is left. -/
theorem destroyDone_gone {p : Nat} {s : State} (hs : ∀ y, part? s p = some y → y.state = .destroying) :
    (part? (destroyDone p s) p = none ∨ ∃ y, part? (destroyDone p s) p = some y ∧ y.state = .destroying) ∧
    ((∀ j ∈ (destroyDone p s).scrub.jobs, j.former ≠ p) → part? (destroyDone p s) p = none) := by
  cases hx : part? s p with
  | none =>
    have h : destroyDone p s = s := by simp only [destroyDone, hx]
    rw [h]
    exact ⟨.inl hx, fun _ => hx⟩
  | some x =>
    by_cases hj : s.scrub.jobs.any (fun j => j.former == p) = true
    · have h : destroyDone p s = s := by simp [destroyDone, hx, hj]
      obtain ⟨j, hjm, hjp⟩ := List.any_eq_true.1 hj
      rw [h]
      exact ⟨.inr ⟨x, hx, hs x hx⟩, fun hall => absurd (beq_iff_eq.1 hjp) (hall j hjm)⟩
    · have h : part? (destroyDone p s) p = none := by
        have hc : x.state = .destroying ∧ (!s.scrub.jobs.any (fun j => j.former == p)) = true := ⟨hs x hx, by simpa using hj⟩
        simp only [destroyDone, hx, if_pos hc]
        split
        · rw [part?_congr (congrArg (·.parts) (RepliesOnly.finish _ _ _).parts)]
          exact mget_mdel_same ..
        · exact mget_mdel_same ..
      exact ⟨.inl h, fun _ => h⟩

theorem destroyPart_ends {p : Nat} {x : Partition} {s : State} (hx : part? s p = some x) (ht : s.parts.openTids.length < 128)
    (env : Option Pending) : ∃ u, destroyPart p env s = (u, Ans.waiting) ∧
      (part? u p = none ∨ ∃ y, part? u p = some y ∧ y.state = .destroying) ∧ ((∀ j ∈ u.scrub.jobs, j.former ≠ p) → part? u p = none) := by
  obtain ⟨i, ts, hi⟩ := tidIndex_parts x.tenant ht
  simp only [destroyPart, hx, hi]
  refine ⟨_, rfl, destroyDone_gone fun y hy => ?_⟩
  rw [part?_congr (congrArg (·.parts) (RepliesOnly.finish? _ _ _).parts), part?_modPart, if_pos rfl] at hy
  obtain ⟨z, -, hz⟩ := Option.map_eq_some_iff.1 hy
  rw [← hz]

/-! ### Start and stop (R206, R207) -/

/-- What a change of each core of a list brings about on every core it reaches, and keeps. -/
theorem foldl_core_inv {g : State → Nat → State} (ho : ∀ t k c, k ≠ c → core (g t k) c = core t c) {I Q : Core → Prop} (hq : ∀ x, Q x → I x)
    (hg : ∀ t c, I (core t c) → Q (core (g t c) c)) {c : Nat} (cs : List Nat) (s : State) (hi : I (core s c)) (hc : c ∈ cs ∨ Q (core s c)) :
    Q (core (cs.foldl g s) c) := by
  induction cs generalizing s with
  | nil => exact hc.resolve_left List.not_mem_nil
  | cons a cs ih =>
    by_cases h : a = c
    · have hnew : Q (core (g s a) c) := h ▸ hg s a (h ▸ hi)
      exact ih _ (hq _ hnew) (.inr hnew)
    · rw [List.foldl_cons]
      refine ih _ (ho s a c h ▸ hi) (hc.imp (fun hm => (List.mem_cons.1 hm).resolve_left (Ne.symm h)) fun hm => ?_)
      rwa [ho s a c h]

set_option Elab.async false in
theorem foldl_core_other {g : State → Nat → State} (ho : ∀ t k c, k ≠ c → core (g t k) c = core t c) {c : Nat} (cs : List Nat) (s : State)
    (hc : c ∉ cs) : core (cs.foldl g s) c = core s c :=
  List.foldlRecOn (motive := fun t => core t c = core s c) cs g rfl fun t h k hk => (ho t k c fun he => hc (he ▸ hk)).trans h

theorem keeps_releaseCore (c : Nat) (s : State) : Keeps [.cores] s (releaseCore c s) := by
  unfold releaseCore
  split
  · exact keeps_modCore ..
  · exact keeps_refl _ _

theorem releaseCore_other (t : State) (k c : Nat) (h : k ≠ c) : core (releaseCore k t) c = core t c := by
  rw [releaseCore, apply_ite (core · c), modCore_core_other _ _ h, ite_self]

theorem held_live {x : Partition} (hs : x.state = .held) : x.state ≠ .destroying := by rw [hs]; nofun

section
variable {e : Env} {s t : State} {x : Partition} (hx : part? t e.target.toNat = some x) (hs : x.state = .held)
include hx hs

set_option Elab.async false in
theorem served_partitionStart_unready (h : startable x t e.target.toNat = false) :
    Says.served (.partitionStart e) specPartitionStart e s t (t, Ans.state) := by
  have h' : (!startable x t e.target.toNat) = true := by rw [h]; rfl
  exact served_of rfl ((withPart_live hx (held_live hs) _).trans (if_pos h'))

theorem served_partitionStop_held : Says.served (.partitionStop e) specPartitionStop e s t (t, Ans.ok) := by
  have h : x.state ≠ .running := by rw [hs]; nofun
  exact served_of rfl ((withPart_live hx (held_live hs) _).trans (if_pos h))

theorem served_partitionStart (h : startable x t e.target.toNat = true) : let p := e.target.toNat
    ∃ u, Says.served (.partitionStart e) specPartitionStart e s t (u, Ans.ok) ∧ Keeps [.parts, .cores] t u ∧
      part? u p = some { x with state := .running } ∧ (∀ k, k ≠ p → part? u k = part? t k) ∧ ∀ c, c ∉ coresOf t p → core u c = core t c := by
  intro p
  let v := modPart p (fun y => { y with state := .running }) t
  have hready : ¬ (!startable x t p) = true := by rw [h]; nofun
  have hidle : ¬ x.state = .running := by rw [hs]; nofun
  obtain ⟨hk, ho, -⟩ := foldl_cores (fun t c => keeps_releaseCore c t) releaseCore_other (coresOf t p) v
  have hpart (k : Nat) := part?_keeps hk (by decide) k
  refine ⟨(coresOf t p).foldl (fun u c => releaseCore c u) v, served_of rfl ?_, ?_, ?_, fun k hk => ?_, ho⟩
  · rw [withPart_live hx (held_live hs)]
    exact (if_neg hready).trans (if_neg hidle)
  · exact keeps_trans (keeps_mono (keeps_parts ..) (by simp)) (keeps_mono hk (by simp))
  · exact (hpart p).trans (part?_modPart_self hx _)
  · rw [hpart, part?_modPart, if_neg hk]

end

/-- What a cancelled core keeps, placed at entry. -/
def AtRest (x y : Core) : Prop := y.pc = 0 ∧ y.x = x.x ∧ y.ls = x.ls

/-- The work of a partition whose cores hold none, cancelled. -/
def cancelled (p : Nat) (s : State) : State :=
  { (coresOf s p).foldl (fun t c => unwait c (clearCore c t)) s with q :=
    { ((coresOf s p).foldl (fun t c => unwait c (clearCore c t)) s).q with posting :=
      ((coresOf s p).foldl (fun t c => unwait c (clearCore c t)) s).q.posting.filter (fun x => x.entry.part != p) } }

/-- A partition's cores, stopped. -/
def stopCores (cs : List Nat) (s : State) : State :=
  cs.foldl (fun u k => modCore k (fun y => { y with st := match y.st with | .run | .wait | .gated => .stopped | o => o }) u) s

section
variable {p : Nat} {s : State}

theorem cancelPart_idle (hp : s.q.posting = []) (hc : ∀ c ∈ coresOf s p, (core s c).queue = [] ∧ (core s c).entry = none) :
    cancelPart p s = (cancelled p s, 0) := by
  have he : (coresOf s p).flatMap (coreEntries s) = [] := List.flatMap_eq_nil_iff.2 fun c hm => by
    obtain ⟨hq, hn⟩ := hc c hm
    simp [coreEntries, hq, hn]
  simp only [cancelPart, he, hp, List.filter_nil, List.map_nil, List.append_nil]
  rfl

set_option Elab.async false in
theorem cleared_parts (cs : List Nat) (s : State) : (cs.foldl (fun t c => unwait c (clearCore c t)) s).parts = s.parts :=
  List.foldlRecOn (motive := fun t : State => t.parts = s.parts) cs _ rfl fun _ h _ _ => h

theorem cleared_core_other (t : State) (k c : Nat) (h : k ≠ c) : core (unwait k (clearCore k t)) c = core t c := by
  show core (clearCore k t) c = _
  exact modCore_core_other _ _ h

theorem core_cancelled {c : Nat} (hc : c ∈ coresOf s p) : AtRest (core s c) (core (cancelled p s) c) :=
  foldl_core_inv cleared_core_other (I := fun y => y.x = (core s c).x ∧ y.ls = (core s c).ls) (Q := AtRest (core s c)) (fun _ h => h.2)
    (fun t k h => by
      show AtRest _ (core (clearCore k t) k)
      rw [clearCore, modCore_core]
      exact ⟨rfl, h⟩) _ s ⟨rfl, rfl⟩ (.inl hc)

theorem stopped_st (st : CoreSt) : let r := match st with | .run | .wait | .gated => .stopped | o => o
    r ≠ CoreSt.run ∧ r ≠ .wait ∧ r ≠ .gated := by
  cases st <;> exact ⟨nofun, nofun, nofun⟩

set_option Elab.async false in
theorem core_stopCores {x : Core} {c : Nat} {cs : List Nat} (hc : c ∈ cs) (hx : AtRest x (core s c)) :
    let y := core (stopCores cs s) c
    y.st ≠ .run ∧ y.st ≠ .wait ∧ y.st ≠ .gated ∧ y.pc = 0 ∧ y.x = x.x ∧ y.ls = x.ls :=
  foldl_core_inv (fun t k c h => modCore_core_other _ _ h) (I := AtRest x)
    (Q := fun y => y.st ≠ .run ∧ y.st ≠ .wait ∧ y.st ≠ .gated ∧ AtRest x y) (fun _ h => h.2.2.2)
    (fun t k h => by
      rw [modCore_core]
      obtain ⟨hr, hw, hg⟩ := stopped_st (core t k).st
      exact ⟨hr, hw, hg, h⟩) cs s hx (.inl hc)

end

theorem served_partitionStop {e : Env} {s t : State} {x : Partition} (hx : part? t e.target.toNat = some x) (hs : x.state = .running)
    (hw : x.switchTo = none) (hp : t.q.posting = [])
    (hc : ∀ c ∈ coresOf t e.target.toNat, (core t c).queue = [] ∧ (core t c).entry = none) : let p := e.target.toNat
    ∃ u, Says.served (.partitionStop e) specPartitionStop e s t (u, Ans.ok) ∧ part? u p = some { x with state := .held } ∧
      (∀ c ∈ coresOf t p, (core u c).st ≠ .run ∧ (core u c).st ≠ .wait ∧ (core u c).st ≠ .gated ∧ (core u c).pc = 0 ∧
        (core u c).x = (core t c).x ∧ (core u c).ls = (core t c).ls) ∧ ∀ c, c ∉ coresOf t p → core u c = core t c := by
  intro p
  let t0 := countAct x.tenant t
  let v := modPart p (fun y => { y with state := .held }) (stopCores (coresOf t p) (cancelled p t0))
  have hcut : cancelPart e.target.toNat (countAct x.tenant t) = (cancelled p t0, 0) := cancelPart_idle (s := t0) hp hc
  have hparts : (cancelled p t0).parts = t0.parts := cleared_parts ..
  have hcores : coresOf (cancelled p t0) e.target.toNat = coresOf t p := by
    rw [coresOf, hparts]
    rfl
  have hstop := (foldl_modCore (fun _ _ y => { y with st := match y.st with | .run | .wait | .gated => .stopped | o => o })
    (coresOf t p) (cancelled p t0)).1
  have hv : part? v p = some { x with state := .held } :=
    part?_modPart_self ((part?_keeps hstop (by decide) p).trans ((part?_congr (congrArg (·.parts) hparts) p).trans hx)) _
  have hswitch : applySwitch p 0 v = v := by simp only [applySwitch, hv, hw]
  refine ⟨v, served_of rfl ?_, hv, fun c hm => core_stopCores hm (core_cancelled (s := t0) hm), fun c hm => ?_⟩
  · rw [withPart_live hx (by rw [hs]; nofun)]
    refine (if_neg (not_not.2 hs)).trans ?_
    simp only [hcut, hcores]
    exact congrArg (·, Ans.ok) hswitch
  · exact (foldl_core_other (fun t k c h => modCore_core_other _ _ h) _ _ hm).trans
      (foldl_core_other cleared_core_other _ t0 hm)

/-! ### A change of the mode (R208, R209) -/

theorem modeSet_same {p : Nat} {m : Mode} {x : Partition} {t : State} (hx : part? t p = some x) (hm : x.mode = m) (env : Option Pending) :
    modeSet p m env t = (t, Ans.ok) := by
  simp only [modeSet, hx, if_pos hm]

/-- Only the reply that waits goes with the end of a mode change. -/
theorem part?_modeDone {p : Nat} {y : Partition} {s : State} (hy : part? s p = some y) :
    ∃ w, part? (modeDone p s) p = some { y with waitEnv := w } := by
  unfold modeDone
  simp only [hy]
  split
  · exact ⟨_, hy⟩
  · split
    · refine ⟨none, ?_⟩
      rw [part?_congr (congrArg (·.parts) (RepliesOnly.finish _ _ _).parts), part?_modPart_self hy]
    · exact ⟨_, hy⟩

set_option Elab.async false in
/-- A partition held, its resources revoked to be granted back and its key drawn anew, is still its tenant's. -/
theorem held_through_revokes {p : Nat} {x : Partition} {s : State} (hx : part? s p = some x) (n k : Nat) (b : BitVec 64) (l : List Nat)
    (rs : List (Nat × Nat)) (next : Nat → Nat → BitVec 128 → ScrubNext) :
    ∃ z, part? (drawKey k b (destroySlots l (revokeAll p rs next (modPart p (fun z => { z with
      ctxs := z.ctxs.map (fun e => (e.1, { e.2 with binds := [] })) }) (applySwitch p n (modPart p (fun y => { y with state := .held }) s)))).1)) p =
        some z ∧ (z.tenant, z.state) = (x.tenant, .held) :=
  (Lives.after (Lives.drawKey ..) (.after (Lives.destroySlots ..) (.after (Lives.revokeAll ..)
    (.after (Lives.modPart ..) (Lives.applySwitch ..))))).keeps.some (part?_modPart_self hx _)

/-- A held partition set to Open, with a full budget. -/
theorem part?_modeDone_open {p : Nat} {d : Digest} {s : State} (h : ∃ z, part? s p = some z ∧ (z.tenant, z.state) = (d, .held)) (r : StepRec)
    (w) : ∃ y, part? (modeDone p (recordStep r (modPart p (fun z =>
      { z with mode := .open, budget := 16, level := 0, waitEnv := w }) s))) p = some y ∧ y.mode ≠ .confidential ∧ y.state = .held ∧
      y.budget = 16 ∧ y.level = 0 ∧ y.tenant = d := by
  obtain ⟨z, hz, hf⟩ := h
  obtain ⟨w, hw⟩ := part?_modeDone ((part?_recordStep r _ p).trans (part?_modPart_self hz _))
  exact ⟨_, hw, nofun, congrArg Prod.snd hf, rfl, rfl, congrArg Prod.fst hf⟩

theorem modeSet_open {p : Nat} {x : Partition} {t : State} (hx : part? t p = some x) (hm : x.mode = .confidential) (env : Option Pending) :
    ∃ u, modeSet p .open env t = (u, Ans.waiting) ∧
      ∃ y, part? u p = some y ∧ y.mode ≠ .confidential ∧ y.state = .held ∧ y.budget = 16 ∧ y.level = 0 ∧ y.tenant = x.tenant := by
  have hne : ¬ x.mode = .open := by rw [hm]; nofun
  have hbefore : Lives t (cancelPart p (deskForget p none (countAct x.tenant t))).1 :=
    .after (Lives.cancelPart ..) (.after (Lives.deskForget ..) ⟨PartsKeep.of_eq rfl⟩)
  obtain ⟨a, ha, haf⟩ := hbefore.keeps.some hx
  simp only [modeSet, hx, if_neg hne, reduceCtorEq, false_and, if_false]
  refine ⟨_, rfl, part?_modeDone_open ?_ _ _⟩
  exact (held_through_revokes ha _ _ _ _ _ _).imp fun _ h => ⟨h.1, h.2.trans (congrArg (·, PState.held) (congrArg Prod.fst haf))⟩

theorem modeOfCode_eq (n : Nat) : modeOfCode n = if n = 1 then .confidential else .open := (rfl)

/-- Settles O31. -/
theorem partitionCommands : Obligations.PartitionCommands := by
  intro e s t p pay
  refine ⟨fun hf hn he hr ho ht hd => ?_, fun x hx hs hf => ?_, fun x ht => ?_, fun x hx hs h => served_partitionStart hx hs h,
    fun x hx hs h => served_partitionStart_unready hx hs h, fun x hx hs => served_partitionStop_held hx hs,
    fun x hx hs hw hp hc => served_partitionStop hx hs hw hp hc, fun x ht hf => ?_⟩
  · have hconf : modeOfCode (p8 e 0) = .confidential → t.parts.debugOpen = false := fun h => hd (by
      by_contra h1
      rw [modeOfCode_eq, if_neg h1] at h
      nomatch h)
    obtain ⟨u, hc, hx, hu⟩ := createPart_ok (dig e.payload 8) e.target.isLt hn hconf ht
    exact ⟨u, served_partitionCreate hf hn he hr ho hc, ⟨_, hx, rfl, rfl, rfl, rfl, rfl, rfl, rfl⟩, hu⟩
  · refine served_of rfl ((checked_pass hf).trans ?_)
    simp only [show part? t e.target.toNat = some x from hx, if_neg hs]
  · obtain ⟨hx, hlive, hr, ho, htids, hheld, hctx⟩ := ht
    obtain ⟨u, h, hu⟩ := destroyPart_ends hx (show t.parts.openTids.length < 128 by omega) (some (pend e 0x402))
    exact ⟨u, served_of rfl ((withPart_live hx hlive _).trans ((withSteps_room hr (by omega) _).trans h)), hu⟩
  · obtain ⟨hx, hlive, hr, ho, -, hheld, -⟩ := ht
    have served {r : State × Ans} (h : modeSet e.target.toNat (modeOfCode (p8 e 0)) (some (pend e 0x406)) t = r) :
        Says.served (.partitionModeSet e) specPartitionModeSet e s t r :=
      served_of rfl ((checked_pass hf).trans ((withPart_live hx hlive _).trans ((withSteps_room hr (by omega) _).trans h)))
    refine ⟨fun hm => served (modeSet_same hx hm _), fun hm h2 => ?_⟩
    have hopen : modeOfCode (p8 e 0) = .open := by rw [modeOfCode_eq, h2]; rfl
    obtain ⟨u, h, hu⟩ := modeSet_open hx hm (some (pend e 0x406))
    exact ⟨u, served (hopen ▸ h), hu⟩

end Sys2Proof.Machine
end

section
/-! SUPPORT, O32. Grants and revokes of resources (R203, R213, R214, R233, R239). -/

namespace Sys2Proof.Machine

/-! ### Resources with one holder (R213, R214) -/

/-- The types of a resource that one partition holds: cores, ways, tokens and pool slots. -/
def Held (rt : Nat) : Prop := rt = 1 ∨ rt = 3 ∨ rt = 4 ∨ rt = 5

set_option Elab.async false in
theorem resOf_setRes {rt : Nat} (h : Held rt) (k : Nat) (r : Res) (s : State) : resOf (setRes rt k r s) rt k = r := by
  rcases h with rfl | rfl | rfl | rfl <;> exact mgetD_mset_same ..

theorem resOf_congr {s u : State} {rt k : Nat} (h : resTable u rt = resTable s rt) : resOf u rt k = resOf s rt k := by rw [resOf, h, resOf]

theorem resTable_congr {s u : State} (h : u.parts = s.parts) (rt : Nat) : resTable u rt = resTable s rt := by rw [resTable, h, resTable]

@[simp] theorem resTable_recordStep (r : StepRec) (s : State) (rt : Nat) : resTable (recordStep r s) rt = resTable s rt := by
  rw [resTable, recordStep_parts, resTable]

set_option Elab.async false in
theorem setRes_openSteps (rt k : Nat) (r : Res) (s : State) : (setRes rt k r s).parts.openSteps = s.parts.openSteps := by
  unfold setRes
  dsimp only
  split_ifs <;> rfl

@[simp] theorem reloadWd_parts (p : Nat) (s : State) : (reloadWd p s).parts = s.parts := by
  obtain ⟨cs, h⟩ := reloadWd_shape p s
  rw [h]

@[simp] theorem reloadWd_vault (p : Nat) (s : State) : (reloadWd p s).vault = s.vault := by
  obtain ⟨cs, h⟩ := reloadWd_shape p s
  rw [h]

@[simp] theorem recordStep_vault (r : StepRec) (s : State) : (recordStep r s).vault = s.vault := by
  obtain ⟨tw, po, h⟩ := recordStep_shape r s
  rw [h]
  rfl

set_option Elab.async false in
@[simp] theorem recordStep_cores (r : StepRec) (s : State) : (recordStep r s).cores = s.cores := by
  obtain ⟨tw, po, h⟩ := recordStep_shape r s
  rw [h]
  rfl

@[simp] theorem recordStep_q (r : StepRec) (s : State) : (recordStep r s).q = s.q := by
  obtain ⟨tw, po, h⟩ := recordStep_shape r s
  rw [h]
  rfl

/-- New window descriptors leave what a core does. -/
theorem reloadWd_st (p c : Nat) (s : State) : (core (reloadWd p s) c).st = (core s c).st := by
  unfold reloadWd
  split
  · rfl
  · refine List.foldlRecOn (motive := fun t : State => (core t c).st = (core s c).st) _ _ rfl fun t h k _ => ?_
    by_cases hk : k = c
    · rw [hk, modCore_core]
      exact h
    · rw [modCore_core_other _ _ hk]
      exact h

/-! ### Grants -/

/-- A held core, way, token or pool slot, before what its type adds. -/
def heldBy (p rt k : Nat) (v : BitVec 128) (t : State) : State := setRes rt k { st := .held p, params := v, tag := none } t

/-- What a grant changes before its step is recorded. -/
def granted (p rt k : Nat) (v : BitVec 128) (t : State) : State :=
  match rt with
  | 1 => reloadWd p (setGrantGen 1 p k (genOf t 1 k) (modCore k (fun x => { x with st := .stopped, waiting := .none }) (heldBy p 1 k 0 t)))
  | 3 => setGrantGen 3 p k (genOf t 3 k) (heldBy p 3 k 0 t)
  | 4 => { heldBy p 4 k v t with q := { (heldBy p 4 k v t).q with tokens := mput (heldBy p 4 k v t).q.tokens k (tokenOf v) } }
  | _ => heldBy p 5 k v t

theorem grantEffect_eq {p rt k : Nat} (h : Held rt) (v : BitVec 128) (t : State) :
    ∃ c, grantEffect p rt k v t = recordStep (mkStep 1 rt p c k v 0) (granted p rt k v t) := by
  rcases h with rfl | rfl | rfl | rfl <;> exact ⟨_, rfl⟩

set_option Elab.async false in
theorem resTable_granted {p rt k : Nat} (h : Held rt) (v : BitVec 128) (t : State) : ∃ w, resTable (granted p rt k v t) rt =
    resTable (heldBy p rt k w t) rt ∧ (granted p rt k v t).parts.openSteps = t.parts.openSteps := by
  rcases h with rfl | rfl | rfl | rfl
  · refine ⟨0, resTable_congr ((reloadWd_parts ..).trans rfl) 1, ?_⟩
    simp only [granted, reloadWd_parts]
    exact setRes_openSteps ..
  · exact ⟨0, rfl, setRes_openSteps ..⟩
  · exact ⟨v, rfl, setRes_openSteps ..⟩
  · exact ⟨v, rfl, setRes_openSteps ..⟩

theorem grantEffect_held {p rt k : Nat} (h : Held rt) (v : BitVec 128) (t : State) : let u := grantEffect p rt k v t
    (resOf u rt k).st = .held p ∧ Says.stepped 1 rt p k t u ∧ (rt = 1 → (core u k).st = .stopped) ∧
    (rt = 4 → (mget u.q.tokens k).map (fun y => y.count) = some (v.truncate 32)) := by
  intro u
  obtain ⟨c, hu⟩ := grantEffect_eq (p := p) (k := k) h v t
  obtain ⟨w, ht, ho⟩ := resTable_granted (p := p) (k := k) h v t
  have hr : resOf u rt k = { st := .held p, params := w, tag := none } := by
    rw [show u = _ from hu, resOf_congr (resTable_recordStep ..), resOf_congr ht]
    exact resOf_setRes h ..
  refine ⟨by rw [hr], by rw [show u = _ from hu]; exact stepped_recordStep ho .., fun h1 => ?_, fun h4 => ?_⟩
  · subst h1
    rw [show u = _ from hu, core_congr (recordStep_cores ..), granted, reloadWd_st]
    show (core (modCore k (fun x => { x with st := .stopped, waiting := .none }) (heldBy p 1 k 0 t)) k).st = _
    rw [modCore_core]
  · subst h4
    rw [show u = _ from hu, recordStep_q]
    show (mget (mput _ k (tokenOf v)) k).map _ = _
    rw [mget_mput_same]
    rfl

/-- The grants' own refusals, for a resource that is free. -/
theorem grantRefused_free {x : Partition} {p rt k : Nat} {v : BitVec 128} {t : State} (h : Held rt) (hf : (resOf t rt k).st = .free)
    (hn : resFenced t rt k = false) (hc : rt = 5 → mhas x.ctxs (v.toNat % 256) = true) : grantRefused x p rt k v t = none := by
  have h6 : ¬ 6 ≤ rt := by rcases h with rfl | rfl | rfl | rfl <;> omega
  have h2 : ¬ rt = 2 := by rcases h with rfl | rfl | rfl | rfl <;> omega
  have h5 : ¬ (rt = 5 ∧ (!mhas x.ctxs (v.toNat % 256)) = true) := fun ⟨h, hm⟩ => by
    rw [hc h] at hm
    nomatch hm
  simp only [grantRefused, if_neg h6, if_neg h2, hf, hn, if_neg h5]
  rfl

theorem not_busy {rt k : Nat} {t : State} (hf : (resOf t rt k).st ≠ .scrubbing) :
    ¬ ((rt == 1 || rt == 3) && (resOf t rt k).st == .scrubbing) = true := by
  intro h
  exact hf (beq_iff_eq.1 (Bool.and_eq_true_iff.1 h).2)

section
variable {p rt k : Nat} {x : Partition} {v : BitVec 128} {t : State} (hx : part? t p = some x) (env : Option Pending)
include hx

set_option Elab.async false in
/-- A grant that nothing refuses and whose scrub is not under way. -/
theorem grant_effect (h2 : rt ≠ 2) (hr : grantRefused x p rt k v t = none) (hb : (resOf t rt k).st ≠ .scrubbing) (ht : (resOf t rt k).tag = none) :
    grant p rt k v env t = (grantEffect p rt k v t, Ans.ok) := by
  simp only [grant, hx, hr, if_neg h2, if_neg (not_busy hb), ht]

theorem grant_scrubs (h2 : rt ≠ 2) (hr : grantRefused x p rt k v t = none) (hb : (resOf t rt k).st ≠ .scrubbing) {d : Digest}
    (ht : (resOf t rt k).tag = some d) (hd : x.mode = .confidential ∨ d ≠ x.tenant) : grant p rt k v env t =
      (addJob (mkJob t rt k 255 3 (.grant p v) env 0) (setRes rt k { resOf t rt k with st := .scrubbing } t), Ans.waiting) := by
  have hd : ¬ (x.mode = .open ∧ d = x.tenant) := fun ⟨hm, h⟩ => hd.elim (fun hc => by rw [hc] at hm; nomatch hm) (fun hn => hn h)
  simp only [grant, hx, hr, if_neg h2, if_neg (not_busy hb), ht, if_neg hd]

theorem grant_refused {a : Ans} (hr : grantRefused x p rt k v t = some a) : grant p rt k v env t = (t, a) := by
  simp only [grant, hx, hr]

end

/-! ### Shares and windows granted (R203, R239) -/

theorem partShare_putShare (rt k : Nat) (h : Share) (x : Partition) : partShare (putShare rt k (some h) x) rt k = some h := by
  unfold partShare putShare
  split_ifs
  · rfl
  · exact mget_mput_same ..
  · exact mget_mput_same ..

set_option Elab.async false in
theorem resOf_share {rt : Nat} (h : 6 ≤ rt) (k : Nat) (t : State) : resOf t rt k = Res.free := by
  have h1 : ¬ rt = 1 := by omega
  have h3 : ¬ rt = 3 := by omega
  have h4 : ¬ rt = 4 := by omega
  have h5 : ¬ rt = 5 := by omega
  rw [resOf, resTable, if_neg h1, if_neg h3, if_neg h4, if_neg h5]
  rfl

section
variable {p rt k : Nat} {x : Partition} {v : BitVec 128} {t : State}

/-- The checks of a share that is free, on a path that is open. -/
theorem grantRefused_share (h : 6 ≤ rt) (hs : partShare x rt k = none) (hj : t.scrub.jobs = []) (hp : pathShut t rt k = false)
    (hm : x.mode = .confidential → fixedOn t rt k = true) :
    grantRefused x p rt k v t = if slotsFit t p rt k (shareOf v) then none else some Ans.exhausted := by
  have hheld : ¬ ((partShare x rt k).isSome = true ∨ (t.scrub.jobs.any fun j => rt == 8 && j.rtype == 8 && j.rid == k && j.former == p) = true) := by
    rw [hs, hj]
    rintro (h | h) <;> nomatch h
  have hshut : ¬ pathShut t rt k = true := by rw [hp]; nofun
  have hfixed : ¬ ((x.mode == .confidential) = true ∧ (!fixedOn t rt k) = true) := fun ⟨hc, hf⟩ => by
    rw [hm (beq_iff_eq.1 hc)] at hf
    nomatch hf
  simp only [grantRefused, if_pos h, if_neg hheld, if_neg hshut, if_neg hfixed]
  cases slotsFit t p rt k (shareOf v) <;> rfl

/-- The step of a granted share. -/
theorem grantEffect_share (h : 6 ≤ rt) (hx : part? t p = some x) : let u := grantEffect p rt k v t
    Says.stepped 1 rt p k t u ∧ part? u p = some (putShare rt k (some (shareOf v)) x) := by
  have h1 : ¬ rt = 1 := by omega
  have h2 : ¬ rt = 2 := by omega
  have h3 : ¬ rt = 3 := by omega
  have h4 : ¬ rt = 4 := by omega
  have h5 : ¬ rt = 5 := by omega
  simp only [grantEffect, if_neg h1, if_neg h2, if_neg h3, if_neg h4, if_neg h5, grantStep]
  exact ⟨stepped_recordStep rfl .., (part?_recordStep ..).trans (part?_modPart_self hx _)⟩

/-- The checks of a window over a range that nobody holds. -/
theorem grantRefused_window (hw : mget x.windows k = none) (hh : rangeHeld t (windowFrom v) = false)
    (hc : (windowFrom v).ctx = 255 ∨ mhas x.ctxs (windowFrom v).ctx = true) (hs : stackShut t (windowFrom v).stack = false)
    (hm : x.mode ≠ .confidential) : grantRefused x p 2 k v t = none := by
  have hno : ¬ mhas x.windows k = true := by rw [mhas, hw]; nofun
  have hfree : ¬ rangeHeld t (windowFrom v) = true := by rw [hh]; nofun
  have hctx : ¬ ((windowFrom v).ctx ≠ 255 ∧ (!mhas x.ctxs (windowFrom v).ctx) = true) := fun ⟨hn, hb⟩ =>
    hc.elim (fun h => hn h) fun h => by rw [h] at hb; nomatch hb
  have hopen : ¬ stackShut t (windowFrom v).stack = true := by rw [hs]; nofun
  have hconf : ¬ ((x.mode == .confidential) = true ∧ ((!fixedOn t 8 (windowFrom v).stack) = true ∨
      ((mget x.mem (windowFrom v).stack).map (·.slotsA)).getD 0 = 0)) := fun h => hm (beq_iff_eq.1 h.1)
  simp only [grantRefused, if_neg hno, if_neg hfree, if_neg hctx, if_neg hopen, if_neg hconf]
  rfl

/-- A window in its partition's table, its stack given the partition's key. -/
def windowHeld (p k : Nat) (v : BitVec 128) (t : State) : State :=
  copyMk (windowFrom v).stack p (modPart p (fun x => { x with windows := mput x.windows k (windowFrom v) }) t)

set_option Elab.async false in
theorem grantEffect_windowHeld (p k : Nat) (v : BitVec 128) (t : State) : ∃ c g, grantEffect p 2 k v t =
    recordStep (mkStep 1 2 p c k v 0) (reloadWd p (setGrantGen 2 p k g (windowHeld p k v t))) := ⟨_, _, rfl⟩

theorem grantEffect_window (hx : part? t p = some x) : let u := grantEffect p 2 k v t
    Says.stepped 1 2 p k t u ∧ part? u p = some { x with windows := mput x.windows k (windowFrom v) } ∧
      mget u.vault.mce (128 * (windowFrom v).stack + p) = some (slot t (0x80 + p)).active := by
  intro u
  obtain ⟨c, g, hu⟩ := grantEffect_windowHeld p k v t
  have hparts : (reloadWd p (setGrantGen 2 p k g (windowHeld p k v t))).parts = (windowHeld p k v t).parts := reloadWd_parts ..
  have hvault : u.vault = (windowHeld p k v t).vault := by rw [show u = _ from hu, recordStep_vault, reloadWd_vault]; rfl
  have hpart : part? (windowHeld p k v t) p = some { x with windows := mput x.windows k (windowFrom v) } := part?_modPart_self hx _
  refine ⟨?_, ?_, ?_⟩
  · rw [show u = _ from hu]
    exact stepped_recordStep ((congrArg Parts.openSteps hparts).trans rfl) ..
  · rw [show u = _ from hu, part?_recordStep, part?_congr (congrArg (·.parts) hparts), hpart]
  · rw [hvault]
    exact mget_mput_same ..

/-- A window's grant with no scrub under way: at once over cleared memory, after its clear over fresh memory. -/
theorem grant_window (hx : part? t p = some x) (hr : grantRefused x p 2 k v t = none) (hj : t.scrub.jobs = [])
    (hm : mget x.mem (windowFrom v).stack ≠ none) (env : Option Pending) : grant p 2 k v env t =
      if rangeFresh t (windowFrom v) then (addJob { mkJob t 2 k 255 1 (.firstGrant p k v) env 0 with
        stack := (windowFrom v).stack, base := (windowFrom v).base, size := (windowFrom v).size } t, Ans.waiting)
      else (grantEffect p 2 k v t, Ans.ok) := by
  have hbusy : ¬ (rangeScrub t (windowFrom v) || t.scrub.jobs.any (fun j => j.rtype == 2 && j.rid == k && j.next == .firstGrant p k v)) = true := by
    rw [rangeScrub, hj]
    nofun
  have hmem : ¬ (x.mode = .open ∧ (mget x.mem (windowFrom v).stack).isNone = true) := fun h => hm (Option.isNone_iff_eq_none.1 h.2)
  simp only [grant, hx, hr, if_true, if_neg hbusy, if_neg hmem]

end

section
variable {e : Env} {s t : State} {x : Partition} (ht : Says.target e t x) (hf : payFault (grantChecks t e) = none)
include ht hf

theorem served_grant {r : State × Ans}
    (h : grant e.target.toNat (p8 e 0) (p32 e 4) (BitVec.ofNat 128 (fld e.payload 8 16)) (some (pend e 0x404)) t = r) :
    Says.served (.partitionGrant e) specPartitionGrant e s t r :=
  served_of rfl ((checked_pass hf).trans ((target_steps ht (by decide) _).trans h))

set_option Elab.async false in
theorem served_grant_held : let p := e.target.toNat; let rt := p8 e 0; let k := p32 e 4; let v := BitVec.ofNat 128 (fld e.payload 8 16)
    Held rt → (resOf t rt k).st = .free → (resOf t rt k).tag = none → resFenced t rt k = false →
    (rt = 5 → mhas x.ctxs (v.toNat % 256) = true) → ∃ u, Says.served (.partitionGrant e) specPartitionGrant e s t (u, Ans.ok) ∧
      (resOf u rt k).st = .held p ∧ Says.stepped 1 rt p k t u ∧ (rt = 1 → (core u k).st = .stopped) ∧
      (rt = 4 → (mget u.q.tokens k).map (fun y => y.count) = some (v.truncate 32)) := by
  intro p rt k v h hs htag hn hc
  have h2 : rt ≠ 2 := by rcases h with h | h | h | h <;> omega
  exact ⟨_, served_grant ht hf (grant_effect ht.1 _ h2 (grantRefused_free h hs hn hc) (by rw [hs]; nofun) htag), grantEffect_held h v t⟩

end

/-! ### Revokes (R214, R233) -/

theorem queue_countRecord (p c st k : Nat) (s : State) : (core (countRecord p c st s) k).queue = (core s k).queue := by
  rw [countRecord, apply_ite (core · k), apply_ite Core.queue]
  refine (ite_congr rfl (fun _ => rfl) fun _ => ?_).trans (ite_self _)
  by_cases hk : c = k
  · rw [hk, modCore_core]
  · rw [modCore_core_other _ _ hk]

theorem queue_dropEntries (es : List (Nat × WorkEntry)) (n k : Nat) (s : State) : (core (dropEntries es n s) k).queue = (core s k).queue :=
  List.foldlRecOn (motive := fun t : State => (core t k).queue = (core s k).queue) es _ rfl fun t h e _ => by
    rw [queue_countRecord, (WorkOnly.writeRecord (P := fun _ => False) _ _ t).core_eq not_false]
    exact h

theorem queue_cancelCores (k : Nat) (s : State) : (core (cancelCores [k] s).1 k).queue = [] := by
  refine (queue_dropEntries ..).trans ?_
  show (core (clearCore k s) k).queue = []
  rw [clearCore, modCore_core]

/-- A core taken from its partition, before the table says so: its work dropped and its programs unbound, with the entries
dropped. -/
def coreTaken (p k : Nat) (s : State) : State × Nat :=
  let r := cancelCores [k] s
  let posts := r.1.q.posting.filter (fun y => y.core == k)
  let n := r.2 + posts.length
  let s1 := dropEntries (posts.map (fun y => (y.core, y.entry))) n
    { r.1 with q := { r.1.q with posting := r.1.q.posting.filter (fun y => y.core != k) } }
  let s2 := modPart p (fun y => { y with ctxs := y.ctxs.map (fun c => (c.1, unbindCores (BitVec.ofNat 128 (2 ^ k)) c.2)) }) s1
  let s3 : State := { s2 with therm := { s2.therm with groups := s2.therm.groups.filter (fun g => !g.2.members.contains k) },
                              power := { s2.power with reload := s2.power.reload.filter (fun c => c.toNat != k) } }
  (modCore k (fun c => { c with st := .unassigned, wd := [], xfers := [], program := none, progLen := 0, verified := false,
                                dbg := .reset, faultRun := 0 }) s3, n)

set_option Elab.async false in
theorem core_coreTaken (p k : Nat) (s : State) :
    (core (coreTaken p k s).1 k).st = .unassigned ∧ (core (coreTaken p k s).1 k).queue = [] := by
  have h (es : List (Nat × WorkEntry)) (n : Nat) (q : Queues) :
      (core (dropEntries es n { (cancelCores [k] s).1 with q := q }) k).queue = [] :=
    (queue_dropEntries es n k { (cancelCores [k] s).1 with q := q }).trans (queue_cancelCores k s)
  unfold coreTaken
  dsimp only
  rw [modCore_core]
  exact ⟨rfl, h _ _ _⟩

section
variable {p rt k : Nat} {x : Partition} {t : State}

theorem heldParams_held (h : Held rt) (hs : (resOf t rt k).st = .held p) : heldParams x t rt k p = some (resOf t rt k).params := by
  have h6 : ¬ 6 ≤ rt := by rcases h with rfl | rfl | rfl | rfl <;> omega
  have h2 : ¬ rt = 2 := by rcases h with rfl | rfl | rfl | rfl <;> omega
  rw [heldParams, if_neg h2, if_neg h6, if_pos hs]

theorem heldParams_other (h : Held rt) (hs : (resOf t rt k).st ≠ .held p) : heldParams x t rt k p = none := by
  have h6 : ¬ 6 ≤ rt := by rcases h with rfl | rfl | rfl | rfl <;> omega
  have h2 : ¬ rt = 2 := by rcases h with rfl | rfl | rfl | rfl <;> omega
  rw [heldParams, if_neg h2, if_neg h6, if_neg hs]

theorem revokeRefused_held (h : Held rt) : revokeRefused x rt k = none := by
  have h8 : ¬ (rt = 8 ∧ x.windows.any (fun w => w.2.stack == k) = true) := by rcases h with rfl | rfl | rfl | rfl <;> omega
  have h6 : ¬ (rt = 6 ∧ x.mode = .confidential ∧ x.state = .running) := by rcases h with rfl | rfl | rfl | rfl <;> omega
  have h2 : ¬ rt = 2 := by rcases h with rfl | rfl | rfl | rfl <;> omega
  rw [revokeRefused, if_neg h8, if_neg h6, if_neg h2]

set_option Elab.async false in
theorem revoke_of (hx : part? t p = some x) {b : BitVec 128} (hp : heldParams x t rt k p = some b) (hr : revokeRefused x rt k = none)
    {env : Option Pending} {r : State × Nat × Bool} (he : revokeEffect x p rt k .free env t = r) : revoke p rt k env t =
      (if rt = 1 ∨ rt = 2 then countAct x.tenant r.1 else r.1,
        if r.2.2 then Ans.waiting else if r.2.1 = 0 then Ans.ok else Ans.dropped r.2.1) := by
  have hsome : ¬ (heldParams x t rt k p).isNone = true := by rw [hp]; nofun
  simp only [revoke, hx, if_neg hsome, hr, he]

/-- A revoked core: scrubbed in Confidential mode, free with its tenant's tag in Open mode. -/
theorem revokeEffect_core (env : Option Pending) : ∃ a, revokeEffect x p 1 k .free env t =
    let c := coreTaken p k a
    if x.mode = .confidential
      then (addJob (mkJob c.1 1 k p 1 .free env c.2) (setRes 1 k { st := .scrubbing, params := 0, tag := none } c.1), c.2, true)
      else (setRes 1 k { st := .free, params := 0, tag := some x.tenant } c.1, c.2, false) := by
  refine ⟨recordStep (mkStep 2 1 p 0xFF k 0 ((heldParams x t 1 k p).getD 0)) t, ?_⟩
  simp only [revokeEffect, ↓reduceIte, OfNat.one_ne_ofNat, ne_eq, not_true_eq_false, or_false, beq_iff_eq, coreTaken]

end

section
variable {p rt k : Nat} {x : Partition} {t : State}

theorem slot_destroySlot_gone (n : Nat) (s : State) : (slot (destroySlot n s) n).activeValid = false := by
  by_cases h : slot s n = Slot.empty
  · rw [destroySlot, if_pos h, h]
    decide
  · rw [destroySlot, if_neg h, (((SlotBecomes.setSlot n _ s).dropCopies n).mirrorSlot n).1]
    simp [Slot.activeValid, versionOnly]

/-- A revoked token: its waiters released, its count gone and its channels closed. -/
theorem revokeEffect_token (env : Option Pending) : ∃ u, mget u.q.tokens k = none ∧
    revokeEffect x p 4 k .free env t = (setRes 4 k Res.free u, 0, false) := by
  let v := dropWaiters k (recordStep (mkStep 2 4 p 0xFF k 0 ((heldParams x t 4 k p).getD 0)) t)
  refine ⟨{ v with q := { v.q with tokens := mdel v.q.tokens k }, car := { v.car with channels := v.car.channels.filter (fun c =>
    !((mgetD v.q.tokens k (tokenOf 0)).proxy && c.1 == (mgetD v.q.tokens k (tokenOf 0)).channel.toNat)) } }, mget_mdel_same .., ?_⟩
  rfl

set_option Elab.async false in
/-- A revoked pool slot: its key destroyed. -/
theorem revokeEffect_pool (env : Option Pending) : ∃ u, revokeEffect x p 5 k .free env t = (setRes 5 k Res.free (destroySlot k u), 0, false) :=
  ⟨recordStep (mkStep 2 5 p (((heldParams x t 5 k p).getD 0).toNat % 256) k 0 ((heldParams x t 5 k p).getD 0)) t, rfl⟩

/-- A revoked window: gone, its range scrubbed. -/
theorem revokeEffect_window {y : Window} (hy : mget x.windows k = some y) (env : Option Pending) : ∃ u j,
    Lives t u ∧ (j.rtype = 2 ∧ j.stack = y.stack ∧ j.base = y.base ∧ j.size = y.size) ∧ revokeEffect x p 2 k .free env t =
      (addJob j (reloadWd p (modPart p (fun z => { z with windows := mdel z.windows k }) u)), 0, true) := by
  have h21 : ¬ (2 = 1) := by omega
  simp only [revokeEffect, if_neg h21, if_true, hy]
  refine ⟨_, _, ?_, ?_, rfl⟩
  · exact Lives.after (Lives.windowGone ..) (Lives.recordStep ..)
  · exact ⟨rfl, rfl, rfl, rfl⟩

end

theorem revokeRefused_window {x : Partition} {k : Nat} {y : Window} (hy : mget x.windows k = some y) (hu : ∀ i, y.use ≠ .sharedParcel i) :
    revokeRefused x 2 k = none := by
  simp only [revokeRefused, hy]
  cases h : y.use with
  | sharedParcel i => exact absurd h (hu i)
  | _ => rfl

@[simp] theorem resOf_countAct (d : Digest) (s : State) (rt k : Nat) : resOf (countAct d s) rt k = resOf s rt k := (rfl)

set_option Elab.async false in
@[simp] theorem resOf_addJob (j : ScrubJob) (s : State) (rt k : Nat) : resOf (addJob j s) rt k = resOf s rt k := (rfl)

theorem setRes_q (rt k : Nat) (r : Res) (s : State) : (setRes rt k r s).q = s.q := (rfl)

theorem slot_setRes (rt k : Nat) (r : Res) (s : State) (n : Nat) : slot (setRes rt k r s) n = slot s n := (rfl)

theorem core_countAct_setRes (d : Digest) (rt k : Nat) (r : Res) (s : State) (c : Nat) : core (countAct d (setRes rt k r s)) c = core s c := (rfl)

set_option Elab.async false in
theorem core_countAct_addJob (d : Digest) (j : ScrubJob) (rt k : Nat) (r : Res) (s : State) (c : Nat) :
    core (countAct d (addJob j (setRes rt k r s))) c = core s c := (rfl)

theorem ended_status (n : Nat) : let r := if n = 0 then Ans.ok else Ans.dropped n
    (r.status = 0 ∨ r.status = 8) ∧ r.wait = false := by
  intro r
  by_cases h : n = 0
  · rw [show r = Ans.ok from if_pos h]
    exact ⟨.inl rfl, rfl⟩
  · rw [show r = Ans.dropped n from if_neg h]
    exact ⟨.inr rfl, rfl⟩

section
variable {e : Env} {s t : State} {x : Partition} (ht : Says.target e t x)
  (hf : payFault ((grantChecks t { e with payload := padTo 24 e.payload }).take 5) = none)
include ht hf

theorem served_revoke {r : State × Ans} (h : revoke e.target.toNat (p8 e 0) (p32 e 4) (some (pend e 0x405)) t = r) :
    Says.served (.partitionRevoke e) specPartitionRevoke e s t r :=
  served_of rfl ((checked_pass hf).trans ((target_steps ht (by decide) _).trans h))

theorem served_revoke_unheld (h : Held (p8 e 0)) (hs : (resOf t (p8 e 0) (p32 e 4)).st ≠ .held e.target.toNat) :
    Says.served (.partitionRevoke e) specPartitionRevoke e s t (t, Ans.notFound) := by
  refine served_revoke ht hf ?_
  have hn : (heldParams x t (p8 e 0) (p32 e 4) e.target.toNat).isNone = true := by rw [heldParams_other h hs]; rfl
  simp only [revoke, ht.1, if_pos hn]

set_option Elab.async false in
theorem served_revoke_core (h1 : p8 e 0 = 1) (hs : (resOf t 1 (p32 e 4)).st = .held e.target.toNat) :
    (x.mode ≠ .confidential → ∃ u r, Says.served (.partitionRevoke e) specPartitionRevoke e s t (u, r) ∧ (r.status = 0 ∨ r.status = 8) ∧
      r.wait = false ∧ (resOf u 1 (p32 e 4)).st = .free ∧ (resOf u 1 (p32 e 4)).tag = some x.tenant ∧
      (core u (p32 e 4)).st = .unassigned ∧ (core u (p32 e 4)).queue = []) ∧
    (x.mode = .confidential → ∃ u, Says.served (.partitionRevoke e) specPartitionRevoke e s t (u, Ans.waiting) ∧
      (resOf u 1 (p32 e 4)).st = .scrubbing ∧ (core u (p32 e 4)).st = .unassigned) := by
  obtain ⟨a, ha⟩ := revokeEffect_core (p := e.target.toNat) (k := p32 e 4) (x := x) (t := t) (some (pend e 0x405))
  obtain ⟨hst, hq⟩ := core_coreTaken e.target.toNat (p32 e 4) a
  have h {r : State × Nat × Bool} (hr : revokeEffect x e.target.toNat 1 (p32 e 4) .free (some (pend e 0x405)) t = r) :
      Says.served (.partitionRevoke e) specPartitionRevoke e s t (countAct x.tenant r.1,
        if r.2.2 then Ans.waiting else if r.2.1 = 0 then Ans.ok else Ans.dropped r.2.1) :=
    served_revoke ht hf (h1 ▸ revoke_of ht.1 (heldParams_held (x := x) (.inl rfl) hs) (revokeRefused_held (.inl rfl)) hr)
  refine ⟨fun hm => ?_, fun hm => ?_⟩
  · refine ⟨_, _, h (ha.trans (if_neg hm)), ?_⟩
    rw [resOf_countAct, resOf_setRes (.inl rfl), core_countAct_setRes]
    obtain ⟨hstatus, hwait⟩ := ended_status (coreTaken e.target.toNat (p32 e 4) a).2
    exact ⟨hstatus, hwait, rfl, rfl, hst, hq⟩
  · refine ⟨_, h (ha.trans (if_pos hm)), ?_⟩
    rw [resOf_countAct, resOf_addJob, resOf_setRes (.inl rfl), core_countAct_addJob]
    exact ⟨rfl, hst⟩

theorem served_revoke_free (h : p8 e 0 = 4 ∨ p8 e 0 = 5) (hs : (resOf t (p8 e 0) (p32 e 4)).st = .held e.target.toNat) : ∃ u,
    Says.served (.partitionRevoke e) specPartitionRevoke e s t (u, Ans.ok) ∧ (resOf u (p8 e 0) (p32 e 4)).st = .free ∧
      (p8 e 0 = 5 → (slot u (p32 e 4)).activeValid = false) ∧ (p8 e 0 = 4 → mget u.q.tokens (p32 e 4) = none) := by
  have hheld : Held (p8 e 0) := by rcases h with h | h <;> simp [Held, h]
  have hno : ¬ (p8 e 0 = 1 ∨ p8 e 0 = 2) := by omega
  have hfree {u : State} (hr : revokeEffect x e.target.toNat (p8 e 0) (p32 e 4) .free (some (pend e 0x405)) t =
      (setRes (p8 e 0) (p32 e 4) Res.free u, 0, false)) : Says.served (.partitionRevoke e) specPartitionRevoke e s t
        (setRes (p8 e 0) (p32 e 4) Res.free u, Ans.ok) ∧ (resOf (setRes (p8 e 0) (p32 e 4) Res.free u) (p8 e 0) (p32 e 4)).st = .free := by
    refine ⟨served_revoke ht hf ((revoke_of ht.1 (heldParams_held (x := x) hheld hs) (revokeRefused_held hheld) hr).trans ?_), ?_⟩
    · rw [if_neg hno]
      rfl
    · rw [resOf_setRes hheld]
      rfl
  rcases h with h | h
  · obtain ⟨u, hu, hr⟩ := revokeEffect_token (p := e.target.toNat) (k := p32 e 4) (x := x) (t := t) (some (pend e 0x405))
    obtain ⟨hs, hr⟩ := hfree (by rw [h]; exact hr)
    refine ⟨_, hs, hr, fun h5 => absurd (h.symm.trans h5) (by decide), fun _ => ?_⟩
    rw [setRes_q]
    exact hu
  · obtain ⟨u, hr⟩ := revokeEffect_pool (p := e.target.toNat) (k := p32 e 4) (x := x) (t := t) (some (pend e 0x405))
    obtain ⟨hs, hr⟩ := hfree (by rw [h]; exact hr)
    refine ⟨_, hs, hr, fun _ => ?_, fun h4 => absurd (h.symm.trans h4) (by decide)⟩
    rw [slot_setRes]
    exact slot_destroySlot_gone ..

theorem served_revoke_window (h2 : p8 e 0 = 2) {y : Window} (hy : mget x.windows (p32 e 4) = some y) (hu : ∀ i, y.use ≠ .sharedParcel i) :
    ∃ u, Says.served (.partitionRevoke e) specPartitionRevoke e s t (u, Ans.waiting) ∧
      (∃ z, part? u e.target.toNat = some z ∧ mget z.windows (p32 e 4) = none) ∧ ∃ j ∈ u.scrub.jobs, j.rtype = 2 ∧ j.stack = y.stack ∧
        j.base = y.base ∧ j.size = y.size := by
  have hp : heldParams x t 2 (p32 e 4) e.target.toNat = some (windowParams y) := by rw [heldParams, if_pos rfl, hy]; rfl
  obtain ⟨u, j, hl, hj, hr⟩ := revokeEffect_window (p := e.target.toNat) (t := t) hy (some (pend e 0x405))
  obtain ⟨z, hz, -⟩ := hl.keeps.some ht.1
  let v := modPart e.target.toNat (fun z => { z with windows := mdel z.windows (p32 e 4) }) u
  have hv : part? (reloadWd e.target.toNat v) e.target.toNat = some { z with windows := mdel z.windows (p32 e 4) } :=
    (part?_congr (congrArg (·.parts) (reloadWd_parts ..)) _).trans (part?_modPart_self hz _)
  refine ⟨countAct x.tenant (addJob j (reloadWd e.target.toNat v)), served_revoke ht hf (h2 ▸ revoke_of ht.1 hp (revokeRefused_window hy hu) hr),
    ⟨_, hv, mget_mdel_same ..⟩, j, ?_, hj⟩
  exact List.mem_append_right _ (List.mem_singleton_self j)

end

section
variable {e : Env} {s t : State} {x : Partition} (ht : Says.target e t x) (hf : payFault (grantChecks t e) = none)
include ht hf

theorem served_grant_conflict (h : Held (p8 e 0)) (hs : ∃ q, (resOf t (p8 e 0) (p32 e 4)).st = .held q) :
    Says.served (.partitionGrant e) specPartitionGrant e s t (t, Ans.conflict) := by
  obtain ⟨q, hq⟩ := hs
  have h6 : ¬ 6 ≤ p8 e 0 := by rcases h with h | h | h | h <;> omega
  have h2 : ¬ p8 e 0 = 2 := by rcases h with h | h | h | h <;> omega
  exact served_grant ht hf (grant_refused ht.1 _ (by simp only [grantRefused, if_neg h6, if_neg h2, hq]))

set_option Elab.async false in
theorem served_grant_scrub (h : p8 e 0 = 1 ∨ p8 e 0 = 3) {d : Digest} (hs : (resOf t (p8 e 0) (p32 e 4)).st = .free)
    (hd : (resOf t (p8 e 0) (p32 e 4)).tag = some d) (hn : resFenced t (p8 e 0) (p32 e 4) = false) (hm : x.mode = .confidential ∨ d ≠ x.tenant) :
    ∃ u, Says.served (.partitionGrant e) specPartitionGrant e s t (u, Ans.waiting) ∧ (resOf u (p8 e 0) (p32 e 4)).st = .scrubbing ∧
      ∃ j, u.scrub.jobs = t.scrub.jobs ++ [j] ∧ j.rtype = p8 e 0 ∧ j.rid = p32 e 4 ∧
        j.next = .grant e.target.toNat (BitVec.ofNat 128 (fld e.payload 8 16)) := by
  have hheld : Held (p8 e 0) := h.imp_right .inl
  have hr := grantRefused_free (x := x) (p := e.target.toNat) (v := BitVec.ofNat 128 (fld e.payload 8 16)) hheld hs hn (fun h5 => by omega)
  refine ⟨_, served_grant ht hf (grant_scrubs ht.1 _ (by omega) hr (by rw [hs]; nofun) hd hm), ?_, _, rfl, rfl, rfl, rfl⟩
  rw [resOf_addJob, resOf_setRes hheld]

section
variable (h : 6 ≤ p8 e 0) (hp : partShare x (p8 e 0) (p32 e 4) = none) (hj : t.scrub.jobs = []) (ho : pathShut t (p8 e 0) (p32 e 4) = false)
  (hm : x.mode = .confidential → fixedOn t (p8 e 0) (p32 e 4) = true)
include h hp hj ho hm

theorem served_grant_share (hs : slotsFit t e.target.toNat (p8 e 0) (p32 e 4) (shareOf (BitVec.ofNat 128 (fld e.payload 8 16))) = true) :
    ∃ u y, Says.served (.partitionGrant e) specPartitionGrant e s t (u, Ans.ok) ∧ part? u e.target.toNat = some y ∧
      partShare y (p8 e 0) (p32 e 4) = some (shareOf (BitVec.ofNat 128 (fld e.payload 8 16))) ∧
      Says.stepped 1 (p8 e 0) e.target.toNat (p32 e 4) t u := by
  have hr := (grantRefused_share (p := e.target.toNat) (v := BitVec.ofNat 128 (fld e.payload 8 16)) h hp hj ho hm).trans (if_pos hs)
  have hres := resOf_share h (p32 e 4) t
  obtain ⟨hst, hpart⟩ := grantEffect_share (k := p32 e 4) (v := BitVec.ofNat 128 (fld e.payload 8 16)) h ht.1
  exact ⟨_, _, served_grant ht hf (grant_effect ht.1 _ (by omega) hr (by rw [hres]; nofun) (by rw [hres]; rfl)), hpart,
    partShare_putShare .., hst⟩

theorem served_grant_exhausted (hs : slotsFit t e.target.toNat (p8 e 0) (p32 e 4) (shareOf (BitVec.ofNat 128 (fld e.payload 8 16))) = false) :
    Says.served (.partitionGrant e) specPartitionGrant e s t (t, Ans.exhausted) :=
  served_grant ht hf (grant_refused ht.1 _ ((grantRefused_share h hp hj ho hm).trans (if_neg (by rw [hs]; nofun))))

end

section
variable (h2 : p8 e 0 = 2)
include h2

theorem served_grant_window_conflict (h : mget x.windows (p32 e 4) ≠ none) :
    Says.served (.partitionGrant e) specPartitionGrant e s t (t, Ans.conflict) := by
  have hw : mhas x.windows (p32 e 4) = true := Option.isSome_iff_ne_none.2 h
  refine served_grant ht hf (grant_refused ht.1 _ ?_)
  rw [h2]
  simp only [grantRefused, if_pos hw]
  rfl

variable (hw : mget x.windows (p32 e 4) = none) (hh : rangeHeld t (windowFrom (BitVec.ofNat 128 (fld e.payload 8 16))) = false)
  (hc : (windowFrom (BitVec.ofNat 128 (fld e.payload 8 16))).ctx = 255 ∨
    mhas x.ctxs (windowFrom (BitVec.ofNat 128 (fld e.payload 8 16))).ctx = true)
  (hs : stackShut t (windowFrom (BitVec.ofNat 128 (fld e.payload 8 16))).stack = false) (hj : t.scrub.jobs = [])
  (hm : x.mode ≠ .confidential) (hmem : mget x.mem (windowFrom (BitVec.ofNat 128 (fld e.payload 8 16))).stack ≠ none)
include hw hh hc hs hj hm hmem

set_option Elab.async false in
theorem served_grant_window {r : State × Ans} (h : (if rangeFresh t (windowFrom (BitVec.ofNat 128 (fld e.payload 8 16))) then
      (addJob { mkJob t 2 (p32 e 4) 255 1 (.firstGrant e.target.toNat (p32 e 4) (BitVec.ofNat 128 (fld e.payload 8 16))) (some (pend e 0x404)) 0 with
        stack := (windowFrom (BitVec.ofNat 128 (fld e.payload 8 16))).stack, base := (windowFrom (BitVec.ofNat 128 (fld e.payload 8 16))).base,
        size := (windowFrom (BitVec.ofNat 128 (fld e.payload 8 16))).size } t, Ans.waiting)
      else (grantEffect e.target.toNat 2 (p32 e 4) (BitVec.ofNat 128 (fld e.payload 8 16)) t, Ans.ok)) = r) :
    Says.served (.partitionGrant e) specPartitionGrant e s t r := by
  refine served_grant ht hf ?_
  rw [h2, grant_window ht.1 (grantRefused_window hw hh hc hs hm) hj hmem, h]

end
end

/-- Settles O32. -/
theorem grantsAndRevokes : Obligations.GrantsAndRevokes := by
  intro e s t x ht p rt k v w
  refine ⟨fun hf => ⟨fun h hs htag hn hc => served_grant_held ht hf h hs htag hn hc, fun h hs => served_grant_conflict ht hf h hs,
    fun h d hs hd hn hm => served_grant_scrub ht hf h hs hd hn hm, fun h hp hj ho hs hm => served_grant_share ht hf h hp hj ho hm hs,
    fun h hp hj ho hs hm => served_grant_exhausted ht hf h hp hj ho hm hs, fun h2 hw hh hc hs hj hm hmem => ⟨fun hfr => ?_, fun hfr => ?_⟩,
    fun h2 h => served_grant_window_conflict ht hf h2 h⟩, fun hf => ⟨fun h1 hs hm => (served_revoke_core ht hf h1 hs).1 hm,
    fun h1 hs hm => (served_revoke_core ht hf h1 hs).2 hm, fun h hs => served_revoke_free ht hf h hs,
    fun h2 y hy hu => served_revoke_window ht hf h2 hy hu, fun h hs => served_revoke_unheld ht hf h hs⟩⟩
  · obtain ⟨hst, hpart, hmce⟩ := grantEffect_window (k := k) (v := v) ht.1
    exact ⟨_, _, served_grant_window ht hf h2 hw hh hc hs hj hm hmem (if_neg (by rw [hfr]; nofun)), hpart, mget_mput_same ..,
      fun i hi => mget_mput_other _ _ (Ne.symm hi), hmce, hst⟩
  · exact ⟨_, served_grant_window ht hf h2 hw hh hc hs hj hm hmem (if_pos hfr), ht.1, _, by rw [addJob, hj]; rfl, rfl, rfl, rfl, rfl, rfl⟩

end Sys2Proof.Machine
end
